-- ==== Sys2Proof/Word.lean ====
section
/-! DEFINITION. The words of the device: bytes, two's-complement readings of raw object values, and bit fields. -/

namespace Sys2Proof

/-- One byte of an addressed memory of the device. -/
abbrev Byte := BitVec 8

/-- The two's-complement reading of the low `w` bits of `n` (`w` at least 1). -/
def toSigned (w n : Nat) : Int :=
  let m := n % 2 ^ w
  if m < 2 ^ (w - 1) then (m : Int) else (m : Int) - (2 ^ w : Nat)

/-- The `w`-bit two's-complement word of an integer, as a natural number. -/
def ofSigned (w : Nat) (z : Int) : Nat := (z % ((2 ^ w : Nat) : Int)).toNat

/-- Bits `[lo + w - 1 : lo]` of `n`. -/
def bitsAt (n lo w : Nat) : Nat := n / 2 ^ lo % 2 ^ w

/-- Bit `i` of `n`. -/
def bitAt (n i : Nat) : Bool := n / 2 ^ i % 2 == 1

/-- `n` with bits `[lo + w - 1 : lo]` replaced by the low `w` bits of `v`. -/
def putBits (n lo w v : Nat) : Nat :=
  n / 2 ^ (lo + w) * 2 ^ (lo + w) + v % 2 ^ w * 2 ^ lo + n % 2 ^ lo

/-- A Boolean as a bit. -/
def bit (b : Bool) : Nat := if b then 1 else 0

end Sys2Proof
end

