-- ==== Sys2Proof/Machine/Wire.lean ====
section
/-! DEFINITION. What arrives from outside the device as an operand of a command: who sends a request, an access message, an
Ethernet frame, and errors of the memories. -/

namespace Sys2Proof.Machine

/-- Where a request comes from: an Ethernet source address with its port, or the CAN port. -/
inductive Source where
  | eth (mac port : Nat)
  | can
  deriving DecidableEq, Repr, Inhabited

/-- One access message (R332). -/
structure Msg where
  service : Nat
  tag : Nat
  index : Nat
  sub : Nat
  data : List Nat
  bad : Bool := false                    -- malformed
  classical : Bool := false              -- came in a classical CAN frame (R286)
  brs : Bool := false                    -- in a CAN FD frame with bit rate switching
  deriving DecidableEq, Repr, Inhabited

/-- What a PTP message carries, as far as a transparent clock treats it (R307, R310): its domain as 256 · majorSdoId +
domainNumber, sequenceId, twoStepFlag and correctionField in 2^-16 ns. -/
structure Ptp where
  domain : Nat
  seq : Nat
  twoStep : Bool := false
  correction : Int := 0
  deriving DecidableEq, Repr, Inhabited

/-- An Ethernet frame, as far as the ports treat it (R327 to R331). -/
structure Frame where
  dest : Nat
  src : Nat
  ether : Nat                            -- EtherType after a tag
  ty : Nat := 0                          -- TYPE of a Raore frame, messageType of a PTP message
  version : Nat := 1                     -- VERSION, HOPS, SEQ, LENGTH and reserved bytes of a Raore frame
  hops : Nat := 0
  seq : Nat := 0
  length : Nat := 0
  reserved : Nat := 0
  len : Nat := 64                        -- bytes from the destination address to the end of the frame check sequence
  tagged : Bool := false                 -- carries an 802.1Q tag (R327)
  priority : Nat := 0                    -- 802.1Q priority
  bad : Bool := false                    -- its frame check sequence is wrong
  ptp : Option Ptp := none
  rx : Option (Nat × Int) := none        -- port and timestamp (2^-32 ns) of its ingress, while it is being forwarded
  payload : List Nat := []
  deriving DecidableEq, Repr, Inhabited

/-- An error of on-chip SRAM (R22, R409): the row of the region, the unit that owns the word (of the memory controller buffers:
the laser of a TRAJ request, 16 HOST, 17 CAPTURE, 18 SCRUB), the byte offset of the word within the region, whether it is a
double-bit error, and of the memory controller buffers the burst of external memory that the request concerns. -/
structure SramErr where
  region : Nat
  owner : Nat
  addr : Nat
  double : Bool
  burst : Nat := 0
  deriving DecidableEq, Repr, Inhabited

/-- What a controller clocks out of an SPI transaction: the bytes behind the command's four, and whether SPI_CS_N rises inside a
byte (R280). -/
structure SpiClocks where
  bytes : Nat
  cut : Bool := false
  deriving DecidableEq, Repr, Inhabited

/-- A pulse pin: its level, and for how long it has stood there, in ns (R282). -/
structure PinSeen where
  level : Bool
  held : Nat
  deriving DecidableEq, Repr, Inhabited

/-- PFAIL_N low: the core cycles since the command before, and after how many ns the pin rises again, where it does before the
next fall or its recovery (R418, R431). -/
structure PinFall where
  cycles : Nat
  rise : Option Nat := none
  deriving DecidableEq, Repr, Inhabited

/-- A port whose link has gone down, and whether the SGMII to its PHY stays synchronised (R354). -/
structure PortDown where
  port : Nat
  sync : Bool
  deriving DecidableEq, Repr, Inhabited

/-- What a vision lane has received, as bits, the first first (R358). -/
structure LaneBits where
  lane : Nat
  bits : List Bool
  deriving DecidableEq, Repr, Inhabited

/-- What a vision lane has received, as code groups or as characters (R358, R361). -/
structure LaneWords where
  lane : Nat
  words : List Nat
  deriving DecidableEq, Repr, Inhabited

/-- The head of a CAN frame: its identifier, whether it is a base-format data frame, whether it is a CAN FD frame, and whether it
switches the bit rate (R285, R286). -/
structure CanHead where
  id : Nat
  plain : Bool := true
  fd : Bool
  brs : Bool := false
  deriving DecidableEq, Repr, Inhabited

/-- What a patrol read finds wrong of its burst: a beat pair and the bits of it that differ, as in `MemErr`; none where the burst
is good. -/
structure BeatErr where
  pair : Nat := 0
  flips : List Nat := []
  deriving DecidableEq, Repr, Inhabited

/-- What arrives wrong of a beat pair of a 64-byte burst of external memory (R391 to R394): the number of the burst in the
host space, the pair, the bits of it that differ from those written (0 to 63 the data, 64 to 71 the SEC-DED byte of beat 2k, 72
to 79 the address check of beat 2k + 1), and whether a second read gets them right. -/
structure MemErr where
  burst : Nat
  pair : Nat := 0
  flips : List Nat := []
  rereadGood : Bool := false
  deriving DecidableEq, Repr, Inhabited

end Sys2Proof.Machine
end

