-- ==== Sys2Proof/Syntax.lean ====
section
/-! DEFINITION. The commands of the device: one constructor for each row of the opcode table, in the order of the table. -/

namespace Sys2Proof

open Machine

/-- A command from outside, or an event at its instant. `dt` is how many core cycles of 1 ns after the command before it a
command falls; a command without it falls at an instant the device itself determines. -/
inductive Instr where
  /-- RESET_N_ASSERT (R443): RESET_N goes low and the device enters reset with its outputs high impedance. -/
  | resetNAssert
  /-- SUPPLY_TRIP (R443): A supervised supply or a tile die temperature leaves its operating range and the device enters reset as if RESET_N were low. -/
  | supplyTrip
  /-- SUPPLY_RECOVERED (R443): Every supply has been back in range for 2 ms with RESET_N high, so the device leaves reset by itself. -/
  | supplyRecovered
  /-- RESET_N_RELEASE (R444): RESET_N is released; LT starts at 0, MODE is INIT and the INIT timeline begins. -/
  | resetNRelease
  /-- INIT_COMPLETE (R444): INIT completes into CONFIGURE, the outputs start driving and READY goes high. -/
  | initComplete (dt : Nat) (flashKiB : Nat) (found : Nat) (loaded : Nat)
  /-- AUTO_TRACK (R445): With BOOT_TARGET 0x01 the device commands TRACK itself when CAL_STATE reads DONE. -/
  | autoTrack (dt : Nat)
  /-- SECTOR_ERASE_COMPLETE (R431): The erase of the older event sector ends and PERSIST_STATE becomes ARMED. -/
  | sectorEraseComplete (dt : Nat)
  /-- HOLD_N_FALL (R410): HOLD_N held low for 50 ns starts DEVICE_HOLD and blocks mode commands out of HOLD. -/
  | holdNFall (dt : Nat)
  /-- HOLD_N_RISE (R410): HOLD_N returns high and its duration is logged. -/
  | holdNRise (dt : Nat)
  /-- CLEAR_AX_N_FALL (R243): CLEAR_AX_N falls; every driven axis output goes to CLEAR_CODE through the direct path. -/
  | clearAxNFall (dt : Nat)
  /-- CLEAR_AX_N_RISE (R244): CLEAR_AX_N rises; laws stopped only by the pin restart at a later LOOP boundary. -/
  | clearAxNRise (dt : Nat)
  /-- CLEAR_LM_N_FALL (R245): CLEAR_LM_N falls; laser modulation outputs go to LMO_CLEAR_CODE and gates go inactive. -/
  | clearLmNFall (dt : Nat)
  /-- CLEAR_LM_N_RISE (R245): CLEAR_LM_N rises; gates and outputs stay cleared until each laser's next open edge. -/
  | clearLmNRise (dt : Nat)
  /-- PFAIL_N_FALL (R431): PFAIL_N held low for 1 us logs event 0x2028 and starts persisting the newest 256 records. -/
  | pfailNFall (fall : PinFall)
  /-- PERSIST_WRITE_COMPLETE (R431): The power-fail write of the event block ends with its commit word and PERSIST_STATE becomes WRITTEN. -/
  | persistWriteComplete (dt : Nat)
  /-- PFAIL_N_RECOVER (R452): PFAIL_N has stayed high for 1 ms with the supplies in range, so logging resumes. -/
  | pfailNRecover (dt : Nat)
  /-- SAMPLE_INSTANT (R15): At each 100 ns sample instant all ADCs convert and the tile chain processes the sample. -/
  | sampleInstant (adc : List (Nat × Int)) (pins : List (Nat × Int)) (drops : List Nat)
  /-- DEMOD_OUTPUT (R13): A demodulation output is decimated and the axis angle, speed and acceleration words are formed and distributed. -/
  | demodOutput (tile : Nat) (drops : List Nat)
  /-- ENC_EDGE (R267): A planned quadrature edge of an emulator is issued at its instant. -/
  | encEdge (enc : Nat)
  /-- LOOP_BOUNDARY (R29): A LOOP boundary of an engine falls at a whole multiple of its loop period. -/
  | loopBoundary (engine : Nat) (sram : List SramErr) (grid : List (Nat × MemErr))
  /-- PD_IN_SNAPSHOT (R349): 300 ns after a qualifying ENGINE_0 boundary a PD_IN snapshot is copied and sent on both ports. -/
  | pdInSnapshot
  /-- COMPUTE_WINDOW (R165): The engine's compute window opens and runs the weir, law and output stage of each axis. -/
  | computeWindow (engine : Nat) (stalls : List Nat) (sram : List SramErr)
  /-- OUTPUT_INSTANT (R168): At t_out the engine writes the codes and hands a_cmd to the observers. -/
  | outputInstant (engine : Nat) (drops : List Nat)
  /-- CARRIER_STOP (R73): A driver's carrier stops at a positive-going zero crossing. -/
  | carrierStop (tile : Nat) (drv : Nat)
  /-- CARRIER_START (R63): A driver's carrier starts at an accumulator wrap, with flush and SETTLING. -/
  | carrierStart (tile : Nat) (drv : Nat)
  /-- AMPLITUDE_STEP (R74): A new EXC_AMPL steps at the next positive-going zero crossing. -/
  | amplitudeStep (tile : Nat) (drv : Nat)
  /-- RESET_SWITCH_CLOSE (R78): The charge amplifier reset switch closes at RESET_PHASE in a reset cycle. -/
  | resetSwitchClose (tile : Nat) (amp : Nat)
  /-- RESET_SWITCH_OPEN (R78): The reset switch opens RESET_WIDTH samples after closing. -/
  | resetSwitchOpen (tile : Nat) (amp : Nat)
  /-- THERM_WINDOW (R86): A 1.024 ms averaging window ends and the thermistor temperature is computed. -/
  | thermWindow (die : List Int)
  /-- DRIVER_ILIMIT (R65): A driver reaches its current limit and ILIMIT sets. -/
  | driverIlimit (dt : Nat) (tile : Nat) (drv : Nat)
  /-- MONITOR_SAMPLE (R246): The monitoring converter samples a slot for read-back or bus sensing. -/
  | monitorSample (raw : Int)
  /-- RANGE_SWITCH_OPEN (R241): 2 us into a range change the output switch opens. -/
  | rangeSwitchOpen (axis : Nat)
  /-- RANGE_SWITCH_CLOSE (R241): 12 us into a range change the switch closes in the new range. -/
  | rangeSwitchClose (axis : Nat)
  /-- RANGE_CHANGE_DONE (R241): 14 us into a range change RANGE_BUSY clears. -/
  | rangeChangeDone (axis : Nat)
  /-- LMO_ILIM (R256): A laser modulation output reaches its current limit. -/
  | lmoIlim (dt : Nat) (lmo : Nat)
  /-- LMO_OVER_TEMP (R256): A laser modulation driver overheats and switches to high impedance. -/
  | lmoOverTemp (dt : Nat) (lmo : Nat)
  /-- SAMPLE_PLL_LOCK_LOSS (R295): The sample PLL phase error exceeds 1 ns, LOCKED clears and a device fault is raised. -/
  | samplePllLockLoss (dt : Nat) (ps : Int)
  /-- REALIGN_COMPLETE (R295): Sample PLL realignment ends. -/
  | realignComplete (dt : Nat)
  /-- GATE_OPEN (R313): A scheduler action opens the laser gate and writes its power value. -/
  | gateOpen (laser : Nat)
  /-- GATE_CLOSE (R313): A scheduler action closes the laser gate and writes 0. -/
  | gateClose (laser : Nat)
  /-- LMO_WRITE (R313): A scheduler action writes a laser modulation value. -/
  | lmoWrite (laser : Nat)
  /-- PROFILE_START (R254): A scheduler action starts profile playback. -/
  | profileStart (laser : Nat)
  /-- PROFILE_SAMPLE (R254): The playback engine writes the next profile sample at its interval. -/
  | profileSample (laser : Nat)
  /-- CT_ASSERT (R363): A camera trigger pin goes active and a frame tag opens. -/
  | ctAssert (cam : Nat)
  /-- CT_RELEASE (R363): A camera trigger pin goes inactive and the end snapshot is taken. -/
  | ctRelease (cam : Nat)
  /-- LATCH (R313): A scheduled LATCH acts as a SAMPLE_N edge at its LT. -/
  | latch
  /-- CAPTURE (R465): A scheduled CAPTURE fires a time trigger of the raw taps. -/
  | capture
  /-- MARK_EVENT (R313): A scheduled MARK_EVENT logs event 0x3815 with its tag. -/
  | markEvent
  /-- SAMPLE_N_FALL (R277): A falling edge of SAMPLE_N latches all axis words into a latch buffer. -/
  | sampleNFall (dt : Nat)
  /-- SSI_LATCH (R274): The first falling SSI clock edge after idle latches the axis words for a frame. -/
  | ssiLatch (dt : Nat) (ssi : Nat)
  /-- SSI_TIMEOUT (R274): SSI_TIMEOUT passes without a clock edge and the port returns to idle. -/
  | ssiTimeout (ssi : Nat)
  /-- READ_RECORDS (R280): An SPI transaction reads axis records from the latch. -/
  | readRecords (dt : Nat) (low : Nat) (first : Nat) (count : Nat) (clocks : SpiClocks)
  /-- READ_LATCH (R280): An SPI transaction reads LATCH_LT and LATCH_SEQ. -/
  | readLatch (dt : Nat) (low : Nat) (cmd : Nat) (arg1 : Nat) (arg2 : Nat) (clocks : SpiClocks)
  /-- PULSE_EDGE (R282): An accepted pulse input edge moves the count or counts a quadrature error. -/
  | pulseEdge (dt : Nat) (pulse : Nat) (a : PinSeen) (b : PinSeen)
  /-- PLS_PRESET (R283): A write sets a pulse input count. -/
  | plsPreset (dt : Nat) (src : Source) (pulse : Nat) (count : Int)
  /-- ENC_ENABLE (R269): A write of ENC_ENABLE starts or stops an emulator, with a preset at start. -/
  | encEnable (dt : Nat) (src : Source) (enc : Nat) (value : Nat)
  /-- CAN_REQUEST (R286): A CAN frame with CAN_REQ_ID carries one object-access message. -/
  | canRequest (dt : Nat) (head : CanHead) (payload : List Nat)
  /-- CAN_BUS_ERROR (R285): CAN errors move the port to error passive or bus-off. -/
  | canBusError (dt : Nat) (tec : Nat) (rec : Nat)
  /-- CAN_BUS_OFF_RECOVERY (R285): After 128 occurrences of 11 recessive bits the port recovers from bus-off. -/
  | canBusOffRecovery (dt : Nat)
  /-- FRAME_RECEIVE (R329): An Ethernet frame is received and consumed and/or forwarded to the other port. -/
  | frameReceive (dt : Nat) (port : Nat) (frame : Frame) (lat : Nat)
  /-- ACCESS (R347): An ACCESS frame's messages are admitted and held until their window closes. -/
  | access (dt : Nat) (mac : Nat) (port : Nat) (payload : List Nat)
  /-- READ (R333): An access message reads an object value. -/
  | read (dt : Nat) (src : Source) (index : Nat) (sub : Nat)
  /-- WRITE (R38): An access message writes an object, checked and put in use or staged. -/
  | write (dt : Nat) (src : Source) (index : Nat) (sub : Nat) (data : List Nat)
  /-- READ_PART (R333): An access message reads part of a long value. -/
  | readPart (dt : Nat) (src : Source) (index : Nat) (sub : Nat) (offset : Nat) (count : Nat)
  /-- WRITE_PART (R334): An access message places bytes in the assembly buffer. -/
  | writePart (dt : Nat) (src : Source) (index : Nat) (sub : Nat) (offset : Nat) (data : List Nat)
  /-- WRITE_LAST (R334): An access message submits the assembled value as one write. -/
  | writeLast (dt : Nat) (src : Source) (index : Nat) (sub : Nat) (offset : Nat) (data : List Nat)
  /-- READ_DESC (R338): An access message reads an object's descriptor. -/
  | readDesc (dt : Nat) (src : Source) (index : Nat) (sub : Nat)
  /-- REGISTER (R342): A source takes a master slot or changes its rank. -/
  | register (dt : Nat) (src : Source) (rank : Nat)
  /-- DEREGISTER (R343): A master releases its slot, token and buffers. -/
  | deregister (dt : Nat) (src : Source)
  /-- TOKEN_TAKE (R344): A master takes or forces the command token. -/
  | tokenTake (dt : Nat) (src : Source) (force : Nat)
  /-- TOKEN_RELEASE (R344): The token holder releases the command token. -/
  | tokenRelease (dt : Nat) (src : Source)
  /-- PD_OUT (R351): A PD_OUT frame writes its mapped values with the frame's timestamp. -/
  | pdOut (dt : Nat) (mac : Nat) (port : Nat) (seq : Nat) (payload : List Nat)
  /-- EVENT_ACK (R353): A master acknowledges pushed records and PUSH_ACK_SEQ advances. -/
  | eventAck (dt : Nat) (mac : Nat) (port : Nat) (ack : Nat)
  /-- EVENT_PUSH_RETRY (R353): PUSH_RETRY passes without acknowledgement and records are pushed again. -/
  | eventPushRetry (master : Nat)
  /-- MASTER_TIMEOUT (R343): A master sends nothing for MASTER_TIMEOUT and is deregistered. -/
  | masterTimeout (master : Nat)
  /-- ASSEMBLY_TIMEOUT (R334): 100 ms pass without a part and the assembly buffer is emptied. -/
  | assemblyTimeout (master : Nat)
  /-- LINK_DOWN (R308): A network link goes down and its PDELAY_STATE becomes INVALID. -/
  | linkDown (dt : Nat) (down : PortDown)
  /-- LINK_UP (R357): A network link comes up. -/
  | linkUp (dt : Nat) (port : Nat)
  /-- SYNC (R298): A PTP Sync is used to measure the offset and steer LT. `domain` is 256 · majorSdoId + domainNumber (R307), as in
  FOLLOW_UP and ANNOUNCE. -/
  | sync (dt : Nat) (port : Nat) (domain : Nat) (source : Nat) (seq : Nat) (interval : Int) (twoStep : Bool) (origin : Nat) (correction : Int)
  /-- FOLLOW_UP (R310): A Follow_Up completes a two-step Sync and takes the residence correction. -/
  | followUp (dt : Nat) (port : Nat) (domain : Nat) (source : Nat) (seq : Nat) (origin : Nat) (correction : Int)
  /-- ANNOUNCE (R296): An Announce feeds grandmaster selection for a domain. -/
  | announce (dt : Nat) (port : Nat) (domain : Nat) (source : Nat) (interval : Int) (quality : List Nat) (utc : Int)
  /-- ANNOUNCE_TIMEOUT (R296): Announce receipt timeout moves a domain to NO_MASTER. -/
  | announceTimeout (domain : Nat)
  /-- SYNC_TIMEOUT (R296): No Sync used for 3 intervals moves a domain to MEASURING or changes its port. -/
  | syncTimeout (domain : Nat)
  /-- REVERTIVE_SWITCH (R297): The preferred domain has been VALID for 60 s and becomes active. -/
  | revertiveSwitch
  /-- PDELAY_REQ (R307): A received Pdelay_Req is answered with a one-step Pdelay_Resp. One of another majorSdoId is not used: it is a
  FRAME_RECEIVE alone. -/
  | pdelayReq (dt : Nat) (port : Nat) (seq : Nat) (source : Nat) (correction : Int)
  /-- PDELAY_REQ_SEND (R308): A port sends its periodic Pdelay_Req and counts missing responses. -/
  | pdelayReqSend (dt : Nat) (port : Nat)
  /-- PDELAY_RESP (R308): A peer-delay response gives a measurement judged for consistency. -/
  | pdelayResp (dt : Nat) (port : Nat) (seq : Nat) (turnaround : Int) (t3 : Option Nat)
  /-- LT_STEP (R301): In CALIBRATE, LT steps after the last carrier has stopped and the carriers restart. -/
  | ltStep (dt : Nat)
  /-- REFRESH_TICK (R384): A t_REFI tick raises a rank's owed refresh count. -/
  | refreshTick (channel : Nat) (rank : Nat) (trajWaits : Bool)
  /-- MR4_READ (R385): Mode register 4 is read every 125 us and the refresh rate may double or halve. -/
  | mr4Read (high : List Bool) (waits : List Bool)
  /-- TRACKING_STEP (R387): A channel runs its 100 ms tracking step. -/
  | trackingStep (dt : Nat) (channel : Nat) (duration : Nat)
  /-- PATROL_READ (R393): The scrub patrol reads its next burst. -/
  | patrolRead (dt : Nat) (channel : Nat) (err : BeatErr)
  /-- TRAJ_READ_COMPLETE (R383): A trajectory fetch completes and is checked, re-read or stops the stream. -/
  | trajReadComplete (dt : Nat) (laser : Nat) (errs : List MemErr)
  /-- TRAINING_COMPLETE (R386): Memory training ends and MEM_STATE becomes READY or FAILED. -/
  | trainingComplete (dt : Nat) (step : Nat) (channel : Nat)
  /-- FREQ_SWITCH_COMPLETE (R388): A memory frequency switch ends and held requests proceed. -/
  | freqSwitchComplete (dt : Nat) (step : Nat) (channel : Nat)
  /-- MEM_DATA_WRITE (R381): A write to MEM_DATA stores bytes at MEM_ADDR and advances it. -/
  | memDataWrite (dt : Nat) (src : Source) (data : List Nat) (errs : List MemErr)
  /-- MEM_DATA_READ (R381): A read of MEM_DATA returns up to 4,096 bytes of external memory. -/
  | memDataRead (dt : Nat) (src : Source) (errs : List MemErr)
  /-- CORRECTION (R368): A CORRECTION packet from the vision processor is matched to its frame tag and may become a candidate. -/
  | correction (dt : Nat) (lane : Nat) (cam : Nat) (frame : Nat) (dx : Int) (dy : Int)
  /-- STATS (R368): A STATS packet is matched to its frame and stored or passed to autofocus. -/
  | stats (dt : Nat) (lane : Nat) (cam : Nat) (frame : Nat) (sharpness : Nat) (intensity : Nat) (area : Nat)
  /-- HEARTBEAT (R362): A received HEARTBEAT keeps the port ALIVE. -/
  | heartbeat (dt : Nat) (lane : Nat)
  /-- LANE_SYNC (R358): A receive lane synchronises after three commas. -/
  | laneSync (dt : Nat) (rx : LaneBits)
  /-- LANE_SYNC_LOSS (R358): A receive lane loses synchronisation after code violations; `rx` has the code groups it
  has received. -/
  | laneSyncLoss (dt : Nat) (rx : LaneWords)
  /-- ALIVE_TIMEOUT (R362): VIS_TIMEOUT passes without a valid packet and ALIVE clears. -/
  | aliveTimeout
  /-- VTX_HEARTBEAT (R362): 100 us pass without a transmitted packet and VTX sends a HEARTBEAT. -/
  | vtxHeartbeat
  /-- FRAME_TAG_COMPLETE (R367): A frame tag completes after its end snapshot and is sent on VTX. -/
  | frameTagComplete (cam : Nat)
  /-- EVENT_ADMIT (R404): An event record is admitted to the log 2 us after its timestamp and numbered. -/
  | eventAdmit
  /-- POUND_COMMIT (R42): A POUND_COMMIT of 0x01 checks and arms a pound. -/
  | poundCommit (dt : Nat) (src : Source) (pound : Nat)
  /-- POUND_DISCARD (R51): A POUND_COMMIT of 0x02 discards a pound's staged contents. -/
  | poundDiscard (dt : Nat) (src : Source) (pound : Nat)
  /-- BUNDLED_COMMIT (R52): An engine POUND_COMMIT commits the engine and chosen axis pounds as one lockage. -/
  | bundledCommit (dt : Nat) (src : Source) (engine : Nat) (scopes : Nat)
  /-- BUNDLED_DISCARD (R52): An engine POUND_COMMIT with DISCARD discards the selected pounds. -/
  | bundledDiscard (dt : Nat) (src : Source) (engine : Nat) (scopes : Nat)
  /-- MODE_CMD_CONFIGURE (R438): A mode command into CONFIGURE is checked, accepted and empties the pounds. -/
  | modeCmdConfigure (dt : Nat) (src : Source)
  /-- MODE_CMD_CALIBRATE (R441): A mode command into CALIBRATE starts drivers and calibration. -/
  | modeCmdCalibrate (dt : Nat) (src : Source)
  /-- MODE_CMD_TRACK (R438): A mode command into TRACK is checked and accepted. -/
  | modeCmdTrack (dt : Nat) (src : Source)
  /-- MODE_CMD_SERVO (R438): A mode command into SERVO is checked and laws start engine by engine. -/
  | modeCmdServo (dt : Nat) (src : Source)
  /-- MODE_CMD_BUILD (R438): A mode command into BUILD is checked and lasers follow their channels. -/
  | modeCmdBuild (dt : Nat) (src : Source)
  /-- MODE_CMD_HOLD (R440): A mode command into HOLD runs the HOLD steps, interrupting a transition if one runs. -/
  | modeCmdHold (dt : Nat) (src : Source)
  /-- MODE_CMD_TEST (R457): A mode command into TEST is accepted and may start self-tests. -/
  | modeCmdTest (dt : Nat) (src : Source)
  /-- PARK (R426): PARK_CMD PARK takes a tile, engine, axis or port out of service. -/
  | park (dt : Nat) (src : Source) (cls : Nat) (unit : Nat)
  /-- RETURN (R428): PARK_CMD RETURN checks and starts the return of a parked unit. -/
  | returnUnit (dt : Nat) (src : Source) (cls : Nat) (unit : Nat)
  /-- RESUME (R230): STREAM_CMD RESUME restarts a STOPPED stream at STOP_SEG. -/
  | resume (dt : Nat) (src : Source) (laser : Nat) (segment : Nat)
  /-- STOP (R231): STREAM_CMD STOP stops a RUNNING stream at the next SEGMENT boundary. -/
  | stop (dt : Nat) (src : Source) (laser : Nat)
  /-- ABANDON (R231): STREAM_CMD ABANDON closes the gate and counts as the laser's LAYER_END. -/
  | abandon (dt : Nat) (src : Source) (laser : Nat)
  /-- FAULT_CLEAR (R418): A write of FAULT_CLEAR clears the latches whose conditions have ended. -/
  | faultClear (dt : Nat) (src : Source)
  /-- LMO_CLEAR_FAULT (R256): A write re-enables a laser modulation driver after over-temperature. -/
  | lmoClearFault (dt : Nat) (src : Source) (lmo : Nat)
  /-- BANK_SWAP_CONFIGURE (R188): A BANK_SWAP write in CONFIGURE copies POUND into ACTIVE at once. -/
  | bankSwapConfigure (dt : Nat) (src : Source) (axis : Nat) (length : Nat)
  /-- PROFILE_WR_DATA (R255): A write stores profile samples and advances PROFILE_WR_ADDR. -/
  | profileWrData (dt : Nat) (src : Source) (data : List Nat)
  /-- SCHED_ENTRY (R320): A host entry is checked and entered, executed late or refused. -/
  | schedEntry (dt : Nat) (src : Source) (entry : List Nat)
  /-- SCHED_FLUSH (R321): A write cancels every pending host entry. -/
  | schedFlush (dt : Nat) (src : Source)
  /-- SAVE (R451): STORE_CMD 0x01 copies the configuration image and starts the flash save. -/
  | save (dt : Nat) (src : Source)
  /-- STORE_SAVE_COMPLETE (R451): The flash save ends with its commit word, or fails. -/
  | storeSaveComplete (dt : Nat) (cause : Nat)
  /-- ERASE (R451): STORE_CMD 0x02 erases both store slots in CONFIGURE. -/
  | erase (dt : Nat) (src : Source)
  /-- SELFTEST_LOGIC (R457): SELFTEST_CMD 0x01 starts the logic self-test. -/
  | selftestLogic (dt : Nat) (src : Source)
  /-- SELFTEST_MEMORY (R457): SELFTEST_CMD 0x02 starts the memory self-test. -/
  | selftestMemory (dt : Nat) (src : Source)
  /-- SELFTEST_BOTH (R457): SELFTEST_CMD 0x03 starts the logic then the memory self-test. -/
  | selftestBoth (dt : Nat) (src : Source)
  /-- SELFTEST_COMPLETE (R458): A self-test ends and its signatures are compared with the expected values. -/
  | selftestComplete (dt : Nat) (sigs : List (Nat × Nat))
  /-- CAPTURE_ARM (R464): The ARM field of CAPTURE_CMD arms a trigger and clears its taps' rings. -/
  | captureArm (dt : Nat) (src : Source) (triggers : Nat)
  /-- CAPTURE_FIRE (R465): The FIRE field of CAPTURE_CMD fires a host trigger. -/
  | captureFire (dt : Nat) (src : Source) (triggers : Nat)
  /-- CAPTURE_STOP (R467): The STOP field of CAPTURE_CMD stops a trigger's taps. -/
  | captureStop (dt : Nat) (src : Source) (triggers : Nat)
  /-- CAL_PART_END (R441): A calibration part ends on a tile and its measured values come into use. -/
  | calPartEnd (dt : Nat) (tile : Nat) (part : Nat) (gains : List Nat) (offsets : List Int) (sensed : List Nat) (deviations : List Nat)
  /-- CAL_DONE (R441): All calibration parts have ended and CAL_STATE reads DONE. -/
  | calDone (dt : Nat)
  /-- SAMPLE_PLL_LOCKED (R295): The sample PLL regains phase lock after a lock loss and LOCKED reads 1 again. -/
  | samplePllLocked (dt : Nat)
  /-- LMO_OVER_TEMP_CLEAR (R256): A laser modulation driver cools below its trip and OT clears, so LMO_CLEAR_FAULT may now be accepted. -/
  | lmoOverTempClear (dt : Nat) (lmo : Nat)
  /-- ILIMIT_CLEAR (R65): An excitation driver's output current falls back below its limit and ILIMIT in EXC_STATUS clears. -/
  | ilimitClear (dt : Nat) (tile : Nat) (drv : Nat)
  /-- LMO_ILIM_CLEAR (R256): A laser modulation output leaves its current limit and ILIM clears. -/
  | lmoIlimClear (dt : Nat) (lmo : Nat)
  /-- LASER_SAFE_COMPLETE (R412): A LASER_SAFE sequence completes at t = 1 us, event 0x2021 is logged and the next queued reaction begins. -/
  | laserSafeComplete
  /-- RX_BAD_PACKET (R361): A vision packet of unknown TYPE arrives on a receive lane, is discarded and counted in RX_BAD;
  `rx` has the characters behind its /K27.7/, 512 for a code violation. -/
  | rxBadPacket (dt : Nat) (rx : LaneWords)
  /-- FRAME_TRANSMISSION_END (R330): A frame finishes leaving an egress port and the next stored frame is sent, high queue first. -/
  | frameTransmissionEnd (dt : Nat) (port : Nat)
  /-- SSI_CLOCK_EDGE (R274): A further SSI clock edge drives the next frame bit on a rising edge and restarts SSI_TIMEOUT. -/
  | ssiClockEdge (dt : Nat) (ssi : Nat) (rising : Bool)
  deriving DecidableEq, Repr

end Sys2Proof
end

