-- ==== Sys2Proof/Config.lean ====
section
/-! DEFINITION. What the spec leaves to the part or leaves open: constants without a body, so that no proof can
see a value of them. Each is named in the assumption log. -/

namespace Sys2Proof.Config

/-- Identity of the part, which the spec names but does not number (R341; log entry 3). -/
opaque firmwareVersion : Nat
/-- SERIAL_NUMBER, as its 16 ASCII bytes (R341; log entry 3). -/
opaque serialNumber : List Nat
/-- DEVICE_MAC (R341; log entry 3). -/
opaque deviceMac : Nat

/-- Error of the sine table at an 18-bit phase, in 2^-30; used inside the bound of R117 (log entry 5). -/
opaque sineErr : Nat → Int
/-- Error of the arc tangent of R134 at (s1, c1), in 2^-32 turn; used inside its bound (log entry 5). -/
opaque atanErr : Int → Int → Int
/-- Freedom of the linearisation sum of R153, in 2^-32 turn; used inside its bound (log entry 5). -/
opaque linErr : Int → Int → Int
/-- Difference of the weir from the exact plan, in 2^-40 turn; used inside the bounds of R205 (log entry 5). -/
opaque weirPosErr : Int → Int → Int
/-- Difference of the weir's velocity from the exact plan, in 2^-40 turn/s (R205; log entry 5). -/
opaque weirVelErr : Int → Int → Int
/-- Coefficient `i` of the first half of RESPONSE_r, in 2^-30; the spec gives no coefficients (R120; log entry 6). -/
opaque firCoef : Nat → Nat → Int
/-- Factory trim of the gain of a converter channel, in 2^-30 (R84; log entry 7). -/
opaque trimGain : Nat → Nat
/-- Factory trim of the offset of a converter channel, in chain units (R84; log entry 7). -/
opaque trimOffset : Nat → Int
/-- The referenced word of a channel whose sensed excitation is exactly 0 (R125 divides 0 by 0; log entry 8). -/
opaque zeroReference : Nat → Int
/-- Fresh values for results the spec leaves undefined, by the counter `freeCount` of State (log entry 2). -/
opaque freeValue : Nat → Nat

/-- The byte that names an action in the data of 0x3810 to 0x3813; the spec lists no codes but the host KINDs (log
entry 13). -/
opaque actionCode : Nat → Nat

/-- The cause byte of 0x380B: 0 link down, 1 port PARKED, 2 three requests without a response; the spec gives the causes
no codes (log entry 22). -/
opaque pdelayCause : Nat → Nat

/-- The word that holds a result which does not fit it, where the spec states no limit for it, by width and exact result; and
the result of a formula that divides by 0 (log entry 9). -/
opaque outOfRange : Nat → Int → Nat

/-- The slope of the offsets of a domain when a single Sync has been used, from its ingress time and offset: one point has
none (R296; log entry 10). -/
opaque slopeOfOne : Int → Int → Int

/-- Where the trip level of the die temperature of TILE_t lies above 110 °C, in 0.01 °C; used inside the 5 °C of R472 (log entry
113). -/
opaque dieTrip : Nat → Nat

/-- Which of the 14 types an object of 0x5000 to 0x5FFF has, by its key (R340; log entry 24). -/
opaque vendorType : Nat → Nat

end Sys2Proof.Config
end

