-- ==== Sys2Proof/Machine/Dict.lean ====
section
/-! DEFINITION. The object dictionary: one row per sub-entry of the object tables of spec/ (type, access, default, range,
boundary), the key of every named object, and the default a sub-entry reads before anything has written it. -/

namespace Sys2Proof

/-- The value types of R339. -/
inductive Ty where
  | bool | u8 | u16 | u32 | u64 | i16 | i32 | i64 | coef | time80 | string | domain
  deriving DecidableEq, Repr

/-- The access codes of R10. -/
inductive Access where
  | ro | rw | rws | rwc | wo
  deriving DecidableEq, Repr

/-- The boundary at which a written value comes into use (R10). -/
inductive Applies where
  | none | write | configure | loop | segment | frame | layer | mode
  deriving DecidableEq, Repr

/-- A range that needs more than two bounds; Machine/Operands.lean gives each its condition. -/
inductive Special where
  | pinRole
  | excFreq
  | ampMode
  | ampReset
  | biasLevel
  | thermChannel
  | pairFine
  | setpointAmp
  | pullCfg
  | demodPeriod
  | acqMinOutputs
  | scale
  | schedCfg
  | bankSched
  | loopPeriod
  | outOffset
  | layerStartLt
  | gridBase
  | gatePin
  | lmoSel
  | axoRange
  | encAxis
  | encCfg
  | encSpan
  | encEnable
  | ssiAxis
  | ssiFormat
  | plsMode
  | canReqId
  | canRspId
  | domainNumber
  | camPin
  | camLaser
  | camWidth
  | camOffset
  | afCamera
  | afSteps
  | memChannels
  | layerBufBase0
  | layerBufBase1
  | atpSel
  | testAxoSel
  | captureRdAddr
  | trigCfg
  | tapPoint
  | tapBase
  | tapSize
  deriving DecidableEq, Repr

/-- The values a writable sub-entry accepts. -/
inductive Rng where
  | any                     -- every value of the type
  | u (lo hi : Nat)         -- unsigned bounds
  | i (lo hi : Int)         -- signed bounds
  | mask (m : Nat)          -- the bits outside `m` are reserved
  | zero                    -- only 0 (a clearing write, a reserved entry)
  | sp (x : Special)        -- the object's own condition
  deriving DecidableEq, Repr

/-- One row of an object table: the index of instance 0, the stride and count of its instances, the subindex range,
type, access, boundary, default and range. -/
structure Row where
  index : Nat
  stride : Nat
  count : Nat
  subLo : Nat
  subHi : Nat
  ty : Ty
  access : Access
  applies : Applies
  dflt : Nat
  rng : Rng
  deriving DecidableEq, Repr

/-- The key of a sub-entry: index and subindex in one number. -/
abbrev regKey (index sub : Nat) : Nat := index * 256 + sub

/-- Index of a key. -/
abbrev keyIndex (k : Nat) : Nat := k / 256

/-- Subindex of a key. -/
abbrev keySub (k : Nat) : Nat := k % 256

/-- Objects 0x10xx of the dictionary, as the object tables of spec/ list them. -/
def Dict.rows10 : List Row := [
  ⟨0x1000, 0x1, 1, 0x00, 0x00, .u8, .ro, .none, 0x8, .any⟩,   -- IDENTITY_ENTRIES (R341)
  ⟨0x1000, 0x1, 1, 0x01, 0x01, .string, .ro, .none, 0x0, .any⟩,   -- VENDOR_NAME (R341)
  ⟨0x1000, 0x1, 1, 0x02, 0x02, .string, .ro, .none, 0x0, .any⟩,   -- PRODUCT_NAME (R341)
  ⟨0x1000, 0x1, 1, 0x03, 0x03, .string, .ro, .none, 0x0, .any⟩,   -- ORDERING_CODE (R341)
  ⟨0x1000, 0x1, 1, 0x04, 0x04, .u16, .ro, .none, 0x4200, .any⟩,   -- SILICON_REV (R341)
  ⟨0x1000, 0x1, 1, 0x05, 0x05, .u32, .ro, .none, 0x0, .any⟩,   -- FIRMWARE_VERSION (R341)
  ⟨0x1000, 0x1, 1, 0x06, 0x06, .string, .ro, .none, 0x0, .any⟩,   -- SERIAL_NUMBER (R341)
  ⟨0x1000, 0x1, 1, 0x07, 0x07, .u64, .ro, .none, 0x0, .any⟩,   -- DEVICE_MAC (R341)
  ⟨0x1000, 0x1, 1, 0x08, 0x08, .u16, .ro, .none, 0x100, .any⟩   -- DICT_VERSION (R341)
]

/-- Objects 0x11xx of the dictionary, as the object tables of spec/ list them. -/
def Dict.rows11 : List Row := [
  ⟨0x1100, 0x1, 2, 0x00, 0x00, .u8, .ro, .none, 0x8, .any⟩,   -- PORT_ENTRIES (R354)
  ⟨0x1100, 0x1, 2, 0x01, 0x01, .u8, .ro, .none, 0x0, .any⟩,   -- LINK_STATUS (R354)
  ⟨0x1100, 0x1, 2, 0x02, 0x02, .u8, .rwc, .configure, 0x0, .u 0 1⟩,   -- FWD_MODE (R354)
  ⟨0x1100, 0x1, 2, 0x03, 0x03, .u32, .ro, .none, 0x0, .any⟩,   -- RX_FRAMES (R354)
  ⟨0x1100, 0x1, 2, 0x04, 0x04, .u32, .ro, .none, 0x0, .any⟩,   -- RX_ERRORS (R354)
  ⟨0x1100, 0x1, 2, 0x05, 0x05, .u32, .ro, .none, 0x0, .any⟩,   -- FWD_FRAMES (R354)
  ⟨0x1100, 0x1, 2, 0x06, 0x06, .u32, .ro, .none, 0x0, .any⟩,   -- FWD_STOMPED (R354)
  ⟨0x1100, 0x1, 2, 0x07, 0x07, .u32, .ro, .none, 0x0, .any⟩,   -- DROPPED (R354)
  ⟨0x1100, 0x1, 2, 0x08, 0x08, .u32, .ro, .none, 0x0, .any⟩,   -- RAORE_DISCARDED (R354)
  ⟨0x1110, 0x1, 1, 0x00, 0x00, .u8, .ro, .none, 0x6, .any⟩,   -- RAORE_ENTRIES (R354)
  ⟨0x1110, 0x1, 1, 0x01, 0x01, .u8, .rwc, .configure, 0x20, .u 1 255⟩,   -- HOP_LIMIT (R354)
  ⟨0x1110, 0x1, 1, 0x02, 0x02, .u16, .rwc, .configure, 0x64, .u 10 10000⟩,   -- MASTER_TIMEOUT (R354)
  ⟨0x1110, 0x1, 1, 0x03, 0x03, .u8, .rwc, .configure, 0x1, .mask 1⟩,   -- OPEN_REGISTRATION (R354)
  ⟨0x1110, 0x1, 1, 0x04, 0x04, .u8, .rwc, .configure, 0x3, .u 0 3⟩,   -- OPEN_RANK (R354)
  ⟨0x1110, 0x1, 1, 0x05, 0x05, .u8, .rwc, .configure, 0x1, .u 0 1⟩,   -- TOKEN_LOSS_ACTION (R354)
  ⟨0x1110, 0x1, 1, 0x06, 0x06, .u16, .rwc, .configure, 0xA, .u 1 1000⟩,   -- PUSH_RETRY (R354)
  ⟨0x1120, 0x1, 1, 0x00, 0x00, .u8, .ro, .none, 0x8, .any⟩,   -- ALLOW_ENTRIES (R354)
  ⟨0x1120, 0x1, 1, 0x01, 0x04, .u64, .rwc, .configure, 0x0, .mask 281474976710655⟩,   -- ALLOW_MAC (R354)
  ⟨0x1120, 0x1, 1, 0x05, 0x08, .u8, .rwc, .configure, 0x0, .u 0 3⟩   -- ALLOW_RANK (R354)
]

/-- Objects 0x12xx of the dictionary, as the object tables of spec/ list them. -/
def Dict.rows12 : List Row := [
  ⟨0x1200, 0x1, 4, 0x00, 0x00, .u8, .ro, .none, 0x8, .any⟩,   -- MASTER_ENTRIES (R355)
  ⟨0x1200, 0x1, 4, 0x01, 0x01, .u8, .ro, .none, 0x0, .any⟩,   -- MASTER_STATE (R355)
  ⟨0x1200, 0x1, 4, 0x02, 0x02, .u64, .ro, .none, 0x0, .any⟩,   -- MASTER_MAC (R355)
  ⟨0x1200, 0x1, 4, 0x03, 0x03, .u8, .ro, .none, 0x0, .any⟩,   -- MASTER_RANK (R355)
  ⟨0x1200, 0x1, 4, 0x04, 0x04, .time80, .ro, .none, 0x0, .any⟩,   -- LAST_SEEN_LT (R355)
  ⟨0x1200, 0x1, 4, 0x05, 0x05, .u8, .rw, .write, 0x1, .mask 1⟩,   -- PUSH_ENABLE (R355)
  ⟨0x1200, 0x1, 4, 0x06, 0x06, .u32, .ro, .none, 0x0, .any⟩,   -- PUSH_ACK_SEQ (R355)
  ⟨0x1200, 0x1, 4, 0x07, 0x07, .u32, .ro, .none, 0x0, .any⟩,   -- ARB_LOST_COUNT (R355)
  ⟨0x1200, 0x1, 4, 0x08, 0x08, .u32, .ro, .none, 0x0, .any⟩,   -- REQUEST_COUNT (R355)
  ⟨0x1210, 0x1, 1, 0x00, 0x00, .u8, .ro, .none, 0x2, .any⟩,   -- TOKEN_ENTRIES (R355)
  ⟨0x1210, 0x1, 1, 0x01, 0x01, .u8, .ro, .none, 0xFF, .any⟩,   -- TOKEN_HOLDER (R355)
  ⟨0x1210, 0x1, 1, 0x02, 0x02, .time80, .ro, .none, 0x0, .any⟩   -- TOKEN_SINCE_LT (R355)
]

/-- Objects 0x13xx of the dictionary, as the object tables of spec/ list them. -/
def Dict.rows13 : List Row := [
  ⟨0x1300, 0x1, 1, 0x00, 0x00, .u8, .ro, .none, 0x5, .any⟩,   -- PD_IN_ENTRIES (R356)
  ⟨0x1300, 0x1, 1, 0x01, 0x01, .u8, .rwc, .configure, 0x0, .mask 1⟩,   -- PD_IN_ENABLE (R356)
  ⟨0x1300, 0x1, 1, 0x02, 0x02, .u64, .rwc, .configure, 0x0, .mask 281474976710655⟩,   -- PD_IN_DEST (R356)
  ⟨0x1300, 0x1, 1, 0x03, 0x03, .u16, .rwc, .configure, 0x1, .u 1 65535⟩,   -- PD_IN_PERIOD (R356)
  ⟨0x1300, 0x1, 1, 0x04, 0x04, .u64, .rwc, .configure, 0xFFFFFFFFFFFF, .mask 281474976710655⟩,   -- PD_IN_AXES (R356)
  ⟨0x1300, 0x1, 1, 0x05, 0x05, .u16, .ro, .none, 0x270, .any⟩,   -- PD_IN_BYTES (R356)
  ⟨0x1301, 0x1, 1, 0x01, 0x20, .u32, .rwc, .configure, 0x0, .mask 4294967040⟩,   -- PD_IN_MAP (R356)
  ⟨0x1301, 0x1, 1, 0x00, 0x00, .u8, .ro, .none, 0x20, .any⟩,   -- (highest subindex) (R336)
  ⟨0x1302, 0x1, 1, 0x01, 0x20, .u32, .rwc, .configure, 0x0, .mask 4294967040⟩,   -- PD_OUT_MAP (R356)
  ⟨0x1302, 0x1, 1, 0x00, 0x00, .u8, .ro, .none, 0x20, .any⟩,   -- (highest subindex) (R336)
  ⟨0x1303, 0x1, 1, 0x00, 0x00, .u8, .ro, .none, 0x5, .any⟩,   -- PD_STATUS_ENTRIES (R356)
  ⟨0x1303, 0x1, 1, 0x01, 0x01, .u32, .ro, .none, 0x0, .any⟩,   -- PD_IN_SEQ (R356)
  ⟨0x1303, 0x1, 1, 0x02, 0x02, .u32, .ro, .none, 0x0, .any⟩,   -- PD_OUT_APPLIED (R356)
  ⟨0x1303, 0x1, 1, 0x03, 0x03, .u32, .ro, .none, 0x0, .any⟩,   -- PD_OUT_DROPPED (R356)
  ⟨0x1303, 0x1, 1, 0x04, 0x04, .u32, .ro, .none, 0x0, .any⟩,   -- PD_OUT_REFUSED (R356)
  ⟨0x1303, 0x1, 1, 0x05, 0x05, .u16, .ro, .none, 0x0, .any⟩   -- PD_CHECK (R356)
]

/-- Objects 0x18xx of the dictionary, as the object tables of spec/ list them. -/
def Dict.rows18 : List Row := [
  ⟨0x1800, 0x1, 1, 0x00, 0x00, .u8, .ro, .none, 0x8, .any⟩,   -- CAN_ENTRIES (R288)
  ⟨0x1800, 0x1, 1, 0x01, 0x01, .u8, .rwc, .configure, 0x1, .u 0 2⟩,   -- CAN_NOM_RATE (R288)
  ⟨0x1800, 0x1, 1, 0x02, 0x02, .u8, .rwc, .configure, 0x3, .u 0 3⟩,   -- CAN_DATA_RATE (R288)
  ⟨0x1800, 0x1, 1, 0x03, 0x03, .u16, .rwc, .configure, 0x640, .sp .canReqId⟩,   -- CAN_REQ_ID (R288)
  ⟨0x1800, 0x1, 1, 0x04, 0x04, .u16, .rwc, .configure, 0x5C0, .sp .canRspId⟩,   -- CAN_RSP_ID (R288)
  ⟨0x1800, 0x1, 1, 0x05, 0x05, .u8, .rwc, .configure, 0x0, .u 0 3⟩,   -- CAN_RANK (R288)
  ⟨0x1800, 0x1, 1, 0x06, 0x06, .u8, .rwc, .configure, 0x2, .mask 3⟩,   -- CAN_CFG (R288)
  ⟨0x1800, 0x1, 1, 0x07, 0x07, .u8, .ro, .none, 0x0, .any⟩,   -- CAN_STATUS (R288)
  ⟨0x1800, 0x1, 1, 0x08, 0x08, .u16, .ro, .none, 0x0, .any⟩   -- CAN_ERR_COUNTERS (R288)
]

/-- Objects 0x1Axx of the dictionary, as the object tables of spec/ list them. -/
def Dict.rows1Aa : List Row := [
  ⟨0x1A00, 0x1, 1, 0x00, 0x00, .u8, .ro, .none, 0x9, .any⟩,   -- TIME_CFG_ENTRIES (R322)
  ⟨0x1A00, 0x1, 1, 0x01, 0x01, .u8, .rwc, .configure, 0x0, .u 0 1⟩,   -- TIME_MODE (R322)
  ⟨0x1A00, 0x1, 1, 0x02, 0x02, .u8, .rwc, .configure, 0x1, .mask 3⟩,   -- TIME_FLAGS (R322)
  ⟨0x1A00, 0x1, 1, 0x03, 0x03, .i32, .rwc, .configure, 0x0, .i (-2147483) 2147483⟩,   -- RATE_MANUAL (R322)
  ⟨0x1A00, 0x1, 1, 0x04, 0x04, .u16, .rwc, .configure, 0x7D0, .u 250 60000⟩,   -- SERVO_TC (R322)
  ⟨0x1A00, 0x1, 1, 0x05, 0x05, .u32, .rw, .write, 0x186A0, .u 1000 500000⟩,   -- SLEW_LIMIT (R322)
  ⟨0x1A00, 0x1, 1, 0x06, 0x06, .u32, .rw, .write, 0x64, .u 10 100000⟩,   -- LOCK_LIMIT (R322)
  ⟨0x1A00, 0x1, 1, 0x07, 0x07, .u32, .rw, .write, 0xC8, .u 20 1000000⟩,   -- PATH_STEP_LIMIT (R322)
  ⟨0x1A00, 0x1, 1, 0x08, 0x08, .u32, .rw, .write, 0x14, .u 1 10000⟩,   -- PDELAY_TOL (R322)
  ⟨0x1A00, 0x1, 1, 0x09, 0x09, .u8, .rw, .write, 0x0, .u 0 1⟩,   -- PREFERRED_DOMAIN (R322)
  ⟨0x1A01, 0x1, 1, 0x00, 0x00, .u8, .ro, .none, 0xB, .any⟩,   -- TIME_STATUS_ENTRIES (R322)
  ⟨0x1A01, 0x1, 1, 0x01, 0x01, .time80, .ro, .none, 0x0, .any⟩,   -- LOCAL_TIME (R322)
  ⟨0x1A01, 0x1, 1, 0x02, 0x02, .u8, .ro, .none, 0x0, .any⟩,   -- TIME_STATE (R322)
  ⟨0x1A01, 0x1, 1, 0x03, 0x03, .u8, .ro, .none, 0xFF, .any⟩,   -- ACTIVE_DOMAIN (R322)
  ⟨0x1A01, 0x1, 1, 0x04, 0x04, .i32, .ro, .none, 0x0, .any⟩,   -- RATE_IN_USE (R322)
  ⟨0x1A01, 0x1, 1, 0x05, 0x05, .i32, .ro, .none, 0x0, .any⟩,   -- FREQ_EST (R322)
  ⟨0x1A01, 0x1, 1, 0x06, 0x06, .i32, .ro, .none, 0x0, .any⟩,   -- TIME_OFFSET (R322)
  ⟨0x1A01, 0x1, 1, 0x07, 0x07, .u8, .ro, .none, 0x0, .any⟩,   -- STEP_STATE (R322)
  ⟨0x1A01, 0x1, 1, 0x08, 0x08, .time80, .ro, .none, 0x0, .any⟩,   -- STEP_FROM (R322)
  ⟨0x1A01, 0x1, 1, 0x09, 0x09, .time80, .ro, .none, 0x0, .any⟩,   -- STEP_TO (R322)
  ⟨0x1A01, 0x1, 1, 0x0A, 0x0A, .u8, .ro, .none, 0x0, .any⟩,   -- SAMPLE_PLL (R322)
  ⟨0x1A01, 0x1, 1, 0x0B, 0x0B, .i16, .ro, .none, 0x0, .any⟩,   -- UTC_OFFSET (R322)
  ⟨0x1A02, 0x1, 2, 0x00, 0x00, .u8, .ro, .none, 0x9, .any⟩,   -- DOMAIN_ENTRIES (R323)
  ⟨0x1A02, 0x1, 2, 0x01, 0x01, .u8, .rwc, .configure, 0x0, .sp .domainNumber⟩,   -- DOMAIN_NUMBER (R323)
  ⟨0x1A02, 0x1, 2, 0x02, 0x02, .u8, .rwc, .configure, 0x3, .u 2 10⟩,   -- ANNOUNCE_TIMEOUT (R323)
  ⟨0x1A02, 0x1, 2, 0x03, 0x03, .u8, .ro, .none, 0x0, .any⟩,   -- DOMAIN_STATE (R323)
  ⟨0x1A02, 0x1, 2, 0x04, 0x04, .u64, .ro, .none, 0x0, .any⟩,   -- GM_IDENTITY (R323)
  ⟨0x1A02, 0x1, 2, 0x05, 0x05, .u8, .ro, .none, 0xFF, .any⟩,   -- SYNC_PORT (R323)
  ⟨0x1A02, 0x1, 2, 0x06, 0x06, .i64, .ro, .none, 0x0, .any⟩,   -- DOMAIN_OFFSET (R323)
  ⟨0x1A02, 0x1, 2, 0x07, 0x07, .i32, .ro, .none, 0x0, .any⟩,   -- DOMAIN_RATIO (R323)
  ⟨0x1A02, 0x1, 2, 0x08, 0x08, .u32, .ro, .none, 0x0, .any⟩,   -- SYNC_USED (R323)
  ⟨0x1A02, 0x1, 2, 0x09, 0x09, .u32, .ro, .none, 0x0, .any⟩,   -- GM_CHANGES (R323)
  ⟨0x1A10, 0x1, 2, 0x00, 0x00, .u8, .ro, .none, 0xA, .any⟩,   -- PORT_TIME_ENTRIES (R324)
  ⟨0x1A10, 0x1, 2, 0x01, 0x01, .u32, .ro, .none, 0xDAC0, .any⟩,   -- RX_FIXED (R324)
  ⟨0x1A10, 0x1, 2, 0x02, 0x02, .u32, .ro, .none, 0xBB80, .any⟩,   -- TX_FIXED (R324)
  ⟨0x1A10, 0x1, 2, 0x03, 0x03, .u32, .rwc, .configure, 0x0, .u 0 2000000⟩,   -- PHY_RX_LATENCY (R324)
  ⟨0x1A10, 0x1, 2, 0x04, 0x04, .u32, .rwc, .configure, 0x0, .u 0 2000000⟩,   -- PHY_TX_LATENCY (R324)
  ⟨0x1A10, 0x1, 2, 0x05, 0x05, .i32, .rwc, .configure, 0x0, .i (-1000000) 1000000⟩,   -- ASYMMETRY (R324)
  ⟨0x1A10, 0x1, 2, 0x06, 0x06, .i16, .rwc, .configure, 0xFFFD, .i (-4) 3⟩,   -- LOG_PDELAY_INTERVAL (R324)
  ⟨0x1A10, 0x1, 2, 0x07, 0x07, .u8, .ro, .none, 0x0, .any⟩   -- PDELAY_STATE (R324)
]

/-- Objects 0x1Axx of the dictionary, as the object tables of spec/ list them. -/
def Dict.rows1Ab : List Row := [
  ⟨0x1A10, 0x1, 2, 0x08, 0x08, .u8, .ro, .none, 0x0, .any⟩,   -- PDELAY_RUN (R324)
  ⟨0x1A10, 0x1, 2, 0x09, 0x09, .u32, .ro, .none, 0x0, .any⟩,   -- MEAN_LINK_DELAY (R324)
  ⟨0x1A10, 0x1, 2, 0x0A, 0x0A, .i32, .ro, .none, 0x0, .any⟩   -- NEIGHBOR_RATIO (R324)
]

/-- Objects 0x20xx of the dictionary, as the object tables of spec/ list them. -/
def Dict.rows20a : List Row := [
  ⟨0x2000, 0x1, 1, 0x00, 0x00, .u8, .ro, .none, 0x7, .any⟩,   -- MODE_ENTRIES (R453)
  ⟨0x2000, 0x1, 1, 0x01, 0x01, .u8, .wo, .write, 0x0, .any⟩,   -- MODE_CMD (R453)
  ⟨0x2000, 0x1, 1, 0x02, 0x02, .u8, .ro, .none, 0x0, .any⟩,   -- MODE (R453)
  ⟨0x2000, 0x1, 1, 0x03, 0x03, .u8, .ro, .none, 0x0, .any⟩,   -- MODE_STATUS (R453)
  ⟨0x2000, 0x1, 1, 0x04, 0x04, .u16, .ro, .none, 0x0, .any⟩,   -- MODE_REFUSE (R453)
  ⟨0x2000, 0x1, 1, 0x05, 0x05, .time80, .ro, .none, 0x0, .any⟩,   -- LAST_MODE_LT (R453)
  ⟨0x2000, 0x1, 1, 0x06, 0x06, .u8, .rwc, .configure, 0x0, .u 0 1⟩,   -- BOOT_TARGET (R453)
  ⟨0x2000, 0x1, 1, 0x07, 0x07, .u8, .ro, .none, 0x0, .any⟩,   -- CAL_STATE (R453)
  ⟨0x2001, 0x1, 1, 0x00, 0x00, .u8, .ro, .none, 0x7, .any⟩,   -- STORE_ENTRIES (R453)
  ⟨0x2001, 0x1, 1, 0x01, 0x01, .u8, .wo, .write, 0x0, .any⟩,   -- STORE_CMD (R453)
  ⟨0x2001, 0x1, 1, 0x02, 0x02, .u8, .ro, .none, 0x0, .any⟩,   -- STORE_STATE (R453)
  ⟨0x2001, 0x1, 1, 0x03, 0x03, .u8, .ro, .none, 0xFF, .any⟩,   -- STORE_SLOT (R453)
  ⟨0x2001, 0x1, 1, 0x04, 0x04, .u32, .ro, .none, 0x0, .any⟩,   -- STORE_GENERATION (R453)
  ⟨0x2001, 0x1, 1, 0x05, 0x05, .u32, .ro, .none, 0x0, .any⟩,   -- STORE_BYTES (R453)
  ⟨0x2001, 0x1, 1, 0x06, 0x06, .u32, .ro, .none, 0x0, .any⟩,   -- STORE_SKIPPED (R453)
  ⟨0x2001, 0x1, 1, 0x07, 0x07, .u32, .ro, .none, 0x0, .any⟩,   -- FLASH_SIZE (R453)
  ⟨0x2010, 0x1, 1, 0x00, 0x00, .u8, .ro, .none, 0x8, .any⟩,   -- POUND_ENTRIES (R50)
  ⟨0x2010, 0x1, 1, 0x01, 0x01, .u8, .wo, .write, 0x0, .any⟩,   -- POUND_COMMIT (R50)
  ⟨0x2010, 0x1, 1, 0x02, 0x02, .u8, .ro, .none, 0x0, .any⟩,   -- POUND_STATE (R50)
  ⟨0x2010, 0x1, 1, 0x03, 0x03, .u16, .ro, .none, 0x0, .any⟩,   -- POUND_PENDING (R50)
  ⟨0x2010, 0x1, 1, 0x04, 0x04, .time80, .ro, .none, 0x0, .any⟩,   -- LAST_COMMIT_LT (R50)
  ⟨0x2010, 0x1, 1, 0x05, 0x05, .time80, .ro, .none, 0x0, .any⟩,   -- LAST_LOCKAGE_LT (R50)
  ⟨0x2010, 0x1, 1, 0x06, 0x06, .u32, .ro, .none, 0x0, .any⟩,   -- LOCKAGE_COUNT (R50)
  ⟨0x2010, 0x1, 1, 0x07, 0x07, .u32, .ro, .none, 0x0, .any⟩,   -- POUND_DISCARDED (R50)
  ⟨0x2010, 0x1, 1, 0x08, 0x08, .u32, .ro, .none, 0x0, .any⟩,   -- CHECK_FAIL_OBJECT (R50)
  ⟨0x2011, 0x1, 1, 0x00, 0x00, .u8, .ro, .none, 0x8, .any⟩,   -- POUND_ENTRIES (R50)
  ⟨0x2011, 0x1, 1, 0x01, 0x01, .u8, .wo, .write, 0x0, .any⟩,   -- POUND_COMMIT (R50)
  ⟨0x2011, 0x1, 1, 0x02, 0x02, .u8, .ro, .none, 0x0, .any⟩,   -- POUND_STATE (R50)
  ⟨0x2011, 0x1, 1, 0x03, 0x03, .u16, .ro, .none, 0x0, .any⟩,   -- POUND_PENDING (R50)
  ⟨0x2011, 0x1, 1, 0x04, 0x04, .time80, .ro, .none, 0x0, .any⟩,   -- LAST_COMMIT_LT (R50)
  ⟨0x2011, 0x1, 1, 0x05, 0x05, .time80, .ro, .none, 0x0, .any⟩,   -- LAST_LOCKAGE_LT (R50)
  ⟨0x2011, 0x1, 1, 0x06, 0x06, .u32, .ro, .none, 0x0, .any⟩,   -- LOCKAGE_COUNT (R50)
  ⟨0x2011, 0x1, 1, 0x07, 0x07, .u32, .ro, .none, 0x0, .any⟩,   -- POUND_DISCARDED (R50)
  ⟨0x2011, 0x1, 1, 0x08, 0x08, .u32, .ro, .none, 0x0, .any⟩,   -- CHECK_FAIL_OBJECT (R50)
  ⟨0x2020, 0x1, 1, 0x00, 0x00, .u8, .ro, .none, 0x7, .any⟩,   -- EVENT_LOG_ENTRIES (R433)
  ⟨0x2020, 0x1, 1, 0x01, 0x01, .u32, .ro, .none, 0x0, .any⟩,   -- NEXT_SEQ (R433)
  ⟨0x2020, 0x1, 1, 0x02, 0x02, .u32, .ro, .none, 0x0, .any⟩,   -- OLDEST_SEQ (R433)
  ⟨0x2020, 0x1, 1, 0x03, 0x03, .u32, .rw, .write, 0x0, .any⟩,   -- EVENT_RD_SEQ (R433)
  ⟨0x2020, 0x1, 1, 0x04, 0x04, .domain, .ro, .none, 0x0, .any⟩,   -- EVENT_RD_DATA (R433)
  ⟨0x2020, 0x1, 1, 0x05, 0x05, .u32, .ro, .none, 0x0, .any⟩   -- LOST_COUNT (R433)
]

/-- Objects 0x20xx of the dictionary, as the object tables of spec/ list them. -/
def Dict.rows20b : List Row := [
  ⟨0x2020, 0x1, 1, 0x06, 0x06, .u16, .ro, .none, 0x0, .any⟩,   -- RESTORED_COUNT (R433)
  ⟨0x2020, 0x1, 1, 0x07, 0x07, .u8, .ro, .none, 0x1, .any⟩,   -- PERSIST_STATE (R433)
  ⟨0x2021, 0x1, 1, 0x00, 0x00, .u8, .ro, .none, 0x7, .any⟩,   -- LOCK_KEEPER_ENTRIES (R433)
  ⟨0x2021, 0x1, 1, 0x01, 0x01, .u8, .ro, .none, 0x0, .any⟩,   -- LK_STATE (R433)
  ⟨0x2021, 0x1, 1, 0x02, 0x02, .u32, .ro, .none, 0x0, .any⟩,   -- LK_TRIGGER_SEQ (R433)
  ⟨0x2021, 0x1, 1, 0x03, 0x03, .u8, .ro, .none, 0x0, .any⟩,   -- LK_QUEUED (R433)
  ⟨0x2021, 0x1, 1, 0x04, 0x04, .u32, .ro, .none, 0x0, .any⟩,   -- FAULT_SUMMARY (R433)
  ⟨0x2021, 0x1, 1, 0x05, 0x05, .u64, .ro, .none, 0x0, .any⟩,   -- AXES_FAULTED (R433)
  ⟨0x2021, 0x1, 1, 0x06, 0x06, .u8, .wo, .write, 0x0, .any⟩,   -- FAULT_CLEAR (R433)
  ⟨0x2021, 0x1, 1, 0x07, 0x07, .u32, .ro, .none, 0x0, .any⟩,   -- LAST_REACTION_TIME (R433)
  ⟨0x2022, 0x1, 1, 0x00, 0x00, .u8, .ro, .none, 0x5, .any⟩,   -- PARK_ENTRIES (R433)
  ⟨0x2022, 0x1, 1, 0x01, 0x01, .u32, .wo, .write, 0x0, .any⟩,   -- PARK_CMD (R433)
  ⟨0x2022, 0x1, 1, 0x02, 0x02, .u8, .ro, .none, 0x0, .any⟩,   -- TILES_PARKED (R433)
  ⟨0x2022, 0x1, 1, 0x03, 0x03, .u8, .ro, .none, 0x0, .any⟩,   -- ENGINES_PARKED (R433)
  ⟨0x2022, 0x1, 1, 0x04, 0x04, .u64, .ro, .none, 0x0, .any⟩,   -- AXES_PARKED (R433)
  ⟨0x2022, 0x1, 1, 0x05, 0x05, .u8, .ro, .none, 0x0, .any⟩,   -- PORTS_PARKED (R433)
  ⟨0x2040, 0x1, 1, 0x00, 0x00, .u8, .ro, .none, 0x5, .any⟩,   -- LAYER_ENTRIES (R213)
  ⟨0x2040, 0x1, 1, 0x01, 0x01, .u8, .rws, .layer, 0x0, .u 0 1⟩,   -- LAYER_BUFFER (R213)
  ⟨0x2040, 0x1, 1, 0x02, 0x02, .u32, .rws, .layer, 0x0, .any⟩,   -- LAYER_NUMBER (R213)
  ⟨0x2040, 0x1, 1, 0x03, 0x03, .time80, .rws, .layer, 0x0, .sp .layerStartLt⟩,   -- LAYER_START_LT (R213)
  ⟨0x2040, 0x1, 1, 0x04, 0x04, .u8, .ro, .none, 0x0, .any⟩,   -- LAYER_STATE (R213)
  ⟨0x2040, 0x1, 1, 0x05, 0x05, .u32, .ro, .none, 0x0, .any⟩,   -- LAYER_IN_USE (R213)
  ⟨0x2041, 0x1, 1, 0x01, 0x10, .u32, .rws, .layer, 0x0, .u 0 8388607⟩,   -- STREAM_START (R213)
  ⟨0x2041, 0x1, 1, 0x00, 0x00, .u8, .ro, .none, 0x10, .any⟩,   -- (highest subindex) (R336)
  ⟨0x2042, 0x1, 1, 0x01, 0x10, .u32, .rws, .layer, 0x0, .u 0 8388608⟩,   -- STREAM_LEN (R213)
  ⟨0x2042, 0x1, 1, 0x00, 0x00, .u8, .ro, .none, 0x10, .any⟩,   -- (highest subindex) (R336)
  ⟨0x2050, 0x1, 1, 0x01, 0x40, .u32, .rws, .layer, 0x0, .u 0 1048575⟩,   -- PROFILE_START (R261)
  ⟨0x2050, 0x1, 1, 0x00, 0x00, .u8, .ro, .none, 0x40, .any⟩,   -- (highest subindex) (R336)
  ⟨0x2051, 0x1, 1, 0x01, 0x40, .u32, .rws, .layer, 0x0, .u 0 1048576⟩,   -- PROFILE_LEN (R261)
  ⟨0x2051, 0x1, 1, 0x00, 0x00, .u8, .ro, .none, 0x40, .any⟩,   -- (highest subindex) (R336)
  ⟨0x2052, 0x1, 1, 0x01, 0x40, .u16, .rws, .layer, 0x1, .u 1 65535⟩,   -- PROFILE_INTERVAL (R261)
  ⟨0x2052, 0x1, 1, 0x00, 0x00, .u8, .ro, .none, 0x40, .any⟩,   -- (highest subindex) (R336)
  ⟨0x2053, 0x1, 1, 0x00, 0x00, .u8, .ro, .none, 0x2, .any⟩,   -- PROFILE_WR_ENTRIES (R261)
  ⟨0x2053, 0x1, 1, 0x01, 0x01, .u32, .rw, .write, 0x0, .u 0 1048575⟩,   -- PROFILE_WR_ADDR (R261)
  ⟨0x2053, 0x1, 1, 0x02, 0x02, .domain, .rw, .write, 0x0, .any⟩,   -- PROFILE_WR_DATA (R261)
  ⟨0x2060, 0x1, 1, 0x01, 0x08, .u16, .rwc, .configure, 0x100, .u 256 65535⟩,   -- BUS_RATIO (R261)
  ⟨0x2060, 0x1, 1, 0x09, 0x10, .u16, .ro, .none, 0x0, .any⟩,   -- BUS_VALUE (R261)
  ⟨0x2060, 0x1, 1, 0x11, 0x18, .u16, .rw, .write, 0x0, .any⟩,   -- BUS_LOW_LIMIT (R261)
  ⟨0x2060, 0x1, 1, 0x00, 0x00, .u8, .ro, .none, 0x18, .any⟩,   -- (highest subindex) (R336)
  ⟨0x2061, 0x1, 1, 0x00, 0x00, .u8, .ro, .none, 0x3, .any⟩   -- CLEAR_ENTRIES (R261)
]

/-- Objects 0x20xx of the dictionary, as the object tables of spec/ list them. -/
def Dict.rows20c : List Row := [
  ⟨0x2061, 0x1, 1, 0x01, 0x01, .u8, .ro, .none, 0x0, .any⟩,   -- CLEAR_PINS (R261)
  ⟨0x2061, 0x1, 1, 0x02, 0x02, .u32, .ro, .none, 0x0, .any⟩,   -- CLEAR_AX_COUNT (R261)
  ⟨0x2061, 0x1, 1, 0x03, 0x03, .u32, .ro, .none, 0x0, .any⟩   -- CLEAR_LM_COUNT (R261)
]

/-- Objects 0x21xx of the dictionary, as the object tables of spec/ list them, tile t at index + 0x10·t: BIAS_LEVEL, THERM_0
and THERM_1 of R88 among them. -/
def Dict.rows21a : List Row := [
  ⟨0x2100, 0x10, 8, 0x00, 0x00, .u8, .ro, .none, 0x10, .any⟩,   -- TILE_FILTER_ENTRIES (R131)
  ⟨0x2100, 0x10, 8, 0x01, 0x01, .u8, .rwc, .configure, 0x0, .sp .demodPeriod⟩,   -- DEMOD_PERIOD (R131)
  ⟨0x2100, 0x10, 8, 0x02, 0x02, .u8, .rws, .loop, 0x2, .u 0 3⟩,   -- DC_CORNER (R131)
  ⟨0x2100, 0x10, 8, 0x03, 0x03, .u8, .rws, .loop, 0x0, .mask 1⟩,   -- DC_FREEZE (R131)
  ⟨0x2100, 0x10, 8, 0x04, 0x04, .u16, .ro, .none, 0x0, .any⟩,   -- FILT_CHECK (R131)
  ⟨0x2100, 0x10, 8, 0x05, 0x0A, .i16, .ro, .none, 0x0, .any⟩,   -- EXC_PHASE_CAL (R131)
  ⟨0x2100, 0x10, 8, 0x0B, 0x10, .u32, .ro, .none, 0x0, .any⟩,   -- CAL_FREQ (R131)
  ⟨0x2101, 0x10, 8, 0x01, 0x30, .u8, .rwc, .configure, 0x0, .sp .pinRole⟩,   -- PIN_ROLE (R83)
  ⟨0x2101, 0x10, 8, 0x00, 0x00, .u8, .ro, .none, 0x30, .any⟩,   -- (highest subindex) (R336)
  ⟨0x2102, 0x10, 8, 0x01, 0x06, .u32, .rws, .loop, 0x41893, .sp .excFreq⟩,   -- EXC_FREQ (R69)
  ⟨0x2102, 0x10, 8, 0x00, 0x00, .u8, .ro, .none, 0x6, .any⟩,   -- (highest subindex) (R336)
  ⟨0x2103, 0x10, 8, 0x01, 0x06, .u16, .rws, .loop, 0x100, .u 64 1024⟩,   -- EXC_AMPL (R69)
  ⟨0x2103, 0x10, 8, 0x00, 0x00, .u8, .ro, .none, 0x6, .any⟩,   -- (highest subindex) (R336)
  ⟨0x2104, 0x10, 8, 0x01, 0x06, .u8, .rwc, .configure, 0x0, .mask 3⟩,   -- EXC_CONFIG (R69)
  ⟨0x2104, 0x10, 8, 0x00, 0x00, .u8, .ro, .none, 0x6, .any⟩,   -- (highest subindex) (R336)
  ⟨0x2105, 0x10, 8, 0x01, 0x06, .u32, .ro, .none, 0x0, .any⟩,   -- EXC_STATUS (R69)
  ⟨0x2105, 0x10, 8, 0x00, 0x00, .u8, .ro, .none, 0x6, .any⟩,   -- (highest subindex) (R336)
  ⟨0x2106, 0x10, 8, 0x01, 0x0C, .u16, .rwc, .configure, 0x4100, .sp .ampMode⟩,   -- AMP_MODE (R83)
  ⟨0x2106, 0x10, 8, 0x00, 0x00, .u8, .ro, .none, 0xC, .any⟩,   -- (highest subindex) (R336)
  ⟨0x2107, 0x10, 8, 0x01, 0x0C, .u32, .rwc, .configure, 0x10, .sp .ampReset⟩,   -- AMP_RESET (R83)
  ⟨0x2107, 0x10, 8, 0x00, 0x00, .u8, .ro, .none, 0xC, .any⟩,   -- (highest subindex) (R336)
  ⟨0x2108, 0x10, 8, 0x01, 0x0C, .u32, .ro, .none, 0x0, .any⟩,   -- AMP_CLIP_COUNT (R83)
  ⟨0x2108, 0x10, 8, 0x00, 0x00, .u8, .ro, .none, 0xC, .any⟩,   -- (highest subindex) (R336)
  ⟨0x2109, 0x10, 8, 0x01, 0x04, .u16, .rws, .loop, 0x0, .sp .biasLevel⟩,   -- BIAS_LEVEL (R88)
  ⟨0x2109, 0x10, 8, 0x00, 0x00, .u8, .ro, .none, 0x4, .any⟩,   -- (highest subindex) (R336)
  ⟨0x210A, 0x10, 8, 0x00, 0x00, .u8, .ro, .none, 0x7, .any⟩,   -- THERM_ENTRIES (R88)
  ⟨0x210A, 0x10, 8, 0x01, 0x01, .u8, .rwc, .configure, 0xFF, .sp .thermChannel⟩,   -- THERM_CHANNEL (R88)
  ⟨0x210A, 0x10, 8, 0x02, 0x02, .u8, .rwc, .configure, 0x0, .u 0 3⟩,   -- THERM_BIAS (R88)
  ⟨0x210A, 0x10, 8, 0x03, 0x03, .u32, .rwc, .configure, 0x2710, .u 100 1000000⟩,   -- THERM_RSERIES (R88)
  ⟨0x210A, 0x10, 8, 0x04, 0x04, .u32, .rwc, .configure, 0x2710, .u 100 1000000⟩,   -- THERM_RNOM (R88)
  ⟨0x210A, 0x10, 8, 0x05, 0x05, .u16, .rwc, .configure, 0xD6B, .u 1000 10000⟩,   -- THERM_BETA (R88)
  ⟨0x210A, 0x10, 8, 0x06, 0x06, .i16, .ro, .none, 0x0, .any⟩,   -- THERM_TEMP (R88)
  ⟨0x210A, 0x10, 8, 0x07, 0x07, .u8, .ro, .none, 0x0, .any⟩,   -- THERM_STATUS (R88)
  ⟨0x210B, 0x10, 8, 0x00, 0x00, .u8, .ro, .none, 0x7, .any⟩,   -- THERM_ENTRIES (R88)
  ⟨0x210B, 0x10, 8, 0x01, 0x01, .u8, .rwc, .configure, 0xFF, .sp .thermChannel⟩,   -- THERM_CHANNEL (R88)
  ⟨0x210B, 0x10, 8, 0x02, 0x02, .u8, .rwc, .configure, 0x0, .u 0 3⟩,   -- THERM_BIAS (R88)
  ⟨0x210B, 0x10, 8, 0x03, 0x03, .u32, .rwc, .configure, 0x2710, .u 100 1000000⟩,   -- THERM_RSERIES (R88)
  ⟨0x210B, 0x10, 8, 0x04, 0x04, .u32, .rwc, .configure, 0x2710, .u 100 1000000⟩,   -- THERM_RNOM (R88)
  ⟨0x210B, 0x10, 8, 0x05, 0x05, .u16, .rwc, .configure, 0xD6B, .u 1000 10000⟩,   -- THERM_BETA (R88)
  ⟨0x210B, 0x10, 8, 0x06, 0x06, .i16, .ro, .none, 0x0, .any⟩   -- THERM_TEMP (R88)
]

/-- Objects 0x21xx of the dictionary, as the object tables of spec/ list them, tile t at index + 0x10·t: the rest of
THERM_1, TEMP_DIE, XP_CHECK and CAL_VALID of R88 among them. -/
def Dict.rows21b : List Row := [
  ⟨0x210B, 0x10, 8, 0x07, 0x07, .u8, .ro, .none, 0x0, .any⟩,   -- THERM_STATUS (R88)
  ⟨0x210C, 0x10, 8, 0x01, 0x01, .i16, .ro, .none, 0x0, .any⟩,   -- TEMP_DIE (R88)
  ⟨0x210C, 0x10, 8, 0x02, 0x02, .u16, .ro, .none, 0x0, .any⟩,   -- XP_CHECK (R88)
  ⟨0x210C, 0x10, 8, 0x03, 0x03, .bool, .ro, .none, 0x0, .any⟩,   -- CAL_VALID (R88)
  ⟨0x210C, 0x10, 8, 0x00, 0x00, .u8, .ro, .none, 0x3, .any⟩,   -- (highest subindex) (R336)
  ⟨0x210D, 0x10, 8, 0x01, 0x30, .u16, .rws, .loop, 0x0, .sp .pullCfg⟩,   -- PULL_CFG (R110)
  ⟨0x210D, 0x10, 8, 0x00, 0x00, .u8, .ro, .none, 0x30, .any⟩,   -- (highest subindex) (R336)
  ⟨0x210E, 0x10, 8, 0x00, 0x00, .u8, .ro, .none, 0x6, .any⟩,   -- CM_ENTRIES (R110)
  ⟨0x210E, 0x10, 8, 0x01, 0x01, .i16, .rws, .loop, 0x1F4, .i (0) 5000⟩,   -- IN_CM_LOW (R110)
  ⟨0x210E, 0x10, 8, 0x02, 0x02, .i16, .rws, .loop, 0x1194, .i (0) 5000⟩,   -- IN_CM_HIGH (R110)
  ⟨0x210E, 0x10, 8, 0x03, 0x03, .i16, .rws, .loop, 0xF060, .i (-5000) 5000⟩,   -- SNS_CM_LOW (R110)
  ⟨0x210E, 0x10, 8, 0x04, 0x04, .i16, .rws, .loop, 0xFA0, .i (-5000) 5000⟩,   -- SNS_CM_HIGH (R110)
  ⟨0x210E, 0x10, 8, 0x05, 0x05, .u8, .rws, .loop, 0x14, .u 1 255⟩,   -- CM_DWELL (R110)
  ⟨0x210E, 0x10, 8, 0x06, 0x06, .u64, .ro, .none, 0x0, .any⟩,   -- CM_STATUS (R110)
  ⟨0x210F, 0x10, 8, 0x00, 0x00, .u8, .ro, .none, 0x4, .any⟩,   -- EXC_SUP_ENTRIES (R110)
  ⟨0x210F, 0x10, 8, 0x01, 0x01, .u16, .rws, .loop, 0x2BC, .u 100 1000⟩,   -- EXC_AMP_LOW (R110)
  ⟨0x210F, 0x10, 8, 0x02, 0x02, .u16, .rws, .loop, 0x41A, .u 1000 1500⟩,   -- EXC_AMP_HIGH (R110)
  ⟨0x210F, 0x10, 8, 0x03, 0x03, .u16, .rws, .loop, 0x400, .u 16 16384⟩,   -- EXC_PHASE_LIMIT (R110)
  ⟨0x210F, 0x10, 8, 0x04, 0x04, .u32, .ro, .none, 0x0, .any⟩   -- EXC_SUP_STATUS (R110)
]

/-- Objects 0x30xx of the dictionary, as the object tables of spec/ list them. -/
def Dict.rows30a : List Row := [
  ⟨0x3001, 0x40, 48, 0x00, 0x00, .u8, .ro, .none, 0x5, .any⟩,   -- FE_ASSIGN_ENTRIES (R59)
  ⟨0x3001, 0x40, 48, 0x01, 0x01, .u8, .rwc, .configure, 0x0, .u 0 3⟩,   -- SENSOR_KIND (R59)
  ⟨0x3001, 0x40, 48, 0x02, 0x02, .u8, .rwc, .configure, 0x0, .u 0 5⟩,   -- PAIR_PRIMARY (R59)
  ⟨0x3001, 0x40, 48, 0x03, 0x03, .u8, .rwc, .configure, 0xFF, .sp .pairFine⟩,   -- PAIR_FINE (R59)
  ⟨0x3001, 0x40, 48, 0x04, 0x04, .u8, .rwc, .configure, 0x0, .u 0 5⟩,   -- EXC_DRIVER (R59)
  ⟨0x3001, 0x40, 48, 0x05, 0x05, .u8, .rwc, .configure, 0xFF, .sp .setpointAmp⟩,   -- SETPOINT_AMP (R59)
  ⟨0x3002, 0x40, 48, 0x00, 0x00, .u8, .ro, .none, 0x4, .any⟩,   -- AXIS_FILTER_ENTRIES (R132)
  ⟨0x3002, 0x40, 48, 0x01, 0x01, .u16, .rwc, .configure, 0x3E8, .u 1 1024⟩,   -- MA_LENGTH (R132)
  ⟨0x3002, 0x40, 48, 0x02, 0x02, .u8, .rwc, .configure, 0x4, .u 0 31⟩,   -- RESPONSE (R132)
  ⟨0x3002, 0x40, 48, 0x03, 0x03, .u16, .ro, .none, 0x42D, .any⟩,   -- GD_TABULATED (R132)
  ⟨0x3002, 0x40, 48, 0x04, 0x04, .u16, .ro, .none, 0x415, .any⟩,   -- GD_EXACT (R132)
  ⟨0x3003, 0x40, 48, 0x00, 0x00, .u8, .ro, .none, 0x5, .any⟩,   -- AXIS_DEMOD_ENTRIES (R132)
  ⟨0x3003, 0x40, 48, 0x01, 0x01, .i16, .ro, .none, 0x0, .any⟩,   -- DEMOD_PHASE_CAL (R132)
  ⟨0x3003, 0x40, 48, 0x02, 0x02, .i16, .ro, .none, 0x0, .any⟩,   -- DEMOD_PHASE_CAL_FINE (R132)
  ⟨0x3003, 0x40, 48, 0x03, 0x03, .i16, .rws, .loop, 0x0, .any⟩,   -- DEMOD_PHASE_TRIM (R132)
  ⟨0x3003, 0x40, 48, 0x04, 0x04, .i16, .rws, .loop, 0x0, .any⟩,   -- DEMOD_PHASE_TRIM_FINE (R132)
  ⟨0x3003, 0x40, 48, 0x05, 0x05, .u8, .ro, .none, 0x1, .any⟩,   -- DEMOD_STATUS (R132)
  ⟨0x3004, 0x40, 48, 0x00, 0x00, .u8, .ro, .none, 0x4, .any⟩,   -- CORR_ENTRIES (R132)
  ⟨0x3004, 0x40, 48, 0x01, 0x01, .i32, .rws, .loop, 0x0, .i (-1073741824) 1073741824⟩,   -- CORR_OFFSET_S (R132)
  ⟨0x3004, 0x40, 48, 0x02, 0x02, .i32, .rws, .loop, 0x0, .i (-1073741824) 1073741824⟩,   -- CORR_OFFSET_C (R132)
  ⟨0x3004, 0x40, 48, 0x03, 0x03, .i32, .rws, .loop, 0x40000000, .i (536870912) 2147483647⟩,   -- CORR_KCC (R132)
  ⟨0x3004, 0x40, 48, 0x04, 0x04, .i32, .rws, .loop, 0x0, .i (-268435456) 268435456⟩,   -- CORR_KCS (R132)
  ⟨0x3005, 0x40, 48, 0x00, 0x00, .u8, .ro, .none, 0x4, .any⟩,   -- CORR_ENTRIES (R132)
  ⟨0x3005, 0x40, 48, 0x01, 0x01, .i32, .rws, .loop, 0x0, .i (-1073741824) 1073741824⟩,   -- CORR_OFFSET_S (R132)
  ⟨0x3005, 0x40, 48, 0x02, 0x02, .i32, .rws, .loop, 0x0, .i (-1073741824) 1073741824⟩,   -- CORR_OFFSET_C (R132)
  ⟨0x3005, 0x40, 48, 0x03, 0x03, .i32, .rws, .loop, 0x40000000, .i (536870912) 2147483647⟩,   -- CORR_KCC (R132)
  ⟨0x3005, 0x40, 48, 0x04, 0x04, .i32, .rws, .loop, 0x0, .i (-268435456) 268435456⟩,   -- CORR_KCS (R132)
  ⟨0x3006, 0x40, 48, 0x00, 0x00, .u8, .ro, .none, 0x5, .any⟩,   -- GEOM_ENTRIES (R135)
  ⟨0x3006, 0x40, 48, 0x01, 0x01, .u8, .rwc, .configure, 0x1, .u 1 32⟩,   -- ELEC_RATIO (R135)
  ⟨0x3006, 0x40, 48, 0x02, 0x02, .u8, .rwc, .configure, 0x10, .u 2 32⟩,   -- DS_RATIO (R135)
  ⟨0x3006, 0x40, 48, 0x03, 0x03, .u8, .rwc, .configure, 0x0, .mask 1⟩,   -- ANGLE_DIR (R135)
  ⟨0x3006, 0x40, 48, 0x04, 0x04, .u32, .rwc, .configure, 0x0, .any⟩,   -- ANGLE_ZERO (R135)
  ⟨0x3006, 0x40, 48, 0x05, 0x05, .u32, .rwc, .configure, 0x0, .any⟩,   -- ACQ_REF (R135)
  ⟨0x3007, 0x40, 48, 0x00, 0x00, .u8, .ro, .none, 0x7, .any⟩,   -- OBS_ENTRIES (R160)
  ⟨0x3007, 0x40, 48, 0x01, 0x01, .u8, .rws, .loop, 0x1, .mask 1⟩,   -- OBS_ACC_FEED (R160)
  ⟨0x3007, 0x40, 48, 0x02, 0x02, .u32, .rws, .loop, 0x2710, .u 1000 40000⟩,   -- OBS_BANDWIDTH (R160)
  ⟨0x3007, 0x40, 48, 0x03, 0x03, .u16, .rws, .loop, 0x2000, .u 1024 16384⟩,   -- OBS_SLIP_LIMIT (R160)
  ⟨0x3007, 0x40, 48, 0x04, 0x04, .u16, .rws, .loop, 0x10, .u 1 1024⟩,   -- ACQ_ERR_LIMIT (R160)
  ⟨0x3007, 0x40, 48, 0x05, 0x05, .u16, .rws, .loop, 0x0, .sp .acqMinOutputs⟩,   -- ACQ_MIN_OUTPUTS (R160)
  ⟨0x3007, 0x40, 48, 0x06, 0x06, .u16, .rws, .loop, 0x4000, .u 4096 16384⟩   -- DS_LIMIT (R160)
]

/-- Objects 0x30xx of the dictionary, as the object tables of spec/ list them. -/
def Dict.rows30b : List Row := [
  ⟨0x3007, 0x40, 48, 0x07, 0x07, .u8, .rws, .loop, 0x4, .u 1 255⟩,   -- DS_DWELL (R160)
  ⟨0x3008, 0x40, 48, 0x00, 0x00, .u8, .ro, .none, 0xC, .any⟩,   -- OBS_STATE_ENTRIES (R161)
  ⟨0x3008, 0x40, 48, 0x01, 0x01, .u64, .ro, .none, 0x0, .any⟩,   -- OBS_K1 (R161)
  ⟨0x3008, 0x40, 48, 0x02, 0x02, .u64, .ro, .none, 0x0, .any⟩,   -- OBS_K2 (R161)
  ⟨0x3008, 0x40, 48, 0x03, 0x03, .u64, .ro, .none, 0x0, .any⟩,   -- OBS_K3 (R161)
  ⟨0x3008, 0x40, 48, 0x04, 0x04, .u32, .ro, .none, 0x2710, .any⟩,   -- OBS_BW_IN_USE (R161)
  ⟨0x3008, 0x40, 48, 0x05, 0x05, .i32, .ro, .none, 0x0, .any⟩,   -- OBS_ERROR (R161)
  ⟨0x3008, 0x40, 48, 0x06, 0x06, .i32, .ro, .none, 0x0, .any⟩,   -- OBS_DEV_ACC (R161)
  ⟨0x3008, 0x40, 48, 0x07, 0x07, .u32, .ro, .none, 0x0, .any⟩,   -- ACQ_OUTPUTS (R161)
  ⟨0x3008, 0x40, 48, 0x08, 0x08, .u32, .ro, .none, 0x0, .any⟩,   -- ACQ_COUNT (R161)
  ⟨0x3008, 0x40, 48, 0x09, 0x09, .u8, .ro, .none, 0x0, .any⟩,   -- ACQ_CAUSE (R161)
  ⟨0x3008, 0x40, 48, 0x0A, 0x0A, .u32, .ro, .none, 0x0, .any⟩,   -- FEED_MISS (R161)
  ⟨0x3008, 0x40, 48, 0x0B, 0x0B, .u32, .ro, .none, 0x0, .any⟩,   -- SLIP_COUNT (R161)
  ⟨0x3008, 0x40, 48, 0x0C, 0x0C, .i16, .ro, .none, 0x0, .any⟩,   -- DS_DEVIATION (R161)
  ⟨0x3009, 0x40, 48, 0x00, 0x00, .u8, .ro, .none, 0xA, .any⟩,   -- LIN_ENTRIES (R155)
  ⟨0x3009, 0x40, 48, 0x01, 0x01, .u8, .rws, .loop, 0x0, .mask 1⟩,   -- LIN_ENABLE (R155)
  ⟨0x3009, 0x40, 48, 0x02, 0x02, .u32, .rws, .loop, 0x0, .any⟩,   -- LIN_CENTRE (R155)
  ⟨0x3009, 0x40, 48, 0x03, 0x03, .u32, .rws, .loop, 0x80000000, .u 1048576 2147483648⟩,   -- LIN_HALFSPAN (R155)
  ⟨0x3009, 0x40, 48, 0x04, 0x04, .u8, .rws, .loop, 0x0, .u 0 3⟩,   -- LIN_TEMP_SRC (R155)
  ⟨0x3009, 0x40, 48, 0x05, 0x05, .i16, .rws, .loop, 0xDAC, .i (-4000) 12500⟩,   -- LIN_TEMP_CENTRE (R155)
  ⟨0x3009, 0x40, 48, 0x06, 0x06, .u16, .rws, .loop, 0x9C4, .u 100 10000⟩,   -- LIN_TEMP_HALFSPAN (R155)
  ⟨0x3009, 0x40, 48, 0x07, 0x07, .i16, .rws, .loop, 0xDAC, .i (-4000) 12500⟩,   -- LIN_TEMP_FIXED (R155)
  ⟨0x3009, 0x40, 48, 0x08, 0x08, .u8, .ro, .none, 0x0, .any⟩,   -- LIN_STATUS (R155)
  ⟨0x3009, 0x40, 48, 0x09, 0x09, .i32, .ro, .none, 0x0, .any⟩,   -- LIN_CORRECTION (R155)
  ⟨0x3009, 0x40, 48, 0x0A, 0x0A, .i16, .ro, .none, 0xDAC, .any⟩,   -- LIN_TEMP_USED (R155)
  ⟨0x300A, 0x40, 48, 0x01, 0x20, .i32, .rws, .loop, 0x0, .any⟩,   -- LIN_COEFF (R155)
  ⟨0x300A, 0x40, 48, 0x00, 0x00, .u8, .ro, .none, 0x20, .any⟩,   -- (highest subindex) (R336)
  ⟨0x300B, 0x40, 48, 0x00, 0x00, .u8, .ro, .none, 0x6, .any⟩,   -- OUTPUT_ENTRIES (R159)
  ⟨0x300B, 0x40, 48, 0x01, 0x01, .u32, .ro, .none, 0x0, .any⟩,   -- ANGLE (R159)
  ⟨0x300B, 0x40, 48, 0x02, 0x02, .i16, .ro, .none, 0x0, .any⟩,   -- TURN_COUNT (R159)
  ⟨0x300B, 0x40, 48, 0x03, 0x03, .i32, .ro, .none, 0x0, .any⟩,   -- SPEED (R159)
  ⟨0x300B, 0x40, 48, 0x04, 0x04, .i32, .ro, .none, 0x0, .any⟩,   -- ACCEL (R159)
  ⟨0x300B, 0x40, 48, 0x05, 0x05, .u16, .ro, .none, 0x0, .any⟩,   -- ANGLE_STATUS (R159)
  ⟨0x300B, 0x40, 48, 0x06, 0x06, .time80, .ro, .none, 0x0, .any⟩,   -- ANGLE_TAG (R159)
  ⟨0x300C, 0x40, 48, 0x00, 0x00, .u8, .ro, .none, 0x4, .any⟩,   -- SUP_CONFIG_ENTRIES (R111)
  ⟨0x300C, 0x40, 48, 0x01, 0x01, .u32, .rws, .loop, 0x0, .any⟩,   -- AMP_NOMINAL (R111)
  ⟨0x300C, 0x40, 48, 0x02, 0x02, .u16, .rws, .loop, 0x28F6, .any⟩,   -- AMP_LOW (R111)
  ⟨0x300C, 0x40, 48, 0x03, 0x03, .u16, .rws, .loop, 0x5C29, .any⟩,   -- AMP_HIGH (R111)
  ⟨0x300C, 0x40, 48, 0x04, 0x04, .u8, .rws, .loop, 0x8, .any⟩,   -- COAST_LIMIT (R111)
  ⟨0x300D, 0x40, 48, 0x00, 0x00, .u8, .ro, .none, 0x7, .any⟩   -- SUP_STATE_ENTRIES (R111)
]

/-- Objects 0x30xx of the dictionary, as the object tables of spec/ list them. -/
def Dict.rows30c : List Row := [
  ⟨0x300D, 0x40, 48, 0x01, 0x01, .u16, .ro, .none, 0x0, .any⟩,   -- SUP_STATUS (R111)
  ⟨0x300D, 0x40, 48, 0x02, 0x02, .u8, .ro, .none, 0x0, .any⟩,   -- COAST_COUNT (R111)
  ⟨0x300D, 0x40, 48, 0x03, 0x03, .u32, .ro, .none, 0x0, .any⟩,   -- AMP_LEARNED (R111)
  ⟨0x300D, 0x40, 48, 0x04, 0x04, .u16, .ro, .none, 0x0, .any⟩,   -- AMP_SQ (R111)
  ⟨0x300D, 0x40, 48, 0x05, 0x05, .u32, .ro, .none, 0x0, .any⟩,   -- INVALID_COUNT (R111)
  ⟨0x300D, 0x40, 48, 0x06, 0x06, .time80, .ro, .none, 0x0, .any⟩,   -- SETTLE_END_LT (R111)
  ⟨0x300D, 0x40, 48, 0x07, 0x07, .u32, .ro, .none, 0x0, .any⟩,   -- AMP_LEARNED_FINE (R111)
  ⟨0x3010, 0x40, 48, 0x00, 0x00, .u8, .ro, .none, 0x9, .any⟩,   -- SP_ENTRIES (R211)
  ⟨0x3010, 0x40, 48, 0x01, 0x01, .u8, .rws, .loop, 0x0, .u 0 3⟩,   -- SP_SOURCE (R211)
  ⟨0x3010, 0x40, 48, 0x02, 0x02, .i32, .rw, .write, 0x0, .any⟩,   -- SP_HOST (R211)
  ⟨0x3010, 0x40, 48, 0x03, 0x03, .u8, .rws, .loop, 0x0, .mask 1⟩,   -- SP_DERIV (R211)
  ⟨0x3010, 0x40, 48, 0x04, 0x04, .i32, .rws, .loop, 0x0, .any⟩,   -- SP_ANA_GAIN (R211)
  ⟨0x3010, 0x40, 48, 0x05, 0x05, .i32, .rws, .loop, 0x0, .any⟩,   -- SP_ANA_OFFSET (R211)
  ⟨0x3010, 0x40, 48, 0x06, 0x06, .u8, .rws, .loop, 0x0, .u 0 7⟩,   -- SP_PULSE_INPUT (R211)
  ⟨0x3010, 0x40, 48, 0x07, 0x07, .i32, .rws, .loop, 0x0, .any⟩,   -- SP_PULSE_SCALE (R211)
  ⟨0x3010, 0x40, 48, 0x08, 0x08, .i32, .ro, .none, 0x0, .any⟩,   -- SP_TARGET (R211)
  ⟨0x3010, 0x40, 48, 0x09, 0x09, .i32, .ro, .none, 0x0, .any⟩,   -- SP_TARGET_VEL (R211)
  ⟨0x3018, 0x40, 48, 0x00, 0x00, .u8, .ro, .none, 0x8, .any⟩,   -- WEIR_ENTRIES (R211)
  ⟨0x3018, 0x40, 48, 0x01, 0x01, .u32, .rws, .loop, 0x14000, .u 1 2147483647⟩,   -- WEIR_VEL_LIMIT (R211)
  ⟨0x3018, 0x40, 48, 0x02, 0x02, .u32, .rws, .loop, 0x3E800, .u 1 2147483647⟩,   -- WEIR_ACC_LIMIT (R211)
  ⟨0x3018, 0x40, 48, 0x03, 0x03, .u32, .rws, .loop, 0x9896800, .u 1 4294967295⟩,   -- WEIR_JERK_LIMIT (R211)
  ⟨0x3018, 0x40, 48, 0x04, 0x04, .u8, .ro, .none, 0x0, .any⟩,   -- WEIR_STATUS (R211)
  ⟨0x3018, 0x40, 48, 0x05, 0x05, .u32, .ro, .none, 0x0, .any⟩,   -- WEIR_OVERSHOOT (R211)
  ⟨0x3018, 0x40, 48, 0x06, 0x06, .u32, .ro, .none, 0x0, .any⟩,   -- OVERSHOOT_COUNT (R211)
  ⟨0x3018, 0x40, 48, 0x07, 0x07, .i32, .ro, .none, 0x0, .any⟩,   -- WEIR_POS (R211)
  ⟨0x3018, 0x40, 48, 0x08, 0x08, .i32, .ro, .none, 0x0, .any⟩,   -- WEIR_VEL (R211)
  ⟨0x3020, 0x40, 48, 0x00, 0x00, .u8, .ro, .none, 0xC, .any⟩,   -- LAW_CTRL_ENTRIES (R195)
  ⟨0x3020, 0x40, 48, 0x01, 0x01, .u16, .rws, .loop, 0x1, .u 1 4096⟩,   -- BANK_SWAP (R195)
  ⟨0x3020, 0x40, 48, 0x02, 0x02, .u8, .rws, .loop, 0x0, .mask 1⟩,   -- TRACK_FORWARD (R195)
  ⟨0x3020, 0x40, 48, 0x03, 0x03, .u8, .rw, .write, 0x0, .u 0 2⟩,   -- BANK_READ_SEL (R195)
  ⟨0x3020, 0x40, 48, 0x04, 0x04, .u8, .ro, .none, 0x0, .any⟩,   -- BANK_STATE (R195)
  ⟨0x3020, 0x40, 48, 0x05, 0x05, .u16, .ro, .none, 0x0, .any⟩,   -- FADE_POS (R195)
  ⟨0x3020, 0x40, 48, 0x06, 0x06, .u16, .ro, .none, 0x0, .any⟩,   -- FADE_LEN (R195)
  ⟨0x3020, 0x40, 48, 0x07, 0x07, .u32, .ro, .none, 0x0, .any⟩,   -- CRC_POUND (R195)
  ⟨0x3020, 0x40, 48, 0x08, 0x08, .u32, .ro, .none, 0x0, .any⟩,   -- CRC_ACTIVE (R195)
  ⟨0x3020, 0x40, 48, 0x09, 0x09, .u32, .ro, .none, 0x0, .any⟩,   -- CRC_INCOMING (R195)
  ⟨0x3020, 0x40, 48, 0x0A, 0x0A, .u32, .ro, .none, 0x0, .any⟩,   -- CRC_REQUEST (R195)
  ⟨0x3020, 0x40, 48, 0x0B, 0x0B, .u16, .ro, .none, 0x0, .any⟩,   -- LAW_STATUS (R195)
  ⟨0x3020, 0x40, 48, 0x0C, 0x0C, .u8, .rws, .loop, 0x3, .u 1 255⟩,   -- MISS_LIMIT (R195)
  ⟨0x3021, 0x40, 48, 0x01, 0x01, .u32, .rw, .write, 0x0, .u 0 2⟩   -- LAW_KIND (R196)
]

/-- Objects 0x30xx of the dictionary, as the object tables of spec/ list them. -/
def Dict.rows30d : List Row := [
  ⟨0x3021, 0x40, 48, 0x02, 0x02, .u32, .rw, .write, 0x0, .mask 7⟩,   -- LAW_FLAGS (R196)
  ⟨0x3021, 0x40, 48, 0x03, 0x03, .u32, .rw, .write, 0x0, .sp .scale⟩,   -- SCALE (R196)
  ⟨0x3021, 0x40, 48, 0x04, 0x04, .u32, .rw, .write, 0x0, .mask 255⟩,   -- BQ_MASK (R196)
  ⟨0x3021, 0x40, 48, 0x05, 0x05, .u32, .rw, .write, 0x0, .sp .schedCfg⟩,   -- SCHED_CFG (R196)
  ⟨0x3021, 0x40, 48, 0x06, 0x06, .i32, .rw, .write, 0xFFF80000, .i (-524288) 524287⟩,   -- U_MIN (R196)
  ⟨0x3021, 0x40, 48, 0x07, 0x07, .i32, .rw, .write, 0x7FFFF, .i (-524288) 524287⟩,   -- U_MAX (R196)
  ⟨0x3021, 0x40, 48, 0x08, 0x08, .i32, .rw, .write, 0x0, .i (-524288) 524287⟩,   -- U_BIAS (R196)
  ⟨0x3021, 0x40, 48, 0x09, 0x09, .u32, .rw, .write, 0x0, .mask 524287⟩,   -- BUS_CFG (R196)
  ⟨0x3021, 0x40, 48, 0x0A, 0x0A, .u32, .rw, .write, 0x0, .mask 1023⟩,   -- SF_CFG (R196)
  ⟨0x3021, 0x40, 48, 0x0B, 0x10, .u32, .rw, .write, 0x0, .zero⟩,   -- BANK_CFG_RESERVED (R196)
  ⟨0x3021, 0x40, 48, 0x00, 0x00, .u8, .ro, .none, 0x10, .any⟩,   -- (highest subindex) (R336)
  ⟨0x3022, 0x40, 48, 0x01, 0x0D, .coef, .rw, .write, 0x0, .mask 1048575⟩,   -- BANK_COEF (R196)
  ⟨0x3022, 0x40, 48, 0x00, 0x00, .u8, .ro, .none, 0xD, .any⟩,   -- (highest subindex) (R336)
  ⟨0x3023, 0x40, 48, 0x01, 0x28, .coef, .rw, .write, 0x0, .mask 1048575⟩,   -- BANK_BIQUAD (R196)
  ⟨0x3023, 0x40, 48, 0x00, 0x00, .u8, .ro, .none, 0x28, .any⟩,   -- (highest subindex) (R336)
  ⟨0x3024, 0x40, 48, 0x01, 0x18, .u32, .rw, .write, 0x0, .sp .bankSched⟩,   -- BANK_SCHED (R196)
  ⟨0x3024, 0x40, 48, 0x00, 0x00, .u8, .ro, .none, 0x18, .any⟩,   -- (highest subindex) (R336)
  ⟨0x3025, 0x40, 48, 0x01, 0x1E, .coef, .rw, .write, 0x0, .mask 1048575⟩,   -- BANK_SF (R196)
  ⟨0x3025, 0x40, 48, 0x00, 0x00, .u8, .ro, .none, 0x1E, .any⟩,   -- (highest subindex) (R336)
  ⟨0x3026, 0x40, 48, 0x00, 0x00, .u8, .ro, .none, 0xC, .any⟩,   -- LAW_STATE_ENTRIES (R195)
  ⟨0x3026, 0x40, 48, 0x01, 0x01, .u32, .ro, .none, 0x0, .any⟩,   -- DEADLINE_MISS (R195)
  ⟨0x3026, 0x40, 48, 0x02, 0x02, .u8, .ro, .none, 0x0, .any⟩,   -- MISS_RUN (R195)
  ⟨0x3026, 0x40, 48, 0x03, 0x03, .u16, .ro, .none, 0x4, .any⟩,   -- CYCLES_TAB (R195)
  ⟨0x3026, 0x40, 48, 0x04, 0x04, .u16, .ro, .none, 0x0, .any⟩,   -- CYCLES_MEAS (R195)
  ⟨0x3026, 0x40, 48, 0x05, 0x05, .u16, .rw, .write, 0x0, .zero⟩,   -- CYCLES_MAX (R195)
  ⟨0x3026, 0x40, 48, 0x06, 0x06, .i32, .ro, .none, 0x0, .any⟩,   -- INTEG_1 (R195)
  ⟨0x3026, 0x40, 48, 0x07, 0x07, .i32, .ro, .none, 0x0, .any⟩,   -- INTEG_2 (R195)
  ⟨0x3026, 0x40, 48, 0x08, 0x08, .i32, .ro, .none, 0x0, .any⟩,   -- U_CMD (R195)
  ⟨0x3026, 0x40, 48, 0x09, 0x09, .i32, .ro, .none, 0x0, .any⟩,   -- A_CMD (R195)
  ⟨0x3026, 0x40, 48, 0x0A, 0x0A, .u32, .ro, .none, 0x0, .any⟩,   -- ACC_SAT_COUNT (R195)
  ⟨0x3026, 0x40, 48, 0x0B, 0x0B, .u32, .ro, .none, 0x0, .any⟩,   -- SWAP_COUNT (R195)
  ⟨0x3026, 0x40, 48, 0x0C, 0x0C, .u32, .ro, .none, 0x0, .any⟩,   -- SWAP_LOST_COUNT (R195)
  ⟨0x3028, 0x40, 48, 0x00, 0x00, .u8, .ro, .none, 0x5, .any⟩,   -- AXO_ENTRIES (R259)
  ⟨0x3028, 0x40, 48, 0x01, 0x01, .u8, .rws, .loop, 0x0, .sp .axoRange⟩,   -- AXO_RANGE (R259)
  ⟨0x3028, 0x40, 48, 0x02, 0x02, .i32, .rws, .loop, 0x0, .i (-524288) 524287⟩,   -- CLEAR_CODE (R259)
  ⟨0x3028, 0x40, 48, 0x03, 0x03, .i32, .ro, .none, 0x0, .any⟩,   -- AXO_CODE (R259)
  ⟨0x3028, 0x40, 48, 0x04, 0x04, .u8, .ro, .none, 0x1, .any⟩,   -- AXO_STATUS (R259)
  ⟨0x3028, 0x40, 48, 0x05, 0x05, .u8, .ro, .none, 0x0, .any⟩,   -- AXO_CHECK (R259)
  ⟨0x3029, 0x40, 48, 0x00, 0x00, .u8, .ro, .none, 0x6, .any⟩,   -- RB_ENTRIES (R259)
  ⟨0x3029, 0x40, 48, 0x01, 0x01, .u16, .rw, .write, 0x14, .u 5 1000⟩   -- RB_LIMIT (R259)
]

/-- Objects 0x30xx of the dictionary, as the object tables of spec/ list them. -/
def Dict.rows30e : List Row := [
  ⟨0x3029, 0x40, 48, 0x02, 0x02, .u8, .rw, .write, 0x3, .u 1 255⟩,   -- RB_COUNT_LIMIT (R259)
  ⟨0x3029, 0x40, 48, 0x03, 0x03, .i16, .ro, .none, 0x0, .any⟩,   -- RB_VALUE (R259)
  ⟨0x3029, 0x40, 48, 0x04, 0x04, .i32, .ro, .none, 0x0, .any⟩,   -- RB_DEVIATION (R259)
  ⟨0x3029, 0x40, 48, 0x05, 0x05, .u8, .ro, .none, 0x0, .any⟩,   -- RB_RUN (R259)
  ⟨0x3029, 0x40, 48, 0x06, 0x06, .u32, .ro, .none, 0x0, .any⟩,   -- RB_MISMATCH_COUNT (R259)
  ⟨0x302C, 0x40, 48, 0x00, 0x00, .u8, .ro, .none, 0x5, .any⟩,   -- AXIS_FAULT_ENTRIES (R434)
  ⟨0x302C, 0x40, 48, 0x01, 0x01, .u8, .rws, .loop, 0x0, .u 0 1⟩,   -- HOLD_ACTION (R434)
  ⟨0x302C, 0x40, 48, 0x02, 0x02, .u8, .ro, .none, 0x0, .any⟩,   -- PARK_STATE (R434)
  ⟨0x302C, 0x40, 48, 0x03, 0x03, .u8, .ro, .none, 0x0, .any⟩,   -- PARK_CAUSE (R434)
  ⟨0x302C, 0x40, 48, 0x04, 0x04, .u16, .ro, .none, 0x0, .any⟩,   -- LAST_FAULT (R434)
  ⟨0x302C, 0x40, 48, 0x05, 0x05, .u32, .ro, .none, 0x0, .any⟩,   -- FAULT_COUNT (R434)
  ⟨0x303F, 0x40, 48, 0x00, 0x00, .u8, .ro, .none, 0x8, .any⟩,   -- POUND_ENTRIES (R50)
  ⟨0x303F, 0x40, 48, 0x01, 0x01, .u8, .wo, .write, 0x0, .any⟩,   -- POUND_COMMIT (R50)
  ⟨0x303F, 0x40, 48, 0x02, 0x02, .u8, .ro, .none, 0x0, .any⟩,   -- POUND_STATE (R50)
  ⟨0x303F, 0x40, 48, 0x03, 0x03, .u16, .ro, .none, 0x0, .any⟩,   -- POUND_PENDING (R50)
  ⟨0x303F, 0x40, 48, 0x04, 0x04, .time80, .ro, .none, 0x0, .any⟩,   -- LAST_COMMIT_LT (R50)
  ⟨0x303F, 0x40, 48, 0x05, 0x05, .time80, .ro, .none, 0x0, .any⟩,   -- LAST_LOCKAGE_LT (R50)
  ⟨0x303F, 0x40, 48, 0x06, 0x06, .u32, .ro, .none, 0x0, .any⟩,   -- LOCKAGE_COUNT (R50)
  ⟨0x303F, 0x40, 48, 0x07, 0x07, .u32, .ro, .none, 0x0, .any⟩,   -- POUND_DISCARDED (R50)
  ⟨0x303F, 0x40, 48, 0x08, 0x08, .u32, .ro, .none, 0x0, .any⟩   -- CHECK_FAIL_OBJECT (R50)
]

/-- Objects 0x40xx of the dictionary, as the object tables of spec/ list them. -/
def Dict.rows40 : List Row := [
  ⟨0x4000, 0x10, 8, 0x00, 0x00, .u8, .ro, .none, 0x2, .any⟩,   -- ENGINE_CFG_ENTRIES (R197)
  ⟨0x4000, 0x10, 8, 0x01, 0x01, .u32, .rwc, .configure, 0x9C4, .sp .loopPeriod⟩,   -- LOOP_PERIOD (R197)
  ⟨0x4000, 0x10, 8, 0x02, 0x02, .u16, .rwc, .configure, 0x0, .sp .outOffset⟩,   -- OUT_OFFSET (R197)
  ⟨0x4001, 0x10, 8, 0x00, 0x00, .u8, .ro, .none, 0x6, .any⟩,   -- BUDGET_ENTRIES (R197)
  ⟨0x4001, 0x10, 8, 0x01, 0x01, .u32, .ro, .none, 0x9C4, .any⟩,   -- BUDGET_CYCLES (R197)
  ⟨0x4001, 0x10, 8, 0x02, 0x02, .u32, .ro, .none, 0x40, .any⟩,   -- CYCLES_TOTAL (R197)
  ⟨0x4001, 0x10, 8, 0x03, 0x03, .u32, .ro, .none, 0x40, .any⟩,   -- CYCLES_WORST (R197)
  ⟨0x4001, 0x10, 8, 0x04, 0x04, .u32, .ro, .none, 0x0, .any⟩,   -- CYCLES_USED (R197)
  ⟨0x4001, 0x10, 8, 0x05, 0x05, .u32, .ro, .none, 0x0, .any⟩,   -- CYCLES_PEAK (R197)
  ⟨0x4001, 0x10, 8, 0x06, 0x06, .u16, .ro, .none, 0x0, .any⟩,   -- BUDGET_CHECK (R197)
  ⟨0x400F, 0x10, 8, 0x00, 0x00, .u8, .ro, .none, 0x8, .any⟩,   -- POUND_ENTRIES (R50)
  ⟨0x400F, 0x10, 8, 0x01, 0x01, .u16, .wo, .write, 0x0, .any⟩,   -- POUND_COMMIT (R50)
  ⟨0x400F, 0x10, 8, 0x02, 0x02, .u8, .ro, .none, 0x0, .any⟩,   -- POUND_STATE (R50)
  ⟨0x400F, 0x10, 8, 0x03, 0x03, .u16, .ro, .none, 0x0, .any⟩,   -- POUND_PENDING (R50)
  ⟨0x400F, 0x10, 8, 0x04, 0x04, .time80, .ro, .none, 0x0, .any⟩,   -- LAST_COMMIT_LT (R50)
  ⟨0x400F, 0x10, 8, 0x05, 0x05, .time80, .ro, .none, 0x0, .any⟩,   -- LAST_LOCKAGE_LT (R50)
  ⟨0x400F, 0x10, 8, 0x06, 0x06, .u32, .ro, .none, 0x0, .any⟩,   -- LOCKAGE_COUNT (R50)
  ⟨0x400F, 0x10, 8, 0x07, 0x07, .u32, .ro, .none, 0x0, .any⟩,   -- POUND_DISCARDED (R50)
  ⟨0x400F, 0x10, 8, 0x08, 0x08, .u32, .ro, .none, 0x0, .any⟩   -- CHECK_FAIL_OBJECT (R50)
]

/-- Objects 0x41xx of the dictionary, as the object tables of spec/ list them. -/
def Dict.rows41a : List Row := [
  ⟨0x4100, 0x10, 16, 0x00, 0x00, .u8, .ro, .none, 0x1, .any⟩,   -- STREAM_CTRL_ENTRIES (R232)
  ⟨0x4100, 0x10, 16, 0x01, 0x01, .u32, .wo, .write, 0x0, .any⟩,   -- STREAM_CMD (R232)
  ⟨0x4101, 0x10, 16, 0x00, 0x00, .u8, .ro, .none, 0xA, .any⟩,   -- FIELD_ENTRIES (R223)
  ⟨0x4101, 0x10, 16, 0x01, 0x03, .i32, .rws, .segment, 0x0, .any⟩,   -- FIELD_SCALE (R223)
  ⟨0x4101, 0x10, 16, 0x04, 0x06, .i32, .rws, .segment, 0x0, .any⟩,   -- FIELD_OFFSET (R223)
  ⟨0x4101, 0x10, 16, 0x07, 0x07, .i32, .rws, .segment, 0x0, .any⟩,   -- FOCUS_CURV (R223)
  ⟨0x4101, 0x10, 16, 0x08, 0x0A, .i32, .rws, .segment, 0x0, .any⟩,   -- FIELD_HOME (R223)
  ⟨0x4102, 0x10, 16, 0x00, 0x00, .u8, .ro, .none, 0x2, .any⟩,   -- GRID_ENTRIES (R223)
  ⟨0x4102, 0x10, 16, 0x01, 0x01, .u8, .rws, .segment, 0x0, .mask 1⟩,   -- GRID_ENABLE (R223)
  ⟨0x4102, 0x10, 16, 0x02, 0x02, .u64, .rws, .segment, 0x0, .sp .gridBase⟩,   -- GRID_BASE (R223)
  ⟨0x4103, 0x10, 16, 0x00, 0x00, .u8, .ro, .none, 0x5, .any⟩,   -- GATE_ENTRIES (R223)
  ⟨0x4103, 0x10, 16, 0x01, 0x01, .i32, .rws, .segment, 0x0, .i (-100000) 100000⟩,   -- GATE_ON_DELAY (R223)
  ⟨0x4103, 0x10, 16, 0x02, 0x02, .i32, .rws, .segment, 0x0, .i (-100000) 100000⟩,   -- GATE_OFF_DELAY (R223)
  ⟨0x4103, 0x10, 16, 0x03, 0x03, .u32, .rws, .segment, 0x100000, .u 1 4294967295⟩,   -- RESUME_SPEED (R223)
  ⟨0x4103, 0x10, 16, 0x04, 0x04, .u8, .rwc, .configure, 0x0, .sp .gatePin⟩,   -- GATE_PIN (R223)
  ⟨0x4103, 0x10, 16, 0x05, 0x05, .u8, .rwc, .configure, 0x0, .sp .lmoSel⟩,   -- LMO_SEL (R223)
  ⟨0x4104, 0x10, 16, 0x00, 0x00, .u8, .ro, .none, 0x7, .any⟩,   -- STREAM_STATUS_ENTRIES (R232)
  ⟨0x4104, 0x10, 16, 0x01, 0x01, .u8, .ro, .none, 0x0, .any⟩,   -- STREAM_STATE (R232)
  ⟨0x4104, 0x10, 16, 0x02, 0x02, .u32, .ro, .none, 0x0, .any⟩,   -- SEG_EXEC (R232)
  ⟨0x4104, 0x10, 16, 0x03, 0x03, .u32, .ro, .none, 0x0, .any⟩,   -- STOP_SEG (R232)
  ⟨0x4104, 0x10, 16, 0x04, 0x04, .u8, .ro, .none, 0x0, .any⟩,   -- STOP_REASON (R232)
  ⟨0x4104, 0x10, 16, 0x05, 0x05, .bool, .ro, .none, 0x0, .any⟩,   -- STOP_PARTIAL (R232)
  ⟨0x4104, 0x10, 16, 0x06, 0x06, .u32, .ro, .none, 0x0, .any⟩,   -- SEG_DONE_COUNT (R232)
  ⟨0x4104, 0x10, 16, 0x07, 0x07, .time80, .ro, .none, 0x0, .any⟩,   -- STOP_LT (R232)
  ⟨0x4105, 0x10, 16, 0x00, 0x00, .u8, .ro, .none, 0x6, .any⟩,   -- LMO_ENTRIES (R260)
  ⟨0x4105, 0x10, 16, 0x01, 0x01, .u8, .rwc, .configure, 0x0, .u 0 1⟩,   -- LMO_RANGE (R260)
  ⟨0x4105, 0x10, 16, 0x02, 0x02, .u16, .rws, .segment, 0x0, .any⟩,   -- LMO_CLEAR_CODE (R260)
  ⟨0x4105, 0x10, 16, 0x03, 0x03, .u16, .ro, .none, 0x0, .any⟩,   -- LMO_CODE (R260)
  ⟨0x4105, 0x10, 16, 0x04, 0x04, .u8, .ro, .none, 0x0, .any⟩,   -- LMO_STATUS (R260)
  ⟨0x4105, 0x10, 16, 0x05, 0x05, .u8, .wo, .write, 0x0, .any⟩,   -- LMO_CLEAR_FAULT (R260)
  ⟨0x4105, 0x10, 16, 0x06, 0x06, .u8, .rwc, .configure, 0x0, .mask 1⟩,   -- LG_POLARITY (R260)
  ⟨0x4106, 0x10, 16, 0x00, 0x00, .u8, .ro, .none, 0x6, .any⟩,   -- CORR_ENTRIES (R375)
  ⟨0x4106, 0x10, 16, 0x01, 0x01, .u32, .rws, .segment, 0x10000, .u 1 2147483647⟩,   -- CORR_STEP_MAX (R375)
  ⟨0x4106, 0x10, 16, 0x02, 0x02, .u32, .rws, .segment, 0x400000, .u 0 2147483647⟩,   -- CORR_LIMIT (R375)
  ⟨0x4106, 0x10, 16, 0x03, 0x03, .i32, .ro, .none, 0x0, .any⟩,   -- CORR_DX (R375)
  ⟨0x4106, 0x10, 16, 0x04, 0x04, .i32, .ro, .none, 0x0, .any⟩,   -- CORR_DY (R375)
  ⟨0x4106, 0x10, 16, 0x05, 0x05, .u8, .ro, .none, 0xFF, .any⟩,   -- CORR_SRC (R375)
  ⟨0x4106, 0x10, 16, 0x06, 0x06, .u32, .ro, .none, 0x0, .any⟩,   -- CORR_FRAME (R375)
  ⟨0x4107, 0x10, 16, 0x00, 0x00, .u8, .ro, .none, 0x7, .any⟩,   -- AF_ENTRIES (R375)
  ⟨0x4107, 0x10, 16, 0x01, 0x01, .u8, .rws, .segment, 0xFF, .sp .afCamera⟩   -- AF_CAMERA (R375)
]

/-- Objects 0x41xx of the dictionary, as the object tables of spec/ list them. -/
def Dict.rows41b : List Row := [
  ⟨0x4107, 0x10, 16, 0x02, 0x02, .u8, .rws, .segment, 0x7, .sp .afSteps⟩,   -- AF_STEPS (R375)
  ⟨0x4107, 0x10, 16, 0x03, 0x03, .u32, .rws, .segment, 0xA3D70A, .u 1 268435456⟩,   -- AF_STEP (R375)
  ⟨0x4107, 0x10, 16, 0x04, 0x04, .u32, .rws, .segment, 0x30D40, .u 0 100000000⟩,   -- AF_SETTLE (R375)
  ⟨0x4107, 0x10, 16, 0x05, 0x05, .i32, .ro, .none, 0x0, .any⟩,   -- AF_OFFSET (R375)
  ⟨0x4107, 0x10, 16, 0x06, 0x06, .u8, .ro, .none, 0x0, .any⟩,   -- AF_STATE (R375)
  ⟨0x4107, 0x10, 16, 0x07, 0x07, .u8, .ro, .none, 0x0, .any⟩,   -- AF_RESULT (R375)
  ⟨0x410F, 0x10, 16, 0x00, 0x00, .u8, .ro, .none, 0x8, .any⟩,   -- POUND_ENTRIES (R50)
  ⟨0x410F, 0x10, 16, 0x01, 0x01, .u8, .wo, .write, 0x0, .any⟩,   -- POUND_COMMIT (R50)
  ⟨0x410F, 0x10, 16, 0x02, 0x02, .u8, .ro, .none, 0x0, .any⟩,   -- POUND_STATE (R50)
  ⟨0x410F, 0x10, 16, 0x03, 0x03, .u16, .ro, .none, 0x0, .any⟩,   -- POUND_PENDING (R50)
  ⟨0x410F, 0x10, 16, 0x04, 0x04, .time80, .ro, .none, 0x0, .any⟩,   -- LAST_COMMIT_LT (R50)
  ⟨0x410F, 0x10, 16, 0x05, 0x05, .time80, .ro, .none, 0x0, .any⟩,   -- LAST_LOCKAGE_LT (R50)
  ⟨0x410F, 0x10, 16, 0x06, 0x06, .u32, .ro, .none, 0x0, .any⟩,   -- LOCKAGE_COUNT (R50)
  ⟨0x410F, 0x10, 16, 0x07, 0x07, .u32, .ro, .none, 0x0, .any⟩,   -- POUND_DISCARDED (R50)
  ⟨0x410F, 0x10, 16, 0x08, 0x08, .u32, .ro, .none, 0x0, .any⟩   -- CHECK_FAIL_OBJECT (R50)
]

/-- Objects 0x42xx of the dictionary, as the object tables of spec/ list them. -/
def Dict.rows42 : List Row := [
  ⟨0x4200, 0x10, 8, 0x00, 0x00, .u8, .ro, .none, 0x9, .any⟩,   -- ENC_ENTRIES (R273)
  ⟨0x4200, 0x10, 8, 0x01, 0x01, .u8, .rwc, .configure, 0xFF, .sp .encAxis⟩,   -- ENC_AXIS (R273)
  ⟨0x4200, 0x10, 8, 0x02, 0x02, .u32, .rwc, .configure, 0x14001010, .sp .encCfg⟩,   -- ENC_CFG (R273)
  ⟨0x4200, 0x10, 8, 0x03, 0x03, .u32, .rwc, .configure, 0x20000000, .sp .encSpan⟩,   -- ENC_SPAN (R273)
  ⟨0x4200, 0x10, 8, 0x04, 0x04, .i32, .rwc, .configure, 0x0, .any⟩,   -- ENC_Z_POS (R273)
  ⟨0x4200, 0x10, 8, 0x05, 0x05, .u8, .rw, .write, 0x0, .sp .encEnable⟩,   -- ENC_ENABLE (R273)
  ⟨0x4200, 0x10, 8, 0x06, 0x06, .i32, .ro, .none, 0x0, .any⟩,   -- ENC_COUNT (R273)
  ⟨0x4200, 0x10, 8, 0x07, 0x07, .i32, .ro, .none, 0x0, .any⟩,   -- ENC_BACKLOG (R273)
  ⟨0x4200, 0x10, 8, 0x08, 0x08, .u32, .ro, .none, 0x0, .any⟩,   -- ENC_BACKLOG_MAX (R273)
  ⟨0x4200, 0x10, 8, 0x09, 0x09, .u8, .ro, .none, 0x0, .any⟩,   -- ENC_STATUS (R273)
  ⟨0x4280, 0x10, 2, 0x00, 0x00, .u8, .ro, .none, 0x4, .any⟩,   -- SSI_ENTRIES (R276)
  ⟨0x4280, 0x10, 2, 0x01, 0x01, .u8, .rwc, .configure, 0xFF, .sp .ssiAxis⟩,   -- SSI_AXIS (R276)
  ⟨0x4280, 0x10, 2, 0x02, 0x02, .u16, .rwc, .configure, 0xC008, .sp .ssiFormat⟩,   -- SSI_FORMAT (R276)
  ⟨0x4280, 0x10, 2, 0x03, 0x03, .u8, .rwc, .configure, 0x14, .u 1 255⟩,   -- SSI_TIMEOUT (R276)
  ⟨0x4280, 0x10, 2, 0x04, 0x04, .u32, .ro, .none, 0x0, .any⟩,   -- SSI_FRAME_COUNT (R276)
  ⟨0x42A0, 0x1, 1, 0x00, 0x00, .u8, .ro, .none, 0x5, .any⟩,   -- SPI_ENTRIES (R281)
  ⟨0x42A0, 0x1, 1, 0x01, 0x01, .u8, .rwc, .configure, 0x4, .u 0 8⟩,   -- SPI_SPEED_SHIFT (R281)
  ⟨0x42A0, 0x1, 1, 0x02, 0x02, .u32, .ro, .none, 0x0, .any⟩,   -- LATCH_SEQ (R281)
  ⟨0x42A0, 0x1, 1, 0x03, 0x03, .time80, .ro, .none, 0x0, .any⟩,   -- LATCH_LT (R281)
  ⟨0x42A0, 0x1, 1, 0x04, 0x04, .u32, .ro, .none, 0x0, .any⟩,   -- SAMPLE_IGNORED (R281)
  ⟨0x42A0, 0x1, 1, 0x05, 0x05, .u32, .ro, .none, 0x0, .any⟩,   -- SPI_ERR_COUNT (R281)
  ⟨0x42C0, 0x1, 8, 0x00, 0x00, .u8, .ro, .none, 0x5, .any⟩,   -- PLS_ENTRIES (R284)
  ⟨0x42C0, 0x1, 8, 0x01, 0x01, .u8, .rwc, .configure, 0x0, .sp .plsMode⟩,   -- PLS_MODE (R284)
  ⟨0x42C0, 0x1, 8, 0x02, 0x02, .u8, .rwc, .configure, 0x5, .u 1 255⟩,   -- PLS_FILTER (R284)
  ⟨0x42C0, 0x1, 8, 0x03, 0x03, .i32, .ro, .none, 0x0, .any⟩,   -- PLS_COUNT (R284)
  ⟨0x42C0, 0x1, 8, 0x04, 0x04, .i32, .wo, .write, 0x0, .any⟩,   -- PLS_PRESET (R284)
  ⟨0x42C0, 0x1, 8, 0x05, 0x05, .u32, .ro, .none, 0x0, .any⟩   -- PLS_ERR_COUNT (R284)
]

/-- Objects 0x43xx of the dictionary, as the object tables of spec/ list them. -/
def Dict.rows43 : List Row := [
  ⟨0x4300, 0x1, 1, 0x00, 0x00, .u8, .ro, .none, 0x9, .any⟩,   -- SCHED_ENTRIES (R325)
  ⟨0x4300, 0x1, 1, 0x01, 0x01, .domain, .wo, .write, 0x0, .any⟩,   -- SCHED_ENTRY (R325)
  ⟨0x4300, 0x1, 1, 0x02, 0x02, .u8, .wo, .write, 0x0, .any⟩,   -- SCHED_FLUSH (R325)
  ⟨0x4300, 0x1, 1, 0x03, 0x03, .u8, .ro, .none, 0x20, .any⟩,   -- HOST_FREE (R325)
  ⟨0x4300, 0x1, 1, 0x04, 0x04, .u32, .rw, .write, 0x3E8, .u 0 100000⟩,   -- LATE_LIMIT (R325)
  ⟨0x4300, 0x1, 1, 0x05, 0x05, .u32, .ro, .none, 0x0, .any⟩,   -- LATE_COUNT (R325)
  ⟨0x4300, 0x1, 1, 0x06, 0x06, .u32, .ro, .none, 0x0, .any⟩,   -- REFUSED_COUNT (R325)
  ⟨0x4300, 0x1, 1, 0x07, 0x07, .u32, .ro, .none, 0x0, .any⟩,   -- LAST_LATENESS (R325)
  ⟨0x4300, 0x1, 1, 0x08, 0x08, .u16, .ro, .none, 0x0, .any⟩,   -- PEAK_PENDING (R325)
  ⟨0x4300, 0x1, 1, 0x09, 0x09, .u32, .ro, .none, 0x0, .any⟩   -- MERGE_COUNT (R325)
]

/-- Objects 0x44xx of the dictionary, as the object tables of spec/ list them. -/
def Dict.rows44a : List Row := [
  ⟨0x4400, 0x1, 1, 0x00, 0x00, .u8, .ro, .none, 0x8, .any⟩,   -- VISION_ENTRIES (R373)
  ⟨0x4400, 0x1, 1, 0x01, 0x01, .u8, .rwc, .configure, 0x1F, .mask 31⟩,   -- LANE_ENABLE (R373)
  ⟨0x4400, 0x1, 1, 0x02, 0x02, .u16, .rw, .write, 0x3E8, .u 100 65535⟩,   -- VIS_TIMEOUT (R373)
  ⟨0x4400, 0x1, 1, 0x03, 0x03, .u8, .ro, .none, 0x0, .any⟩,   -- VIS_STATUS (R373)
  ⟨0x4400, 0x1, 1, 0x04, 0x04, .u32, .ro, .none, 0x0, .any⟩,   -- RX_PACKETS (R373)
  ⟨0x4400, 0x1, 1, 0x05, 0x05, .u32, .ro, .none, 0x0, .any⟩,   -- RX_BAD (R373)
  ⟨0x4400, 0x1, 1, 0x06, 0x06, .u32, .ro, .none, 0x0, .any⟩,   -- TX_TAGS (R373)
  ⟨0x4400, 0x1, 1, 0x07, 0x07, .u32, .ro, .none, 0x0, .any⟩,   -- TAG_COUNT (R373)
  ⟨0x4400, 0x1, 1, 0x08, 0x08, .u16, .ro, .none, 0x0, .any⟩,   -- VIS_CHECK (R373)
  ⟨0x4401, 0x1, 1, 0x01, 0x20, .u8, .rwc, .configure, 0xFF, .sp .camPin⟩,   -- CAM_PIN (R374)
  ⟨0x4401, 0x1, 1, 0x00, 0x00, .u8, .ro, .none, 0x20, .any⟩,   -- (highest subindex) (R336)
  ⟨0x4402, 0x1, 1, 0x01, 0x20, .u8, .rwc, .configure, 0xFF, .sp .camLaser⟩,   -- CAM_LASER (R374)
  ⟨0x4402, 0x1, 1, 0x00, 0x00, .u8, .ro, .none, 0x20, .any⟩,   -- (highest subindex) (R336)
  ⟨0x4403, 0x1, 1, 0x01, 0x20, .u8, .rwc, .configure, 0x0, .mask 15⟩,   -- CAM_CFG (R374)
  ⟨0x4403, 0x1, 1, 0x00, 0x00, .u8, .ro, .none, 0x20, .any⟩,   -- (highest subindex) (R336)
  ⟨0x4404, 0x1, 1, 0x01, 0x20, .u32, .rws, .frame, 0xF4240, .u 20000 1000000000⟩,   -- CAM_PERIOD (R374)
  ⟨0x4404, 0x1, 1, 0x00, 0x00, .u8, .ro, .none, 0x20, .any⟩,   -- (highest subindex) (R336)
  ⟨0x4405, 0x1, 1, 0x01, 0x20, .u32, .rws, .frame, 0x186A0, .sp .camWidth⟩,   -- CAM_WIDTH (R374)
  ⟨0x4405, 0x1, 1, 0x00, 0x00, .u8, .ro, .none, 0x20, .any⟩,   -- (highest subindex) (R336)
  ⟨0x4406, 0x1, 1, 0x01, 0x20, .u32, .rws, .frame, 0x0, .sp .camOffset⟩,   -- CAM_OFFSET (R374)
  ⟨0x4406, 0x1, 1, 0x00, 0x00, .u8, .ro, .none, 0x20, .any⟩,   -- (highest subindex) (R336)
  ⟨0x4407, 0x1, 1, 0x01, 0x20, .u8, .rws, .frame, 0x0, .any⟩,   -- CAMERA_RANK (R374)
  ⟨0x4407, 0x1, 1, 0x00, 0x00, .u8, .ro, .none, 0x20, .any⟩,   -- (highest subindex) (R336)
  ⟨0x4408, 0x1, 1, 0x01, 0x20, .u8, .rws, .frame, 0x4, .u 1 255⟩,   -- MAX_AGE (R374)
  ⟨0x4408, 0x1, 1, 0x00, 0x00, .u8, .ro, .none, 0x20, .any⟩,   -- (highest subindex) (R336)
  ⟨0x4409, 0x1, 1, 0x01, 0x20, .u32, .ro, .none, 0x0, .any⟩,   -- CAM_FRAME_NEXT (R374)
  ⟨0x4409, 0x1, 1, 0x00, 0x00, .u8, .ro, .none, 0x20, .any⟩,   -- (highest subindex) (R336)
  ⟨0x440A, 0x1, 1, 0x01, 0x20, .u32, .ro, .none, 0x0, .any⟩,   -- CAM_SHARPNESS (R374)
  ⟨0x440A, 0x1, 1, 0x00, 0x00, .u8, .ro, .none, 0x20, .any⟩,   -- (highest subindex) (R336)
  ⟨0x440B, 0x1, 1, 0x01, 0x20, .u32, .ro, .none, 0x0, .any⟩,   -- CAM_STATS_FRAME (R374)
  ⟨0x440B, 0x1, 1, 0x00, 0x00, .u8, .ro, .none, 0x20, .any⟩,   -- (highest subindex) (R336)
  ⟨0x440C, 0x1, 1, 0x01, 0x20, .u32, .ro, .none, 0x0, .any⟩,   -- CAM_CORR_AGED (R374)
  ⟨0x440C, 0x1, 1, 0x00, 0x00, .u8, .ro, .none, 0x20, .any⟩,   -- (highest subindex) (R336)
  ⟨0x440D, 0x1, 1, 0x01, 0x20, .u32, .ro, .none, 0x0, .any⟩,   -- CAM_CORR_OUTRANKED (R374)
  ⟨0x440D, 0x1, 1, 0x00, 0x00, .u8, .ro, .none, 0x20, .any⟩,   -- (highest subindex) (R336)
  ⟨0x4420, 0x1, 1, 0x00, 0x00, .u8, .ro, .none, 0x2, .any⟩,   -- TAG_READ_ENTRIES (R373)
  ⟨0x4420, 0x1, 1, 0x01, 0x01, .u64, .rw, .write, 0x0, .mask 1099511627775⟩,   -- TAG_RD_KEY (R373)
  ⟨0x4420, 0x1, 1, 0x02, 0x02, .domain, .ro, .none, 0x0, .any⟩,   -- TAG_RD_DATA (R373)
  ⟨0x44E0, 0x1, 32, 0x00, 0x00, .u8, .ro, .none, 0x8, .any⟩,   -- POUND_ENTRIES (R50)
  ⟨0x44E0, 0x1, 32, 0x01, 0x01, .u8, .wo, .write, 0x0, .any⟩   -- POUND_COMMIT (R50)
]

/-- Objects 0x44xx of the dictionary, as the object tables of spec/ list them. -/
def Dict.rows44b : List Row := [
  ⟨0x44E0, 0x1, 32, 0x02, 0x02, .u8, .ro, .none, 0x0, .any⟩,   -- POUND_STATE (R50)
  ⟨0x44E0, 0x1, 32, 0x03, 0x03, .u16, .ro, .none, 0x0, .any⟩,   -- POUND_PENDING (R50)
  ⟨0x44E0, 0x1, 32, 0x04, 0x04, .time80, .ro, .none, 0x0, .any⟩,   -- LAST_COMMIT_LT (R50)
  ⟨0x44E0, 0x1, 32, 0x05, 0x05, .time80, .ro, .none, 0x0, .any⟩,   -- LAST_LOCKAGE_LT (R50)
  ⟨0x44E0, 0x1, 32, 0x06, 0x06, .u32, .ro, .none, 0x0, .any⟩,   -- LOCKAGE_COUNT (R50)
  ⟨0x44E0, 0x1, 32, 0x07, 0x07, .u32, .ro, .none, 0x0, .any⟩,   -- POUND_DISCARDED (R50)
  ⟨0x44E0, 0x1, 32, 0x08, 0x08, .u32, .ro, .none, 0x0, .any⟩   -- CHECK_FAIL_OBJECT (R50)
]

/-- Objects 0x45xx of the dictionary, as the object tables of spec/ list them. -/
def Dict.rows45 : List Row := [
  ⟨0x4500, 0x1, 1, 0x00, 0x00, .u8, .ro, .none, 0xA, .any⟩,   -- MEM_CFG_ENTRIES (R396)
  ⟨0x4500, 0x1, 1, 0x01, 0x01, .u8, .rwc, .configure, 0x3, .sp .memChannels⟩,   -- MEM_CHANNELS (R396)
  ⟨0x4500, 0x1, 1, 0x02, 0x02, .u8, .rwc, .configure, 0x0, .u 0 2⟩,   -- MEM_DEVICE (R396)
  ⟨0x4500, 0x1, 1, 0x03, 0x03, .u8, .rwc, .configure, 0x2, .u 0 2⟩,   -- MEM_FREQ_SP0 (R396)
  ⟨0x4500, 0x1, 1, 0x04, 0x04, .u8, .rwc, .configure, 0x0, .u 0 2⟩,   -- MEM_FREQ_SP1 (R396)
  ⟨0x4500, 0x1, 1, 0x05, 0x05, .u8, .rws, .layer, 0x0, .u 0 1⟩,   -- MEM_FREQ_SEL (R396)
  ⟨0x4500, 0x1, 1, 0x06, 0x06, .u8, .rwc, .configure, 0xC, .u 6 16⟩,   -- INTERLEAVE_LOG2 (R396)
  ⟨0x4500, 0x1, 1, 0x07, 0x07, .u64, .rwc, .configure, 0x0, .sp .layerBufBase0⟩,   -- LAYER_BUF_BASE_0 (R396)
  ⟨0x4500, 0x1, 1, 0x08, 0x08, .u64, .rwc, .configure, 0x10000000, .sp .layerBufBase1⟩,   -- LAYER_BUF_BASE_1 (R396)
  ⟨0x4500, 0x1, 1, 0x09, 0x09, .u16, .rw, .write, 0x190, .u 100 2000⟩,   -- TRAJ_AGE_CAP (R396)
  ⟨0x4500, 0x1, 1, 0x0A, 0x0A, .u16, .rw, .write, 0xFA0, .u 1000 65535⟩,   -- AGE_CAP (R396)
  ⟨0x4501, 0x1, 1, 0x00, 0x00, .u8, .ro, .none, 0x7, .any⟩,   -- MEM_STATUS_ENTRIES (R397)
  ⟨0x4501, 0x1, 1, 0x01, 0x01, .u8, .ro, .none, 0x0, .any⟩,   -- MEM_STATE (R397)
  ⟨0x4501, 0x1, 1, 0x02, 0x02, .u16, .ro, .none, 0x0, .any⟩,   -- MEM_FREQ_IN_USE (R397)
  ⟨0x4501, 0x1, 1, 0x03, 0x03, .u64, .ro, .none, 0x0, .any⟩,   -- HOST_SPACE (R397)
  ⟨0x4501, 0x1, 1, 0x04, 0x04, .u8, .ro, .none, 0x0, .any⟩,   -- TEMP_HIGH (R397)
  ⟨0x4501, 0x1, 1, 0x05, 0x05, .u16, .ro, .none, 0x0, .any⟩,   -- REFRESH_OWED (R397)
  ⟨0x4501, 0x1, 1, 0x06, 0x06, .u16, .ro, .none, 0x0, .any⟩,   -- TRAIN_FAIL (R397)
  ⟨0x4501, 0x1, 1, 0x07, 0x07, .u16, .ro, .none, 0x0, .any⟩,   -- MEM_CHECK (R397)
  ⟨0x4502, 0x1, 1, 0x00, 0x00, .u8, .ro, .none, 0x9, .any⟩,   -- MEM_ERR_ENTRIES (R397)
  ⟨0x4502, 0x1, 1, 0x01, 0x01, .u32, .ro, .none, 0x0, .any⟩,   -- CE_COUNT_0 (R397)
  ⟨0x4502, 0x1, 1, 0x02, 0x02, .u32, .ro, .none, 0x0, .any⟩,   -- CE_COUNT_1 (R397)
  ⟨0x4502, 0x1, 1, 0x03, 0x03, .u32, .ro, .none, 0x0, .any⟩,   -- UE_COUNT (R397)
  ⟨0x4502, 0x1, 1, 0x04, 0x04, .u64, .ro, .none, 0x0, .any⟩,   -- LAST_ERR_ADDR (R397)
  ⟨0x4502, 0x1, 1, 0x05, 0x05, .u8, .ro, .none, 0x0, .any⟩,   -- LAST_ERR_KIND (R397)
  ⟨0x4502, 0x1, 1, 0x06, 0x06, .u64, .ro, .none, 0x0, .any⟩,   -- SCRUB_POS (R397)
  ⟨0x4502, 0x1, 1, 0x07, 0x07, .u32, .ro, .none, 0x0, .any⟩,   -- SCRUB_PASSES (R397)
  ⟨0x4502, 0x1, 1, 0x08, 0x08, .u32, .ro, .none, 0x0, .any⟩,   -- REREAD_RECOVERED (R397)
  ⟨0x4502, 0x1, 1, 0x09, 0x09, .u32, .rw, .write, 0x0, .zero⟩,   -- TRAJ_LAT_MAX (R397)
  ⟨0x4503, 0x1, 1, 0x00, 0x00, .u8, .ro, .none, 0x2, .any⟩,   -- MEM_WINDOW_ENTRIES (R397)
  ⟨0x4503, 0x1, 1, 0x01, 0x01, .u64, .rw, .write, 0x0, .any⟩,   -- MEM_ADDR (R397)
  ⟨0x4503, 0x1, 1, 0x02, 0x02, .domain, .rw, .write, 0x0, .any⟩   -- MEM_DATA (R397)
]

/-- Objects 0x46xx of the dictionary, as the object tables of spec/ list them. -/
def Dict.rows46 : List Row := [
  ⟨0x4600, 0x1, 1, 0x00, 0x00, .u8, .ro, .none, 0x5, .any⟩,   -- SELFTEST_ENTRIES (R468)
  ⟨0x4600, 0x1, 1, 0x01, 0x01, .u8, .wo, .write, 0x0, .any⟩,   -- SELFTEST_CMD (R468)
  ⟨0x4600, 0x1, 1, 0x02, 0x02, .u8, .rw, .write, 0x0, .u 0 3⟩,   -- SELFTEST_ON_ENTRY (R468)
  ⟨0x4600, 0x1, 1, 0x03, 0x03, .u8, .ro, .none, 0x0, .any⟩,   -- SELFTEST_STATE (R468)
  ⟨0x4600, 0x1, 1, 0x04, 0x04, .u32, .ro, .none, 0x0, .any⟩,   -- SELFTEST_FAIL (R468)
  ⟨0x4600, 0x1, 1, 0x05, 0x05, .u32, .ro, .none, 0x0, .any⟩,   -- SELFTEST_TIME (R468)
  ⟨0x4601, 0x1, 1, 0x01, 0x12, .u32, .ro, .none, 0x0, .any⟩,   -- SELFTEST_SIG (R468)
  ⟨0x4601, 0x1, 1, 0x00, 0x00, .u8, .ro, .none, 0x12, .any⟩,   -- (highest subindex) (R336)
  ⟨0x4602, 0x1, 1, 0x01, 0x04, .u8, .rw, .write, 0x0, .any⟩,   -- TP_SEL (R468)
  ⟨0x4602, 0x1, 1, 0x00, 0x00, .u8, .ro, .none, 0x4, .any⟩,   -- (highest subindex) (R336)
  ⟨0x4603, 0x1, 1, 0x01, 0x02, .u16, .rw, .write, 0x0, .sp .atpSel⟩,   -- ATP_SEL (R468)
  ⟨0x4603, 0x1, 1, 0x00, 0x00, .u8, .ro, .none, 0x2, .any⟩,   -- (highest subindex) (R336)
  ⟨0x4604, 0x1, 1, 0x01, 0x01, .u8, .rw, .write, 0xFF, .sp .testAxoSel⟩,   -- TEST_AXO_SEL (R468)
  ⟨0x4604, 0x1, 1, 0x02, 0x02, .i32, .rw, .write, 0x0, .i (-524288) 524287⟩,   -- TEST_AXO_CODE (R468)
  ⟨0x4604, 0x1, 1, 0x00, 0x00, .u8, .ro, .none, 0x2, .any⟩,   -- (highest subindex) (R336)
  ⟨0x4605, 0x1, 1, 0x01, 0x01, .u16, .wo, .write, 0x0, .any⟩,   -- CAPTURE_CMD (R468)
  ⟨0x4605, 0x1, 1, 0x02, 0x02, .u32, .rw, .write, 0x0, .sp .captureRdAddr⟩,   -- CAPTURE_RD_ADDR (R468)
  ⟨0x4605, 0x1, 1, 0x03, 0x03, .domain, .ro, .none, 0x0, .any⟩,   -- CAPTURE_RD_DATA (R468)
  ⟨0x4605, 0x1, 1, 0x00, 0x00, .u8, .ro, .none, 0x3, .any⟩,   -- (highest subindex) (R336)
  ⟨0x4606, 0x1, 1, 0x01, 0x04, .u32, .rw, .write, 0x0, .sp .trigCfg⟩,   -- TRIG_CFG (R468)
  ⟨0x4606, 0x1, 1, 0x00, 0x00, .u8, .ro, .none, 0x4, .any⟩,   -- (highest subindex) (R336)
  ⟨0x4607, 0x1, 1, 0x01, 0x04, .u8, .ro, .none, 0x0, .any⟩,   -- TRIG_STATE (R468)
  ⟨0x4607, 0x1, 1, 0x00, 0x00, .u8, .ro, .none, 0x4, .any⟩,   -- (highest subindex) (R336)
  ⟨0x4608, 0x1, 1, 0x01, 0x04, .time80, .ro, .none, 0x0, .any⟩,   -- TRIG_LT (R468)
  ⟨0x4608, 0x1, 1, 0x00, 0x00, .u8, .ro, .none, 0x4, .any⟩,   -- (highest subindex) (R336)
  ⟨0x4609, 0x1, 1, 0x01, 0x04, .u32, .ro, .none, 0x0, .any⟩,   -- IGNORED_COUNT (R468)
  ⟨0x4609, 0x1, 1, 0x00, 0x00, .u8, .ro, .none, 0x4, .any⟩,   -- (highest subindex) (R336)
  ⟨0x4620, 0x1, 32, 0x00, 0x00, .u8, .ro, .none, 0x9, .any⟩,   -- TAP_ENTRIES (R468)
  ⟨0x4620, 0x1, 32, 0x01, 0x01, .u8, .rw, .write, 0x0, .sp .tapPoint⟩,   -- TAP_POINT (R468)
  ⟨0x4620, 0x1, 32, 0x02, 0x02, .u8, .rw, .write, 0x0, .any⟩,   -- TAP_UNIT (R468)
  ⟨0x4620, 0x1, 32, 0x03, 0x03, .u8, .rw, .write, 0x0, .u 0 3⟩,   -- TAP_TRIG (R468)
  ⟨0x4620, 0x1, 32, 0x04, 0x04, .u16, .rw, .write, 0x1, .u 1 65535⟩,   -- DECIM (R468)
  ⟨0x4620, 0x1, 32, 0x05, 0x05, .u8, .rw, .write, 0x0, .u 0 1⟩,   -- TAP_TARGET (R468)
  ⟨0x4620, 0x1, 32, 0x06, 0x06, .u64, .rw, .write, 0x0, .sp .tapBase⟩,   -- TAP_BASE (R468)
  ⟨0x4620, 0x1, 32, 0x07, 0x07, .u32, .rw, .write, 0x10000, .sp .tapSize⟩,   -- TAP_SIZE (R468)
  ⟨0x4620, 0x1, 32, 0x08, 0x08, .u32, .rw, .write, 0x400, .any⟩,   -- TAP_POST (R468)
  ⟨0x4620, 0x1, 32, 0x09, 0x09, .u32, .ro, .none, 0x0, .any⟩   -- TAP_DROPPED (R468)
]

/-- The whole object dictionary (R339). -/
def Dict.rows : List Row :=
  Dict.rows10 ++ Dict.rows11 ++ Dict.rows12 ++ Dict.rows13 ++ Dict.rows18 ++ Dict.rows1Aa ++ Dict.rows1Ab ++ Dict.rows20a ++ Dict.rows20b ++ Dict.rows20c ++ Dict.rows21a ++ Dict.rows21b ++ Dict.rows30a ++ Dict.rows30b ++ Dict.rows30c ++ Dict.rows30d ++ Dict.rows30e ++ Dict.rows40 ++ Dict.rows41a ++ Dict.rows41b ++ Dict.rows42 ++ Dict.rows43 ++ Dict.rows44a ++ Dict.rows44b ++ Dict.rows45 ++ Dict.rows46

/-- Whether a row's index range holds `index`. -/
def Row.hasIndex (r : Row) (index : Nat) : Bool :=
  r.index ≤ index && (index - r.index) % r.stride == 0 && decide ((index - r.index) / r.stride < r.count)

/-- Whether a row describes the sub-entry of key `k`. -/
def Row.hasKey (r : Row) (k : Nat) : Bool :=
  r.hasIndex (keyIndex k) && r.subLo ≤ keySub k && decide (keySub k ≤ r.subHi)

/-- The instance number a row gives to the index of key `k`. -/
def Row.inst (r : Row) (k : Nat) : Nat := (keyIndex k - r.index) / r.stride

/-- The rows of the axes among which a row of index `i` stands, by its offset in the block of an axis. -/
def Dict.nearAxis (i : Nat) : List Row :=
  let o := (i - 0x3000) % 0x40
  if o < 7 then Dict.rows30a
  else if o = 7 then Dict.rows30a ++ Dict.rows30b
  else if o < 0xD then Dict.rows30b
  else if o = 0xD then Dict.rows30b ++ Dict.rows30c
  else if o < 0x21 then Dict.rows30c
  else if o = 0x21 then Dict.rows30c ++ Dict.rows30d
  else if o < 0x29 then Dict.rows30d
  else if o = 0x29 then Dict.rows30d ++ Dict.rows30e
  else Dict.rows30e

/-- The rows below 0x3000 among which a row of index `i` stands. -/
def Dict.nearLow (i : Nat) : List Row :=
  if i < 0x1100 then Dict.rows10
  else if i < 0x1200 then Dict.rows11
  else if i < 0x1300 then Dict.rows12
  else if i < 0x1800 then Dict.rows13
  else if i < 0x1A00 then Dict.rows18
  else if i < 0x2000 then Dict.rows1Aa ++ Dict.rows1Ab
  else if i < 0x2020 then Dict.rows20a
  else if i = 0x2020 then Dict.rows20a ++ Dict.rows20b
  else if i < 0x2061 then Dict.rows20b
  else if i < 0x2100 then Dict.rows20b ++ Dict.rows20c
  else Dict.rows21a ++ Dict.rows21b

/-- The rows from 0x4000 on among which a row of index `i` stands. -/
def Dict.nearHigh (i : Nat) : List Row :=
  if i < 0x4100 then Dict.rows40
  else if i < 0x4200 then Dict.rows41a ++ Dict.rows41b
  else if i < 0x4300 then Dict.rows42
  else if i < 0x4400 then Dict.rows43
  else if i < 0x4500 then Dict.rows44a ++ Dict.rows44b
  else if i < 0x4600 then Dict.rows45
  else Dict.rows46

/-- The part of the dictionary in which an index stands. -/
def Dict.near (i : Nat) : List Row :=
  if i < 0x3000 then Dict.nearLow i else if i < 0x4000 then Dict.nearAxis i else Dict.nearHigh i

/-- The row of a sub-entry, if the dictionary has it. -/
def Dict.row? (k : Nat) : Option Row := (Dict.near (keyIndex k)).find? (·.hasKey k)

/-- Whether the dictionary has an object of this index (R38, the first check). -/
def Dict.hasIndex (index : Nat) : Bool := (Dict.near index).any (·.hasIndex index)

/-- Width in bits of a value of a type (R339); a string and a domain have no fixed width. -/
def Ty.bits : Ty → Nat
  | .bool => 8 | .u8 => 8 | .u16 => 16 | .u32 => 32 | .u64 => 64
  | .i16 => 16 | .i32 => 32 | .i64 => 64 | .coef => 32 | .time80 => 80 | .string => 0 | .domain => 0

/-- SENSOR_KIND (0x3001.01, R59). -/
abbrev Reg.sensorKind (a : Nat) : Nat := regKey (0x3001 + 0x40 * a) (0x01)
/-- PAIR_PRIMARY (0x3001.02, R59). -/
abbrev Reg.pairPrimary (a : Nat) : Nat := regKey (0x3001 + 0x40 * a) (0x02)
/-- PAIR_FINE (0x3001.03, R59). -/
abbrev Reg.pairFine (a : Nat) : Nat := regKey (0x3001 + 0x40 * a) (0x03)
/-- EXC_DRIVER (0x3001.04, R59). -/
abbrev Reg.excDriver (a : Nat) : Nat := regKey (0x3001 + 0x40 * a) (0x04)
/-- SETPOINT_AMP (0x3001.05, R59). -/
abbrev Reg.setpointAmp (a : Nat) : Nat := regKey (0x3001 + 0x40 * a) (0x05)
/-- EXC_FREQ (0x2102.01, R69). -/
abbrev Reg.excFreq (t e : Nat) : Nat := regKey (0x2102 + 0x10 * t) (0x01 + e)
/-- EXC_AMPL (0x2103.01, R69). -/
abbrev Reg.excAmpl (t e : Nat) : Nat := regKey (0x2103 + 0x10 * t) (0x01 + e)
/-- EXC_CONFIG (0x2104.01, R69). -/
abbrev Reg.excConfig (t e : Nat) : Nat := regKey (0x2104 + 0x10 * t) (0x01 + e)
/-- EXC_STATUS (0x2105.01, R69). -/
abbrev Reg.excStatus (t e : Nat) : Nat := regKey (0x2105 + 0x10 * t) (0x01 + e)
/-- PIN_ROLE (0x2101.01, R83). -/
abbrev Reg.pinRole (t e : Nat) : Nat := regKey (0x2101 + 0x10 * t) (0x01 + e)
/-- AMP_MODE (0x2106.01, R83). -/
abbrev Reg.ampMode (t e : Nat) : Nat := regKey (0x2106 + 0x10 * t) (0x01 + e)
/-- AMP_RESET (0x2107.01, R83). -/
abbrev Reg.ampReset (t e : Nat) : Nat := regKey (0x2107 + 0x10 * t) (0x01 + e)
/-- AMP_CLIP_COUNT (0x2108.01, R83). -/
abbrev Reg.ampClipCount (t e : Nat) : Nat := regKey (0x2108 + 0x10 * t) (0x01 + e)
/-- BIAS_LEVEL (0x2109.01, R88). -/
abbrev Reg.biasLevel (t e : Nat) : Nat := regKey (0x2109 + 0x10 * t) (0x01 + e)
/-- THERM_CHANNEL (0x210A.01, R88). -/
abbrev Reg.thermChannel (t w : Nat) : Nat := regKey (0x210A + 0x10 * t + w) (0x01)
/-- THERM_BIAS (0x210A.02, R88). -/
abbrev Reg.thermBias (t w : Nat) : Nat := regKey (0x210A + 0x10 * t + w) (0x02)
/-- THERM_RSERIES (0x210A.03, R88). -/
abbrev Reg.thermRseries (t w : Nat) : Nat := regKey (0x210A + 0x10 * t + w) (0x03)
/-- THERM_RNOM (0x210A.04, R88). -/
abbrev Reg.thermRnom (t w : Nat) : Nat := regKey (0x210A + 0x10 * t + w) (0x04)
/-- THERM_BETA (0x210A.05, R88). -/
abbrev Reg.thermBeta (t w : Nat) : Nat := regKey (0x210A + 0x10 * t + w) (0x05)
/-- THERM_TEMP (0x210A.06, R88). -/
abbrev Reg.thermTemp (t w : Nat) : Nat := regKey (0x210A + 0x10 * t + w) (0x06)
/-- THERM_STATUS (0x210A.07, R88). -/
abbrev Reg.thermStatus (t w : Nat) : Nat := regKey (0x210A + 0x10 * t + w) (0x07)
/-- TEMP_DIE (0x210C.01, R88). -/
abbrev Reg.tempDie (t : Nat) : Nat := regKey (0x210C + 0x10 * t) (0x01)
/-- XP_CHECK (0x210C.02, R88). -/
abbrev Reg.xpCheck (t : Nat) : Nat := regKey (0x210C + 0x10 * t) (0x02)
/-- CAL_VALID (0x210C.03, R88). -/
abbrev Reg.calValid (t : Nat) : Nat := regKey (0x210C + 0x10 * t) (0x03)
/-- PULL_CFG (0x210D.01, R110). -/
abbrev Reg.pullCfg (t e : Nat) : Nat := regKey (0x210D + 0x10 * t) (0x01 + e)
/-- IN_CM_LOW (0x210E.01, R110). -/
abbrev Reg.inCmLow (t : Nat) : Nat := regKey (0x210E + 0x10 * t) (0x01)
/-- IN_CM_HIGH (0x210E.02, R110). -/
abbrev Reg.inCmHigh (t : Nat) : Nat := regKey (0x210E + 0x10 * t) (0x02)
/-- SNS_CM_LOW (0x210E.03, R110). -/
abbrev Reg.snsCmLow (t : Nat) : Nat := regKey (0x210E + 0x10 * t) (0x03)
/-- SNS_CM_HIGH (0x210E.04, R110). -/
abbrev Reg.snsCmHigh (t : Nat) : Nat := regKey (0x210E + 0x10 * t) (0x04)
/-- CM_DWELL (0x210E.05, R110). -/
abbrev Reg.cmDwell (t : Nat) : Nat := regKey (0x210E + 0x10 * t) (0x05)
/-- CM_STATUS (0x210E.06, R110). -/
abbrev Reg.cmStatus (t : Nat) : Nat := regKey (0x210E + 0x10 * t) (0x06)
/-- EXC_AMP_LOW (0x210F.01, R110). -/
abbrev Reg.excAmpLow (t : Nat) : Nat := regKey (0x210F + 0x10 * t) (0x01)
/-- EXC_AMP_HIGH (0x210F.02, R110). -/
abbrev Reg.excAmpHigh (t : Nat) : Nat := regKey (0x210F + 0x10 * t) (0x02)
/-- EXC_PHASE_LIMIT (0x210F.03, R110). -/
abbrev Reg.excPhaseLimit (t : Nat) : Nat := regKey (0x210F + 0x10 * t) (0x03)
/-- EXC_SUP_STATUS (0x210F.04, R110). -/
abbrev Reg.excSupStatus (t : Nat) : Nat := regKey (0x210F + 0x10 * t) (0x04)
/-- AMP_NOMINAL (0x300C.01, R111). -/
abbrev Reg.ampNominal (a : Nat) : Nat := regKey (0x300C + 0x40 * a) (0x01)
/-- AMP_LOW (0x300C.02, R111). -/
abbrev Reg.ampLow (a : Nat) : Nat := regKey (0x300C + 0x40 * a) (0x02)
/-- AMP_HIGH (0x300C.03, R111). -/
abbrev Reg.ampHigh (a : Nat) : Nat := regKey (0x300C + 0x40 * a) (0x03)
/-- COAST_LIMIT (0x300C.04, R111). -/
abbrev Reg.coastLimit (a : Nat) : Nat := regKey (0x300C + 0x40 * a) (0x04)
/-- SUP_STATUS (0x300D.01, R111). -/
abbrev Reg.supStatus (a : Nat) : Nat := regKey (0x300D + 0x40 * a) (0x01)
/-- COAST_COUNT (0x300D.02, R111). -/
abbrev Reg.coastCount (a : Nat) : Nat := regKey (0x300D + 0x40 * a) (0x02)
/-- AMP_LEARNED (0x300D.03, R111). -/
abbrev Reg.ampLearned (a : Nat) : Nat := regKey (0x300D + 0x40 * a) (0x03)
/-- AMP_SQ (0x300D.04, R111). -/
abbrev Reg.ampSq (a : Nat) : Nat := regKey (0x300D + 0x40 * a) (0x04)
/-- INVALID_COUNT (0x300D.05, R111). -/
abbrev Reg.invalidCount (a : Nat) : Nat := regKey (0x300D + 0x40 * a) (0x05)
/-- SETTLE_END_LT (0x300D.06, R111). -/
abbrev Reg.settleEndLt (a : Nat) : Nat := regKey (0x300D + 0x40 * a) (0x06)
/-- AMP_LEARNED_FINE (0x300D.07, R111). -/
abbrev Reg.ampLearnedFine (a : Nat) : Nat := regKey (0x300D + 0x40 * a) (0x07)
/-- DEMOD_PERIOD (0x2100.01, R131). -/
abbrev Reg.demodPeriod (t : Nat) : Nat := regKey (0x2100 + 0x10 * t) (0x01)
/-- DC_CORNER (0x2100.02, R131). -/
abbrev Reg.dcCorner (t : Nat) : Nat := regKey (0x2100 + 0x10 * t) (0x02)
/-- DC_FREEZE (0x2100.03, R131). -/
abbrev Reg.dcFreeze (t : Nat) : Nat := regKey (0x2100 + 0x10 * t) (0x03)
/-- FILT_CHECK (0x2100.04, R131). -/
abbrev Reg.filtCheck (t : Nat) : Nat := regKey (0x2100 + 0x10 * t) (0x04)
/-- EXC_PHASE_CAL (0x2100.05, R131). -/
abbrev Reg.excPhaseCal (t e : Nat) : Nat := regKey (0x2100 + 0x10 * t) (0x05 + e)
/-- CAL_FREQ (0x2100.0B, R131). -/
abbrev Reg.calFreq (t e : Nat) : Nat := regKey (0x2100 + 0x10 * t) (0x0B + e)
/-- MA_LENGTH (0x3002.01, R132). -/
abbrev Reg.maLength (a : Nat) : Nat := regKey (0x3002 + 0x40 * a) (0x01)
/-- RESPONSE (0x3002.02, R132). -/
abbrev Reg.response (a : Nat) : Nat := regKey (0x3002 + 0x40 * a) (0x02)
/-- GD_TABULATED (0x3002.03, R132). -/
abbrev Reg.gdTabulated (a : Nat) : Nat := regKey (0x3002 + 0x40 * a) (0x03)
/-- GD_EXACT (0x3002.04, R132). -/
abbrev Reg.gdExact (a : Nat) : Nat := regKey (0x3002 + 0x40 * a) (0x04)
/-- DEMOD_PHASE_CAL (0x3003.01, R132). -/
abbrev Reg.demodPhaseCal (a : Nat) : Nat := regKey (0x3003 + 0x40 * a) (0x01)
/-- DEMOD_PHASE_CAL_FINE (0x3003.02, R132). -/
abbrev Reg.demodPhaseCalFine (a : Nat) : Nat := regKey (0x3003 + 0x40 * a) (0x02)
/-- DEMOD_PHASE_TRIM (0x3003.03, R132). -/
abbrev Reg.demodPhaseTrim (a : Nat) : Nat := regKey (0x3003 + 0x40 * a) (0x03)
/-- DEMOD_PHASE_TRIM_FINE (0x3003.04, R132). -/
abbrev Reg.demodPhaseTrimFine (a : Nat) : Nat := regKey (0x3003 + 0x40 * a) (0x04)
/-- DEMOD_STATUS (0x3003.05, R132). -/
abbrev Reg.demodStatus (a : Nat) : Nat := regKey (0x3003 + 0x40 * a) (0x05)
/-- CORR_OFFSET_S (0x3004.01, R132). -/
abbrev Reg.corrOffsetS (a w : Nat) : Nat := regKey (0x3004 + 0x40 * a + w) (0x01)
/-- CORR_OFFSET_C (0x3004.02, R132). -/
abbrev Reg.corrOffsetC (a w : Nat) : Nat := regKey (0x3004 + 0x40 * a + w) (0x02)
/-- CORR_KCC (0x3004.03, R132). -/
abbrev Reg.corrKcc (a w : Nat) : Nat := regKey (0x3004 + 0x40 * a + w) (0x03)
/-- CORR_KCS (0x3004.04, R132). -/
abbrev Reg.corrKcs (a w : Nat) : Nat := regKey (0x3004 + 0x40 * a + w) (0x04)
/-- ELEC_RATIO (0x3006.01, R135). -/
abbrev Reg.elecRatio (a : Nat) : Nat := regKey (0x3006 + 0x40 * a) (0x01)
/-- DS_RATIO (0x3006.02, R135). -/
abbrev Reg.dsRatio (a : Nat) : Nat := regKey (0x3006 + 0x40 * a) (0x02)
/-- ANGLE_DIR (0x3006.03, R135). -/
abbrev Reg.angleDir (a : Nat) : Nat := regKey (0x3006 + 0x40 * a) (0x03)
/-- ANGLE_ZERO (0x3006.04, R135). -/
abbrev Reg.angleZero (a : Nat) : Nat := regKey (0x3006 + 0x40 * a) (0x04)
/-- ACQ_REF (0x3006.05, R135). -/
abbrev Reg.acqRef (a : Nat) : Nat := regKey (0x3006 + 0x40 * a) (0x05)
/-- LIN_ENABLE (0x3009.01, R155). -/
abbrev Reg.linEnable (a : Nat) : Nat := regKey (0x3009 + 0x40 * a) (0x01)
/-- LIN_CENTRE (0x3009.02, R155). -/
abbrev Reg.linCentre (a : Nat) : Nat := regKey (0x3009 + 0x40 * a) (0x02)
/-- LIN_HALFSPAN (0x3009.03, R155). -/
abbrev Reg.linHalfspan (a : Nat) : Nat := regKey (0x3009 + 0x40 * a) (0x03)
/-- LIN_TEMP_SRC (0x3009.04, R155). -/
abbrev Reg.linTempSrc (a : Nat) : Nat := regKey (0x3009 + 0x40 * a) (0x04)
/-- LIN_TEMP_CENTRE (0x3009.05, R155). -/
abbrev Reg.linTempCentre (a : Nat) : Nat := regKey (0x3009 + 0x40 * a) (0x05)
/-- LIN_TEMP_HALFSPAN (0x3009.06, R155). -/
abbrev Reg.linTempHalfspan (a : Nat) : Nat := regKey (0x3009 + 0x40 * a) (0x06)
/-- LIN_TEMP_FIXED (0x3009.07, R155). -/
abbrev Reg.linTempFixed (a : Nat) : Nat := regKey (0x3009 + 0x40 * a) (0x07)
/-- LIN_STATUS (0x3009.08, R155). -/
abbrev Reg.linStatus (a : Nat) : Nat := regKey (0x3009 + 0x40 * a) (0x08)
/-- LIN_CORRECTION (0x3009.09, R155). -/
abbrev Reg.linCorrection (a : Nat) : Nat := regKey (0x3009 + 0x40 * a) (0x09)
/-- LIN_TEMP_USED (0x3009.0A, R155). -/
abbrev Reg.linTempUsed (a : Nat) : Nat := regKey (0x3009 + 0x40 * a) (0x0A)
/-- LIN_COEFF (0x300A.01, R155). -/
abbrev Reg.linCoeff (a e : Nat) : Nat := regKey (0x300A + 0x40 * a) (0x01 + e)
/-- ANGLE (0x300B.01, R159). -/
abbrev Reg.angle (a : Nat) : Nat := regKey (0x300B + 0x40 * a) (0x01)
/-- TURN_COUNT (0x300B.02, R159). -/
abbrev Reg.turnCount (a : Nat) : Nat := regKey (0x300B + 0x40 * a) (0x02)
/-- SPEED (0x300B.03, R159). -/
abbrev Reg.speed (a : Nat) : Nat := regKey (0x300B + 0x40 * a) (0x03)
/-- ACCEL (0x300B.04, R159). -/
abbrev Reg.accel (a : Nat) : Nat := regKey (0x300B + 0x40 * a) (0x04)
/-- ANGLE_STATUS (0x300B.05, R159). -/
abbrev Reg.angleStatus (a : Nat) : Nat := regKey (0x300B + 0x40 * a) (0x05)
/-- ANGLE_TAG (0x300B.06, R159). -/
abbrev Reg.angleTag (a : Nat) : Nat := regKey (0x300B + 0x40 * a) (0x06)
/-- OBS_ACC_FEED (0x3007.01, R160). -/
abbrev Reg.obsAccFeed (a : Nat) : Nat := regKey (0x3007 + 0x40 * a) (0x01)
/-- OBS_BANDWIDTH (0x3007.02, R160). -/
abbrev Reg.obsBandwidth (a : Nat) : Nat := regKey (0x3007 + 0x40 * a) (0x02)
/-- OBS_SLIP_LIMIT (0x3007.03, R160). -/
abbrev Reg.obsSlipLimit (a : Nat) : Nat := regKey (0x3007 + 0x40 * a) (0x03)
/-- ACQ_ERR_LIMIT (0x3007.04, R160). -/
abbrev Reg.acqErrLimit (a : Nat) : Nat := regKey (0x3007 + 0x40 * a) (0x04)
/-- ACQ_MIN_OUTPUTS (0x3007.05, R160). -/
abbrev Reg.acqMinOutputs (a : Nat) : Nat := regKey (0x3007 + 0x40 * a) (0x05)
/-- DS_LIMIT (0x3007.06, R160). -/
abbrev Reg.dsLimit (a : Nat) : Nat := regKey (0x3007 + 0x40 * a) (0x06)
/-- DS_DWELL (0x3007.07, R160). -/
abbrev Reg.dsDwell (a : Nat) : Nat := regKey (0x3007 + 0x40 * a) (0x07)
/-- OBS_K1 (0x3008.01, R161). -/
abbrev Reg.obsK1 (a : Nat) : Nat := regKey (0x3008 + 0x40 * a) (0x01)
/-- OBS_K2 (0x3008.02, R161). -/
abbrev Reg.obsK2 (a : Nat) : Nat := regKey (0x3008 + 0x40 * a) (0x02)
/-- OBS_K3 (0x3008.03, R161). -/
abbrev Reg.obsK3 (a : Nat) : Nat := regKey (0x3008 + 0x40 * a) (0x03)
/-- OBS_BW_IN_USE (0x3008.04, R161). -/
abbrev Reg.obsBwInUse (a : Nat) : Nat := regKey (0x3008 + 0x40 * a) (0x04)
/-- OBS_ERROR (0x3008.05, R161). -/
abbrev Reg.obsError (a : Nat) : Nat := regKey (0x3008 + 0x40 * a) (0x05)
/-- OBS_DEV_ACC (0x3008.06, R161). -/
abbrev Reg.obsDevAcc (a : Nat) : Nat := regKey (0x3008 + 0x40 * a) (0x06)
/-- ACQ_OUTPUTS (0x3008.07, R161). -/
abbrev Reg.acqOutputs (a : Nat) : Nat := regKey (0x3008 + 0x40 * a) (0x07)
/-- ACQ_COUNT (0x3008.08, R161). -/
abbrev Reg.acqCount (a : Nat) : Nat := regKey (0x3008 + 0x40 * a) (0x08)
/-- ACQ_CAUSE (0x3008.09, R161). -/
abbrev Reg.acqCause (a : Nat) : Nat := regKey (0x3008 + 0x40 * a) (0x09)
/-- FEED_MISS (0x3008.0A, R161). -/
abbrev Reg.feedMiss (a : Nat) : Nat := regKey (0x3008 + 0x40 * a) (0x0A)
/-- SLIP_COUNT (0x3008.0B, R161). -/
abbrev Reg.slipCount (a : Nat) : Nat := regKey (0x3008 + 0x40 * a) (0x0B)
/-- DS_DEVIATION (0x3008.0C, R161). -/
abbrev Reg.dsDeviation (a : Nat) : Nat := regKey (0x3008 + 0x40 * a) (0x0C)
/-- BANK_SWAP (0x3020.01, R195). -/
abbrev Reg.bankSwap (a : Nat) : Nat := regKey (0x3020 + 0x40 * a) (0x01)
/-- TRACK_FORWARD (0x3020.02, R195). -/
abbrev Reg.trackForward (a : Nat) : Nat := regKey (0x3020 + 0x40 * a) (0x02)
/-- BANK_READ_SEL (0x3020.03, R195). -/
abbrev Reg.bankReadSel (a : Nat) : Nat := regKey (0x3020 + 0x40 * a) (0x03)
/-- BANK_STATE (0x3020.04, R195). -/
abbrev Reg.bankState (a : Nat) : Nat := regKey (0x3020 + 0x40 * a) (0x04)
/-- FADE_POS (0x3020.05, R195). -/
abbrev Reg.fadePos (a : Nat) : Nat := regKey (0x3020 + 0x40 * a) (0x05)
/-- FADE_LEN (0x3020.06, R195). -/
abbrev Reg.fadeLen (a : Nat) : Nat := regKey (0x3020 + 0x40 * a) (0x06)
/-- CRC_POUND (0x3020.07, R195). -/
abbrev Reg.crcPound (a : Nat) : Nat := regKey (0x3020 + 0x40 * a) (0x07)
/-- CRC_ACTIVE (0x3020.08, R195). -/
abbrev Reg.crcActive (a : Nat) : Nat := regKey (0x3020 + 0x40 * a) (0x08)
/-- CRC_INCOMING (0x3020.09, R195). -/
abbrev Reg.crcIncoming (a : Nat) : Nat := regKey (0x3020 + 0x40 * a) (0x09)
/-- CRC_REQUEST (0x3020.0A, R195). -/
abbrev Reg.crcRequest (a : Nat) : Nat := regKey (0x3020 + 0x40 * a) (0x0A)
/-- LAW_STATUS (0x3020.0B, R195). -/
abbrev Reg.lawStatus (a : Nat) : Nat := regKey (0x3020 + 0x40 * a) (0x0B)
/-- MISS_LIMIT (0x3020.0C, R195). -/
abbrev Reg.missLimit (a : Nat) : Nat := regKey (0x3020 + 0x40 * a) (0x0C)
/-- DEADLINE_MISS (0x3026.01, R195). -/
abbrev Reg.deadlineMiss (a : Nat) : Nat := regKey (0x3026 + 0x40 * a) (0x01)
/-- MISS_RUN (0x3026.02, R195). -/
abbrev Reg.missRun (a : Nat) : Nat := regKey (0x3026 + 0x40 * a) (0x02)
/-- CYCLES_TAB (0x3026.03, R195). -/
abbrev Reg.cyclesTab (a : Nat) : Nat := regKey (0x3026 + 0x40 * a) (0x03)
/-- CYCLES_MEAS (0x3026.04, R195). -/
abbrev Reg.cyclesMeas (a : Nat) : Nat := regKey (0x3026 + 0x40 * a) (0x04)
/-- CYCLES_MAX (0x3026.05, R195). -/
abbrev Reg.cyclesMax (a : Nat) : Nat := regKey (0x3026 + 0x40 * a) (0x05)
/-- INTEG_1 (0x3026.06, R195). -/
abbrev Reg.integ1 (a : Nat) : Nat := regKey (0x3026 + 0x40 * a) (0x06)
/-- INTEG_2 (0x3026.07, R195). -/
abbrev Reg.integ2 (a : Nat) : Nat := regKey (0x3026 + 0x40 * a) (0x07)
/-- U_CMD (0x3026.08, R195). -/
abbrev Reg.uCmd (a : Nat) : Nat := regKey (0x3026 + 0x40 * a) (0x08)
/-- A_CMD (0x3026.09, R195). -/
abbrev Reg.aCmd (a : Nat) : Nat := regKey (0x3026 + 0x40 * a) (0x09)
/-- ACC_SAT_COUNT (0x3026.0A, R195). -/
abbrev Reg.accSatCount (a : Nat) : Nat := regKey (0x3026 + 0x40 * a) (0x0A)
/-- SWAP_COUNT (0x3026.0B, R195). -/
abbrev Reg.swapCount (a : Nat) : Nat := regKey (0x3026 + 0x40 * a) (0x0B)
/-- SWAP_LOST_COUNT (0x3026.0C, R195). -/
abbrev Reg.swapLostCount (a : Nat) : Nat := regKey (0x3026 + 0x40 * a) (0x0C)
/-- LOOP_PERIOD (0x4000.01, R197). -/
abbrev Reg.loopPeriod (t : Nat) : Nat := regKey (0x4000 + 0x10 * t) (0x01)
/-- OUT_OFFSET (0x4000.02, R197). -/
abbrev Reg.outOffset (t : Nat) : Nat := regKey (0x4000 + 0x10 * t) (0x02)
/-- BUDGET_CYCLES (0x4001.01, R197). -/
abbrev Reg.budgetCycles (t : Nat) : Nat := regKey (0x4001 + 0x10 * t) (0x01)
/-- CYCLES_TOTAL (0x4001.02, R197). -/
abbrev Reg.cyclesTotal (t : Nat) : Nat := regKey (0x4001 + 0x10 * t) (0x02)
/-- CYCLES_WORST (0x4001.03, R197). -/
abbrev Reg.cyclesWorst (t : Nat) : Nat := regKey (0x4001 + 0x10 * t) (0x03)
/-- CYCLES_USED (0x4001.04, R197). -/
abbrev Reg.cyclesUsed (t : Nat) : Nat := regKey (0x4001 + 0x10 * t) (0x04)
/-- CYCLES_PEAK (0x4001.05, R197). -/
abbrev Reg.cyclesPeak (t : Nat) : Nat := regKey (0x4001 + 0x10 * t) (0x05)
/-- BUDGET_CHECK (0x4001.06, R197). -/
abbrev Reg.budgetCheck (t : Nat) : Nat := regKey (0x4001 + 0x10 * t) (0x06)
/-- SP_SOURCE (0x3010.01, R211). -/
abbrev Reg.spSource (a : Nat) : Nat := regKey (0x3010 + 0x40 * a) (0x01)
/-- SP_HOST (0x3010.02, R211). -/
abbrev Reg.spHost (a : Nat) : Nat := regKey (0x3010 + 0x40 * a) (0x02)
/-- SP_DERIV (0x3010.03, R211). -/
abbrev Reg.spDeriv (a : Nat) : Nat := regKey (0x3010 + 0x40 * a) (0x03)
/-- SP_ANA_GAIN (0x3010.04, R211). -/
abbrev Reg.spAnaGain (a : Nat) : Nat := regKey (0x3010 + 0x40 * a) (0x04)
/-- SP_ANA_OFFSET (0x3010.05, R211). -/
abbrev Reg.spAnaOffset (a : Nat) : Nat := regKey (0x3010 + 0x40 * a) (0x05)
/-- SP_PULSE_INPUT (0x3010.06, R211). -/
abbrev Reg.spPulseInput (a : Nat) : Nat := regKey (0x3010 + 0x40 * a) (0x06)
/-- SP_PULSE_SCALE (0x3010.07, R211). -/
abbrev Reg.spPulseScale (a : Nat) : Nat := regKey (0x3010 + 0x40 * a) (0x07)
/-- SP_TARGET (0x3010.08, R211). -/
abbrev Reg.spTarget (a : Nat) : Nat := regKey (0x3010 + 0x40 * a) (0x08)
/-- SP_TARGET_VEL (0x3010.09, R211). -/
abbrev Reg.spTargetVel (a : Nat) : Nat := regKey (0x3010 + 0x40 * a) (0x09)
/-- WEIR_VEL_LIMIT (0x3018.01, R211). -/
abbrev Reg.weirVelLimit (a : Nat) : Nat := regKey (0x3018 + 0x40 * a) (0x01)
/-- WEIR_ACC_LIMIT (0x3018.02, R211). -/
abbrev Reg.weirAccLimit (a : Nat) : Nat := regKey (0x3018 + 0x40 * a) (0x02)
/-- WEIR_JERK_LIMIT (0x3018.03, R211). -/
abbrev Reg.weirJerkLimit (a : Nat) : Nat := regKey (0x3018 + 0x40 * a) (0x03)
/-- WEIR_STATUS (0x3018.04, R211). -/
abbrev Reg.weirStatus (a : Nat) : Nat := regKey (0x3018 + 0x40 * a) (0x04)
/-- WEIR_OVERSHOOT (0x3018.05, R211). -/
abbrev Reg.weirOvershoot (a : Nat) : Nat := regKey (0x3018 + 0x40 * a) (0x05)
/-- OVERSHOOT_COUNT (0x3018.06, R211). -/
abbrev Reg.overshootCount (a : Nat) : Nat := regKey (0x3018 + 0x40 * a) (0x06)
/-- WEIR_POS (0x3018.07, R211). -/
abbrev Reg.weirPos (a : Nat) : Nat := regKey (0x3018 + 0x40 * a) (0x07)
/-- WEIR_VEL (0x3018.08, R211). -/
abbrev Reg.weirVel (a : Nat) : Nat := regKey (0x3018 + 0x40 * a) (0x08)
/-- LAYER_BUFFER (0x2040.01, R213). -/
abbrev Reg.layerBuffer : Nat := regKey (0x2040) (0x01)
/-- LAYER_NUMBER (0x2040.02, R213). -/
abbrev Reg.layerNumber : Nat := regKey (0x2040) (0x02)
/-- LAYER_START_LT (0x2040.03, R213). -/
abbrev Reg.layerStartLt : Nat := regKey (0x2040) (0x03)
/-- LAYER_STATE (0x2040.04, R213). -/
abbrev Reg.layerState : Nat := regKey (0x2040) (0x04)
/-- LAYER_IN_USE (0x2040.05, R213). -/
abbrev Reg.layerInUse : Nat := regKey (0x2040) (0x05)
/-- STREAM_START (0x2041.01, R213). -/
abbrev Reg.streamStart (e : Nat) : Nat := regKey (0x2041) (0x01 + e)
/-- STREAM_LEN (0x2042.01, R213). -/
abbrev Reg.streamLen (e : Nat) : Nat := regKey (0x2042) (0x01 + e)
/-- FIELD_SCALE (0x4101.01, R223). -/
abbrev Reg.fieldScale (l e : Nat) : Nat := regKey (0x4101 + 0x10 * l) (0x01 + e)
/-- FIELD_OFFSET (0x4101.04, R223). -/
abbrev Reg.fieldOffset (l e : Nat) : Nat := regKey (0x4101 + 0x10 * l) (0x04 + e)
/-- FOCUS_CURV (0x4101.07, R223). -/
abbrev Reg.focusCurv (l : Nat) : Nat := regKey (0x4101 + 0x10 * l) (0x07)
/-- FIELD_HOME (0x4101.08, R223). -/
abbrev Reg.fieldHome (l e : Nat) : Nat := regKey (0x4101 + 0x10 * l) (0x08 + e)
/-- GRID_ENABLE (0x4102.01, R223). -/
abbrev Reg.gridEnable (l : Nat) : Nat := regKey (0x4102 + 0x10 * l) (0x01)
/-- GRID_BASE (0x4102.02, R223). -/
abbrev Reg.gridBase (l : Nat) : Nat := regKey (0x4102 + 0x10 * l) (0x02)
/-- GATE_ON_DELAY (0x4103.01, R223). -/
abbrev Reg.gateOnDelay (l : Nat) : Nat := regKey (0x4103 + 0x10 * l) (0x01)
/-- GATE_OFF_DELAY (0x4103.02, R223). -/
abbrev Reg.gateOffDelay (l : Nat) : Nat := regKey (0x4103 + 0x10 * l) (0x02)
/-- RESUME_SPEED (0x4103.03, R223). -/
abbrev Reg.resumeSpeed (l : Nat) : Nat := regKey (0x4103 + 0x10 * l) (0x03)
/-- GATE_PIN (0x4103.04, R223). -/
abbrev Reg.gatePin (l : Nat) : Nat := regKey (0x4103 + 0x10 * l) (0x04)
/-- LMO_SEL (0x4103.05, R223). -/
abbrev Reg.lmoSel (l : Nat) : Nat := regKey (0x4103 + 0x10 * l) (0x05)
/-- STREAM_CMD (0x4100.01, R232). -/
abbrev Reg.streamCmd (l : Nat) : Nat := regKey (0x4100 + 0x10 * l) (0x01)
/-- STREAM_STATE (0x4104.01, R232). -/
abbrev Reg.streamState (l : Nat) : Nat := regKey (0x4104 + 0x10 * l) (0x01)
/-- SEG_EXEC (0x4104.02, R232). -/
abbrev Reg.segExec (l : Nat) : Nat := regKey (0x4104 + 0x10 * l) (0x02)
/-- STOP_SEG (0x4104.03, R232). -/
abbrev Reg.stopSeg (l : Nat) : Nat := regKey (0x4104 + 0x10 * l) (0x03)
/-- STOP_REASON (0x4104.04, R232). -/
abbrev Reg.stopReason (l : Nat) : Nat := regKey (0x4104 + 0x10 * l) (0x04)
/-- STOP_PARTIAL (0x4104.05, R232). -/
abbrev Reg.stopPartial (l : Nat) : Nat := regKey (0x4104 + 0x10 * l) (0x05)
/-- SEG_DONE_COUNT (0x4104.06, R232). -/
abbrev Reg.segDoneCount (l : Nat) : Nat := regKey (0x4104 + 0x10 * l) (0x06)
/-- STOP_LT (0x4104.07, R232). -/
abbrev Reg.stopLt (l : Nat) : Nat := regKey (0x4104 + 0x10 * l) (0x07)
/-- AXO_RANGE (0x3028.01, R259). -/
abbrev Reg.axoRange (a : Nat) : Nat := regKey (0x3028 + 0x40 * a) (0x01)
/-- CLEAR_CODE (0x3028.02, R259). -/
abbrev Reg.clearCode (a : Nat) : Nat := regKey (0x3028 + 0x40 * a) (0x02)
/-- AXO_CODE (0x3028.03, R259). -/
abbrev Reg.axoCode (a : Nat) : Nat := regKey (0x3028 + 0x40 * a) (0x03)
/-- AXO_STATUS (0x3028.04, R259). -/
abbrev Reg.axoStatus (a : Nat) : Nat := regKey (0x3028 + 0x40 * a) (0x04)
/-- AXO_CHECK (0x3028.05, R259). -/
abbrev Reg.axoCheck (a : Nat) : Nat := regKey (0x3028 + 0x40 * a) (0x05)
/-- RB_LIMIT (0x3029.01, R259). -/
abbrev Reg.rbLimit (a : Nat) : Nat := regKey (0x3029 + 0x40 * a) (0x01)
/-- RB_COUNT_LIMIT (0x3029.02, R259). -/
abbrev Reg.rbCountLimit (a : Nat) : Nat := regKey (0x3029 + 0x40 * a) (0x02)
/-- RB_VALUE (0x3029.03, R259). -/
abbrev Reg.rbValue (a : Nat) : Nat := regKey (0x3029 + 0x40 * a) (0x03)
/-- RB_DEVIATION (0x3029.04, R259). -/
abbrev Reg.rbDeviation (a : Nat) : Nat := regKey (0x3029 + 0x40 * a) (0x04)
/-- RB_RUN (0x3029.05, R259). -/
abbrev Reg.rbRun (a : Nat) : Nat := regKey (0x3029 + 0x40 * a) (0x05)
/-- RB_MISMATCH_COUNT (0x3029.06, R259). -/
abbrev Reg.rbMismatchCount (a : Nat) : Nat := regKey (0x3029 + 0x40 * a) (0x06)
/-- LMO_RANGE (0x4105.01, R260). -/
abbrev Reg.lmoRange (l : Nat) : Nat := regKey (0x4105 + 0x10 * l) (0x01)
/-- LMO_CLEAR_CODE (0x4105.02, R260). -/
abbrev Reg.lmoClearCode (l : Nat) : Nat := regKey (0x4105 + 0x10 * l) (0x02)
/-- LMO_CODE (0x4105.03, R260). -/
abbrev Reg.lmoCode (l : Nat) : Nat := regKey (0x4105 + 0x10 * l) (0x03)
/-- LMO_STATUS (0x4105.04, R260). -/
abbrev Reg.lmoStatus (l : Nat) : Nat := regKey (0x4105 + 0x10 * l) (0x04)
/-- LMO_CLEAR_FAULT (0x4105.05, R260). -/
abbrev Reg.lmoClearFault (l : Nat) : Nat := regKey (0x4105 + 0x10 * l) (0x05)
/-- LG_POLARITY (0x4105.06, R260). -/
abbrev Reg.lgPolarity (l : Nat) : Nat := regKey (0x4105 + 0x10 * l) (0x06)
/-- PROFILE_START (0x2050.01, R261). -/
abbrev Reg.profileStart (e : Nat) : Nat := regKey (0x2050) (0x01 + e)
/-- PROFILE_LEN (0x2051.01, R261). -/
abbrev Reg.profileLen (e : Nat) : Nat := regKey (0x2051) (0x01 + e)
/-- PROFILE_INTERVAL (0x2052.01, R261). -/
abbrev Reg.profileInterval (e : Nat) : Nat := regKey (0x2052) (0x01 + e)
/-- PROFILE_WR_ADDR (0x2053.01, R261). -/
abbrev Reg.profileWrAddr : Nat := regKey (0x2053) (0x01)
/-- PROFILE_WR_DATA (0x2053.02, R261). -/
abbrev Reg.profileWrData : Nat := regKey (0x2053) (0x02)
/-- BUS_RATIO (0x2060.01, R261). -/
abbrev Reg.busRatio (e : Nat) : Nat := regKey (0x2060) (0x01 + e)
/-- BUS_VALUE (0x2060.09, R261). -/
abbrev Reg.busValue (e : Nat) : Nat := regKey (0x2060) (0x09 + e)
/-- BUS_LOW_LIMIT (0x2060.11, R261). -/
abbrev Reg.busLowLimit (e : Nat) : Nat := regKey (0x2060) (0x11 + e)
/-- CLEAR_PINS (0x2061.01, R261). -/
abbrev Reg.clearPins : Nat := regKey (0x2061) (0x01)
/-- CLEAR_AX_COUNT (0x2061.02, R261). -/
abbrev Reg.clearAxCount : Nat := regKey (0x2061) (0x02)
/-- CLEAR_LM_COUNT (0x2061.03, R261). -/
abbrev Reg.clearLmCount : Nat := regKey (0x2061) (0x03)
/-- ENC_AXIS (0x4200.01, R273). -/
abbrev Reg.encAxis (k : Nat) : Nat := regKey (0x4200 + 0x10 * k) (0x01)
/-- ENC_CFG (0x4200.02, R273). -/
abbrev Reg.encCfg (k : Nat) : Nat := regKey (0x4200 + 0x10 * k) (0x02)
/-- ENC_SPAN (0x4200.03, R273). -/
abbrev Reg.encSpan (k : Nat) : Nat := regKey (0x4200 + 0x10 * k) (0x03)
/-- ENC_Z_POS (0x4200.04, R273). -/
abbrev Reg.encZPos (k : Nat) : Nat := regKey (0x4200 + 0x10 * k) (0x04)
/-- ENC_ENABLE (0x4200.05, R273). -/
abbrev Reg.encEnable (k : Nat) : Nat := regKey (0x4200 + 0x10 * k) (0x05)
/-- ENC_COUNT (0x4200.06, R273). -/
abbrev Reg.encCount (k : Nat) : Nat := regKey (0x4200 + 0x10 * k) (0x06)
/-- ENC_BACKLOG (0x4200.07, R273). -/
abbrev Reg.encBacklog (k : Nat) : Nat := regKey (0x4200 + 0x10 * k) (0x07)
/-- ENC_BACKLOG_MAX (0x4200.08, R273). -/
abbrev Reg.encBacklogMax (k : Nat) : Nat := regKey (0x4200 + 0x10 * k) (0x08)
/-- ENC_STATUS (0x4200.09, R273). -/
abbrev Reg.encStatus (k : Nat) : Nat := regKey (0x4200 + 0x10 * k) (0x09)
/-- SSI_AXIS (0x4280.01, R276). -/
abbrev Reg.ssiAxis (i : Nat) : Nat := regKey (0x4280 + 0x10 * i) (0x01)
/-- SSI_FORMAT (0x4280.02, R276). -/
abbrev Reg.ssiFormat (i : Nat) : Nat := regKey (0x4280 + 0x10 * i) (0x02)
/-- SSI_TIMEOUT (0x4280.03, R276). -/
abbrev Reg.ssiTimeout (i : Nat) : Nat := regKey (0x4280 + 0x10 * i) (0x03)
/-- SSI_FRAME_COUNT (0x4280.04, R276). -/
abbrev Reg.ssiFrameCount (i : Nat) : Nat := regKey (0x4280 + 0x10 * i) (0x04)
/-- SPI_SPEED_SHIFT (0x42A0.01, R281). -/
abbrev Reg.spiSpeedShift : Nat := regKey (0x42A0) (0x01)
/-- LATCH_SEQ (0x42A0.02, R281). -/
abbrev Reg.latchSeq : Nat := regKey (0x42A0) (0x02)
/-- LATCH_LT (0x42A0.03, R281). -/
abbrev Reg.latchLt : Nat := regKey (0x42A0) (0x03)
/-- SAMPLE_IGNORED (0x42A0.04, R281). -/
abbrev Reg.sampleIgnored : Nat := regKey (0x42A0) (0x04)
/-- SPI_ERR_COUNT (0x42A0.05, R281). -/
abbrev Reg.spiErrCount : Nat := regKey (0x42A0) (0x05)
/-- PLS_MODE (0x42C0.01, R284). -/
abbrev Reg.plsMode (k : Nat) : Nat := regKey (0x42C0 + 0x1 * k) (0x01)
/-- PLS_FILTER (0x42C0.02, R284). -/
abbrev Reg.plsFilter (k : Nat) : Nat := regKey (0x42C0 + 0x1 * k) (0x02)
/-- PLS_COUNT (0x42C0.03, R284). -/
abbrev Reg.plsCount (k : Nat) : Nat := regKey (0x42C0 + 0x1 * k) (0x03)
/-- PLS_PRESET (0x42C0.04, R284). -/
abbrev Reg.plsPreset (k : Nat) : Nat := regKey (0x42C0 + 0x1 * k) (0x04)
/-- PLS_ERR_COUNT (0x42C0.05, R284). -/
abbrev Reg.plsErrCount (k : Nat) : Nat := regKey (0x42C0 + 0x1 * k) (0x05)
/-- CAN_NOM_RATE (0x1800.01, R288). -/
abbrev Reg.canNomRate : Nat := regKey (0x1800) (0x01)
/-- CAN_DATA_RATE (0x1800.02, R288). -/
abbrev Reg.canDataRate : Nat := regKey (0x1800) (0x02)
/-- CAN_REQ_ID (0x1800.03, R288). -/
abbrev Reg.canReqId : Nat := regKey (0x1800) (0x03)
/-- CAN_RSP_ID (0x1800.04, R288). -/
abbrev Reg.canRspId : Nat := regKey (0x1800) (0x04)
/-- CAN_RANK (0x1800.05, R288). -/
abbrev Reg.canRank : Nat := regKey (0x1800) (0x05)
/-- CAN_CFG (0x1800.06, R288). -/
abbrev Reg.canCfg : Nat := regKey (0x1800) (0x06)
/-- CAN_STATUS (0x1800.07, R288). -/
abbrev Reg.canStatus : Nat := regKey (0x1800) (0x07)
/-- CAN_ERR_COUNTERS (0x1800.08, R288). -/
abbrev Reg.canErrCounters : Nat := regKey (0x1800) (0x08)
/-- TIME_MODE (0x1A00.01, R322). -/
abbrev Reg.timeMode : Nat := regKey (0x1A00) (0x01)
/-- TIME_FLAGS (0x1A00.02, R322). -/
abbrev Reg.timeFlags : Nat := regKey (0x1A00) (0x02)
/-- RATE_MANUAL (0x1A00.03, R322). -/
abbrev Reg.rateManual : Nat := regKey (0x1A00) (0x03)
/-- SERVO_TC (0x1A00.04, R322). -/
abbrev Reg.servoTc : Nat := regKey (0x1A00) (0x04)
/-- SLEW_LIMIT (0x1A00.05, R322). -/
abbrev Reg.slewLimit : Nat := regKey (0x1A00) (0x05)
/-- LOCK_LIMIT (0x1A00.06, R322). -/
abbrev Reg.lockLimit : Nat := regKey (0x1A00) (0x06)
/-- PATH_STEP_LIMIT (0x1A00.07, R322). -/
abbrev Reg.pathStepLimit : Nat := regKey (0x1A00) (0x07)
/-- PDELAY_TOL (0x1A00.08, R322). -/
abbrev Reg.pdelayTol : Nat := regKey (0x1A00) (0x08)
/-- PREFERRED_DOMAIN (0x1A00.09, R322). -/
abbrev Reg.preferredDomain : Nat := regKey (0x1A00) (0x09)
/-- LOCAL_TIME (0x1A01.01, R322). -/
abbrev Reg.localTime : Nat := regKey (0x1A01) (0x01)
/-- TIME_STATE (0x1A01.02, R322). -/
abbrev Reg.timeState : Nat := regKey (0x1A01) (0x02)
/-- ACTIVE_DOMAIN (0x1A01.03, R322). -/
abbrev Reg.activeDomain : Nat := regKey (0x1A01) (0x03)
/-- RATE_IN_USE (0x1A01.04, R322). -/
abbrev Reg.rateInUse : Nat := regKey (0x1A01) (0x04)
/-- FREQ_EST (0x1A01.05, R322). -/
abbrev Reg.freqEst : Nat := regKey (0x1A01) (0x05)
/-- TIME_OFFSET (0x1A01.06, R322). -/
abbrev Reg.timeOffset : Nat := regKey (0x1A01) (0x06)
/-- STEP_STATE (0x1A01.07, R322). -/
abbrev Reg.stepState : Nat := regKey (0x1A01) (0x07)
/-- STEP_FROM (0x1A01.08, R322). -/
abbrev Reg.stepFrom : Nat := regKey (0x1A01) (0x08)
/-- STEP_TO (0x1A01.09, R322). -/
abbrev Reg.stepTo : Nat := regKey (0x1A01) (0x09)
/-- SAMPLE_PLL (0x1A01.0A, R322). -/
abbrev Reg.samplePll : Nat := regKey (0x1A01) (0x0A)
/-- UTC_OFFSET (0x1A01.0B, R322). -/
abbrev Reg.utcOffset : Nat := regKey (0x1A01) (0x0B)
/-- DOMAIN_NUMBER (0x1A02.01, R323). -/
abbrev Reg.domainNumber (d : Nat) : Nat := regKey (0x1A02 + 0x1 * d) (0x01)
/-- ANNOUNCE_TIMEOUT (0x1A02.02, R323). -/
abbrev Reg.announceTimeout (d : Nat) : Nat := regKey (0x1A02 + 0x1 * d) (0x02)
/-- DOMAIN_STATE (0x1A02.03, R323). -/
abbrev Reg.domainState (d : Nat) : Nat := regKey (0x1A02 + 0x1 * d) (0x03)
/-- GM_IDENTITY (0x1A02.04, R323). -/
abbrev Reg.gmIdentity (d : Nat) : Nat := regKey (0x1A02 + 0x1 * d) (0x04)
/-- SYNC_PORT (0x1A02.05, R323). -/
abbrev Reg.syncPort (d : Nat) : Nat := regKey (0x1A02 + 0x1 * d) (0x05)
/-- DOMAIN_OFFSET (0x1A02.06, R323). -/
abbrev Reg.domainOffset (d : Nat) : Nat := regKey (0x1A02 + 0x1 * d) (0x06)
/-- DOMAIN_RATIO (0x1A02.07, R323). -/
abbrev Reg.domainRatio (d : Nat) : Nat := regKey (0x1A02 + 0x1 * d) (0x07)
/-- SYNC_USED (0x1A02.08, R323). -/
abbrev Reg.syncUsed (d : Nat) : Nat := regKey (0x1A02 + 0x1 * d) (0x08)
/-- GM_CHANGES (0x1A02.09, R323). -/
abbrev Reg.gmChanges (d : Nat) : Nat := regKey (0x1A02 + 0x1 * d) (0x09)
/-- RX_FIXED (0x1A10.01, R324). -/
abbrev Reg.rxFixed (p : Nat) : Nat := regKey (0x1A10 + 0x1 * p) (0x01)
/-- TX_FIXED (0x1A10.02, R324). -/
abbrev Reg.txFixed (p : Nat) : Nat := regKey (0x1A10 + 0x1 * p) (0x02)
/-- PHY_RX_LATENCY (0x1A10.03, R324). -/
abbrev Reg.phyRxLatency (p : Nat) : Nat := regKey (0x1A10 + 0x1 * p) (0x03)
/-- PHY_TX_LATENCY (0x1A10.04, R324). -/
abbrev Reg.phyTxLatency (p : Nat) : Nat := regKey (0x1A10 + 0x1 * p) (0x04)
/-- ASYMMETRY (0x1A10.05, R324). -/
abbrev Reg.asymmetry (p : Nat) : Nat := regKey (0x1A10 + 0x1 * p) (0x05)
/-- LOG_PDELAY_INTERVAL (0x1A10.06, R324). -/
abbrev Reg.logPdelayInterval (p : Nat) : Nat := regKey (0x1A10 + 0x1 * p) (0x06)
/-- PDELAY_STATE (0x1A10.07, R324). -/
abbrev Reg.pdelayState (p : Nat) : Nat := regKey (0x1A10 + 0x1 * p) (0x07)
/-- PDELAY_RUN (0x1A10.08, R324). -/
abbrev Reg.pdelayRun (p : Nat) : Nat := regKey (0x1A10 + 0x1 * p) (0x08)
/-- MEAN_LINK_DELAY (0x1A10.09, R324). -/
abbrev Reg.meanLinkDelay (p : Nat) : Nat := regKey (0x1A10 + 0x1 * p) (0x09)
/-- NEIGHBOR_RATIO (0x1A10.0A, R324). -/
abbrev Reg.neighborRatio (p : Nat) : Nat := regKey (0x1A10 + 0x1 * p) (0x0A)
/-- SCHED_ENTRY (0x4300.01, R325). -/
abbrev Reg.schedEntry : Nat := regKey (0x4300) (0x01)
/-- SCHED_FLUSH (0x4300.02, R325). -/
abbrev Reg.schedFlush : Nat := regKey (0x4300) (0x02)
/-- HOST_FREE (0x4300.03, R325). -/
abbrev Reg.hostFree : Nat := regKey (0x4300) (0x03)
/-- LATE_LIMIT (0x4300.04, R325). -/
abbrev Reg.lateLimit : Nat := regKey (0x4300) (0x04)
/-- LATE_COUNT (0x4300.05, R325). -/
abbrev Reg.lateCount : Nat := regKey (0x4300) (0x05)
/-- REFUSED_COUNT (0x4300.06, R325). -/
abbrev Reg.refusedCount : Nat := regKey (0x4300) (0x06)
/-- LAST_LATENESS (0x4300.07, R325). -/
abbrev Reg.lastLateness : Nat := regKey (0x4300) (0x07)
/-- PEAK_PENDING (0x4300.08, R325). -/
abbrev Reg.peakPending : Nat := regKey (0x4300) (0x08)
/-- MERGE_COUNT (0x4300.09, R325). -/
abbrev Reg.mergeCount : Nat := regKey (0x4300) (0x09)
/-- VENDOR_NAME (0x1000.01, R341). -/
abbrev Reg.vendorName : Nat := regKey (0x1000) (0x01)
/-- PRODUCT_NAME (0x1000.02, R341). -/
abbrev Reg.productName : Nat := regKey (0x1000) (0x02)
/-- ORDERING_CODE (0x1000.03, R341). -/
abbrev Reg.orderingCode : Nat := regKey (0x1000) (0x03)
/-- SILICON_REV (0x1000.04, R341). -/
abbrev Reg.siliconRev : Nat := regKey (0x1000) (0x04)
/-- FIRMWARE_VERSION (0x1000.05, R341). -/
abbrev Reg.firmwareVersion : Nat := regKey (0x1000) (0x05)
/-- SERIAL_NUMBER (0x1000.06, R341). -/
abbrev Reg.serialNumber : Nat := regKey (0x1000) (0x06)
/-- DEVICE_MAC (0x1000.07, R341). -/
abbrev Reg.deviceMac : Nat := regKey (0x1000) (0x07)
/-- DICT_VERSION (0x1000.08, R341). -/
abbrev Reg.dictVersion : Nat := regKey (0x1000) (0x08)
/-- LINK_STATUS (0x1100.01, R354). -/
abbrev Reg.linkStatus (p : Nat) : Nat := regKey (0x1100 + 0x1 * p) (0x01)
/-- FWD_MODE (0x1100.02, R354). -/
abbrev Reg.fwdMode (p : Nat) : Nat := regKey (0x1100 + 0x1 * p) (0x02)
/-- RX_FRAMES (0x1100.03, R354). -/
abbrev Reg.rxFrames (p : Nat) : Nat := regKey (0x1100 + 0x1 * p) (0x03)
/-- RX_ERRORS (0x1100.04, R354). -/
abbrev Reg.rxErrors (p : Nat) : Nat := regKey (0x1100 + 0x1 * p) (0x04)
/-- FWD_FRAMES (0x1100.05, R354). -/
abbrev Reg.fwdFrames (p : Nat) : Nat := regKey (0x1100 + 0x1 * p) (0x05)
/-- FWD_STOMPED (0x1100.06, R354). -/
abbrev Reg.fwdStomped (p : Nat) : Nat := regKey (0x1100 + 0x1 * p) (0x06)
/-- DROPPED (0x1100.07, R354). -/
abbrev Reg.dropped (p : Nat) : Nat := regKey (0x1100 + 0x1 * p) (0x07)
/-- RAORE_DISCARDED (0x1100.08, R354). -/
abbrev Reg.raoreDiscarded (p : Nat) : Nat := regKey (0x1100 + 0x1 * p) (0x08)
/-- HOP_LIMIT (0x1110.01, R354). -/
abbrev Reg.hopLimit : Nat := regKey (0x1110) (0x01)
/-- MASTER_TIMEOUT (0x1110.02, R354). -/
abbrev Reg.masterTimeout : Nat := regKey (0x1110) (0x02)
/-- OPEN_REGISTRATION (0x1110.03, R354). -/
abbrev Reg.openRegistration : Nat := regKey (0x1110) (0x03)
/-- OPEN_RANK (0x1110.04, R354). -/
abbrev Reg.openRank : Nat := regKey (0x1110) (0x04)
/-- TOKEN_LOSS_ACTION (0x1110.05, R354). -/
abbrev Reg.tokenLossAction : Nat := regKey (0x1110) (0x05)
/-- PUSH_RETRY (0x1110.06, R354). -/
abbrev Reg.pushRetry : Nat := regKey (0x1110) (0x06)
/-- ALLOW_MAC (0x1120.01, R354). -/
abbrev Reg.allowMac (e : Nat) : Nat := regKey (0x1120) (0x01 + e)
/-- ALLOW_RANK (0x1120.05, R354). -/
abbrev Reg.allowRank (e : Nat) : Nat := regKey (0x1120) (0x05 + e)
/-- MASTER_STATE (0x1200.01, R355). -/
abbrev Reg.masterState (n : Nat) : Nat := regKey (0x1200 + 0x1 * n) (0x01)
/-- MASTER_MAC (0x1200.02, R355). -/
abbrev Reg.masterMac (n : Nat) : Nat := regKey (0x1200 + 0x1 * n) (0x02)
/-- MASTER_RANK (0x1200.03, R355). -/
abbrev Reg.masterRank (n : Nat) : Nat := regKey (0x1200 + 0x1 * n) (0x03)
/-- LAST_SEEN_LT (0x1200.04, R355). -/
abbrev Reg.lastSeenLt (n : Nat) : Nat := regKey (0x1200 + 0x1 * n) (0x04)
/-- PUSH_ENABLE (0x1200.05, R355). -/
abbrev Reg.pushEnable (n : Nat) : Nat := regKey (0x1200 + 0x1 * n) (0x05)
/-- PUSH_ACK_SEQ (0x1200.06, R355). -/
abbrev Reg.pushAckSeq (n : Nat) : Nat := regKey (0x1200 + 0x1 * n) (0x06)
/-- ARB_LOST_COUNT (0x1200.07, R355). -/
abbrev Reg.arbLostCount (n : Nat) : Nat := regKey (0x1200 + 0x1 * n) (0x07)
/-- REQUEST_COUNT (0x1200.08, R355). -/
abbrev Reg.requestCount (n : Nat) : Nat := regKey (0x1200 + 0x1 * n) (0x08)
/-- TOKEN_HOLDER (0x1210.01, R355). -/
abbrev Reg.tokenHolder : Nat := regKey (0x1210) (0x01)
/-- TOKEN_SINCE_LT (0x1210.02, R355). -/
abbrev Reg.tokenSinceLt : Nat := regKey (0x1210) (0x02)
/-- PD_IN_ENABLE (0x1300.01, R356). -/
abbrev Reg.pdInEnable : Nat := regKey (0x1300) (0x01)
/-- PD_IN_DEST (0x1300.02, R356). -/
abbrev Reg.pdInDest : Nat := regKey (0x1300) (0x02)
/-- PD_IN_PERIOD (0x1300.03, R356). -/
abbrev Reg.pdInPeriod : Nat := regKey (0x1300) (0x03)
/-- PD_IN_AXES (0x1300.04, R356). -/
abbrev Reg.pdInAxes : Nat := regKey (0x1300) (0x04)
/-- PD_IN_BYTES (0x1300.05, R356). -/
abbrev Reg.pdInBytes : Nat := regKey (0x1300) (0x05)
/-- PD_IN_MAP (0x1301.01, R356). -/
abbrev Reg.pdInMap (e : Nat) : Nat := regKey (0x1301) (0x01 + e)
/-- PD_OUT_MAP (0x1302.01, R356). -/
abbrev Reg.pdOutMap (e : Nat) : Nat := regKey (0x1302) (0x01 + e)
/-- PD_IN_SEQ (0x1303.01, R356). -/
abbrev Reg.pdInSeq : Nat := regKey (0x1303) (0x01)
/-- PD_OUT_APPLIED (0x1303.02, R356). -/
abbrev Reg.pdOutApplied : Nat := regKey (0x1303) (0x02)
/-- PD_OUT_DROPPED (0x1303.03, R356). -/
abbrev Reg.pdOutDropped : Nat := regKey (0x1303) (0x03)
/-- PD_OUT_REFUSED (0x1303.04, R356). -/
abbrev Reg.pdOutRefused : Nat := regKey (0x1303) (0x04)
/-- PD_CHECK (0x1303.05, R356). -/
abbrev Reg.pdCheck : Nat := regKey (0x1303) (0x05)
/-- LANE_ENABLE (0x4400.01, R373). -/
abbrev Reg.laneEnable : Nat := regKey (0x4400) (0x01)
/-- VIS_TIMEOUT (0x4400.02, R373). -/
abbrev Reg.visTimeout : Nat := regKey (0x4400) (0x02)
/-- VIS_STATUS (0x4400.03, R373). -/
abbrev Reg.visStatus : Nat := regKey (0x4400) (0x03)
/-- RX_PACKETS (0x4400.04, R373). -/
abbrev Reg.rxPackets : Nat := regKey (0x4400) (0x04)
/-- RX_BAD (0x4400.05, R373). -/
abbrev Reg.rxBad : Nat := regKey (0x4400) (0x05)
/-- TX_TAGS (0x4400.06, R373). -/
abbrev Reg.txTags : Nat := regKey (0x4400) (0x06)
/-- TAG_COUNT (0x4400.07, R373). -/
abbrev Reg.tagCount : Nat := regKey (0x4400) (0x07)
/-- VIS_CHECK (0x4400.08, R373). -/
abbrev Reg.visCheck : Nat := regKey (0x4400) (0x08)
/-- TAG_RD_KEY (0x4420.01, R373). -/
abbrev Reg.tagRdKey : Nat := regKey (0x4420) (0x01)
/-- TAG_RD_DATA (0x4420.02, R373). -/
abbrev Reg.tagRdData : Nat := regKey (0x4420) (0x02)
/-- CAM_PIN (0x4401.01, R374). -/
abbrev Reg.camPin (e : Nat) : Nat := regKey (0x4401) (0x01 + e)
/-- CAM_LASER (0x4402.01, R374). -/
abbrev Reg.camLaser (e : Nat) : Nat := regKey (0x4402) (0x01 + e)
/-- CAM_CFG (0x4403.01, R374). -/
abbrev Reg.camCfg (e : Nat) : Nat := regKey (0x4403) (0x01 + e)
/-- CAM_PERIOD (0x4404.01, R374). -/
abbrev Reg.camPeriod (e : Nat) : Nat := regKey (0x4404) (0x01 + e)
/-- CAM_WIDTH (0x4405.01, R374). -/
abbrev Reg.camWidth (e : Nat) : Nat := regKey (0x4405) (0x01 + e)
/-- CAM_OFFSET (0x4406.01, R374). -/
abbrev Reg.camOffset (e : Nat) : Nat := regKey (0x4406) (0x01 + e)
/-- CAMERA_RANK (0x4407.01, R374). -/
abbrev Reg.cameraRank (e : Nat) : Nat := regKey (0x4407) (0x01 + e)
/-- MAX_AGE (0x4408.01, R374). -/
abbrev Reg.maxAge (e : Nat) : Nat := regKey (0x4408) (0x01 + e)
/-- CAM_FRAME_NEXT (0x4409.01, R374). -/
abbrev Reg.camFrameNext (e : Nat) : Nat := regKey (0x4409) (0x01 + e)
/-- CAM_SHARPNESS (0x440A.01, R374). -/
abbrev Reg.camSharpness (e : Nat) : Nat := regKey (0x440A) (0x01 + e)
/-- CAM_STATS_FRAME (0x440B.01, R374). -/
abbrev Reg.camStatsFrame (e : Nat) : Nat := regKey (0x440B) (0x01 + e)
/-- CAM_CORR_AGED (0x440C.01, R374). -/
abbrev Reg.camCorrAged (e : Nat) : Nat := regKey (0x440C) (0x01 + e)
/-- CAM_CORR_OUTRANKED (0x440D.01, R374). -/
abbrev Reg.camCorrOutranked (e : Nat) : Nat := regKey (0x440D) (0x01 + e)
/-- CORR_STEP_MAX (0x4106.01, R375). -/
abbrev Reg.corrStepMax (l : Nat) : Nat := regKey (0x4106 + 0x10 * l) (0x01)
/-- CORR_LIMIT (0x4106.02, R375). -/
abbrev Reg.corrLimit (l : Nat) : Nat := regKey (0x4106 + 0x10 * l) (0x02)
/-- CORR_DX (0x4106.03, R375). -/
abbrev Reg.corrDx (l : Nat) : Nat := regKey (0x4106 + 0x10 * l) (0x03)
/-- CORR_DY (0x4106.04, R375). -/
abbrev Reg.corrDy (l : Nat) : Nat := regKey (0x4106 + 0x10 * l) (0x04)
/-- CORR_SRC (0x4106.05, R375). -/
abbrev Reg.corrSrc (l : Nat) : Nat := regKey (0x4106 + 0x10 * l) (0x05)
/-- CORR_FRAME (0x4106.06, R375). -/
abbrev Reg.corrFrame (l : Nat) : Nat := regKey (0x4106 + 0x10 * l) (0x06)
/-- AF_CAMERA (0x4107.01, R375). -/
abbrev Reg.afCamera (l : Nat) : Nat := regKey (0x4107 + 0x10 * l) (0x01)
/-- AF_STEPS (0x4107.02, R375). -/
abbrev Reg.afSteps (l : Nat) : Nat := regKey (0x4107 + 0x10 * l) (0x02)
/-- AF_STEP (0x4107.03, R375). -/
abbrev Reg.afStep (l : Nat) : Nat := regKey (0x4107 + 0x10 * l) (0x03)
/-- AF_SETTLE (0x4107.04, R375). -/
abbrev Reg.afSettle (l : Nat) : Nat := regKey (0x4107 + 0x10 * l) (0x04)
/-- AF_OFFSET (0x4107.05, R375). -/
abbrev Reg.afOffset (l : Nat) : Nat := regKey (0x4107 + 0x10 * l) (0x05)
/-- AF_STATE (0x4107.06, R375). -/
abbrev Reg.afState (l : Nat) : Nat := regKey (0x4107 + 0x10 * l) (0x06)
/-- AF_RESULT (0x4107.07, R375). -/
abbrev Reg.afResult (l : Nat) : Nat := regKey (0x4107 + 0x10 * l) (0x07)
/-- MEM_CHANNELS (0x4500.01, R396). -/
abbrev Reg.memChannels : Nat := regKey (0x4500) (0x01)
/-- MEM_DEVICE (0x4500.02, R396). -/
abbrev Reg.memDevice : Nat := regKey (0x4500) (0x02)
/-- MEM_FREQ_SP0 (0x4500.03, R396). -/
abbrev Reg.memFreqSp0 : Nat := regKey (0x4500) (0x03)
/-- MEM_FREQ_SP1 (0x4500.04, R396). -/
abbrev Reg.memFreqSp1 : Nat := regKey (0x4500) (0x04)
/-- MEM_FREQ_SEL (0x4500.05, R396). -/
abbrev Reg.memFreqSel : Nat := regKey (0x4500) (0x05)
/-- INTERLEAVE_LOG2 (0x4500.06, R396). -/
abbrev Reg.interleaveLog2 : Nat := regKey (0x4500) (0x06)
/-- LAYER_BUF_BASE_0 (0x4500.07, R396). -/
abbrev Reg.layerBufBase0 : Nat := regKey (0x4500) (0x07)
/-- LAYER_BUF_BASE_1 (0x4500.08, R396). -/
abbrev Reg.layerBufBase1 : Nat := regKey (0x4500) (0x08)
/-- TRAJ_AGE_CAP (0x4500.09, R396). -/
abbrev Reg.trajAgeCap : Nat := regKey (0x4500) (0x09)
/-- AGE_CAP (0x4500.0A, R396). -/
abbrev Reg.ageCap : Nat := regKey (0x4500) (0x0A)
/-- MEM_STATE (0x4501.01, R397). -/
abbrev Reg.memState : Nat := regKey (0x4501) (0x01)
/-- MEM_FREQ_IN_USE (0x4501.02, R397). -/
abbrev Reg.memFreqInUse : Nat := regKey (0x4501) (0x02)
/-- HOST_SPACE (0x4501.03, R397). -/
abbrev Reg.hostSpace : Nat := regKey (0x4501) (0x03)
/-- TEMP_HIGH (0x4501.04, R397). -/
abbrev Reg.tempHigh : Nat := regKey (0x4501) (0x04)
/-- REFRESH_OWED (0x4501.05, R397). -/
abbrev Reg.refreshOwed : Nat := regKey (0x4501) (0x05)
/-- TRAIN_FAIL (0x4501.06, R397). -/
abbrev Reg.trainFail : Nat := regKey (0x4501) (0x06)
/-- MEM_CHECK (0x4501.07, R397). -/
abbrev Reg.memCheck : Nat := regKey (0x4501) (0x07)
/-- CE_COUNT_0 (0x4502.01, R397). -/
abbrev Reg.ceCount0 : Nat := regKey (0x4502) (0x01)
/-- CE_COUNT_1 (0x4502.02, R397). -/
abbrev Reg.ceCount1 : Nat := regKey (0x4502) (0x02)
/-- UE_COUNT (0x4502.03, R397). -/
abbrev Reg.ueCount : Nat := regKey (0x4502) (0x03)
/-- LAST_ERR_ADDR (0x4502.04, R397). -/
abbrev Reg.lastErrAddr : Nat := regKey (0x4502) (0x04)
/-- LAST_ERR_KIND (0x4502.05, R397). -/
abbrev Reg.lastErrKind : Nat := regKey (0x4502) (0x05)
/-- SCRUB_POS (0x4502.06, R397). -/
abbrev Reg.scrubPos : Nat := regKey (0x4502) (0x06)
/-- SCRUB_PASSES (0x4502.07, R397). -/
abbrev Reg.scrubPasses : Nat := regKey (0x4502) (0x07)
/-- REREAD_RECOVERED (0x4502.08, R397). -/
abbrev Reg.rereadRecovered : Nat := regKey (0x4502) (0x08)
/-- TRAJ_LAT_MAX (0x4502.09, R397). -/
abbrev Reg.trajLatMax : Nat := regKey (0x4502) (0x09)
/-- MEM_ADDR (0x4503.01, R397). -/
abbrev Reg.memAddr : Nat := regKey (0x4503) (0x01)
/-- MEM_DATA (0x4503.02, R397). -/
abbrev Reg.memData : Nat := regKey (0x4503) (0x02)
/-- NEXT_SEQ (0x2020.01, R433). -/
abbrev Reg.nextSeq : Nat := regKey (0x2020) (0x01)
/-- OLDEST_SEQ (0x2020.02, R433). -/
abbrev Reg.oldestSeq : Nat := regKey (0x2020) (0x02)
/-- EVENT_RD_SEQ (0x2020.03, R433). -/
abbrev Reg.eventRdSeq : Nat := regKey (0x2020) (0x03)
/-- EVENT_RD_DATA (0x2020.04, R433). -/
abbrev Reg.eventRdData : Nat := regKey (0x2020) (0x04)
/-- LOST_COUNT (0x2020.05, R433). -/
abbrev Reg.lostCount : Nat := regKey (0x2020) (0x05)
/-- RESTORED_COUNT (0x2020.06, R433). -/
abbrev Reg.restoredCount : Nat := regKey (0x2020) (0x06)
/-- PERSIST_STATE (0x2020.07, R433). -/
abbrev Reg.persistState : Nat := regKey (0x2020) (0x07)
/-- LK_STATE (0x2021.01, R433). -/
abbrev Reg.lkState : Nat := regKey (0x2021) (0x01)
/-- LK_TRIGGER_SEQ (0x2021.02, R433). -/
abbrev Reg.lkTriggerSeq : Nat := regKey (0x2021) (0x02)
/-- LK_QUEUED (0x2021.03, R433). -/
abbrev Reg.lkQueued : Nat := regKey (0x2021) (0x03)
/-- FAULT_SUMMARY (0x2021.04, R433). -/
abbrev Reg.faultSummary : Nat := regKey (0x2021) (0x04)
/-- AXES_FAULTED (0x2021.05, R433). -/
abbrev Reg.axesFaulted : Nat := regKey (0x2021) (0x05)
/-- FAULT_CLEAR (0x2021.06, R433). -/
abbrev Reg.faultClear : Nat := regKey (0x2021) (0x06)
/-- LAST_REACTION_TIME (0x2021.07, R433). -/
abbrev Reg.lastReactionTime : Nat := regKey (0x2021) (0x07)
/-- PARK_CMD (0x2022.01, R433). -/
abbrev Reg.parkCmd : Nat := regKey (0x2022) (0x01)
/-- TILES_PARKED (0x2022.02, R433). -/
abbrev Reg.tilesParked : Nat := regKey (0x2022) (0x02)
/-- ENGINES_PARKED (0x2022.03, R433). -/
abbrev Reg.enginesParked : Nat := regKey (0x2022) (0x03)
/-- AXES_PARKED (0x2022.04, R433). -/
abbrev Reg.axesParked : Nat := regKey (0x2022) (0x04)
/-- PORTS_PARKED (0x2022.05, R433). -/
abbrev Reg.portsParked : Nat := regKey (0x2022) (0x05)
/-- HOLD_ACTION (0x302C.01, R434). -/
abbrev Reg.holdAction (a : Nat) : Nat := regKey (0x302C + 0x40 * a) (0x01)
/-- PARK_STATE (0x302C.02, R434). -/
abbrev Reg.parkState (a : Nat) : Nat := regKey (0x302C + 0x40 * a) (0x02)
/-- PARK_CAUSE (0x302C.03, R434). -/
abbrev Reg.parkCause (a : Nat) : Nat := regKey (0x302C + 0x40 * a) (0x03)
/-- LAST_FAULT (0x302C.04, R434). -/
abbrev Reg.lastFault (a : Nat) : Nat := regKey (0x302C + 0x40 * a) (0x04)
/-- FAULT_COUNT (0x302C.05, R434). -/
abbrev Reg.faultCount (a : Nat) : Nat := regKey (0x302C + 0x40 * a) (0x05)
/-- MODE_CMD (0x2000.01, R453). -/
abbrev Reg.modeCmd : Nat := regKey (0x2000) (0x01)
/-- MODE (0x2000.02, R453). -/
abbrev Reg.mode : Nat := regKey (0x2000) (0x02)
/-- MODE_STATUS (0x2000.03, R453). -/
abbrev Reg.modeStatus : Nat := regKey (0x2000) (0x03)
/-- MODE_REFUSE (0x2000.04, R453). -/
abbrev Reg.modeRefuse : Nat := regKey (0x2000) (0x04)
/-- LAST_MODE_LT (0x2000.05, R453). -/
abbrev Reg.lastModeLt : Nat := regKey (0x2000) (0x05)
/-- BOOT_TARGET (0x2000.06, R453). -/
abbrev Reg.bootTarget : Nat := regKey (0x2000) (0x06)
/-- CAL_STATE (0x2000.07, R453). -/
abbrev Reg.calState : Nat := regKey (0x2000) (0x07)
/-- STORE_CMD (0x2001.01, R453). -/
abbrev Reg.storeCmd : Nat := regKey (0x2001) (0x01)
/-- STORE_STATE (0x2001.02, R453). -/
abbrev Reg.storeState : Nat := regKey (0x2001) (0x02)
/-- STORE_SLOT (0x2001.03, R453). -/
abbrev Reg.storeSlot : Nat := regKey (0x2001) (0x03)
/-- STORE_GENERATION (0x2001.04, R453). -/
abbrev Reg.storeGeneration : Nat := regKey (0x2001) (0x04)
/-- STORE_BYTES (0x2001.05, R453). -/
abbrev Reg.storeBytes : Nat := regKey (0x2001) (0x05)
/-- STORE_SKIPPED (0x2001.06, R453). -/
abbrev Reg.storeSkipped : Nat := regKey (0x2001) (0x06)
/-- FLASH_SIZE (0x2001.07, R453). -/
abbrev Reg.flashSize : Nat := regKey (0x2001) (0x07)
/-- SELFTEST_CMD (0x4600.01, R468). -/
abbrev Reg.selftestCmd : Nat := regKey (0x4600) (0x01)
/-- SELFTEST_ON_ENTRY (0x4600.02, R468). -/
abbrev Reg.selftestOnEntry : Nat := regKey (0x4600) (0x02)
/-- SELFTEST_STATE (0x4600.03, R468). -/
abbrev Reg.selftestState : Nat := regKey (0x4600) (0x03)
/-- SELFTEST_FAIL (0x4600.04, R468). -/
abbrev Reg.selftestFail : Nat := regKey (0x4600) (0x04)
/-- SELFTEST_TIME (0x4600.05, R468). -/
abbrev Reg.selftestTime : Nat := regKey (0x4600) (0x05)
/-- SELFTEST_SIG (0x4601.01, R468). -/
abbrev Reg.selftestSig (e : Nat) : Nat := regKey (0x4601) (0x01 + e)
/-- TP_SEL (0x4602.01, R468). -/
abbrev Reg.tpSel (e : Nat) : Nat := regKey (0x4602) (0x01 + e)
/-- ATP_SEL (0x4603.01, R468). -/
abbrev Reg.atpSel (e : Nat) : Nat := regKey (0x4603) (0x01 + e)
/-- TEST_AXO_SEL (0x4604.01, R468). -/
abbrev Reg.testAxoSel : Nat := regKey (0x4604) (0x01)
/-- TEST_AXO_CODE (0x4604.02, R468). -/
abbrev Reg.testAxoCode : Nat := regKey (0x4604) (0x02)
/-- CAPTURE_CMD (0x4605.01, R468). -/
abbrev Reg.captureCmd : Nat := regKey (0x4605) (0x01)
/-- CAPTURE_RD_ADDR (0x4605.02, R468). -/
abbrev Reg.captureRdAddr : Nat := regKey (0x4605) (0x02)
/-- CAPTURE_RD_DATA (0x4605.03, R468). -/
abbrev Reg.captureRdData : Nat := regKey (0x4605) (0x03)
/-- TRIG_CFG (0x4606.01, R468). -/
abbrev Reg.trigCfg (e : Nat) : Nat := regKey (0x4606) (0x01 + e)
/-- TRIG_STATE (0x4607.01, R468). -/
abbrev Reg.trigState (e : Nat) : Nat := regKey (0x4607) (0x01 + e)
/-- TRIG_LT (0x4608.01, R468). -/
abbrev Reg.trigLt (e : Nat) : Nat := regKey (0x4608) (0x01 + e)
/-- IGNORED_COUNT (0x4609.01, R468). -/
abbrev Reg.ignoredCount (e : Nat) : Nat := regKey (0x4609) (0x01 + e)
/-- TAP_POINT (0x4620.01, R468). -/
abbrev Reg.tapPoint (i : Nat) : Nat := regKey (0x4620 + 0x1 * i) (0x01)
/-- TAP_UNIT (0x4620.02, R468). -/
abbrev Reg.tapUnit (i : Nat) : Nat := regKey (0x4620 + 0x1 * i) (0x02)
/-- TAP_TRIG (0x4620.03, R468). -/
abbrev Reg.tapTrig (i : Nat) : Nat := regKey (0x4620 + 0x1 * i) (0x03)
/-- DECIM (0x4620.04, R468). -/
abbrev Reg.decim (i : Nat) : Nat := regKey (0x4620 + 0x1 * i) (0x04)
/-- TAP_TARGET (0x4620.05, R468). -/
abbrev Reg.tapTarget (i : Nat) : Nat := regKey (0x4620 + 0x1 * i) (0x05)
/-- TAP_BASE (0x4620.06, R468). -/
abbrev Reg.tapBase (i : Nat) : Nat := regKey (0x4620 + 0x1 * i) (0x06)
/-- TAP_SIZE (0x4620.07, R468). -/
abbrev Reg.tapSize (i : Nat) : Nat := regKey (0x4620 + 0x1 * i) (0x07)
/-- TAP_POST (0x4620.08, R468). -/
abbrev Reg.tapPost (i : Nat) : Nat := regKey (0x4620 + 0x1 * i) (0x08)
/-- TAP_DROPPED (0x4620.09, R468). -/
abbrev Reg.tapDropped (i : Nat) : Nat := regKey (0x4620 + 0x1 * i) (0x09)

end Sys2Proof
end

