-- ==== Sys2Proof/Machine/Store.lean ====
section
/-! DEFINITION. The register file: an association list from the key of a sub-entry to its raw value, in one canonical
form (keys strictly rising, no entry at its default), with the default each sub-entry reads until it is written. -/

namespace Sys2Proof.Machine

/-- Raw values by key; a key that is not listed reads its default. -/
abbrev Store := List (Nat × Nat)

/-- CRC-32 of IEEE 802.3, one bit. -/
def crcBit (c : Nat) : Nat := if c % 2 = 1 then Nat.xor (c / 2) 0xEDB88320 else c / 2

/-- CRC-32 of IEEE 802.3, one byte. -/
def crcByte (c b : Nat) : Nat :=
  crcBit (crcBit (crcBit (crcBit (crcBit (crcBit (crcBit (crcBit (Nat.xor c (b % 256)))))))))

/-- CRC-32 of IEEE 802.3 over a list of bytes. -/
def crc32 (l : List Nat) : Nat := Nat.xor (l.foldl crcByte 0xFFFFFFFF) 0xFFFFFFFF

/-- The low `n` bytes of `v`, least significant first. -/
def leBytes : Nat → Nat → List Nat
  | 0, _ => []
  | n + 1, v => v % 256 :: leBytes n (v / 256)

/-- The value of a list of bytes, least significant first. -/
def ofLeBytes : List Nat → Nat
  | [] => 0
  | b :: l => b % 256 + 256 * ofLeBytes l

/-- Default of a sub-entry whose table gives it per unit: PAIR_PRIMARY and EXC_DRIVER (R59), GATE_PIN and LMO_SEL
(R223), DOMAIN_NUMBER (R323), RX_FIXED and TX_FIXED (R324), and the identity objects (R341). -/
def Dict.unitDflt (k dflt : Nat) : Nat :=
  let i := keyIndex k
  let sub := keySub k
  if 0x3000 ≤ i ∧ i < 0x3C00 ∧ (i - 0x3000) % 0x40 = 1 ∧ (sub = 2 ∨ sub = 4) then (i - 0x3000) / 0x40 % 6
  else if k = Reg.firmwareVersion then Config.firmwareVersion
  else if k = Reg.deviceMac then Config.deviceMac
  else if k = Reg.domainNumber 1 then 1
  else if k = Reg.rxFixed 1 then 57600
  else if k = Reg.txFixed 1 then 49600
  else if 0x4100 ≤ i ∧ i < 0x4200 ∧ (List.range 16).any (fun l => k == Reg.gatePin l || k == Reg.lmoSel l) then (i - 0x4100) / 0x10
  else dflt

/-- The value a sub-entry reads until it is written: the Default column of its table. -/
def Dict.dflt (k : Nat) : Nat :=
  match Dict.row? k with
  | some r => Dict.unitDflt k r.dflt
  | none => 0

/-- The value listed for a key. -/
def Store.find : Store → Nat → Option Nat
  | [], _ => none
  | (k', v) :: m, k => if k' = k then some v else Store.find m k

/-- Removes every entry of a key. -/
def Store.erase : Store → Nat → Store
  | [], _ => []
  | (k', v) :: m, k => if k' = k then Store.erase m k else (k', v) :: Store.erase m k

/-- Puts an entry before the first key that is not smaller. -/
def Store.insert : Store → Nat → Nat → Store
  | [], k, v => [(k, v)]
  | (k', v') :: m, k, v => if k' < k then (k', v') :: Store.insert m k v else (k, v) :: (k', v') :: m

/-- Reads a sub-entry. -/
def Store.get (m : Store) (k : Nat) : Nat := (m.find k).getD (Dict.dflt k)

/-- Writes a sub-entry, keeping the canonical form. -/
def Store.set (m : Store) (k v : Nat) : Store :=
  if v = Dict.dflt k then m.erase k else (m.erase k).insert k v

/-- The canonical form: keys strictly rising, no entry at its default. -/
def Store.wf : Store → Bool
  | [] => true
  | [(k, v)] => v != Dict.dflt k
  | (k, v) :: (k', v') :: m => v != Dict.dflt k && decide (k < k') && Store.wf ((k', v') :: m)

end Sys2Proof.Machine
end

