-- ==== Sys2Proof/Machine/Lane.lean ====
section
/-! DEFINITION. The vision lanes: the 8b/10b code, its synchronisation, and the packets on it (R358 to R361). -/

namespace Sys2Proof.Machine

/-! ### The code of IEEE 802.3 clause 36 (log entry 112)

A character is its byte, with 256 added to a special one; a code group is the ten bits abcdeifghj, `a` the most significant and
the first on the lane. A running disparity is `true` where it is positive. -/

/-- /K28.5/, /K27.7/ and /K29.7/. -/
def charComma : Nat := 0x1BC
def charStart : Nat := 0x1FB
def charEnd : Nat := 0x1FD

/-- The number of ones in the low `w` bits. -/
def ones : Nat → Nat → Nat
  | 0, _ => 0
  | w + 1, v => v % 2 + ones w (v / 2)

/-- abcdei of D.x at a negative running disparity. -/
def sixTable : List Nat :=
  [0b100111, 0b011101, 0b101101, 0b110001, 0b110101, 0b101001, 0b011001, 0b111000, 0b111001, 0b100101, 0b010101,
   0b110100, 0b001101, 0b101100, 0b011100, 0b010111, 0b011011, 0b100011, 0b010011, 0b110010, 0b001011, 0b101010,
   0b011010, 0b111010, 0b110011, 0b100110, 0b010110, 0b110110, 0b001110, 0b101110, 0b011110, 0b101011]

/-- fghj of D.x.y at a negative running disparity. -/
def fourTable : List Nat := [0b1011, 0b1001, 0b0101, 0b1100, 0b1101, 0b1010, 0b0110, 0b1110]

/-- fghj of K28.y behind 001111. -/
def k28Table : List Nat := [0b0100, 0b1001, 0b0101, 0b0011, 0b0010, 0b1010, 0b0110, 0b1000]

/-- The running disparity behind a sub-block of `w` bits. -/
def dispSub (w : Nat) (rd : Bool) (v : Nat) : Bool :=
  if 2 * ones w v > w ∨ v = 2 ^ (w / 2) - 1 then true
  else if 2 * ones w v < w ∨ v = 2 ^ w - 2 ^ (w / 2) then false
  else rd

/-- The running disparity behind a code group. -/
def dispAfter (rd : Bool) (g : Nat) : Bool := dispSub 4 (dispSub 6 rd (g / 16)) (g % 16)

/-- The code group of a character at a running disparity; none where there is no such character. -/
def codeGroup (rd : Bool) (c : Nat) : Option Nat :=
  let x := c % 32
  let y := c / 32 % 8
  if c < 256 then
    let six := sixTable.getD x 0
    let six := if rd && (ones 6 six != 3 || x == 7) then 63 - six else six
    let rd' := dispSub 6 rd six
    let four := fourTable.getD y 0
    -- the alternate of D.x.7
    let four := if y = 7 ∧ (if rd' then x ∈ [11, 13, 14] else x ∈ [17, 18, 20]) then 0b0111 else four
    let four := if rd' && (ones 4 four != 2 || y == 3) then 15 - four else four
    some (16 * six + four)
  else if c < 512 ∧ (x = 28 ∨ y = 7 ∧ x ∈ [23, 27, 29, 30]) then
    let g := if x = 28 then 16 * 0b001111 + k28Table.getD y 0 else 16 * sixTable.getD x 0 + 0b1000
    some (if rd then 1023 - g else g)
  else none

/-- The code groups of characters from a running disparity on. -/
def lineGroups : Bool → List Nat → List Nat
  | _, [] => []
  | rd, c :: l =>
    match codeGroup rd c with
    | some g => g :: lineGroups (dispAfter rd g) l
    | none => lineGroups rd l

/-- The character of a code group at a running disparity; none is a code violation. -/
def groupChar (rd : Bool) (g : Nat) : Option Nat := (List.range 512).find? fun c => codeGroup rd c == some g

/-- The positions of code violations among code groups from position `i` and a running disparity on. -/
def violations : Nat → Bool → List Nat → List Nat
  | _, _, [] => []
  | i, rd, g :: l =>
    (if (groupChar rd g).isNone then [i] else []) ++ violations (i + 1) (dispAfter rd g) l

/-- Four of the positions lie within 256 characters. -/
def fourWithin : List Nat → Bool
  | [] => false
  | p :: l => (match l[2]? with | some q => decide (q < p + 256) | none => false) || fourWithin l

/-- Code groups with four code violations within 256 characters: the lane loses its synchronisation (R358). The first group is
taken at the running disparity that it fits. -/
def losesSync (groups : List Nat) : Bool :=
  match groups with
  | [] => false
  | g :: _ => fourWithin (violations 0 (groupChar false g).isNone groups)

/-- The number whose bits are listed, the most significant first. -/
def bitsValue (l : List Bool) : Nat := l.foldl (fun n (b : Bool) => 2 * n + b.toNat) 0

/-- A comma stands at bit `p` of what a lane has received. -/
def commaAt (bits : List Bool) (p : Nat) : Bool :=
  let w := (bits.drop p).take 10
  w.length == 10 && (codeGroup false charComma == some (bitsValue w) || codeGroup true charComma == some (bitsValue w))

/-- Bits with three commas on one alignment: the lane synchronises (R358). -/
def gainsSync (bits : List Bool) : Bool :=
  (List.range 10).any fun r =>
    decide (3 ≤ ((List.range bits.length).filter fun p => p % 10 == r && commaAt bits p).length)

/-! ### Packets -/

/-- Header, body and CRC-32 of a packet (R358, R359). -/
def vtxPacket (ty camera frame : Nat) (body : List Nat) : List Nat :=
  let b := [ty, camera] ++ leBytes 2 body.length ++ leBytes 4 frame ++ body
  b ++ leBytes 4 (crc32 b)

/-- The characters of a packet behind its /K27.7/. -/
def packetChars (ty camera frame : Nat) (body : List Nat) : List Nat := vtxPacket ty camera frame body ++ [charEnd]

/-- What a packet to the device says. -/
inductive RxPacket where
  | correction (camera frame : Nat) (dx dy : Int)
  | stats (camera frame sharpness intensity area : Nat)
  | heartbeat
  deriving DecidableEq, Repr

/-- What a header and a body say: TYPE and LENGTH stand in R360, CAMERA is at most 31, and what is reserved is 0; CAMERA and FRAME
of a HEARTBEAT count as reserved (R360, R361; log entry 112). -/
def rxMeaning (ty camera frame : Nat) (body : List Nat) : Option RxPacket :=
  let w (i : Nat) := ofLeBytes ((body.drop (4 * i)).take 4)
  if camera > 31 then none
  else if ty = 0x01 ∧ body.length = 8 then some (.correction camera frame (toSigned 32 (w 0)) (toSigned 32 (w 1)))
  else if ty = 0x02 ∧ body.length = 16 ∧ w 3 = 0 then some (.stats camera frame (w 0) (w 1) (w 2))
  else if ty = 0x03 ∧ body.length = 0 ∧ camera = 0 ∧ frame = 0 then some .heartbeat
  else none

/-- The packet whose characters behind /K27.7/ are given; none where R361 has it discarded. -/
def rxParse (chars : List Nat) : Option RxPacket :=
  let n := ofLeBytes ((chars.drop 2).take 2)
  let b := chars.take (12 + n)
  if chars.length < 12 then none
  else if b.any fun c => decide (c ≥ 256) then none
  else if chars[12 + n]? ≠ some charEnd then none
  else if ofLeBytes (b.drop (8 + n)) ≠ crc32 (b.take (8 + n)) then none
  else rxMeaning (chars.getD 0 0) (chars.getD 1 0) (ofLeBytes ((chars.drop 4).take 4)) ((chars.drop 8).take n)

end Sys2Proof.Machine
end

