-- ==== Sys2Proof/Machine/Memory.lean ====
section
/-! DEFINITION. Addressed memories as lists of cells in canonical form: addresses strictly rising, no cell equal to what an
unlisted address reads as. -/

namespace Sys2Proof.Machine

/-- Reads one byte; an unlisted address reads `d`. -/
def memRead (d : Byte) : List Host.Cell → Nat → Byte
  | [], _ => d
  | (a', b) :: m, a => if a' = a then b else memRead d m a

/-- Removes the cell of an address. -/
def memErase : List Host.Cell → Nat → List Host.Cell
  | [], _ => []
  | (a', b) :: m, a => if a' = a then memErase m a else (a', b) :: memErase m a

/-- Puts a cell before the first address that is not smaller. -/
def memInsert : List Host.Cell → Nat → Byte → List Host.Cell
  | [], a, b => [(a, b)]
  | (a', b') :: m, a, b => if a' < a then (a', b') :: memInsert m a b else (a, b) :: (a', b') :: m

/-- Writes one byte, keeping the canonical form. -/
def memWrite (d : Byte) (m : List Host.Cell) (a : Nat) (b : Byte) : List Host.Cell :=
  if b = d then memErase m a else memInsert (memErase m a) a b

/-- The canonical form. -/
def Memory.wf (d : Byte) : List Host.Cell → Bool
  | [] => true
  | [(_, b)] => b != d
  | (a, b) :: (a', b') :: m => b != d && decide (a < a') && Memory.wf d ((a', b') :: m)

/-- Writes consecutive bytes from an address on. -/
def memWriteBytes (d : Byte) (m : List Host.Cell) (a : Nat) : List Nat → List Host.Cell
  | [] => m
  | b :: l => memWriteBytes d (memWrite d m a (BitVec.ofNat 8 b)) (a + 1) l

/-- Reads `n` consecutive bytes from an address on. -/
def memReadBytes (d : Byte) (m : List Host.Cell) (a n : Nat) : List Nat :=
  (List.range n).map fun i => (memRead d m (a + i)).toNat

/-- Removes every cell of an address range. -/
def memClear (m : List Host.Cell) (lo n : Nat) : List Host.Cell :=
  m.filter fun c => !(decide (lo ≤ c.1) && decide (c.1 < lo + n))

/-- What an unwritten byte of external memory or of the profile store reads as (log entry 14). -/
abbrev zeroByte : Byte := 0
/-- What an erased byte of flash reads as (R448). -/
abbrev erasedByte : Byte := 0xFF

end Sys2Proof.Machine
end

