-- ==== Sys2Proof/Machine/Num.lean ====
section
/-! DEFINITION. The arithmetic the spec's formulas use: rounding, saturation, square root, and fixed-point sine,
arc tangent, exponential and logarithm. A function whose error the spec bounds adds an opaque error of Config to the
value computed here. -/

namespace Sys2Proof.Num

/-- `x` held inside `[lo, hi]`. -/
def clampI (lo hi x : Int) : Int := if x < lo then lo else if hi < x then hi else x

/-- `x` saturated to a signed word of `w` bits. -/
def satI (w : Nat) (x : Int) : Int := clampI (-((2 ^ (w - 1) : Nat) : Int)) (((2 ^ (w - 1) : Nat) : Int) - 1) x

/-- `x` saturated to an unsigned word of `w` bits. -/
def satU (w : Nat) (x : Int) : Nat := (clampI 0 (((2 ^ w : Nat) : Int) - 1) x).toNat

/-- `x` as a signed word of `w` bits; where it does not fit and the spec states no limit, the word is open (log entry 9). -/
def fitI (w : Nat) (x : Int) : Int :=
  if -((2 ^ (w - 1) : Nat) : Int) ≤ x ∧ x < ((2 ^ (w - 1) : Nat) : Int) then x else toSigned w (Config.outOfRange w x)

/-- `x` as an unsigned word of `w` bits, open where it does not fit (log entry 9). -/
def fitU (w : Nat) (x : Int) : Nat :=
  if 0 ≤ x ∧ x < ((2 ^ w : Nat) : Int) then x.toNat else Config.outOfRange w x % 2 ^ w

/-- `n / d` rounded to the nearest integer, ties away from zero (R113); 0 where `d` is 0. -/
def rdiv (n d : Int) : Int :=
  if d = 0 then 0 else
    let q : Nat := (2 * n.natAbs + d.natAbs) / (2 * d.natAbs)
    if (n < 0) = (d < 0) then (q : Int) else -(q : Int)

/-- `n / 2^k` rounded to nearest, ties away from zero. -/
def rshift (n : Int) (k : Nat) : Int := rdiv n ((2 ^ k : Nat) : Int)

/-- The least multiple of `d` that is at least `n`, divided by `d`. -/
def cdiv (n d : Nat) : Nat := (n + d - 1) / d

/-- One step per bit of the integer square root: `r` is the root so far, `b` the bit index. -/
def isqrtLoop : Nat → Nat → Nat → Nat
  | 0, _, r => r
  | b + 1, n, r =>
    let r' := r + 2 ^ b
    if r' * r' ≤ n then isqrtLoop b n r' else isqrtLoop b n r

/-- The integer square root, rounded down. -/
def isqrt (n : Nat) : Nat := isqrtLoop (n.log2 / 2 + 1) n 0

/-- `wrap` of the spec: an angle whose whole turn is `2^w`, brought into −half to less than half a turn. -/
def wrapTurn (w : Nat) (x : Int) : Int := toSigned w (ofSigned w x)

/-- 2π in 2^-60. -/
def twoPi60 : Int := 7244019458077122842

/-- Sum of a Taylor series whose next term is the last times `x2 / (n (n+1))`, alternating, in 2^-60. -/
def taylorAlt : Nat → Int → Int → Int → Int → Int
  | 0, _, _, _, acc => acc
  | k + 1, x2, term, n, acc =>
    let t := -(rshift (term * x2) 60) / (n * (n + 1))
    taylorAlt k x2 t (n + 2) (acc + t)

/-- Sine of `x` (2^-60 rad, at most a quarter turn in magnitude), in 2^-60. -/
def sinRad (x : Int) : Int := taylorAlt 12 (rshift (x * x) 60) x 2 x

/-- Cosine of `x` (2^-60 rad, at most a quarter turn in magnitude), in 2^-60. -/
def cosRad (x : Int) : Int := taylorAlt 12 (rshift (x * x) 60) (2 ^ 60) 1 (2 ^ 60)

/-- Sine of the turn fraction `f / 2^w`, in 2^-60. -/
def sinTurn (w : Nat) (f : Int) : Int :=
  let q := wrapTurn w f
  let half : Int := ((2 ^ (w - 1) : Nat) : Int)
  let quarter : Int := half / 2
  let q' := if q > quarter then half - q else if q < -quarter then -half - q else q
  sinRad (rshift (q' * twoPi60) w)

/-- Cosine of the turn fraction `f / 2^w`, in 2^-60. -/
def cosTurn (w : Nat) (f : Int) : Int := sinTurn w (f + ((2 ^ (w - 2) : Nat) : Int))

/-- Sum of `t^(2k+1)/(2k+1)` with alternating sign, in 2^-60 (`sgn` −1 for the arc tangent, 1 for its hyperbolic kin). -/
def oddSeries : Nat → Int → Int → Int → Int → Int → Int
  | 0, _, _, _, _, acc => acc
  | k + 1, sgn, t2, pow, n, acc =>
    let p := sgn * rshift (pow * t2) 60
    oddSeries k sgn t2 p (n + 2) (acc + p / (n + 2))

/-- Arc tangent of `t` (2^-60, 0 to 1/2), in 2^-60 rad. -/
def atanSmall (t : Int) : Int := oddSeries 30 (-1) (rshift (t * t) 60) t 1 t

/-- Arc tangent of `y / x` with `0 ≤ y ≤ x`, `0 < x`, as a turn fraction in 2^-60. -/
def atanOct (y x : Int) : Int :=
  -- atan(y/x) = pi/8-ish split: subtract atan(1/2) where y/x exceeds 1/2
  let rad := if 2 * y ≤ x then atanSmall (y * 2 ^ 60 / x)
             else 534549298976576474 + atanSmall ((2 * y - x) * 2 ^ 60 / (2 * x + y))
  rad * 2 ^ 60 / twoPi60

/-- atan2 of the spec (R134): the angle of the point (`c`, `s`) as an unsigned turn fraction in 2^-48; 0 at the origin. -/
def atan2Turn48 (s c : Int) : Nat :=
  if s = 0 ∧ c = 0 then 0 else
    let as : Int := s.natAbs
    let ac : Int := c.natAbs
    let oct := if as ≤ ac then atanOct as ac else 2 ^ 58 - atanOct ac as
    let half := if c < 0 then 2 ^ 59 - oct else oct
    let full := if s < 0 then -half else half
    ofSigned 48 (rshift full 12)

/-- `exp(-x)` for `x` in 2^-80 (0 to 1), in 2^-80. -/
def expNegLoop : Nat → Int → Int → Int → Int → Int
  | 0, _, _, _, acc => acc
  | k + 1, x, term, n, acc =>
    let t := -(rshift (term * x) 80) / n
    expNegLoop k x t (n + 1) (acc + t)

/-- `exp(-x)` for `x` in 2^-80 (0 to 1), in 2^-80. -/
def expNeg80 (x : Int) : Int := expNegLoop 24 x (2 ^ 80) 1 (2 ^ 80)

/-- Natural logarithm of `n / d` (both positive), in 2^-60. -/
def lnRatio (n d : Nat) : Int :=
  let m : Int := (n : Int) * 2 ^ 60 / d            -- ratio in 2^-60
  let e : Int := (m.toNat.log2 : Int) - 60
  -- r in [1, 2), in 2^-60
  let r : Int := if e ≥ 0 then m / ((2 ^ e.toNat : Nat) : Int) else m * ((2 ^ (-e).toNat : Nat) : Int)
  let t : Int := (r - 2 ^ 60) * 2 ^ 60 / (r + 2 ^ 60)
  e * 799144290325165979 + 2 * oddSeries 40 1 (rshift (t * t) 60) t 1 t

/-- Sum of a list of integers. -/
def sumI (l : List Int) : Int := l.foldl (· + ·) 0

end Sys2Proof.Num
end

