-- ==== Sys2Proof/Machine/Blocks.lean ====
section
/-! DEFINITION. The state of the tiles, the axes and their engines that no object of the dictionary holds: filter
memories, observer and law states, timers and hand-over values. -/

namespace Sys2Proof.Machine

/-- LT in units of 2^-32 ns since LT = 0 (R291, R292). -/
abbrev Lt := Nat

/-- One converter channel of a tile from its DC-blocking stage to its FIR (R113 to R122). -/
structure Chan where
  dc : Int := 0                          -- DC estimate, 2^-16 chain units (R114)
  fastCount : Nat := 1024                -- valid samples of the fast start so far; 1,024 when over (R116)
  fastSum : Int := 0                     -- their sum, chain units
  win : List (Option (Int × Int)) := []  -- products, newest first; none where a sample is not valid (R118)
  maOut : List (Int × Int) := []         -- moving-average outputs, newest first (R120)
  maLast : Int × Int := (0, 0)           -- latest non-empty moving-average output (R118)
  fill : Option (Int × Int) := some (0, 0) -- what older taps hold; none between a flush and its load (R122)
  adc : Int := 0                         -- latest code (R82)
  dcOut : Int := 0                       -- latest output of the DC block
  dcUsed : Int := 0                      -- DC estimate that output was formed with, d[n] (R114, R462)
  prod : Int × Int := (0, 0)             -- latest products (R117)
  firOut : Int × Int := (0, 0)           -- latest FIR output
  deriving DecidableEq, Repr, Inhabited

/-- One analogue pin of a tile (R92). -/
structure Pin where
  outRun : Nat := 0                      -- consecutive samples outside the window
  inRun : Nat := 0                       -- consecutive samples inside the window
  flagged : Bool := false
  since : Lt := 0                        -- instant at which the flag last set
  hist : List (Lt × Bool) := []          -- recent changes of the flag, newest first
  deriving DecidableEq, Repr, Inhabited

/-- What a driver's output stage does (R63, R73, R90). -/
inductive DrvPhase where
  | off        -- pins high impedance
  | waitStart  -- 0 V, until the accumulator wraps (R63)
  | on         -- the carrier runs
  | waitStop   -- a frequency change waits for t_s (R73)
  | gap        -- between t_s and t_n (R73)
  | waitOff    -- leaves the running state at its next zero crossing (R90)
  deriving DecidableEq, Repr, Inhabited

/-- One excitation driver with its sense receiver (R61 to R74, R102, R108). -/
structure Driver where
  phase : DrvPhase := .off
  freq : Nat := 0                        -- frequency word of the accumulator
  ampl : Nat := 0                        -- amplitude code at the pins
  amplPending : Bool := false            -- a new EXC_AMPL waits for its zero crossing (R74)
  since : Lt := 0                        -- boundary from which the pending crossing is counted
  settling : Bool := false               -- counts as SETTLING (R108)
  fresh : Bool := false                  -- the pending start is a start of R63, not a change of R73
  phasor : Int × Int := (0, 0)           -- e of the latest output, 2^-20 chain units (R124)
  guardOn : Bool := false                -- the guard of R125 acted on the latest output
  argRef : Int := 0                      -- arg(e) of the first calibration output, 2^-48 turn (R126)
  argSum : Int := 0                      -- Σ of the differences of the others from it
  stale : Bool := true                   -- PHASE_STALE in force (R127)
  deriving DecidableEq, Repr, Inhabited

/-- The reset switch of a charge amplifier (R78 to R80). -/
structure Amp where
  closed : Bool := false                 -- as its reset cycles leave it, while the driver runs
  closedAt : Option Lt := none           -- t_c of the latest reset cycle
  gain : Option Nat := none              -- CALIBRATE correction of the gain, 2^-30; none: factory trim (R83, R84)
  offset : Option Int := none            -- CALIBRATE correction of the offset, chain units (R129)
  deriving DecidableEq, Repr, Inhabited

/-- One thermistor channel (R86, R87). -/
structure Therm where
  sum : Int := 0                         -- codes of the window so far
  count : Nat := 0
  everValid : Bool := false              -- has been valid since reset (R154)
  deriving DecidableEq, Repr, Inhabited

/-- Progress of calibration on a tile (R441). -/
inductive CalPart where
  | idle | start | phases | dac | done
  deriving DecidableEq, Repr, Inhabited

/-- One front-end tile. -/
structure Tile where
  running : Bool := false                -- amplifiers and ADCs run (R89)
  chans : Vector Chan 18 := Vector.replicate 18 {}   -- 0 to 11 signal, 12 to 17 sense
  pins : Vector Pin 48 := Vector.replicate 48 {}
  drivers : Vector Driver 6 := Vector.replicate 6 {}
  amps : Vector Amp 12 := Vector.replicate 12 {}
  snsGain : Vector (Option Nat) 6 := Vector.replicate 6 none  -- receiver corrections, 2^-30 (R84, R124)
  snsOffset : Vector (Option Int) 6 := Vector.replicate 6 none  -- receiver offsets, chain units (R83)
  therms : Vector Therm 2 := Vector.replicate 2 {}
  lastDemod : Option Lt := none          -- instant of the latest demodulation output
  lastTherm : Option Lt := none          -- end of the latest averaging window
  cal : CalPart := .idle
  calBad : Bool := false                 -- a fault condition held during calibration (R91)
  calCount : Nat := 0                    -- outputs measured by part 3
  gainDone : Bool := true                -- part 2 has ended; false holds SETTLING (R441)
  deriving DecidableEq, Repr, Inhabited

/-- The words of one demodulation output of an axis (R157). -/
structure Words where
  angle : Nat := 0                       -- 24 bits
  turns : Int := 0                       -- signed 16 bits
  speed : Int := 0                       -- 2^-12 turn/s
  accel : Int := 0                       -- 2^-4 turn/s²
  status : Nat := 0                      -- R158
  tag : Lt := 0
  deriving DecidableEq, Repr, Inhabited

/-- Acquisition of an observer (R144 to R146). -/
inductive Acq where
  | idle                                 -- the observer does not run
  | waiting (cause : Nat)                -- begins on the first usable output
  | running (cause : Nat)
  | restart (cause : Nat)                -- under way; starts again with its cause on the next clean output (R146)
  | done
  deriving DecidableEq, Repr, Inhabited

/-- The observer of an axis (R136). -/
structure Obs where
  theta : Int := 0                       -- 2^-48 turn, 16-bit signed turn count
  omega : Int := 0                       -- 2^-32 turn/s
  acc : Int := 0                         -- 2^-20 turn/s²
  dev : Int := 0                         -- d, 2^-20 turn/s²
  acq : Acq := .idle
  used : Nat := 0                        -- outputs used since acquisition began (R146)
  total : Nat := 0                       -- outputs since acquisition first began with its cause
  errRun : Nat := 0                      -- latest consecutive outputs within the limits of R146, at most 16
  lateLogged : Bool := false             -- 0x3304 has been logged
  dsRun : Nat := 0                       -- consecutive outputs beyond DS_LIMIT (R150)
  dsFault : Bool := false
  lost : Bool := false
  coastRun : Bool := false               -- the run of invalid outputs holds a coast or LOST (0x3108)
  invalidRun : Nat := 0                  -- outputs with VALID = 0 in the run
  settling : Bool := false               -- SETTLING (R108)
  settleEnd : Option Lt := none          -- t_n + T_settle once known
  ampLowOn : Bool := false               -- AMP_LOW of the latest output
  ampHighOn : Bool := false
  limitOn : Bool := false                -- LIN_LIMIT of the latest output
  staleTemp : Bool := false              -- TEMP_STALE in force (R154)
  feed : List (Lt × Lt × Int) := []      -- a_cmd by the outputs it serves, 2^-20 turn/s² (R140)
  fedPeriod : Bool := false              -- an output since the last boundary had feed
  feedDue : List Bool := []              -- whether the last three periods asked for feed, newest first (R142)
  words : Words := {}                    -- words of the latest output
  prev : Words := {}                     -- words of the output before it
  ready : Lt := 0                        -- when `words` has reached every consumer (R13)
  iq : List Int := []                    -- word_s, word_c, residue_s, residue_c of each pair (taps)
  corr : List Int := []                  -- s1, c1 of each pair
  setpoint : Int := 0                    -- analogue set-point word, 2^-26 V (R129)
  calSeen : Nat := 0                     -- outputs that the sums of part 3 hold (R101)
  sumSq : Int := 0                       -- Σ (s1² + c1²) of the calibration outputs, primary
  sumSqFine : Int := 0
  phRe : Int := 0                        -- Σ Re(z_s² + z_c²) at ψ = 0, primary (R126)
  phIm : Int := 0
  phReF : Int := 0
  phImF : Int := 0
  deriving DecidableEq, Repr, Inhabited

/-- The states of one running law (R174 to R178), all Q9.31. -/
structure LawSt where
  integ1 : Int := 0                      -- I_p or I_s
  integ2 : Int := 0                      -- I_v
  df : Int := 0
  evPrev : Int := 0                      -- e_v1 of the last period
  xhat : List Int := []                  -- estimator prediction
  bq : List (Int × Int × Int × Int) := [] -- x1, x2, y1, y2 of slots 0 to 7
  deriving DecidableEq, Repr, Inhabited

/-- Why a law does or does not run on an axis (R194, R413). -/
inductive LawRun where
  | stopped | live | braking
  deriving DecidableEq, Repr, Inhabited

/-- A requested swap: the fade length and the image CRC recorded at its commit (R188). -/
structure Swap where
  len : Nat
  crc : Nat
  deriving DecidableEq, Repr, Inhabited

/-- The law of an axis: its banks, its states and its fade (R186 to R193). -/
structure Law where
  run : LawRun := .stopped
  pound : List Nat := []                 -- the 123 words of the bank, [] for the factory bank (R196)
  active : List Nat := []
  incoming : Option (List Nat) := none
  st : LawSt := {}                       -- states under ACTIVE
  stIn : LawSt := {}                     -- states under INCOMING
  fadePos : Nat := 0
  fadeLen : Nat := 0
  armed : Option Swap := none            -- committed, awaiting its lockage
  held : Option Swap := none
  preset : Bool := false                 -- ACTIVE must be preset in its next completed period, from CLEAR_CODE (R193)
  presetIn : Bool := false               -- INCOMING must be preset in its next completed period (R192)
  uPrev : Int := 0                       -- u_k of the last completed period, Q9.31
  err : Int := 0                         -- e and e1 of the last completed period, for the raw taps (R462)
  err1 : Int := 0
  deriving DecidableEq, Repr, Inhabited

/-- The weir of an axis (R202 to R211); positions in 2^-64 turn, velocity per second, acceleration per second². -/
structure Weir where
  pos : Int := 0
  vel : Int := 0
  acc : Int := 0
  init : Bool := false                   -- has been set by R208
  target : Int := 0                      -- live target, output frame
  targetVel : Int := 0
  prevTarget : Option Int := none        -- target and its velocity of the last completed period (R207)
  prevVel : Int := 0
  shooting : Bool := false               -- an overshoot episode is open (R209)
  overPeak : Int := 0
  brake : Option Int := none             -- braking target in HOLD (R210)
  hold : Option Int := none              -- held target while SP_FAULT or STOPPED holds
  pulseBase : Int := 0                   -- position and count at which the pulse source was taken
  pulseCount : Int := 0
  doneAt : Lt := 0                       -- boundary of the last completed period (R204)
  fast : Bool := false                   -- TARGET_FAST of the last completed period (R206)
  deriving DecidableEq, Repr, Inhabited

/-- The command output of an axis (R234 to R248). -/
structure Axo where
  code : Int := 0
  highZ : Bool := true
  rangePhase : Nat := 0                  -- 0 none, 1 waiting for the open, 2 open, 3 closed again
  rangeLt : Lt := 0                      -- boundary of the range change
  range : Nat := 0                       -- range the output stage is in
  oldRange : Nat := 0                    -- the range it was in before the latest change
  codes : List (Lt × Int) := []          -- recent codes, newest first
  clearedByPin : Bool := false           -- the law was stopped by CLEAR_AX_N alone (R244)
  swWasRun : LawRun := .stopped
  rbFault : Bool := false                -- RB_FAULT (R248)
  deriving DecidableEq, Repr, Inhabited

/-- What a compute window leaves for t_out (R168, R184). -/
structure Pending where
  law : Law
  weir : Weir
  code : Int
  uk : Int
  aCmd : Int                             -- 2^-20 turn/s²
  status : Nat                           -- bits of LAW_STATUS but for RUNNING, MISS and FEED_SENT
  cycles : Nat
  satElem : Nat                          -- element of 0x3403, 0 none
  fadeDone : Bool
  presetDiff : List Int                  -- data of the events 0x3415
  target : Int                           -- SP_TARGET and SP_TARGET_VEL of the period
  targetVel : Int
  weirStatus : Nat
  shot : Option Int                      -- size of an overshoot seen, 2^-64 turn
  fastNow : Bool                         -- TARGET_FAST sets in this period
  preset : Bool                          -- a preset was made in this period
  deriving DecidableEq, Repr, Inhabited

/-- One axis. -/
structure Axis where
  obs : Obs := {}
  law : Law := {}
  weir : Weir := {}
  axo : Axo := {}
  pending : Option Pending := none
  returnLt : Option Lt := none           -- boundary of step 2 of a return (R428)
  holdWait : Bool := false               -- its HOLD_ACTION acts at the next boundary in HOLD (R413, R428)
  deriving DecidableEq, Repr, Inhabited

/-- A work item of an engine that waits for a LOOP boundary at or after an instant. -/
inductive Due where
  | park (cls inst : Nat) (cause : Nat)
  | ret (cls inst : Nat)
  | resume (laser : Nat)
  deriving DecidableEq, Repr, Inhabited

/-- The values under which the demodulation output at a LOOP boundary is computed (R34). -/
structure Earlier where
  until_ : Lt                            -- the boundary
  values : List (Nat × Nat)              -- sub-entries that it may change, with their values before it
  stale : List Bool                      -- TEMP_STALE of the six axes
  deriving DecidableEq, Repr, Inhabited

/-- One loop engine. -/
structure Engine where
  earlier : Option Earlier := none       -- for the output whose instant equals the latest boundary (R34)
  lastLoop : Option Lt := none           -- latest LOOP boundary
  pinFell : Bool := false                -- CLEAR_AX_N has fallen since that boundary (R244)
  windowOpen : Option Lt := none         -- boundary whose window is computed and waits for t_out
  computed : Option Lt := none           -- boundary of the latest window that has been computed
  before : Option Lt := none             -- LOOP boundary before the latest
  missed : List Nat := []                -- axes abandoned in the window that waits for t_out
  due : List (Lt × Due) := []
  returning : List Nat := []             -- axes whose step 3 is taken together (R429)
  returnCls : Option (Nat × Nat) := none -- unit whose return that is
  returnFrom : Lt := 0                   -- boundary of its step 2
  deriving DecidableEq, Repr, Inhabited

end Sys2Proof.Machine
end

