-- ==== Sys2Proof/Machine/Blocks2.lean ====
section
/-! DEFINITION. The state of the device's shared blocks: pounds, event log, lock-keeper and modes. -/

namespace Sys2Proof.Machine

/-- One pound (R35, R50): what is staged, and its commit. POUND_STATE and POUND_PENDING are read from it. -/
structure Pound where
  staged : List (Nat × Nat) := []        -- key and value, one entry per sub-entry, oldest first
  armed : Option Lt := none              -- commit instant of an armed lockage (R41)
  bundle : List Nat := []                -- the pounds that lock together with this one (R52)
  deferred : Nat := 0                    -- case of R47 that defers it, 0 none
  deriving DecidableEq, Repr, Inhabited

/-- An event record on its way to the log or in it (R399). -/
structure Event where
  uid : Nat := 0                         -- the model's own name for the record before it is numbered
  seq : Nat := 0
  ts : Lt := 0
  cls : Nat := 0                         -- SOURCE class (R401)
  inst : Nat := 0
  code : Nat := 0
  level : Nat := 0                       -- LEVEL (R400)
  unit : Nat := 0                        -- the axis or laser a fault applies to (R408, R409); no field of the record
  restored : Bool := false
  queued : Bool := false
  takenOver : Bool := false
  mode : Nat := 0
  layer : Nat := 0
  data : List Nat := []                  -- bytes; bytes not listed read 0
  trig : List (Nat × Nat) := []          -- byte offsets of DATA that take the SEQ of a record, and its uid
  deriving DecidableEq, Repr, Inhabited

/-- The log (R404 to R406, R431, R452). -/
structure Log where
  intake : List Event := []              -- delivered and not yet admitted, at most 256
  ring : List Event := []                -- newest first, at most 4,096
  nextUid : Nat := 1
  seqOf : List (Nat × Nat) := []         -- uid and SEQ of numbered fault records, newest first
  lossCount : Nat := 0                   -- records lost since the latest 0x2024
  lossCode : Nat := 0
  lossTs : Lt := 0
  lossMode : Nat := 0                    -- MODE and LAYER at the detection of the first record lost (R399)
  lossLayer : Nat := 0
  lossUids : List Nat := []
  stopped : Bool := false                -- numbering has stopped for PFAIL_N (R431)
  stoppedLost : Nat := 0                 -- records detected while it was stopped
  quiet : List (Nat × Lt) := []          -- per SRAM region, instant of the latest correctable error (R409)
  ceCounts : List (Nat × Nat) := []      -- per SRAM region, correctable errors counted (R22, R409)
  deriving DecidableEq, Repr, Inhabited

/-- The reactions above LOG (R407). -/
inductive Reaction where
  | axisSafe (a : Nat)
  | laserSafe (l : Nat)
  | deviceHold
  deriving DecidableEq, Repr, Inhabited

/-- A running sequence (R411, R412). -/
structure Sequence where
  kind : Reaction
  t0 : Lt                                -- start, from which its steps are counted
  trigger : Nat                          -- uid of its triggering record
  faulted : List Nat := []               -- axes whose AXIS_FAULT triggered it or one it took over
  engines : List Nat := []               -- engines whose step 2 has not fallen
  cause : Nat := 1                       -- cause of 0x2000: 0 command, 1 lock-keeper, 2 HOLD_N
  fromMode : Option Nat := none          -- the mode it left; none where it changed no mode
  deriving DecidableEq, Repr, Inhabited

/-- A queued reaction (R416). -/
structure Queued where
  kind : Reaction
  cls : Nat                              -- the unit it stands for
  inst : Nat
  trigger : Nat
  faulted : List Nat := []
  cause : Nat := 1
  deriving DecidableEq, Repr, Inhabited

/-- The lock-keeper (R407 to R418). -/
structure LockKeeper where
  running : Option Sequence := none
  holdRun : Option Sequence := none      -- steps of a master's command into HOLD
  queue : List Queued := []
  inbox : List Event := []               -- faults that have not met the lock-keeper, in the order raised
  leftover : List (Nat × Lt) := []       -- park steps of sequences taken over: axis and t0
  triggerUid : Option Nat := none        -- record that triggered the running reaction
  doneLt : Option Lt := none             -- instant at which the latest sequence completed
  deviceLatched : List Nat := []         -- codes of the latched device faults (R418)
  deriving DecidableEq, Repr, Inhabited

/-- How a transition in progress completes (R438). -/
inductive Wait where
  | drivers        -- every enabled driver has started
  | carriersOff    -- the last carrier has stopped
  | engines        -- each engine's first LOOP boundary at least 1 µs after acceptance
  | training       -- memory training (and the initial step) has ended
  deriving DecidableEq, Repr, Inhabited

/-- A commanded transition in progress (R440). -/
structure Transition where
  fromMode : Nat
  target : Nat
  accepted : Lt
  byMaster : Bool                        -- its completion is a MODE boundary (R33)
  wait : Wait
  engines : List Nat := []               -- engines that have not acted
  deriving DecidableEq, Repr, Inhabited

/-- Reset, pins and the mode machine. -/
structure ModeSt where
  inReset : Bool := true
  resetPinLow : Bool := true             -- RESET_N
  supplyBad : Bool := false              -- a supply or a die temperature is out of range (R443, R472)
  holdLow : Bool := false                -- HOLD_N
  holdSince : Lt := 0
  clearAxLow : Bool := false             -- CLEAR_AX_N
  clearLmLow : Bool := false             -- CLEAR_LM_N
  pfailLow : Bool := false               -- PFAIL_N has fallen, and its recovery has not come (R431, R452)
  pfailUp : Option Lt := none            -- instant from which PFAIL_N is high again, before its recovery (R418)
  transition : Option Transition := none
  calStart : Lt := 0                     -- entry into CALIBRATE
  bootSeq : Bool := false                -- the automatic sequence of R445 is running
  deriving DecidableEq, Repr, Inhabited

end Sys2Proof.Machine
end

