-- ==== Sys2Proof/Machine/Blocks3.lean ====
section
/-! DEFINITION. The state of the laser channels: streams, planned actions, gates, modulation outputs and playback. -/

namespace Sys2Proof.Machine

/-- A point of a field: x and y in 2^-31 half field, z in 2^-31 half focus range (R217). -/
structure Pt where
  x : Int := 0
  y : Int := 0
  z : Int := 0
  deriving DecidableEq, Repr, Inhabited

/-- A segment with its place on LT (R219). -/
structure Seg where
  s : Nat                                -- segment number
  ty : Nat                               -- TYPE (R216)
  p0 : Pt                                -- start point
  p1 : Pt                                -- end point
  t0 : Lt                                -- start time
  t1 : Lt                                -- end of its motion
  t2 : Lt                                -- its end, after SETTLE
  search : Bool := false                 -- SEARCH of a FOCUS
  late : Option Nat := none              -- lateness of a WAIT_TIME in ns (R219)
  begun : Bool := false                  -- its start has been acted on
  prof : Option (Nat × Nat × Int) := none -- profile, scale and offset in force before it (R225)
  deriving DecidableEq, Repr, Inhabited

/-- The actions of the scheduler's laser share (R313). -/
inductive ActKind where
  | gateOpen | gateClose | lmoWrite | profileStart
  deriving DecidableEq, Repr, Inhabited

/-- One action in a laser's share (R312, R317). -/
structure Action where
  lt : Lt
  kind : ActKind
  value : Option Nat := none             -- the power value it writes; none: the output keeps its value (R254)
  seg : Nat := 0                         -- the segment it belongs to
  profile : Nat := 0
  scale : Nat := 0
  deriving DecidableEq, Repr, Inhabited

/-- Playback of a profile (R254). -/
structure Playback where
  profile : Nat
  scale : Nat
  start : Lt
  next : Nat                             -- index of the next sample
  deriving DecidableEq, Repr, Inhabited

/-- A decided stop of a stream (R228): the first segment not completed, the reason, and when it falls. -/
structure Stop where
  seg : Nat
  reason : Nat
  deriving DecidableEq, Repr, Inhabited

/-- The scan stream of a laser (R212 to R231). STREAM_STATE and the counters are objects. -/
structure Stream where
  base : Nat := 0                        -- first record in the buffer
  len : Nat := 0
  buffer : Nat := 0
  startAt : Option Lt := none            -- boundary of the first segment, once a layer has started (R214)
  staging : List (Nat × List Nat) := []  -- segment number and 32 bytes of the staged records, oldest first
  fetchNext : Nat := 0                   -- next record to fetch
  fetching : Option (Nat × Nat × Lt) := none  -- requested range, first record and count, and its issue
  decodeNext : Nat := 0                  -- next segment to decode
  segs : List Seg := []                  -- decoded segments that have not ended, oldest first
  lastEnd : Pt := {}                     -- end point of the latest decoded segment
  lastTime : Lt := 0                     -- its end
  point : Pt := {}                       -- latest field point formed
  cur : List Int := []                   -- set-points of the next boundary: θ and v_x of X, Y, Z
  now : List Int := []                   -- set-points in use
  segUsed : Nat := 0                     -- segment of the latest set-point formed
  stops : List Stop := []                -- faults found, in detection order
  hostStop : Bool := false               -- STREAM_CMD STOP waits for its boundary
  ended : Bool := false                  -- LAYER_END has been decoded
  profile : Option (Nat × Nat × Int) := none -- profile, scale and offset in force (R225)
  finished : Bool := true                -- LAYER_END executed, or abandoned, or not in the layer (R32)
  abandoned : Bool := false
  resumeSeg : Option Nat := none         -- a RESUME whose approach has not been planned
  approach : Bool := false               -- that approach moves from the held point (R230)
  stopPt : Pt := {}                      -- start point of STOP_SEG
  frozen : Bool := false                 -- the last set-point formed is held (R228, R231)
  withdrawn : Nat := 0                   -- actions withdrawn by the stop being carried out (R318)
  deriving DecidableEq, Repr, Inhabited

/-- A correction made a candidate for its laser at a use boundary (R368, R369). -/
structure Cand where
  use : Lt
  camera : Nat
  frame : Nat
  dx : Int
  dy : Int
  baseX : Int                            -- offset of the frame's tag, added under CORR_INCREMENT
  baseY : Int
  deriving DecidableEq, Repr, Inhabited

/-- One step of an autofocus search: the frame it waits for or has, its SHARPNESS, and whether it is missing. -/
structure AfStep where
  frame : Option Nat := none
  sharp : Option Nat := none
  missing : Bool := false
  deriving DecidableEq, Repr, Inhabited

/-- An autofocus search of a laser (R371). -/
structure Search where
  camera : Nat                           -- AF_CAMERA at its start
  lead : Nat
  z0 : Int
  n : Nat
  step : Int                             -- AF_STEP
  settle : Nat                           -- AF_SETTLE, ns
  started : Lt                           -- start of the search, then the fall of its latest frame
  stepAt : Option Lt := none             -- start boundary of the step in hand; none until its boundary
  steps : List AfStep := []              -- steps begun, in order
  deriving DecidableEq, Repr, Inhabited

/-- One laser with its gate, its output and its offsets. -/
structure Laser where
  stream : Stream := {}
  acts : List Action := []               -- planned actions, in LT order (R317)
  gate : Bool := false                   -- the channel's gate is open
  value : Nat := 0                       -- what the channel writes to its output (R225)
  closeLt : Option Lt := none            -- latest close edge, whose 0 wins at its LT (R253)
  play : Option Playback := none
  hold : Bool := false                   -- cleared until the next open edge (R245, R418)
  off : Bool := false                    -- LMO driver n switched off (R256)
  ilim : Bool := false
  overTemp : Bool := false
  corr : Int × Int := (0, 0)             -- melt-pool offset of the set-point formed last (R369)
  corrNow : Int × Int := (0, 0)          -- melt-pool offset of the set-point in use
  corrTarget : Int × Int := (0, 0)
  corrClamped : Bool := false            -- CORR_LIMIT acted on the latest target
  cands : List Cand := []                -- corrections awaiting their use boundary, in order of acceptance
  search : Option Search := none         -- the autofocus search that runs (R371)
  deriving DecidableEq, Repr, Inhabited

/-- A trigger of a lead camera in the scheduler (R312, R364): its edges, until it has fallen. -/
structure Trigger where
  rise : Lt
  fall : Lt
  missed : Bool := false
  deriving DecidableEq, Repr, Inhabited

/-- One camera. -/
structure Cam where
  next : Option Trigger := none          -- entered, waits for its rising edge
  later : List Trigger := []             -- entered behind it, at the boundary of its rising edge
  high : Option Trigger := none          -- has risen, waits for its falling edge
  lastFall : Option Lt := none
  supplied : Option Nat := none          -- the frame of its latest supplied correction (R368)
  dropping : Bool := false               -- discarding for age or missing tag has begun (R368)
  intensity : Nat := 0                   -- the rest of its latest statistics
  area : Nat := 0
  dx : Int := 0                          -- its latest correction data
  dy : Int := 0
  deriving DecidableEq, Repr, Inhabited

/-- A frame tag (R366). A snapshot is the words and STATUS of the X, Y and Z axes, [31:8] ANGLE and [7:0] STATUS, with
the instant up to which each still follows its axis's outputs (R367). -/
structure Tag where
  frame : Nat
  camera : Nat
  laser : Nat
  flags : Nat
  rise : Lt
  fall : Lt
  period : Nat
  start : List Nat := []
  startDue : List Lt := []
  startValid : List Bool := []
  stop : List Nat := []
  stopDue : List Lt := []
  stopValid : List Bool := []
  dx : Int := 0
  dy : Int := 0
  complete : Bool := false
  deriving DecidableEq, Repr, Inhabited

/-- The vision port. -/
structure Vision where
  cams : Vector Cam 32 := Vector.replicate 32 {}
  tags : List Tag := []                  -- newest first, at most 4,096
  lastRx : Lt := 0                       -- acceptance of the latest valid packet
  lastTx : Lt := 0                       -- latest packet sent on VTX
  sent : List Nat := []                  -- its bytes between /K27.7/ and /K29.7/ (R358)
  deriving DecidableEq, Repr, Inhabited

/-- The memory port. -/
structure MemPort where
  owed : List Nat := [0, 0, 0, 0]        -- owed refreshes of CH_0 rank 0 and 1, CH_1 rank 0 and 1
  tickFrom : List Lt := [0, 0, 0, 0]     -- instant from which the next tick of t_REFI counts
  lastMr4 : Lt := 0
  tracking : Option Lt := none           -- end of the tracking step in progress
  patrol : List Nat := [0, 0]            -- next burst of the patrol, channel address
  switchFrom : Lt := 0                   -- start of the frequency switch in progress
  stepEnd : Option Lt := none            -- end of the step of a switch that holds a frequency lockage (R390)
  quiet : List Lt := [0, 0]              -- latest correctable error of each channel
  target : Nat := 0                      -- data rate to which the switch in progress goes (R388, R390)
  found : List MemErr := []              -- what HOST reads of the present command find wrong (R392)
  spoiled : Bool := false                -- a double-bit error has struck the next HOST request of the present command (R409)
  bad : List MemErr := []                -- beat pairs that stay uncorrectable in memory until their burst is written whole
  deriving DecidableEq, Repr, Inhabited

/-- A host entry of the scheduler (R319). -/
structure HostEntry where
  lt : Lt
  kind : Nat
  arg : Nat
  tag : Nat
  deriving DecidableEq, Repr, Inhabited

/-- The layer in use (R213 to R215). LAYER_STATE and LAYER_IN_USE are objects. -/
structure Layer where
  waiting : Bool := false                -- waits for BUILD (R215)
  started : Bool := false                -- 0x3510 has been logged
  deriving DecidableEq, Repr, Inhabited

end Sys2Proof.Machine
end

