-- ==== Sys2Proof/Machine/Blocks4.lean ====
section
/-! DEFINITION. The state of the raw taps and self-tests, the legacy interfaces, network time, the network ports with their
masters, and the configuration store. -/

namespace Sys2Proof.Machine

/-! ### Raw taps and self-test (chapter 17) -/

/-- One raw tap (R462 to R467). Its settings are objects. -/
structure Tap where
  active : Bool := false                 -- takes values
  seq : Nat := 0                         -- values taken since the arm, dropped ones included
  skip : Nat := 0                        -- values since the last one recorded (DECIM)
  written : Nat := 0                     -- records written since the arm
  post : Nat := 0                        -- records written at or after TRIG_LT
  dropping : Bool := false               -- a run of drops has begun
  recent : List Nat := []                -- LT_NS of the latest records, newest first, at most 1,024
  deriving DecidableEq, Repr, Inhabited

/-- A self-test in progress (R457, R458). -/
structure SelfTest where
  cmd : Nat                              -- 1 logic, 2 memory, 3 both
  logic : Bool                           -- the logic part runs
  start : Lt
  fail : Nat := 0                        -- signatures that differed so far
  deriving DecidableEq, Repr, Inhabited

/-- Test and debug. -/
structure TestSt where
  taps : Vector Tap 32 := Vector.replicate 32 {}
  running : Option SelfTest := none
  deriving DecidableEq, Repr, Inhabited

/-! ### Legacy interfaces (chapter 10) -/

/-- One encoder emulator (R263 to R271). -/
structure Enc where
  running : Bool := false
  presetWait : Bool := false
  holding : Bool := false
  overspeed : Bool := false
  target : Int := 0                      -- C_t of the latest word
  count : Int := 0                       -- C_o
  offset : Int := 0                      -- P
  lastTurns : Int := 0                   -- TURN_COUNT and counts of the latest word, to accumulate the change
  lastPos : Int := 0
  words : List (Lt × Words) := []        -- words on their way with their t_w, oldest first (R267)
  backlog : Int := 0                     -- edges planned and not issued, with their direction
  next : Option Lt := none               -- instant of the next planned edge
  spacing : Nat := 0                     -- ns
  lastEdge : Option Lt := none           -- instant of the latest edge
  pinA : Bool := false                   -- levels of the pins
  pinB : Bool := false
  pinZ : Bool := false
  deriving DecidableEq, Repr, Inhabited

/-- One SSI slave port (R274, R275). -/
structure Ssi where
  frame : Option (List Bool) := none     -- bits not yet driven; none while idle
  data : Bool := true                    -- level of SSI_DATA_i
  last : Lt := 0                         -- latest clock edge
  deriving DecidableEq, Repr, Inhabited

/-- One latch of the words of all axes (R277). -/
structure Latch where
  lt : Lt := 0
  seq : Nat := 0
  words : List Words := []
  deriving DecidableEq, Repr, Inhabited

/-- One pulse input: the accepted levels, with the instants of their latest changes (R282). -/
structure Pulse where
  a : Bool := false
  b : Bool := false
  lastB : Option Lt := none
  prevB : Bool := false                  -- level of B before its latest change
  lastErr : Option Lt := none            -- latest quadrature error
  deriving DecidableEq, Repr, Inhabited

/-- The legacy interfaces. -/
structure Legacy where
  encs : Vector Enc 8 := Vector.replicate 8 {}
  ssis : Vector Ssi 2 := Vector.replicate 2 {}
  latch0 : Latch := {}                   -- the two latch buffers (R278)
  latch1 : Latch := {}
  latest : Bool := false                 -- the latest latch is in the second buffer
  spi : Option (Bool × Lt) := none       -- the buffer the latest SPI transaction reads, and the rise of SPI_CS_N
  spiOut : List Nat := []                -- bytes of the latest SPI transaction, from byte 4 on
  lastSample : Option Lt := none         -- latest accepted SAMPLE_N edge
  sampleDropped : Bool := false          -- the latest edge was ignored
  pulses : Vector Pulse 8 := Vector.replicate 8 {}
  canWaiting : Bool := false             -- 0x3723 has been logged and no slot has been taken since
  deriving DecidableEq, Repr, Inhabited

/-! ### Monitoring converter (chapter 09) -/

/-- A monitoring sample on its way to its consumers: its slot, its code, and for a compared output the distance outside its
envelope in µV and whether it is a mismatch (R246, R247). -/
structure MonResult where
  ready : Lt
  slot : Nat
  raw : Int
  judged : Option (Nat × Bool) := none
  deriving DecidableEq, Repr, Inhabited

/-! ### Network time (chapter 11) -/

/-- A grandmaster heard in Announce messages (R296). -/
structure Foreign where
  source : Nat                           -- identity of the sending clock
  port : Nat                             -- port it was heard on
  quality : List Nat                     -- its data set, in the order of comparison; the grandmaster is element 5
  utc : Int                              -- currentUtcOffset
  interval : Nat                         -- Announce interval, ns
  times : List Lt := []                  -- arrivals, newest first
  deriving DecidableEq, Repr, Inhabited

/-- A two-step Sync that awaits its Follow_Up. -/
structure TwoStep where
  port : Nat
  seq : Nat
  ingress : Int                          -- t_rx, 2^-32 ns
  correction : Int                       -- correctionField of the Sync, 2^-32 ns
  deriving DecidableEq, Repr, Inhabited

/-- One time domain (R296 to R306). -/
structure Domain where
  foreign : List Foreign := []
  selected : Option (Nat × Nat) := none  -- grandmaster identity and the clock that announces it
  syncs : List (Int × Int) := []         -- ingress LT and offset of the last 8 Syncs used, 2^-32 ns, newest first
  usedOn : Option Nat := none            -- port of the latest of them
  onPort : List (List Int) := [[], []]   -- offsets of the last 8 Syncs used on each port, newest first (R306)
  used : Nat := 0                        -- consecutive Syncs used since MEASURING began, at most 255
  lastUsed : Lt := 0
  syncNs : Nat := 0                      -- Sync interval, ns
  lastOn : List (Option Lt) := [none, none]  -- latest Sync of the selected grandmaster on each port
  first : Bool := true                   -- the next Sync steers with dt = 0
  lockRun : Nat := 0                     -- consecutive Syncs within LOCK_LIMIT
  validSince : Lt := 0
  pathDelays : List Nat := []            -- the last 16 peer delays since the latest path event, ps, newest first (R306)
  twoStep : Option TwoStep := none
  deriving DecidableEq, Repr, Inhabited

/-- A residence time that awaits its Follow_Up (R310). -/
structure Residence where
  domain : Nat
  seq : Nat
  add : Int                              -- what is added to its correctionField, 2^-32 ns
  deriving DecidableEq, Repr, Inhabited

/-- The time unit of one network port (R308, R310). -/
structure PortTime where
  count : Nat := 0                       -- measurements counted in PDELAY_RUN
  sum : Nat := 0                         -- sum of the measurements counted in PDELAY_RUN, ps
  req : Option (Nat × Int) := none       -- sequence number and egress timestamp (2^-32 ns) of the request in hand
  nextSeq : Nat := 0
  missed : Nat := 0                      -- consecutive requests without a response
  lastReq : Option Lt := none            -- latest request sent
  lastPair : Option (Int × Int) := none  -- responder's and own timestamp of the latest response, 2^-32 ns
  residences : List Residence := []      -- oldest first, at most 16
  followUp : Option (Frame × Lt) := none -- a Follow_Up received, with the instant it may leave, until FOLLOW_UP tells its content
  deriving DecidableEq, Repr, Inhabited

/-- Network time, beyond its objects. -/
structure TimeSt where
  domains : Vector Domain 2 := Vector.replicate 2 {}
  ports : Vector PortTime 2 := Vector.replicate 2 {}
  realignEnd : Option Lt := none         -- realignment in progress, and its latest end (R295)
  clampOn : Bool := false                -- the rate is at a clamp (R298)
  stepWait : Option Nat := none          -- an initial step waits for the last carrier, with its domain (R301)
  stepRealign : Bool := false            -- the realignment in progress follows such a step
  everRun : Bool := false                -- TRACK, SERVO or BUILD has been entered since reset (R300)
  firstAt : Option Lt := none            -- LT at which the first domain became active (R297)
  tieFrom : Option Lt := none            -- LT just before the step made then (R297, R300)
  stepCode : Nat := 0                    -- what STEP_STATE reads with STEP_ALLOWED = 1: AVAILABLE, MADE or FORFEITED (R301)
  deriving DecidableEq, Repr, Inhabited

/-! ### Network ports and masters (chapter 12) -/

/-- A request held until its window closes (R345). The end of a PD_OUT frame is held behind its values as a message of service
0, whose tag tells that a value was refused at admission. -/
structure Request where
  ts : Lt
  src : Source
  frame : Nat                            -- the model's own number of its frame; its messages reply together
  pos : Nat                              -- place in the frame
  msg : Msg
  pd : Bool := false                     -- a value or the end of a PD_OUT frame: no reply
  pdSeq : Nat := 0                       -- SEQ of that frame
  won : Bool := false                    -- arbitrated in its own window, and held on while the memory is SWITCHING (R345, R381)
  alone : Bool := false                  -- served by itself, in no frame: its answer goes to `released`
  errs : List MemErr := []               -- what its read of external memory finds wrong
  spoiled : Bool := false                -- a double-bit error has struck the buffer word that holds it (R409)
  deriving DecidableEq, Repr, Inhabited

/-- A frame that the CAN port sends: its identifier and format, the bit rates of its phases in kbit/s, the data phase 0 where it
is not switched, and whether transmitter delay compensation is active in it (R285, R286). -/
structure CanFrame where
  id : Nat
  fd : Bool
  brs : Bool
  esi : Bool
  nominal : Nat
  dataRate : Nat
  delayComp : Bool
  data : List Nat
  deriving DecidableEq, Repr, Inhabited

/-- A message that has been answered, until the reply of its frame leaves (R335). -/
structure Answer where
  frame : Nat
  pos : Nat
  src : Source
  msg : Msg
  code : Nat                             -- abort code, 0 for none
  data : List Nat
  deriving DecidableEq, Repr, Inhabited

/-- The egress of one port (R330). -/
structure Egress where
  sending : Option Frame := none
  high : List Frame := []                -- oldest first
  low : List Frame := []
  lowAt : List Nat := []                 -- the number under which each low frame was stored (R330)
  deriving DecidableEq, Repr, Inhabited

/-- The part of a master slot that no object shows (R334, R343, R353). -/
structure Master where
  port : Nat := 0                        -- port of its latest frame
  lastSeen : Lt := 0
  asmKey : Nat := 0                      -- sub-entry, bytes and latest part of the assembly buffer
  asm : List Nat := []
  asmLt : Lt := 0
  pushNext : Nat := 0                    -- next record to push
  pushLt : Lt := 0                       -- latest push or acknowledgement that advanced
  gapLogged : Bool := false
  pdDropping : Bool := false
  deriving DecidableEq, Repr, Inhabited

/-- The answer to the latest access message served: its abort code, 0 for none, and its data. -/
structure Reply where
  abort : Nat := 0
  data : List Nat := []
  deriving DecidableEq, Repr, Inhabited

/-- Raore link. -/
structure Net where
  egress : Vector Egress 2 := Vector.replicate 2 {}
  masters : Vector Master 4 := Vector.replicate 4 {}
  held : List Request := []              -- requests admitted, in order of arrival, at most 64
  answers : List Answer := []            -- messages answered whose frame waits for others
  frameNo : Nat := 0
  txSeq : Nat := 0                       -- SEQ of the device's own frames
  reply : Reply := {}
  released : List (Source × Reply) := [] -- answers to the requests served by themselves that the latest switch had held (R381)
  canReply : Option CanFrame := none     -- latest response on CAN
  pdSeqSent : Nat := 0                   -- PD_SEQ of the next snapshot
  pdOutSeq : Nat := 0                    -- SEQ, slot and result of the latest PD_OUT applied (R350)
  pdOutMaster : Nat := 0xFF
  pdOutResult : Nat := 0
  pdRefusedNow : Bool := false           -- a value of the PD_OUT frame in hand was refused
  pdTaken : Option Lt := none            -- boundary of the latest snapshot
  stored : Nat := 0                      -- frames stored in the low queues since reset (R330)
  deriving DecidableEq, Repr, Inhabited

/-! ### Configuration store (chapter 16) -/

/-- A save in progress (R451). -/
structure Save where
  slot : Nat
  generation : Nat
  image : List Nat                       -- header, body and CRC
  deriving DecidableEq, Repr, Inhabited

/-- The store, beyond its objects. -/
structure StoreSt where
  save : Option Save := none
  newest : Option Nat := none            -- event sector with the newest records
  pfailRun : Bool := false               -- the latest PFAIL_N fall started R431
  block : List Nat := []                 -- what the power-fail write in progress, or the latest, puts into its sector
  deriving DecidableEq, Repr, Inhabited

end Sys2Proof.Machine
end

