-- ==== Sys2Proof/Machine/State.lean ====
section
/-! DEFINITION. The state of the device as plain data, its reset value, and the reasons a step can stop. -/

namespace Sys2Proof.Machine

structure State where
  regs : Store := []                     -- the object dictionary's values in use, and its status objects
  lt : Lt := 0                           -- local time (R291)
  mode : ModeSt := {}
  pounds : Vector Pound 106 := Vector.replicate 106 {}  -- axes 0–47, engines 48–55, lasers 56–71, cameras 72–103, device 104, transition 105
  axes : Vector Axis 48 := Vector.replicate 48 {}
  tiles : Vector Tile 8 := Vector.replicate 8 {}
  engines : Vector Engine 8 := Vector.replicate 8 {}
  lasers : Vector Laser 16 := Vector.replicate 16 {}
  layer : Layer := {}
  vision : Vision := {}
  memPort : MemPort := {}
  hostEntries : List HostEntry := []     -- pending host entries in LT order (R312)
  profiles : List Host.Cell := []        -- profile store, byte 2i and 2i + 1 of sample i; unlisted bytes read 0 (R254)
  dram : List Host.Cell := []            -- external memory by host address; unlisted bytes read 0 (R379)
  clearAxFall : Lt := 0                  -- latest falling edges of the clear pins, and rising edge of CLEAR_AX_N
  clearAxRise : Lt := 0
  clearLmFall : Lt := 0
  lastMonitor : Option Lt := none        -- latest monitoring sample (R246)
  monPending : List MonResult := []      -- results that wait 600 ns for their consumers, oldest first
  busLow : List Nat := []                -- bus inputs reported low (R250)
  lastSample : Option Lt := none         -- latest sample instant (R15)
  log : Log := {}
  lock : LockKeeper := {}
  test : TestSt := {}
  capture : List Host.Cell := []         -- capture buffer; unlisted bytes read 0 (R462)
  legacy : Legacy := {}
  time : TimeSt := {}
  net : Net := {}
  flash : List Host.Cell := []           -- the flash, which survives reset; unlisted bytes are erased (R447)
  store : StoreSt := {}
  freeCount : Nat := 0                   -- the model's own: free values taken so far (log entry 2)
  pending : List Instr := []             -- commands that wait, first in, first out
  deriving DecidableEq, Repr

/-- Reasons a step ends in a fault. The spec gives the device no condition in which it stops; nothing raises one, so nothing is
lost (safe). -/
inductive Fault where
  deriving DecidableEq, Repr

/-- Reasons a step is refused. -/
inductive Refusal where
  /-- A command without a meaning would answer it from its arm of `exec`; no arm does. Safe: no claim about an effect follows. -/
  | notModelled (mnemonic : String)
  deriving DecidableEq, Repr

/-- The device while RESET_N is low after power-up: every object at its default, every block idle, the outputs high impedance
(R443, R444, R446). -/
def State.reset : State := {}

end Sys2Proof.Machine
end

