-- ==== Sys2Proof/Machine/Ops.lean ====
section
/-! DEFINITION. The named operations over the state: register access, time, the units, pin-level status and the raising
of events. -/

namespace Sys2Proof.Machine

/-- Reads the raw value in use of a sub-entry. -/
def State.rd (s : State) (k : Nat) : Nat := s.regs.get k

/-- Reads a sub-entry as a two's-complement number of `w` bits. -/
def State.rdS (s : State) (w k : Nat) : Int := toSigned w (s.rd k)

/-- Writes the raw value of a sub-entry. -/
def State.wr (s : State) (k v : Nat) : State := { s with regs := s.regs.set k v }

/-- Writes a sub-entry as a two's-complement number of `w` bits. -/
def State.wrS (s : State) (w k : Nat) (v : Int) : State := s.wr k (ofSigned w v)

/-- Writes the field `[lo + w - 1 : lo]` of a sub-entry. -/
def State.wrField (s : State) (k lo w v : Nat) : State := s.wr k (putBits (s.rd k) lo w v)

/-- Counts one on a counter of `w` bits that saturates at its type's maximum. -/
def State.bump (s : State) (w k : Nat) : State := s.wr k (min (s.rd k + 1) (2 ^ w - 1))

/-- Counts one on a counter of `w` bits that wraps. -/
def State.bumpWrap (s : State) (w k : Nat) : State := s.wr k ((s.rd k + 1) % 2 ^ w)

/-- Applies `f` for each of 0 to n − 1 in ascending order. -/
def each (n : Nat) (s : State) (f : State → Nat → State) : State := (List.range n).foldl f s

/-! ### Units -/

/-- The state of AXIS_a. -/
def State.axis (s : State) (a : Nat) : Axis := s.axes[a]?.getD {}

/-- Replaces the state of AXIS_a. -/
def State.setAxis (s : State) (a : Nat) (x : Axis) : State := { s with axes := s.axes.setIfInBounds a x }

/-- Changes the state of AXIS_a. -/
def State.modAxis (s : State) (a : Nat) (f : Axis → Axis) : State := s.setAxis a (f (s.axis a))

/-- Changes the observer of AXIS_a. -/
def State.modObs (s : State) (a : Nat) (f : Obs → Obs) : State := s.modAxis a fun x => { x with obs := f x.obs }

/-- Changes the law of AXIS_a. -/
def State.modLaw (s : State) (a : Nat) (f : Law → Law) : State := s.modAxis a fun x => { x with law := f x.law }

/-- Changes the command output of AXIS_a. -/
def State.modAxo (s : State) (a : Nat) (f : Axo → Axo) : State := s.modAxis a fun x => { x with axo := f x.axo }

/-- The state of TILE_t. -/
def State.tile (s : State) (t : Nat) : Tile := s.tiles[t]?.getD {}

/-- Replaces the state of TILE_t. -/
def State.setTile (s : State) (t : Nat) (x : Tile) : State := { s with tiles := s.tiles.setIfInBounds t x }

/-- Changes the state of TILE_t. -/
def State.modTile (s : State) (t : Nat) (f : Tile → Tile) : State := s.setTile t (f (s.tile t))

/-- Driver j of a tile. -/
def Tile.driver (x : Tile) (j : Nat) : Driver := x.drivers[j]?.getD {}

/-- Driver j of TILE_t. -/
def State.driver (s : State) (t j : Nat) : Driver := (s.tile t).driver j

/-- Changes driver j of TILE_t. -/
def State.modDriver (s : State) (t j : Nat) (f : Driver → Driver) : State :=
  s.modTile t fun x => { x with drivers := x.drivers.setIfInBounds j (f (x.driver j)) }

/-- Channel i of a tile: 0 to 11 signal ADC, 12 to 17 sense ADC. -/
def Tile.chan (x : Tile) (i : Nat) : Chan := x.chans[i]?.getD {}

/-- Changes channel i of TILE_t. -/
def State.modChan (s : State) (t i : Nat) (f : Chan → Chan) : State :=
  s.modTile t fun x => { x with chans := x.chans.setIfInBounds i (f (x.chan i)) }

/-- Amplifier m of a tile. -/
def Tile.amp (x : Tile) (m : Nat) : Amp := x.amps[m]?.getD {}

/-- Changes amplifier m of TILE_t. -/
def State.modAmp (s : State) (t m : Nat) (f : Amp → Amp) : State :=
  s.modTile t fun x => { x with amps := x.amps.setIfInBounds m (f (x.amp m)) }

/-- The state of ENGINE_t. -/
def State.engine (s : State) (t : Nat) : Engine := s.engines[t]?.getD {}

/-- Changes the state of ENGINE_t. -/
def State.modEngine (s : State) (t : Nat) (f : Engine → Engine) : State :=
  { s with engines := s.engines.setIfInBounds t (f (s.engine t)) }

/-- Pound p: axes 0 to 47, engines 48 to 55, lasers 56 to 71, cameras 72 to 103, device 104, transition 105. -/
def State.pound (s : State) (p : Nat) : Pound := s.pounds[p]?.getD {}

/-- Changes pound p. -/
def State.modPound (s : State) (p : Nat) (f : Pound → Pound) : State :=
  { s with pounds := s.pounds.setIfInBounds p (f (s.pound p)) }

/-- Changes the layer. -/
def State.modLayer (s : State) (f : Layer → Layer) : State := { s with layer := f s.layer }

/-- Changes the mode machine. -/
def State.modMode (s : State) (f : ModeSt → ModeSt) : State := { s with mode := f s.mode }

/-- Changes the lock-keeper. -/
def State.modLock (s : State) (f : LockKeeper → LockKeeper) : State := { s with lock := f s.lock }

/-- Changes the log. -/
def State.modLog (s : State) (f : Log → Log) : State := { s with log := f s.log }

/-! ### Time -/

/-- A whole number of nanoseconds as LT. -/
abbrev ns (n : Nat) : Lt := n * 2 ^ 32

/-- The whole nanoseconds of an LT. -/
def Lt.toNs (t : Lt) : Nat := t / 2 ^ 32

/-- An LT as a TIME80 value: seconds in [79:32], nanoseconds in [31:0] (R339). -/
def time80 (t : Lt) : Nat := t.toNs / 1000000000 * 2 ^ 32 + t.toNs % 1000000000

/-- A TIME80 value as LT. -/
def ofTime80 (v : Nat) : Lt := ns (v / 2 ^ 32 * 1000000000 + v % 2 ^ 32)

/-- The least multiple of `step` that is at or after `now` and after `last`. -/
def nextGrid (step now : Lt) (last : Option Lt) : Lt :=
  let lo := match last with | some t => max now (t + 1) | none => now
  Num.cdiv lo step * step

/-- LT advanced by `dt` core cycles of 1 ns at the rate in use (R291). -/
def State.advance (s : State) (dt : Nat) : State :=
  { s with lt := s.lt + ((dt : Int) * ((2 ^ 32 : Int) + s.rdS 32 Reg.rateInUse)).toNat }

/-- LT brought forward to an instant; it never goes back. -/
def State.goTo (s : State) (t : Lt) : State := { s with lt := max s.lt t }

/-- Index of the 6.25 ns sample-clock period that begins at or contains an LT (R63). -/
def sampleClock (t : Lt) : Nat := t / (25 * 2 ^ 30)

/-- The instant of a sample-clock edge. -/
def sampleEdge (n : Nat) : Lt := n * (25 * 2 ^ 30)

/-- The first wrap through zero, at or after `t`, of an accumulator that has run at word `f` since LT = 0 (R63). -/
def nextWrap (f : Nat) (t : Lt) : Lt :=
  let n0 := Num.cdiv t (25 * 2 ^ 30)
  if f = 0 then sampleEdge n0 else
    let c := if n0 = 0 then 0 else f * (n0 - 1) / 2 ^ 32 + 1
    sampleEdge (Num.cdiv (c * 2 ^ 32) f)

/-! ### Modes (R436) -/

abbrev INIT : Nat := 0
abbrev CONFIGURE : Nat := 1
abbrev CALIBRATE : Nat := 2
abbrev TRACK : Nat := 3
abbrev SERVO : Nat := 4
abbrev BUILD : Nat := 5
abbrev HOLD : Nat := 6
abbrev TEST : Nat := 7

/-- The mode MODE reads. -/
def State.modeCode (s : State) : Nat := s.rd Reg.mode

/-- TRACK, SERVO or BUILD. -/
def State.inRun (s : State) : Bool := 3 ≤ s.modeCode && s.modeCode ≤ 5

/-- TRACK, SERVO, BUILD or HOLD. -/
def State.inRunOrHold (s : State) : Bool := 3 ≤ s.modeCode && s.modeCode ≤ 6

/-- Modes in which supervision and the observers run (R91). -/
def State.supervised (s : State) : Bool := 2 ≤ s.modeCode && s.modeCode ≤ 6

/-! ### Service state -/

/-- AXIS_a is PARKED. -/
def State.axisParked (s : State) (a : Nat) : Bool := s.rd (Reg.parkState a) == 1

/-- TILE_t is PARKED. -/
def State.tileParked (s : State) (t : Nat) : Bool := bitAt (s.rd Reg.tilesParked) t

/-- ENGINE_t is PARKED. -/
def State.engineParked (s : State) (t : Nat) : Bool := bitAt (s.rd Reg.enginesParked) t

/-- NET_p is PARKED. -/
def State.portParked (s : State) (p : Nat) : Bool := bitAt (s.rd Reg.portsParked) p

/-- The sensor kind of AXIS_a (R60). -/
def State.kind (s : State) (a : Nat) : Nat := s.rd (Reg.sensorKind a)

/-- AXIS_a has a sensor and is not PARKED. -/
def State.axisLive (s : State) (a : Nat) : Bool := s.kind a != 0 && !s.axisParked a

/-- The demodulation period of TILE_t in ns (R131). -/
def State.demodNs (s : State) (t : Nat) : Nat := 500 * 2 ^ (s.rd (Reg.demodPeriod t))

/-- The loop period of ENGINE_t in ns (R28). -/
def State.loopNs (s : State) (t : Nat) : Nat := s.rd (Reg.loopPeriod t)

/-- Output offset of ENGINE_t from its LOOP boundary, in ns (R168). -/
def State.outNs (s : State) (t : Nat) : Nat :=
  if s.rd (Reg.outOffset t) = 0 then 300 + s.loopNs t else s.rd (Reg.outOffset t)

/-! ### Events (R399 to R405) -/

abbrev cDEVICE : Nat := 0
abbrev cTILE : Nat := 1
abbrev cAXIS : Nat := 2
abbrev cENGINE : Nat := 3
abbrev cLASER : Nat := 4
abbrev cCAMERA : Nat := 5
abbrev cPIN : Nat := 6
abbrev cDRIVER : Nat := 7
abbrev cTHERM : Nat := 8
abbrev cLMO : Nat := 9
abbrev cBUS : Nat := 10
abbrev cEMU : Nat := 11
abbrev cPORT : Nat := 12
abbrev cDOMAIN : Nat := 13
abbrev cMASTER : Nat := 14
abbrev cMEM : Nat := 15
abbrev cLANE : Nat := 16
abbrev cPULSE : Nat := 17
abbrev cSRAM : Nat := 18

/-- DATA bytes of an unsigned field of `n` bytes, saturated (R402). -/
def dU (n v : Nat) : List Nat := leBytes n (min v (256 ^ n - 1))

/-- DATA bytes of a signed field of `n` bytes, saturated (R402). -/
def dI (n : Nat) (v : Int) : List Nat := leBytes n (ofSigned (8 * n) (Num.satI (8 * n) v))

/-- Level of an event code by the event tables of the chapters; codes not listed are INFO (R400). The codes whose level
depends on their cause are raised with that level given. -/
def levelOf (code : Nat) : Nat :=
  if [0x3107, 0x3301, 0x3303, 0x3401, 0x3601].contains code then 2
  else if [0x3513, 0x3812].contains code then 3
  else if [0x2028, 0x380D, 0x3B10].contains code then 4
  else if [0x2002, 0x2003, 0x2005, 0x2006, 0x2007, 0x2009, 0x2022, 0x2024, 0x2026, 0x2027, 0x2033, 0x3101, 0x3103, 0x3104, 0x3105, 0x3106, 0x3109, 0x310A, 0x3304, 0x3305, 0x3306, 0x3402, 0x3403, 0x3412, 0x3413, 0x3502, 0x3516, 0x3517, 0x3518, 0x3602, 0x3604, 0x3605, 0x3610, 0x3612, 0x3620, 0x3630, 0x3701, 0x3710, 0x3711, 0x3720, 0x3721, 0x3723, 0x3802, 0x3804, 0x3806, 0x3808, 0x380A, 0x380B, 0x3810, 0x3811, 0x3813, 0x3902, 0x3904, 0x3905, 0x3908, 0x3909, 0x3A01, 0x3A03, 0x3A06, 0x3A07, 0x3A0A, 0x3A0B, 0x3B02, 0x3B03, 0x3B22, 0x3C02, 0x3C05].contains code then 1
  else 0

/-- Delivers a record to the log's intake: refused while numbering is stopped (R431), lost while the intake is full
(R405). -/
def State.deliver (s : State) (e : Event) : State :=
  if !s.log.stopped && decide (s.log.intake.length < 256) then s.modLog fun l => { l with intake := l.intake ++ [e] }
  else
    let first := s.log.lossCount = 0 ∧ s.log.stoppedLost = 0
    let s := if s.log.stopped then s else s.bump 32 Reg.lostCount
    s.modLog fun l =>
      { l with
        lossCount := if l.stopped then l.lossCount else l.lossCount + 1
        stoppedLost := if l.stopped then l.stoppedLost + 1 else l.stoppedLost
        lossCode := if first then e.code else l.lossCode
        lossTs := if first then e.ts else l.lossTs
        lossMode := if first then e.mode else l.lossMode
        lossLayer := if first then e.layer else l.lossLayer
        lossUids := e.uid :: l.lossUids }

/-- Latches a fault (R418) and leaves its reaction for the lock-keeper (R408). -/
def State.latch (s : State) (e : Event) : State :=
  let s :=
    if e.level = 2 then
      let s := s.wr Reg.axesFaulted (Nat.lor (s.rd Reg.axesFaulted) (2 ^ e.unit))
      (s.wr (Reg.lastFault e.unit) e.code).bump 32 (Reg.faultCount e.unit)
    else if e.level = 3 then
      if e.unit < 16 then s.wr Reg.faultSummary (Nat.lor (s.rd Reg.faultSummary) (2 ^ e.unit)) else s
    else if e.level = 4 then
      let s := s.wr Reg.faultSummary (Nat.lor (s.rd Reg.faultSummary) (2 ^ 16))
      s.modLock fun k => { k with deviceLatched := k.deviceLatched ++ [e.code] }
    else s
  if e.level ≥ 2 then s.modLock fun k => { k with inbox := k.inbox ++ [e] } else s

/-- A logic self-test runs (R455 to R458). -/
def State.logicTest (s : State) : Bool := match s.test.running with | some x => x.logic | none => false

/-- An event of a partition that the logic self-test scans: the tiles, engines and observers, the interpolator and scheduler,
the output stage and legacy interfaces, and the vision port. The edges of the CLEAR pins and the CAN port stand outside (R455,
R459; log entry 74). -/
def partitionEvent (code : Nat) : Bool :=
  (decide (0x3100 ≤ code) && decide (code < 0x3720) && !(decide (0x3610 ≤ code) && decide (code ≤ 0x3613))) ||
    (decide (0x3810 ≤ code) && decide (code ≤ 0x3815)) || (decide (0x3A00 ≤ code) && decide (code < 0x3B00))

/-- The block that would raise an event is under the logic self-test, in which it raises none (R458). -/
def State.silenced (s : State) (code : Nat) : Bool := s.logicTest && partitionEvent code

/-- Raises an event of a stated level from a source, on the unit a fault applies to, detected at `ts`; `trig` lists the
offsets of DATA that take the SEQ of another record. -/
def State.raiseUnit (s : State) (lv code cls inst unit : Nat) (data : List Nat) (ts : Lt) (trig : List (Nat × Nat)) : State :=
  let e : Event :=
    { uid := s.log.nextUid, ts := ts, cls := cls, inst := inst, code := code, level := lv, unit := unit,
      mode := s.modeCode, layer := s.rd Reg.layerInUse, data := data, trig := trig }
  if s.silenced code then s else
    let s := s.modLog fun l => { l with nextUid := l.nextUid + 1 }
    (s.deliver e).latch e

/-- Raises an event whose fault applies to its source, or to the laser its data name where the source is an LMO (R408). -/
def State.raiseFull (s : State) (lv code cls inst : Nat) (data : List Nat) (ts : Lt) (trig : List (Nat × Nat)) : State :=
  s.raiseUnit lv code cls inst (if cls = cLMO then data.headD 0xFF else inst) data ts trig

/-- Raises an event now, at the level its table gives. -/
def State.raise (s : State) (code cls inst : Nat) (data : List Nat) : State :=
  s.raiseFull (levelOf code) code cls inst data s.lt []

/-- Raises an event where a condition holds. -/
def State.raiseIf (s : State) (b : Bool) (code cls inst : Nat) (data : List Nat) : State :=
  if b then s.raise code cls inst data else s

/-- MODE or LAYER_IN_USE has changed: the records of what is still to be detected take the new values, as they stand at its
detection (R399; log entry 34). -/
def State.reform (s : State) : State :=
  let f (e : Event) : Event := if s.lt < e.ts then { e with mode := s.modeCode, layer := s.rd Reg.layerInUse } else e
  let s := s.modLog fun l => { l with intake := l.intake.map f }
  s.modLock fun k => { k with inbox := k.inbox.map f }

/-- Instant at which the words of the output under way are formed: 280 ns after its demodulation instant (R13). -/
def State.formed (s : State) : Lt := s.lt + ns 280

/-- Raises an event that an output's words show where a condition holds: it is detected as the words are formed (R13, R105;
log entry 34). -/
def State.raiseFormed (s : State) (b : Bool) (code cls inst : Nat) (data : List Nat) : State :=
  if b then s.raiseFull (levelOf code) code cls inst data s.formed [] else s

/-- A fresh free value (log entry 2): nothing constrains it. -/
def State.fresh (s : State) : Nat × State := (Config.freeValue s.freeCount, { s with freeCount := s.freeCount + 1 })

end Sys2Proof.Machine
end

