-- ==== Sys2Proof/Machine/Tile.lean ====
section
/-! DEFINITION. The front-end tiles: crosspoint, excitation drivers, charge reset, sampling, common-mode windows and
thermistors (chapters 03 and 04, and the sample-rate stages of chapter 05). -/

namespace Sys2Proof.Machine

/-! ### Who uses which unit of a tile -/

/-- ROLE of pin AIN_t_p (R55). -/
def State.pinRole (s : State) (t p : Nat) : Nat := s.rd (Reg.pinRole t p) / 16

/-- UNIT of pin AIN_t_p (R55). -/
def State.pinUnit (s : State) (t p : Nat) : Nat := s.rd (Reg.pinRole t p) % 16

/-- The axes of TILE_t, in position order (R11). -/
def axesOf (t : Nat) : List Nat := [6 * t, 6 * t + 1, 6 * t + 2, 6 * t + 3, 6 * t + 4, 6 * t + 5]

/-- AXIS_a reads pair `n` (R60). -/
def State.readsPair (s : State) (a n : Nat) : Bool :=
  s.kind a != 0 && (s.rd (Reg.pairPrimary a) == n || (s.kind a == 2 && s.rd (Reg.pairFine a) == n))

/-- The axis whose sensor amplifier m serves. -/
def State.pairUser (s : State) (t m : Nat) : Option Nat := (axesOf t).find? fun a => s.readsPair a (m / 2)

/-- The axis whose analogue set-point amplifier m carries. -/
def State.setpointUser (s : State) (t m : Nat) : Option Nat :=
  (axesOf t).find? fun a => s.kind a != 0 && s.rd (Reg.setpointAmp a) == m

/-- The axes that driver j of TILE_t excites. -/
def State.driverAxes (s : State) (t j : Nat) : List Nat :=
  (axesOf t).filter fun a => s.kind a != 0 && s.rd (Reg.excDriver a) == j

/-- MODE of amplifier m: 0 OFF, 1 VOLTAGE, 2 CHARGE (R77). -/
def State.ampMode (s : State) (t m : Nat) : Nat := s.rd (Reg.ampMode t m) / 2 ^ 14

/-- ENABLE of driver j (R69). -/
def State.drvEnabled (s : State) (t j : Nat) : Bool := bitAt (s.rd (Reg.excConfig t j)) 0

/-- SENSE_INTERNAL of driver j (R67). -/
def State.senseInternal (s : State) (t j : Nat) : Bool := bitAt (s.rd (Reg.excConfig t j)) 1

/-- The gain correction of signal channel m, 2^-30: what CALIBRATE measured, or the factory trim (R84, R124). -/
def State.sigGain (s : State) (t m : Nat) : Nat :=
  (((s.tile t).amp m).gain).getD (max 1 (Config.trimGain (18 * t + m)))

/-- The offset correction of signal channel m, chain units (R84, R129). -/
def State.sigOffset (s : State) (t m : Nat) : Int :=
  (((s.tile t).amp m).offset).getD (Config.trimOffset (18 * t + m))

/-- The gain correction of sense receiver j, 2^-30 (R84, R124). -/
def State.snsGain (s : State) (t j : Nat) : Nat :=
  (((s.tile t).snsGain[j]?).getD none).getD (max 1 (Config.trimGain (18 * t + 12 + j)))

/-- The offset correction of sense receiver j, chain units (R83, R84). -/
def State.snsOffset (s : State) (t j : Nat) : Int :=
  (((s.tile t).snsOffset[j]?).getD none).getD (Config.trimOffset (18 * t + 12 + j))

/-- The corrections of a tile are the factory trim again (R84). -/
def Tile.trimmed (x : Tile) : Tile :=
  { x with amps := x.amps.map fun (y : Amp) => { y with gain := none, offset := none }
           snsGain := Vector.replicate 6 none, snsOffset := Vector.replicate 6 none }

/-- Thermistor i of TILE_t measures on a channel (R85). -/
def State.thermOn (s : State) (t ch : Nat) : Bool := s.rd (Reg.thermChannel t 0) == ch || s.rd (Reg.thermChannel t 1) == ch

/-- Amplifier m of TILE_t is in use: it serves a sensor, a set-point or a thermistor (R83). -/
def State.ampInUse (s : State) (t m : Nat) : Bool :=
  s.ampMode t m != 0 && ((s.pairUser t m).isSome || (s.setpointUser t m).isSome || s.thermOn t m)

/-- Sense receiver j of TILE_t is in use: its driver is enabled or named by an axis, or it serves a thermistor (R83). -/
def State.receiverInUse (s : State) (t j : Nat) : Bool :=
  s.drvEnabled t j || !(s.driverAxes t j).isEmpty || s.thermOn t (16 + j)

/-- A driver whose carrier is on (R63, R73). -/
def Driver.running (d : Driver) : Bool :=
  match d.phase with
  | .on | .waitStop | .waitOff => true
  | _ => false

/-- The axis whose filter settings channel i of TILE_t uses; a sense channel no axis names takes those of the axis in
its own position (log entry 11). -/
def State.chanAxis (s : State) (t i : Nat) : Option Nat :=
  if i < 12 then (s.pairUser t i).orElse fun _ => s.setpointUser t i
  else some (((s.driverAxes t (i - 12)).head?).getD (6 * t + (i - 12)))

/-! ### ROM figures of the responses (R120) -/

/-- Decimation, taps and pass edge (Hz) of RESPONSE_r. -/
def response : Nat → Nat × Nat × Nat
  | 0 => (5, 31, 100000) | 1 => (5, 41, 100000) | 2 => (5, 51, 100000) | 3 => (5, 35, 200000)
  | 4 => (5, 47, 200000) | 5 => (5, 57, 200000) | 6 => (5, 53, 300000) | 7 => (5, 81, 50000)
  | 8 => (5, 101, 50000) | 9 => (5, 23, 400000) | 10 => (10, 61, 50000) | 11 => (10, 81, 50000)
  | 12 => (10, 101, 50000) | 13 => (10, 69, 100000) | 14 => (10, 91, 100000) | 15 => (10, 115, 100000)
  | 16 => (10, 105, 150000) | 17 => (10, 163, 25000) | 18 => (10, 203, 25000) | 19 => (10, 47, 200000)
  | 20 => (10, 505, 10000) | 21 => (20, 123, 25000) | 22 => (20, 163, 25000) | 23 => (20, 203, 25000)
  | 24 => (20, 137, 50000) | 25 => (20, 183, 50000) | 26 => (20, 229, 50000) | 27 => (20, 209, 75000)
  | 28 => (20, 405, 10000) | 29 => (20, 505, 10000) | 30 => (20, 91, 100000) | _ => (20, 1011, 5000)

/-- Coefficient i of RESPONSE_r in 2^-30: linear phase, so symmetric, and summing to exactly 1 (R120). -/
def firTap (r i : Nat) : Int :=
  let h := (response r).2.1 / 2
  if i = h then 2 ^ 30 - 2 * Num.sumI ((List.range h).map (Config.firCoef r))
  else if i < h then Config.firCoef r i else Config.firCoef r (2 * h - i)

/-- Stop edge (Hz) and attenuation (dB) of RESPONSE_r. -/
def responseStop (r : Nat) : Nat × Nat :=
  ([(1000000, 60), (1000000, 80), (1000000, 100), (1000000, 60), (1000000, 80), (1000000, 100), (1000000, 80), (500000, 80),
    (500000, 100), (1600000, 60), (500000, 60), (500000, 80), (500000, 100), (500000, 60), (500000, 80), (500000, 100),
    (500000, 80), (250000, 80), (250000, 100), (800000, 60), (100000, 100), (250000, 60), (250000, 80), (250000, 100),
    (250000, 60), (250000, 80), (250000, 100), (250000, 80), (100000, 80), (100000, 100), (400000, 60)] : List (Nat × Nat)).getD r
    (50000, 100)

/-- Real amplitude of RESPONSE_r at `hz`, about its delay, 2^-90: Σ h_i cos(2π f (i − h) / 10 MHz). -/
def firAmplitude (r hz : Nat) : Int :=
  let h := (response r).2.1 / 2
  (List.range (response r).2.1).foldl (init := 0) fun acc i =>
    acc + firTap r i * Num.cosTurn 48 (hz * (max i h - min i h) * 2 ^ 48 / 10000000 % 2 ^ 48)

/-- What R120 promises of the coefficients in ROM: from 0 Hz to the pass edge the amplitude lies within ±0.01 dB, and from the
stop edge to 5 MHz it is attenuated as stated. 10^(±0.01/20) and 10^(-dB/20) are taken in 2^-90. The coefficients themselves
are open (log entry 6), and the sampling at whole Hz is the model's. -/
def FirMeets (r : Nat) : Prop :=
  (∀ hz, hz ≤ (response r).2.2 →
    firAmplitude r hz * 10 ^ 9 ≤ 1001151955 * 2 ^ 90 ∧ 998849370 * 2 ^ 90 ≤ firAmplitude r hz * 10 ^ 9) ∧
  ∀ hz, (responseStop r).1 ≤ hz → hz ≤ 5000000 →
    (firAmplitude r hz).natAbs * 10 ^ ((responseStop r).2 / 20) ≤ 2 ^ 90

/-- Tabulated moving-average delay of length L, in half samples (R123). -/
def maDelay2 (l : Nat) : Nat :=
  if l ≤ 1 then 0 else if l ≤ 2 then 1 else if l ≤ 4 then 3 else if l ≤ 8 then 7 else if l ≤ 16 then 15
  else if l ≤ 32 then 31 else if l ≤ 64 then 63 else if l ≤ 128 then 127 else if l ≤ 256 then 255
  else if l ≤ 512 then 511 else 1023

/-- GD_TABULATED for a length and a response, in 50 ns (R123). -/
def gdTabulated (l r : Nat) : Nat := maDelay2 l + ((response r).2.1 - 1)

/-- GD_EXACT for a length and a response, in 50 ns (R123). -/
def gdExact (l r : Nat) : Nat := (l - 1) + ((response r).2.1 - 1)

/-- GD_TABULATED of AXIS_a, in 50 ns (R123). -/
def State.gdTabulatedOf (s : State) (a : Nat) : Nat := gdTabulated (s.rd (Reg.maLength a)) (s.rd (Reg.response a))

/-- GD_EXACT of AXIS_a, in 50 ns (R123). -/
def State.gdExactOf (s : State) (a : Nat) : Nat := gdExact (s.rd (Reg.maLength a)) (s.rd (Reg.response a))

/-- T_settle of AXIS_a in ns: twice the tabulated delay and the moving-average length (R108). -/
def State.settleNs (s : State) (a : Nat) : Nat :=
  2 * s.gdTabulatedOf a * 50 + s.rd (Reg.maLength a) * 100

/-! ### Excitation (R63, R73, R74, R90) -/

/-- The accumulator of a driver at an LT, as a 32-bit phase (R63). -/
def accumulator (f : Nat) (t : Lt) : Nat := f * sampleClock t % 2 ^ 32

/-- A flush of a channel (R122). -/
def Chan.flush (c : Chan) : Chan := { c with win := [], maOut := [], fill := none }

/-- The channels that driver j of TILE_t excites, and its own sense channel (R122). -/
def State.excitedChans (s : State) (t j : Nat) : List Nat :=
  (12 + j) :: (List.range 12).filter fun m =>
    match s.pairUser t m with
    | some a => s.rd (Reg.excDriver a) == j
    | none => false

/-- A driver is set to start under R63: its stage drives 0 V until the accumulator wraps. -/
def State.startDriver (s : State) (t j : Nat) : State :=
  if s.drvEnabled t j && !s.tileParked t && !(s.driver t j).running && (s.driver t j).phase != .waitStart then
    s.modDriver t j fun d => { d with phase := .waitStart, fresh := true, since := s.lt }
  else s

/-- A driver leaves the running state at its next zero crossing (R90). -/
def State.stopDriver (s : State) (t j : Nat) : State :=
  s.modDriver t j fun d =>
    if d.running then { d with phase := .waitOff, since := s.lt }
    else { d with phase := .off, settling := false, amplPending := false }

/-- The reset switches of the amplifiers that driver j excites, held closed until the carrier starts, follow their reset
cycles from then on (R78, R80). -/
def State.freshSwitches (s : State) (t j : Nat) : State :=
  s.modTile t fun x =>
    { x with amps := Vector.ofFn fun (m : Fin 12) =>
        let y := x.amp m.val
        match s.pairUser t m.val with
        | some a => if s.rd (Reg.excDriver a) = j then { y with closed := false, closedAt := none } else y
        | none => y }

/-- The axes of driver j are flagged SETTLING (R108). An acquisition that already waits takes the cause of this one, unless its own
is 1 (log entry 115). -/
def State.setSettling (s : State) (t j : Nat) (fin : Option Nat) (cause : Nat) : State :=
  (s.driverAxes t j).foldl (init := s) fun s a =>
    let e := fin.map fun t0 => t0 + ns (s.settleNs a)
    let s := s.modObs a fun o =>
      { o with
        settling := true, settleEnd := e
        acq := if cause = 1 then .waiting 1
               else match o.acq with
                 | .idle => .idle
                 | .waiting 1 => .waiting 1
                 | _ => .waiting cause
        total := 0, lateLogged := false }
    match e with
    | some e => s.wr (Reg.settleEndLt a) (time80 e)
    | none => s

/-- The settling interval of AXIS_a has not ended for an output at `td` (R108). -/
def State.settleRuns (s : State) (a : Nat) (td : Lt) : Bool :=
  (s.axis a).obs.settling && !(match (s.axis a).obs.settleEnd with | some e => decide (e ≤ td) | none => false)

/-- AXIS_a is SETTLING on an output of TILE_t at `td`: its interval has not ended, or calibration part 2 has not (R108,
R441). -/
def State.settlingAt (s : State) (t a : Nat) (td : Lt) : Bool := s.settleRuns a td || !(s.tile t).gainDone

/-- The carrier of AXIS_a's driver has started (R144). -/
def State.carrierOn (s : State) (t a : Nat) : Bool :=
  match (s.driver t (s.rd (Reg.excDriver a))).phase with | .off | .waitStart => false | _ => true

/-- CARRIER_STOP: t_s of a frequency change (R73), or the end of a driver that leaves the running state (R90). -/
def State.carrierStop (s : State) (t j : Nat) : State :=
  let d := s.driver t j
  let at_ := nextWrap d.freq (max s.lt d.since)
  match d.phase with
  | .waitStop =>
    let s := s.goTo at_
    let s := s.modDriver t j fun d => { d with phase := .gap, since := at_, freq := s.rd (Reg.excFreq t j) }
    let s := s.wrField (Reg.excStatus t j) 1 1 0
    s.setSettling t j none 2
  | .waitOff =>
    let s := s.goTo at_
    let s := s.modDriver t j fun d => { d with phase := .off, settling := false, amplPending := false }
    let s := s.wrField (Reg.excStatus t j) 1 2 0
    -- a tile that has returned meanwhile starts its drivers under R63
    if s.supervised then s.startDriver t j else s
  | _ => s

/-- CARRIER_START: t_n of a frequency change (R73), or a start under R63; the excited channels are flushed (R122). -/
def State.carrierStart (s : State) (t j : Nat) : State :=
  let d := s.driver t j
  let f := s.rd (Reg.excFreq t j)
  let at_ := nextWrap f (max s.lt d.since)
  let go (s : State) (cause : Nat) : State :=
    let s := s.goTo at_
    let s := s.modDriver t j fun d =>
      { d with phase := .on, freq := f, ampl := s.rd (Reg.excAmpl t j), amplPending := false, fresh := false,
               settling := !(s.driverAxes t j).isEmpty }
    let s := s.wrField (Reg.excStatus t j) 1 1 1
    let s := (s.excitedChans t j).foldl (fun s i => s.modChan t i Chan.flush) s
    (s.freshSwitches t j).setSettling t j (some at_) cause
  match d.phase with
  | .gap => go s 2
  | .waitStart => go s 1
  | _ => s

/-- AMPLITUDE_STEP: a new EXC_AMPL reaches the pins at a positive-going zero crossing (R74). -/
def State.amplitudeStep (s : State) (t j : Nat) : State :=
  let d := s.driver t j
  if d.amplPending && d.running then
    (s.goTo (nextWrap d.freq (max s.lt d.since))).modDriver t j fun d =>
      { d with ampl := s.rd (Reg.excAmpl t j), amplPending := false }
  else s

/-- A lockage or a write has put EXC_FREQ or EXC_AMPL of a driver in use at LT `t0` (R73, R74, R108). -/
def State.excitationChanged (s : State) (t j : Nat) : State :=
  let d := s.driver t j
  if d.running && d.phase != .waitOff then
    if s.rd (Reg.excFreq t j) ≠ d.freq then
      s.modDriver t j fun d => { d with phase := .waitStop, since := s.lt, settling := true, amplPending := false }
    else if s.rd (Reg.excAmpl t j) ≠ d.ampl then
      s.modDriver t j fun d => { d with amplPending := true, since := s.lt }
    else s
  else s

/-! ### Charge reset (R78 to R80) -/

/-- RESET_WIDTH and RESET_GUARD of an AMP_RESET value (R81). -/
def resetWidth (v : Nat) : Nat := bitsAt v 4 4
def resetGuard (v : Nat) : Nat := bitsAt v 0 4

/-- t_c of the first reset cycle of amplifier m whose switch closes at or after `now`, under word `f` (R78). -/
def nextReset (f v : Nat) (now : Lt) : Lt :=
  let n := bitsAt v 8 8 + 1
  let ph := bitsAt v 16 16 * 2 ^ 16
  if f = 0 then now else
    -- edge n closes cycle c when f * n ≥ c * 2^32 + ph first holds
    let n0 := Num.cdiv now (25 * 2 ^ 30)
    let edge (c : Nat) : Nat := Num.cdiv (c * 2 ^ 32 + ph) f
    let c0 := f * n0 / 2 ^ 32 / n * n
    if n0 ≤ edge c0 then sampleEdge (edge c0) else sampleEdge (edge (c0 + n))

/-- The driver whose carrier an amplifier in CHARGE mode follows (R78). -/
def State.chargeDriver (s : State) (t m : Nat) : Option Driver :=
  if s.ampMode t m = 2 then (s.pairUser t m).map fun a => s.driver t (s.rd (Reg.excDriver a)) else none

/-- The reset switch of amplifier m is closed: in its reset cycles, and all the time its driver does not run (R78, R80); in
OFF and VOLTAGE it stays open (R81). -/
def State.switchClosed (s : State) (t m : Nat) : Bool :=
  match s.chargeDriver t m with
  | some d => !d.running || ((s.tile t).amp m).closed
  | none => false

/-- RESET_SWITCH_CLOSE of amplifier m (R78); while its driver does not run the switch is closed already (R80). -/
def State.resetClose (s : State) (t m : Nat) : State :=
  match s.chargeDriver t m with
  | some d =>
    if d.running then
      let at_ := nextReset d.freq (s.rd (Reg.ampReset t m)) s.lt
      (s.goTo at_).modAmp t m fun x => { x with closed := true, closedAt := some at_ }
    else s
  | none => s

/-- RESET_SWITCH_OPEN of amplifier m, RESET_WIDTH samples after it closed (R78); while its driver does not run it stays closed
(R80). -/
def State.resetOpen (s : State) (t m : Nat) : State :=
  match ((s.tile t).amp m).closedAt, s.chargeDriver t m with
  | some tc, some d =>
    if d.running && ((s.tile t).amp m).closed then
      (s.goTo (tc + ns (100 * resetWidth (s.rd (Reg.ampReset t m))))).modAmp t m fun x => { x with closed := false }
    else s
  | _, _ => s

/-- A sample of amplifier m at `now` is excluded (R79, R80). -/
def State.ampExcluded (s : State) (t m : Nat) (now : Lt) : Bool :=
  match s.chargeDriver t m with
  | none => false
  | some d =>
    !d.running ||
      match ((s.tile t).amp m).closedAt with
      | none => false
      | some tc =>
        let v := s.rd (Reg.ampReset t m)
        decide (tc ≤ now) && decide (now < tc + ns (100 * (resetWidth v + resetGuard v)))

/-- A sample of channel i at `now` is excluded; a sense channel takes the exclusions of its CHARGE amplifiers (R119). -/
def State.chanExcluded (s : State) (t i : Nat) (now : Lt) : Bool :=
  if i < 12 then s.ampExcluded t i now
  else (List.range 12).any fun m =>
    (match s.pairUser t m with | some a => s.rd (Reg.excDriver a) == i - 12 | none => false) && s.ampExcluded t m now

/-! ### The sample-rate stages (R113 to R118) -/

/-- α × 2^32 of a DC_CORNER code (R114). -/
def dcAlpha : Nat → Int
  | 0 => 270 | 1 => 2699 | 2 => 26986 | _ => 269858

/-- The sine of an 18-bit phase in 2^-30, with an error below 2^-17 of full scale (R117). -/
def sineTable (phi : Nat) : Int :=
  Num.rshift (Num.sinTurn 18 phi) 30 + Num.clampI (-8190) 8190 (Config.sineErr (phi % 2 ^ 18))

/-- DC-blocking stage of one sample: the output and the new state (R114 to R116). The fast start takes every valid sample,
also where DC_FREEZE or SETTLING holds the stage after it (log entry 91). -/
def Chan.dcStep (c : Chan) (alpha x : Int) (excluded frozen : Bool) : Chan :=
  let xc := 256 * x
  let c := { c with adc := x, dcUsed := c.dc }
  if c.fastCount < 1024 then
    if excluded then { c with dcOut := 0 } else
      let n : Nat := c.fastCount + 1
      let sum := c.fastSum + xc
      let y := Num.satI 32 (Num.rdiv (xc * n - sum) (n : Int))
      if n = 1024 then { c with fastCount := n, fastSum := 0, dc := Num.rdiv (sum * 2 ^ 16) 1024, dcOut := y }
      else { c with fastCount := n, fastSum := sum, dcOut := y }
  else
    let y := Num.satI 32 (Num.rshift (xc * 2 ^ 16 - c.dc) 16)
    let dc := if excluded || frozen then c.dc
              else Num.satI 48 (c.dc + Num.rshift (alpha * (xc * 2 ^ 16 - c.dc)) 32)
    { c with dcOut := y, dc := dc }

/-- The moving average over the first `l` entries of the window (R118), pushed onto the FIR line (R120, R122). -/
def Chan.average (c : Chan) (l : Nat) : Chan :=
  let valid := (c.win.take l).filterMap id
  if valid.isEmpty then
    match c.fill with
    | none => c
    | some _ => { c with maOut := (c.maLast :: c.maOut).take 1011 }
  else
    let n : Int := valid.length
    let out := (Num.rdiv (Num.sumI (valid.map (·.1))) n, Num.rdiv (Num.sumI (valid.map (·.2))) n)
    match c.fill with
    | none => { c with maLast := out, maOut := [out], fill := some out }
    | some _ => { c with maLast := out, maOut := (out :: c.maOut).take 1011 }

/-- One sample through products and moving average. -/
def Chan.sampleStep (c : Chan) (entry : Option (Int × Int)) (l : Nat) : Chan :=
  { c with win := (entry :: c.win).take 1024, prod := entry.getD c.prod }.average l

/-- The FIR output of the channel at a demodulation instant (R120); 0 between a flush and its load (R122). -/
def Chan.fir (c : Chan) (r : Nat) : Int × Int :=
  match c.fill with
  | none => (0, 0)
  | some f =>
    let n := (response r).2.1
    let acc := (List.range n).foldl (init := ((0 : Int), (0 : Int))) fun acc i =>
      let v := c.maOut.getD i f
      (acc.1 + firTap r i * v.1, acc.2 + firTap r i * v.2)
    (Num.satI 32 (Num.rshift acc.1 30), Num.satI 32 (Num.rshift acc.2 30))

/-- The frequency word under which driver j's accumulator runs: that of its carrier, and EXC_FREQ while none runs (R63,
R117). -/
def State.accWord (s : State) (t j : Nat) : Nat :=
  if (s.driver t j).running then (s.driver t j).freq else s.rd (Reg.excFreq t j)

/-- One sample of channel i of TILE_t (R82, R113 to R119). The fast start of the DC stage takes the first 1,024 samples for which
an axis names the channel (R116; log entry 117). -/
def State.sampleChan (s : State) (t i : Nat) (x : Int) (now : Lt) : State :=
  let on := if i < 12 then s.ampMode t i != 0 else true
  if !on then s else
  let x := Num.satI 18 x
  let s := if i < 12 && (x == 131071 || x == -131072) then s.bump 32 (Reg.ampClipCount t i) else s
  let ex := s.chanExcluded t i now || bitAt (s.rd Reg.samplePll) 1
  let isSp := i < 12 && (s.pairUser t i).isNone && (s.setpointUser t i).isSome
  match s.chanAxis t i with
  | none => s.modChan t i fun c => { c with adc := x }
  | some a =>
    let l := s.rd (Reg.maLength a)
    if isSp then
      s.modChan t i fun c => { c with adc := x, dcOut := 256 * x }.sampleStep (if ex then none else some (256 * x, 0)) l
    else
      let j := if i < 12 then s.rd (Reg.excDriver a) else i - 12
      let d := s.driver t j
      let frozen := bitAt (s.rd (Reg.dcFreeze t)) 0 ||
        (if i < 12 then (s.axis a).obs.settling || !(s.tile t).gainDone else d.settling && d.phase != .waitStop)
      let phi := accumulator (s.accWord t j) now / 2 ^ 14
      s.modChan t i fun c =>
        let c := c.dcStep (dcAlpha (s.rd (Reg.dcCorner t))) x ex frozen
        let entry := if ex then none else
          some (Num.satI 32 (Num.rshift (2 * c.dcOut * sineTable phi) 30),
                Num.satI 32 (Num.rshift (2 * c.dcOut * sineTable (phi + 2 ^ 16)) 30))
        c.sampleStep entry l

/-! ### Common-mode windows (R92 to R94) -/

/-- The window of an active comparator in µV: amplifier pins and sense pins have their own (R92). -/
def State.cmWindow (s : State) (t p : Nat) : Option (Int × Int) :=
  match s.pinRole t p with
  | 1 | 2 => some (1000 * s.rdS 16 (Reg.inCmLow t), 1000 * s.rdS 16 (Reg.inCmHigh t))
  | 5 | 6 => some (1000 * s.rdS 16 (Reg.snsCmLow t), 1000 * s.rdS 16 (Reg.snsCmHigh t))
  | _ => none

/-- One comparison of pin AIN_t_p; `uv` is the pin voltage, none where it lies inside the window (R92). A voltage on an edge
of the window counts as inside, and a comparator that is not active leaves its flag as it stands (log entry 90). The duration
that 0x3102 names is cut to whole microseconds (log entry 47). -/
def State.samplePin (s : State) (t p : Nat) (uv : Option Int) : State :=
  match s.cmWindow t p with
  | none => s
  | some (lo, hi) =>
    let x := ((s.tile t).pins[p]?).getD {}
    let dwell := s.rd (Reg.cmDwell t)
    let above := match uv with | some v => decide (hi < v) | none => false
    let outside := match uv with | some v => decide (v < lo) || decide (hi < v) | none => false
    let x := if outside then { x with outRun := x.outRun + 1, inRun := 0 }
             else { x with inRun := x.inRun + 1, outRun := 0 }
    let setNow := !x.flagged && x.outRun ≥ dwell && outside
    let clrNow := x.flagged && x.inRun ≥ dwell && !outside
    let us := (s.lt - x.since) / 2 ^ 32 / 1000
    let x' := if setNow then { x with flagged := true, since := s.lt, hist := ((s.lt, true) :: x.hist).take 8 }
              else if clrNow then { x with flagged := false, hist := ((s.lt, false) :: x.hist).take 8 }
              else x
    let s := s.modTile t fun y => { y with pins := y.pins.setIfInBounds p x' }
    let s := if setNow || clrNow then s.wrField (Reg.cmStatus t) p 1 (bit setNow) else s
    let s := s.raiseIf (setNow && s.inRunOrHold) 0x3101 cPIN (48 * t + p) (dU 1 (bit above))
    s.raiseIf (clrNow && s.inRunOrHold) 0x3102 cPIN (48 * t + p) (dU 4 us)

/-- The flag of a pin as axis supervision sees it at `now`: a change reaches it 0.3 µs after its dwell (R92). -/
def Pin.seen (x : Pin) (now : Lt) : Bool :=
  match x.hist.find? fun e => decide (e.1 + ns 300 ≤ now) with
  | some e => e.2
  | none => match x.hist.getLast? with
    | some e => !e.2
    | none => x.flagged

/-! ### Thermistors (R86, R87) -/

/-- One sample of thermistor i of TILE_t, taken from the channel it names. -/
def State.sampleTherm (s : State) (t i : Nat) : State :=
  let ch := s.rd (Reg.thermChannel t i)
  let idx := if ch < 12 then some ch else if 16 ≤ ch ∧ ch < 22 then some (ch - 16 + 12) else none
  match idx with
  | none => s
  | some c =>
    let v := ((s.tile t).chan c).adc
    s.modTile t fun y =>
      let x := (y.therms[i]?).getD {}
      { y with therms := y.therms.setIfInBounds i { x with sum := x.sum + v, count := x.count + 1 } }

/-- THERM_TEMP of a ratio x = n / d, in 0.01 °C (R86). -/
def thermTemp (rs rnom beta n d : Nat) : Int :=
  let ln := Num.lnRatio (rs * n) ((d - n) * rnom)
  let inv : Int := 2 ^ 60 * 100 / 29815 + Num.rdiv ln beta
  let x := 100 * 2 ^ 60 - 27315 * inv
  if inv = 0 then toSigned 16 (Config.outOfRange 16 x) else Num.fitI 16 (Num.rdiv x inv)

/-- The end of an averaging window of thermistor i: THERM_TEMP and THERM_STATUS of R88 (R86, R87). -/
def State.thermStep (s : State) (t i : Nat) : State :=
  let x := ((s.tile t).therms[i]?).getD {}
  let ch := s.rd (Reg.thermChannel t i)
  let vb := s.rd (Reg.biasLevel t (s.rd (Reg.thermBias t i)))
  let s' := s.modTile t fun y => { y with therms := y.therms.setIfInBounds i { x with sum := 0, count := 0 } }
  if x.count = 0 ∨ ch = 0xFF then s' else
    -- x = V_n / V_b = num / den, both channels less their offset; a bias of 0 V leaves the ratio open (log entry 2)
    let (num, den, s') : Int × Int × State :=
      if vb = 0 then
        let (v, s'') := s'.fresh
        (toSigned 64 v, 2 ^ 32, s'')
      else if ch < 12 then
        ((256 * x.sum - x.count * s.sigOffset t ch) * 15625 * 2 * 2 ^ 30,
          256 * x.count * (2 ^ (bitsAt (s.rd (Reg.ampMode t ch)) 8 3) : Nat) * (s.sigGain t ch : Int) * vb * 1000000, s')
      else
        ((256 * x.sum - x.count * s.snsOffset t (ch - 16)) * 15625 * 10000 * 2 ^ 30,
          256 * x.count * 4096 * (s.snsGain t (ch - 16) : Int) * vb * 1000000, s')
    let open_ := decide (100 * num > 98 * den)
    let short := decide (100 * num < 2 * den)
    let old := s.rd (Reg.thermStatus t i)
    let s1 :=
      if open_ then s'.wr (Reg.thermStatus t i) 2
      else if short then s'.wr (Reg.thermStatus t i) 4
      else
        let s2 := s'.wr (Reg.thermStatus t i) 1
        let s2 := s2.wrS 16 (Reg.thermTemp t i)
          (thermTemp (s.rd (Reg.thermRseries t i)) (s.rd (Reg.thermRnom t i)) (s.rd (Reg.thermBeta t i))
            num.toNat den.toNat)
        s2.modTile t fun y =>
          let z := (y.therms[i]?).getD {}
          { y with therms := y.therms.setIfInBounds i { z with everValid := true } }
    let s1 := s1.raiseIf (open_ && !bitAt old 1 && s.inRunOrHold) 0x3109 cTHERM (2 * t + i) []
    s1.raiseIf (short && !bitAt old 2 && s.inRunOrHold) 0x310A cTHERM (2 * t + i) []

/-- THERM_WINDOW: the end of a 1.024 ms window on every tile, with the die temperatures sampled there (R86 to R88). -/
def State.thermWindow (s : State) (die : List Int) : State :=
  let at_ := nextGrid (ns 1024000) s.lt ((s.tile 0).lastTherm)
  let s := s.goTo at_
  each 8 s fun s t =>
    let s := s.modTile t fun y => { y with lastTherm := some at_ }
    if !(s.tile t).running then s else
    let s := match die[t]? with
      | some d => s.wrS 16 (Reg.tempDie t) (Num.satI 16 d)
      | none => s
    (s.thermStep t 0).thermStep t 1

/-! ### One sample instant (R15, R82) -/

/-- Every channel and pin of TILE_t takes one sample. -/
def State.sampleTile (s : State) (t : Nat) (adc pins : List (Nat × Int)) : State :=
  if !(s.tile t).running then s else
  let s := each 18 s fun s i =>
    s.sampleChan t i (((adc.find? fun e => e.1 == 18 * t + i).map (·.2)).getD 0) s.lt
  let s := (s.sampleTherm t 0).sampleTherm t 1
  each 48 s fun s p => s.samplePin t p ((pins.find? fun e => e.1 == 48 * t + p).map (·.2))

/-- All ADCs convert at the next multiple of 100 ns (R15). -/
def State.sampleTiles (s : State) (last : Option Lt) (adc pins : List (Nat × Int)) : State :=
  each 8 (s.goTo (nextGrid (ns 100) s.lt last)) fun s t => s.sampleTile t adc pins

/-- DRIVER_ILIMIT and ILIMIT_CLEAR: the output current of a driver meets or leaves its limit (R65, R103). -/
def State.driverIlimit (s : State) (t j : Nat) (on : Bool) : State :=
  let old := bitAt (s.rd (Reg.excStatus t j)) 2
  let s := s.wrField (Reg.excStatus t j) 2 1 (bit on)
  s.raiseIf (on && !old && s.inRunOrHold) 0x3106 cDRIVER (6 * t + j) []

end Sys2Proof.Machine
end

