-- ==== Sys2Proof/Machine/Demod.lean ====
section
/-! DEFINITION. Demodulation outputs: referencing to the sensed excitation, signal correction and the supervision of
excitation and amplitude (chapter 05 from its FIR outputs on, chapter 04). -/

namespace Sys2Proof.Machine

/-! ### Referencing (R124, R125) -/

/-- A FIR output of signal channel m, divided by its gain, in 2^-20 chain units (R124). -/
def State.signalPhasor (s : State) (t m : Nat) : Int × Int :=
  let v := ((s.tile t).chan m).firOut
  let g : Int := s.sigGain t m
  let scale (x : Int) : Int :=
    if s.ampMode t m = 2 then Num.rdiv (x * 2 ^ 50) g
    else Num.rdiv (x * 2 ^ 51) (g * (2 ^ bitsAt (s.rd (Reg.ampMode t m)) 8 3 : Nat))
  (scale v.1, scale v.2)

/-- The FIR output of sense channel j, divided by G_sns, in 2^-20 chain units (R124). -/
def State.sensePhasor (s : State) (t j : Nat) : Int × Int :=
  let v := ((s.tile t).chan (12 + j)).firOut
  let g : Int := s.snsGain t j
  (Num.rdiv (v.1 * 2 ^ 50 * 10000) (4096 * g), Num.rdiv (v.2 * 2 ^ 50 * 10000) (4096 * g))

/-- Magnitude of a phasor. -/
def magnitude (e : Int × Int) : Int := (Num.isqrt (e.1 * e.1 + e.2 * e.2).toNat : Nat)

/-- e_min of R125 for an amplitude code, 2^-20 chain units. -/
def eMin (ampl : Nat) : Int := (ampl : Int) * 4000 * 2 ^ 20

/-- z of R125 before its rotation, in 2^-26: the signal phasor over the sensed phasor, with the guard. -/
def reference (sig e : Int × Int) (emin : Int) (open0 : Int) : Int × Int :=
  let m := magnitude e
  let d := max m emin
  if m = 0 then (open0, 0) else
    (Num.rdiv ((sig.1 * e.1 + sig.2 * e.2) * 2 ^ 26) (m * d), Num.rdiv ((sig.2 * e.1 - sig.1 * e.2) * 2 ^ 26) (m * d))

/-- word and residue of R125 under the phase ψ in 2^-16 turn. -/
def rotateWord (sig e : Int × Int) (emin open0 : Int) (psi : Nat) : Int × Int :=
  let m := magnitude e
  let d := max m emin
  if m = 0 then (open0, open0) else
    let re := sig.1 * e.1 + sig.2 * e.2
    let im := sig.2 * e.1 - sig.1 * e.2
    let c := Num.cosTurn 16 psi
    let sn := Num.sinTurn 16 psi
    (Num.satI 32 (Num.rdiv ((re * c + im * sn) * 2 ^ 26) (m * d * 2 ^ 60)),
     Num.satI 32 (Num.rdiv ((im * c - re * sn) * 2 ^ 26) (m * d * 2 ^ 60)))

/-- ψ of a pair: DEMOD_PHASE_CAL + DEMOD_PHASE_TRIM modulo 2^16 (R126). -/
def State.psi (s : State) (a : Nat) (fine : Bool) : Nat :=
  if fine then (s.rd (Reg.demodPhaseCalFine a) + s.rd (Reg.demodPhaseTrimFine a)) % 2 ^ 16
  else (s.rd (Reg.demodPhaseCal a) + s.rd (Reg.demodPhaseTrim a)) % 2 ^ 16

/-- The corrected words s1 and c1 of a pair; `w` is 0 for the record at 0x3004 and 1 for 0x3005 (R128). -/
def State.correct (s : State) (a w : Nat) (ws wc : Int) : Int × Int :=
  let s1 := Num.fitI 32 (ws - s.rdS 32 (Reg.corrOffsetS a w))
  let x := wc - s.rdS 32 (Reg.corrOffsetC a w)
  let p1 := Num.satI 32 (Num.rshift (s.rdS 32 (Reg.corrKcc a w) * x) 30)
  let p2 := Num.satI 32 (Num.rshift (s.rdS 32 (Reg.corrKcs a w) * s1) 30)
  (s1, Num.fitI 32 (p1 + p2))

/-- PHASE_STALE of the axes of driver j (R127). -/
def State.phaseStale (s : State) (t j : Nat) : Bool :=
  s.rd (Reg.calFreq t j) == 0 || s.rd (Reg.calFreq t j) != s.rd (Reg.excFreq t j)

/-! ### Excitation supervision (R102, R103) -/

/-- PHASE_STALE of driver j, and event 0x3201 as it sets (R127). -/
def State.staleCheck (s : State) (t j : Nat) : State :=
  let stale := s.phaseStale t j
  let s := s.raiseIf (stale && !(s.driver t j).stale) 0x3201 cDRIVER (6 * t + j)
    (dU 4 (s.rd (Reg.excFreq t j)) ++ dU 4 (s.rd (Reg.calFreq t j)))
  s.modDriver t j fun d => { d with stale := stale }

/-- The excitation checks of driver j are made on an output at `td`: its carrier runs, and not every axis it excites is
SETTLING (R102, R103, R109; an axis that settles takes nothing from them, and before the carrier starts and in its gap there is
no excitation to check, log entry 93). -/
def State.excChecked (s : State) (t j : Nat) (td : Lt) : Bool :=
  s.drvEnabled t j && s.supervised && !s.tileParked t && (s.driver t j).running &&
    ((s.driverAxes t j).isEmpty || (s.driverAxes t j).any fun a => !s.settlingAt t a td)

/-- One output of driver j at `td`: its phasor and its checks (R102, R124). -/
def State.driverOutput (s : State) (t j : Nat) (td : Lt) : State :=
  let e := s.sensePhasor t j
  let ampl := s.rd (Reg.excAmpl t j)
  let m := magnitude e
  let s := s.modDriver t j fun d => { d with phasor := e, guardOn := decide (m < eMin ampl) }
  let checked := s.excChecked t j td
  let prog : Int := (ampl : Int) * 64000 * 2 ^ 20
  let low := checked && decide (m * 1000 < prog * s.rd (Reg.excAmpLow t))
  let high := checked && decide (m * 1000 > prog * s.rd (Reg.excAmpHigh t))
  let dev := Num.wrapTurn 48 ((Num.atan2Turn48 e.2 e.1 : Int) - s.rd (Reg.excPhaseCal t j) * 2 ^ 32)
  let phase := checked && s.rd (Reg.calValid t) == 1 && !low && decide (dev.natAbs > s.rd (Reg.excPhaseLimit t) * 2 ^ 32)
  let old := s.rd (Reg.excSupStatus t)
  let s := s.wr (Reg.excSupStatus t)
    (putBits (putBits (putBits old j 1 (bit low)) (6 + j) 1 (bit high)) (12 + j) 1 (bit phase))
  let sensed := (Num.rdiv m (2 ^ 32)).toNat
  let s := s.raiseFormed ((low && !bitAt old j || high && !bitAt old (6 + j)) && s.inRunOrHold) 0x3104 cDRIVER (6 * t + j)
    (dU 2 sensed)
  s.raiseFormed (phase && !bitAt old (12 + j) && s.inRunOrHold) 0x3105 cDRIVER (6 * t + j) (dI 4 (Num.rshift dev 32))

/-- SENSED_AMPL of a driver from its latest output, taken at a LOOP boundary (R127). -/
def State.sensedAmpl (s : State) (t j : Nat) : Nat :=
  if !(s.tile t).running then 0 else min (Num.rdiv (magnitude (s.driver t j).phasor) (2 ^ 32)).toNat 0xFFFF

/-! ### Flags of the pins (R94) -/

/-- A flagged pin of the tile sets CM_FAULT of AXIS_a at `now`. -/
def State.cmFault (s : State) (t a : Nat) (now : Lt) : Bool :=
  (List.range 48).any fun p =>
    (match s.pinRole t p with
     | 1 | 2 => s.readsPair a (s.pinUnit t p / 2)
     | 5 | 6 => s.kind a != 0 && s.rd (Reg.excDriver a) == s.pinUnit t p && s.drvEnabled t (s.pinUnit t p) &&
                !s.senseInternal t (s.pinUnit t p)
     | _ => false) && (((s.tile t).pins[p]?).getD {}).seen now

/-- A flagged pin sets SP_FAULT of AXIS_a at `now`. -/
def State.spFault (s : State) (t a : Nat) (now : Lt) : Bool :=
  (List.range 48).any fun p =>
    (s.pinRole t p == 1 || s.pinRole t p == 2) && s.kind a != 0 && s.rd (Reg.setpointAmp a) == s.pinUnit t p &&
      (((s.tile t).pins[p]?).getD {}).seen now

/-! ### Amplitude (R99, R101) -/

/-- A of a pair: AMP_NOMINAL, or what CALIBRATE learned (R99). -/
def State.ampRef (s : State) (a : Nat) (fine : Bool) : Nat :=
  if s.rd (Reg.ampNominal a) ≠ 0 then s.rd (Reg.ampNominal a)
  else if fine then s.rd (Reg.ampLearnedFine a) else s.rd (Reg.ampLearned a)

/-- m² of a pair in 2^-14, and whether it lies below AMP_LOW or above AMP_HIGH; no check where A is 0 (R99, R101). -/
def State.ampCheck (s : State) (a : Nat) (fine : Bool) (s1 c1 : Int) : Option (Nat × Bool × Bool) :=
  let r : Int := s.ampRef a fine
  if r = 0 then none else
    let q := (s1 * s1 + c1 * c1) * 2 ^ 14
    some ((Num.clampI 0 65535 (Num.rdiv q (r * r))).toNat,
      decide (q < r * r * s.rd (Reg.ampLow a)), decide (q > r * r * s.rd (Reg.ampHigh a)))

/-- The two channels of a pair through R125 and R128: word_s, word_c, residues, s1, c1. -/
def State.pairWords (s : State) (t a n : Nat) (fine : Bool) : List Int × Int × Int :=
  let j := s.rd (Reg.excDriver a)
  let e := (s.driver t j).phasor
  let em := eMin (s.rd (Reg.excAmpl t j))
  let o := Config.zeroReference a
  let ws := rotateWord (s.signalPhasor t (2 * n)) e em o (s.psi a fine)
  let wc := rotateWord (s.signalPhasor t (2 * n + 1)) e em o (s.psi a fine)
  let c := s.correct a (bit fine) ws.1 wc.1
  ([ws.1, wc.1, ws.2, wc.2], c)

/-- z_s² + z_c² of a pair at ψ = 0, in 2^-52 (R126). -/
def State.phaseTerm (s : State) (t a n : Nat) : Int × Int :=
  let j := s.rd (Reg.excDriver a)
  let e := (s.driver t j).phasor
  let em := eMin (s.rd (Reg.excAmpl t j))
  let o := Config.zeroReference a
  let zs := reference (s.signalPhasor t (2 * n)) e em o
  let zc := reference (s.signalPhasor t (2 * n + 1)) e em o
  (zs.1 * zs.1 - zs.2 * zs.2 + zc.1 * zc.1 - zc.2 * zc.2, 2 * (zs.1 * zs.2 + zc.1 * zc.2))

/-- x of the analogue set-point word `w` of AXIS_a, 2^-32 turn (R200). -/
def State.analogueTarget (s : State) (a : Nat) (w : Int) : Int :=
  Num.satI 32 (s.rdS 32 (Reg.spAnaOffset a) + Num.rshift (s.rdS 32 (Reg.spAnaGain a) * w) 26)

/-- The analogue set-point word of AXIS_a, 2^-26 V (R129). -/
def State.setpointWord (s : State) (t a : Nat) : Int :=
  let m := s.rd (Reg.setpointAmp a)
  if m ≥ 12 then 0 else
    let x := ((s.tile t).chan m).firOut.1 - s.sigOffset t m
    Num.fitI 32 (Num.rdiv (x * 4096 * 2 ^ 31)
      (1000 * (2 ^ bitsAt (s.rd (Reg.ampMode t m)) 8 3 : Nat) * (s.sigGain t m : Int)))

/-- One output of calibration part 3 on TILE_t: the sums of R101 and R126 take one more term. -/
def State.calAccumulate (s : State) (t : Nat) : State :=
  let x := s.tile t
  if x.cal = .phases ∧ x.calCount < 4096 then
    let s := s.modTile t fun y => { y with calCount := y.calCount + 1 }
    let s := each 6 s fun s j => s.modDriver t j fun d =>
      let arg := Num.atan2Turn48 d.phasor.2 d.phasor.1
      if x.calCount = 0 then { d with argRef := arg, argSum := 0 }
      else { d with argSum := d.argSum + Num.wrapTurn 48 (arg - d.argRef) }
    (axesOf t).foldl (init := s) fun s a =>
      if s.axisLive a then
        let p := s.phaseTerm t a (s.rd (Reg.pairPrimary a))
        let f := if s.kind a = 2 then s.phaseTerm t a (s.rd (Reg.pairFine a)) else (0, 0)
        s.modObs a fun o =>
          let sq (i : Nat) : Int := (o.corr.getD i 0) * (o.corr.getD i 0)
          { o with
            calSeen := o.calSeen + 1
            sumSq := o.sumSq + sq 0 + sq 1, sumSqFine := o.sumSqFine + sq 2 + sq 3
            phRe := o.phRe + p.1, phIm := o.phIm + p.2, phReF := o.phReF + f.1, phImF := o.phImF + f.2 }
      else s
  else s

end Sys2Proof.Machine
end

