-- ==== Sys2Proof/Machine/Observer.lean ====
section
/-! DEFINITION. The observer, acquisition, dual-speed combining, linearisation, output words, and the flags VALID, COAST,
SETTLING and LOST of every demodulation output (chapters 04 and 06). -/

namespace Sys2Proof.Machine

/-! ### Gains (R138, R139) -/

/-- OBS_BW_IN_USE: the lesser of OBS_BANDWIDTH and the pass edge of RESPONSE (R139). -/
def State.obsBw (s : State) (a : Nat) : Nat := min (s.rd (Reg.obsBandwidth a)) (response (s.rd (Reg.response a))).2.2

/-- k1, k2 and k3 in 2^-64 for a bandwidth in Hz and a demodulation period in ns (R138). -/
def obsGains (fb tns : Nat) : Nat × Nat × Nat :=
  -- w0 * T in 2^-80: 2 pi fb / 3.90 * T
  let x : Int := Num.twoPi60 * 2 ^ 20 * fb * tns * 100 / (390 * 1000000000)
  let p := Num.expNeg80 x
  let q := 2 ^ 80 - p
  let toU (v : Int) (sh : Nat) : Nat := (Num.clampI 0 (2 ^ 64 - 1) (Num.rshift v sh)).toNat
  (toU (2 ^ 240 - p * p * p) 176, toU (3 * q * q * (2 ^ 80 + p)) 177, toU (q * q * q) 176)

/-- N_acq of R146. -/
def State.nAcq (s : State) (t a : Nat) : Nat :=
  if s.rd (Reg.acqMinOutputs a) ≠ 0 then s.rd (Reg.acqMinOutputs a) else
    -- ceil(31.2 / (2 pi * f * T)) with T in ns
    let den : Nat := Num.twoPi60.toNat * s.obsBw a * s.demodNs t
    Num.cdiv (312 * 2 ^ 60 * 100000000) den

/-! ### Measured angle (R134) -/

/-- φ of a corrected pair as a 32-bit turn fraction; its error is at most 2^-28 turn (R134). -/
def phi32 (s1 c1 : Int) : Nat :=
  if s1 = 0 ∧ c1 = 0 then 0 else
    ofSigned 32 (Num.rshift (Num.atan2Turn48 s1 c1) 16 + Num.clampI (-15) 15 (Config.atanErr s1 c1))

/-- θ held to a 16-bit signed turn count and a 48-bit fraction (R136). -/
def wrapTheta (x : Int) : Int := Num.wrapTurn 64 x

/-! ### Prediction and correction (R137) -/

/-- θ_p, ω_p of R137 with acceleration `u` over a period of `tns` ns. -/
def Obs.predict (o : Obs) (u : Int) (tns : Nat) : Int × Int :=
  (wrapTheta (o.theta + Num.rdiv (o.omega * 2 ^ 16 * tns) (10 ^ 9) + Num.rdiv (u * 2 ^ 28 * tns * tns) (2 * 10 ^ 18)),
   Num.satI 64 (o.omega + Num.rdiv (u * 2 ^ 12 * tns) (10 ^ 9)))

/-- e_el of a measurement against a prediction, 2^-48 turn (R137). -/
def eElec (phi : Nat) (p : Nat) (thetaP : Int) : Int := Num.wrapTurn 48 ((phi : Int) * 2 ^ 16 - p * thetaP)

/-- The corrected states of R137. -/
def Obs.correctWith (o : Obs) (thetaP omegaP u e : Int) (p tns : Nat) (k : Nat × Nat × Nat) (fed : Bool) : Obs :=
  let a3 := Num.rdiv ((k.2.2 : Int) * e * 10 ^ 18) (p * 2 ^ 92 * tns * tns)
  { o with
    theta := wrapTheta (thetaP + Num.rdiv ((k.1 : Int) * e) (p * 2 ^ 64))
    omega := Num.satI 64 (omegaP + Num.rdiv ((k.2.1 : Int) * e * 10 ^ 9) (p * 2 ^ 80 * tns))
    acc := Num.satI 64 (u + a3)
    dev := if fed then Num.satI 64 (o.dev + a3) else o.dev }

/-- The multiplier p of an axis (R135). -/
def State.multiplier (s : State) (a : Nat) : Nat :=
  if s.kind a = 2 then s.rd (Reg.dsRatio a) else s.rd (Reg.elecRatio a)

/-- The candidate of R145 nearest a reference: angles whose electrical angle is φ, 1/p turn apart; a tie takes the
lower. -/
def nearestCandidate (phi p : Nat) (ref : Int) : Int :=
  -- candidates are (phi + m * 2^32) * 2^16 / p for integers m
  let m := ((ref * p) / 2 ^ 16 - phi) / 2 ^ 32
  let cand (m : Int) : Int := Num.rdiv ((phi + m * 2 ^ 32) * 2 ^ 16) p
  let lo := cand m
  let hi := cand (m + 1)
  if (ref - lo).natAbs ≤ (hi - ref).natAbs then lo else hi

/-- θ at the start of acquisition (R145, R149). -/
def State.acqStart (s : State) (a cause : Nat) (phi phiC : Nat) (theta : Int) : Int :=
  let ref : Int := if cause = 1 ∨ cause = 6 then (s.rd (Reg.acqRef a) : Int) * 2 ^ 16 else theta
  if s.kind a = 2 then
    let n := s.rd (Reg.dsRatio a)
    let c := Num.rdiv ((n : Int) * phiC - phi) (2 ^ 32) % n
    let frac := Num.rdiv ((c * 2 ^ 32 + phi) * 2 ^ 16) n
    -- a tie between two turn counts takes the lower
    if cause = 1 ∨ cause = 6 then frac
    else wrapTheta (frac - (frac - theta + 2 ^ 47) / 2 ^ 48 * 2 ^ 48)
  else wrapTheta (nearestCandidate phi (s.multiplier a) ref)

/-- Acquisition begins with its cause (R143, R145). -/
def Obs.beginAcq (o : Obs) (theta : Int) (cause : Nat) : Obs :=
  { o with
    theta := theta, dev := 0
    omega := if cause = 2 ∨ cause = 7 then o.omega else 0
    acc := if cause = 2 ∨ cause = 7 then o.acc else 0
    acq := .running cause, used := 1, errRun := 1, dsRun := 0 }

/-! ### Linearisation (R152 to R154) -/

/-- Temperature in use, and whether it is stale, sampled at a LOOP boundary (R154). -/
def State.linTemp (s : State) (t a : Nat) : Int × Bool :=
  let th (i : Nat) : Int × Bool :=
    if ((((s.tile t).therms[i]?).getD {}).everValid) then
      (s.rdS 16 (Reg.thermTemp t i), !bitAt (s.rd (Reg.thermStatus t i)) 0)
    else (s.rdS 16 (Reg.linTempCentre a), true)
  match s.rd (Reg.linTempSrc a) with
  | 0 => (s.rdS 16 (Reg.tempDie t), false)
  | 1 => th 0
  | 2 => th 1
  | _ => (s.rdS 16 (Reg.linTempFixed a), false)

/-- θ_lin (2^-48 turn), LIN_CORRECTION, U_CLAMP, V_CLAMP and LIN_CLAMP (R152, R153). LIN_CORRECTION is held to its word (log entry
116). -/
def State.linearise (s : State) (a : Nat) (theta : Int) : Int × Int × Bool × Bool × Bool :=
  if s.rd (Reg.linEnable a) = 0 then (theta, 0, false, false, false) else
    -- u = un / ud and v = vn / vd exactly; the sum is `num / den` exactly
    let ud : Int := (s.rd (Reg.linHalfspan a) : Int) * 2 ^ 16
    let u0 := Num.wrapTurn 48 (theta - (s.rd (Reg.linCentre a) : Int) * 2 ^ 16)
    let un := Num.clampI (-ud) ud u0
    let vd : Int := s.rd (Reg.linTempHalfspan a)
    let v0 := s.rdS 16 (Reg.linTempUsed a) - s.rdS 16 (Reg.linTempCentre a)
    let vn := Num.clampI (-vd) vd v0
    let c (i j : Nat) : Int := s.rdS 32 (Reg.linCoeff a (4 * i + j))
    let row (i : Nat) : Int := c i 0 * (vd * vd * vd) + vn * (c i 1 * (vd * vd) + vn * (c i 2 * vd + vn * c i 3))
    let sum := (List.range 8).foldl (init := ((0 : Int), (1 : Int))) fun x i => (x.1 * un + row (7 - i) * x.2, x.2 * ud)
    let den := (max 1 (x7 ud)) * (vd * vd * vd)
    let lim : Int := 2 ^ 31 * den
    let num := Num.clampI (-lim) lim sum.1
    let r := Num.rdiv num (32 * den)
    let e := Num.clampI (-1) 1 (Config.linErr theta (Num.rdiv num den))
    let r := if (32 * (r + e) * den - num).natAbs ≤ (32 * den).natAbs then r + e else r
    (theta + r * 2 ^ 16, Num.satI 32 (Num.rdiv num den), decide (un ≠ u0), decide (vn ≠ v0), decide (num ≠ sum.1))
where
  /-- The denominator of u^7. -/
  x7 (x : Int) : Int := x * x * x * x * x * x * x

/-! ### One output of an axis -/

/-- σ of R156. -/
def State.sigma (s : State) (a : Nat) : Int := if bitAt (s.rd (Reg.angleDir a)) 0 then -1 else 1

/-- The law of AXIS_a runs with a law other than OPEN in SERVO, BUILD or HOLD (R141, R142). -/
def State.feedLaw (s : State) (a : Nat) : Bool :=
  decide (4 ≤ s.modeCode) && decide (s.modeCode ≤ 6) && (s.axis a).law.run != .stopped &&
    ((s.axis a).law.active.headD 0) != 0

/-- The fed acceleration of an output at `td`, sensor frame, 2^-20 turn/s² (R140, R141). There is none between the event that calls
for a new acquisition and its completion (log entry 115). -/
def State.feedFor (s : State) (a : Nat) (td : Lt) : Option Int :=
  let o := (s.axis a).obs
  if s.rd (Reg.obsAccFeed a) = 1 ∧ s.feedLaw a ∧ o.acq = .done then
    (o.feed.find? fun e => decide (e.1 < td) && decide (td ≤ e.2.1)).map fun e => s.sigma a * e.2.2
  else none

/-- Flags of an output that its measurement is judged by. -/
structure Judge where
  cm : Bool
  exc : Bool
  ampLow : Bool
  ampHigh : Bool
  settling : Bool
  deriving DecidableEq, Repr

/-- A fault condition of R106. -/
def Judge.fault (j : Judge) : Bool := j.cm || j.exc || j.ampLow || j.ampHigh

/-- Result of the observer on one output. -/
structure Tracked where
  obs : Obs
  used : Bool := false                   -- the measurement was used
  eEl : Int := 0
  delta : Int := 0                       -- δ of R150, 2^-48 fine turn
  slip : Bool := false
  dsNow : Bool := false                  -- DS_FAULT sets on this output
  fed : Bool := false
  completed : Bool := false              -- acquisition completed on this output
  cause : Nat := 0
  deriving DecidableEq, Repr

/-- The observer on one output: prediction, acquisition, correction, slip and dual-speed checks (R137, R144 to R150). A slip goes
before DS_FAULT as the cause, and the acquisition begins with the next usable output (log entry 115). -/
def State.track (s : State) (t a : Nat) (o : Obs) (j : Judge) (td : Lt) (phi phiC : Nat) : Tracked :=
  let tns := s.demodNs t
  let p := s.multiplier a
  let feed := s.feedFor a td
  let u := match feed with | some x => x + o.dev | none => o.acc
  let usable := !j.fault && !j.settling
  let (tp, wp) := o.predict u tns
  let coast : Obs := { o with theta := tp, omega := wp, acc := u }
  let deltaOf (theta : Int) : Int :=
    if s.kind a = 2 then
      let n := s.rd (Reg.dsRatio a)
      Num.wrapTurn 48 ((n : Int) * Num.wrapTurn 48 ((phiC : Int) * 2 ^ 16 - theta))
    else 0
  let within (d : Int) : Bool := s.kind a != 2 || decide (d.natAbs ≤ s.rd (Reg.dsLimit a) * 2 ^ 32)
  -- acquisition begins, or starts again, on this output
  let begin_ (cause : Nat) : Tracked :=
    let o1 := o.beginAcq (s.acqStart a cause phi phiC o.theta) cause
    let d := deltaOf o1.theta
    { obs := { o1 with total := o.total + 1, errRun := if within d then 1 else 0 }, used := true, delta := d, cause := cause }
  match o.acq with
  | .idle => { obs := o }
  | .waiting cause =>
    if usable then begin_ cause
    else if o.lost then { obs := o }
    else { obs := coast, fed := feed.isSome }
  | .restart cause => if usable then begin_ cause else { obs := { coast with total := o.total + 1 }, cause := cause }
  | .running cause =>
    if usable then
      let e := eElec phi p tp
      let o1 := o.correctWith tp wp u e p tns (obsGains (s.obsBw a) tns) feed.isSome
      let d := deltaOf o1.theta
      let okNow := decide (e.natAbs ≤ s.rd (Reg.acqErrLimit a) * 2 ^ 32) && within d
      let err := if okNow then min 16 (o.errRun + 1) else 0
      let o1 := { o1 with used := o.used + 1, total := o.total + 1, errRun := err }
      if o1.used ≥ s.nAcq t a ∧ err ≥ 16 then
        { obs := { o1 with acq := .done, lost := false, dsFault := false, dsRun := 0 }, used := true, eEl := e,
          delta := d, completed := true, cause := cause }
      else { obs := o1, used := true, eEl := e, delta := d, cause := cause }
    else
      -- after a faulted output acquisition starts again with the cause it had (R146)
      { obs := { coast with acq := if j.fault then .restart cause else .running cause, total := o.total + 1 }, cause := cause }
  | .done =>
    if o.lost then { obs := o }
    else if usable then
      let e := eElec phi p tp
      let o1 := o.correctWith tp wp u e p tns (obsGains (s.obsBw a) tns) feed.isSome
      let d := deltaOf o1.theta
      let slip := decide (e.natAbs > s.rd (Reg.obsSlipLimit a) * 2 ^ 32)
      let run := if within d then 0 else o.dsRun + 1
      let dsNow := s.kind a == 2 && decide (run ≥ s.rd (Reg.dsDwell a)) && !within d
      let acq : Acq := if slip then .waiting 4 else if dsNow then .waiting 5 else .done
      { obs := { o1 with dsRun := run, acq := acq, dsFault := o1.dsFault || dsNow,
                         total := if slip || dsNow then 0 else o1.total, lateLogged := false },
        used := true, eEl := e, delta := d, slip := slip, dsNow := dsNow, fed := feed.isSome }
    else { obs := coast, fed := feed.isSome }

/-- The observer of AXIS_a as an output finds it: d is 0 while ENABLE of OBS_ACC_FEED is 0 (R143). -/
def State.feedDev (s : State) (a : Nat) : Obs :=
  let o := (s.axis a).obs
  if bitAt (s.rd (Reg.obsAccFeed a)) 0 then o else { o with dev := 0 }

/-- Whether AXIS_a is supervised on this output: its mode, its service state and its kind (R91). -/
def State.axisObserved (s : State) (t a : Nat) : Bool :=
  s.supervised && s.axisLive a && !s.engineParked t && !s.tileParked t

/-- An output of an axis that is not supervised: it carries no fault condition and is not counted in INVALID_COUNT, kind NONE reads
0, another axis keeps its words but for STATUS, which reads 0, and TAG, which goes on; its set-point word is delivered and its
settling interval goes on all the same (R91, R106, R108, R111, R129, R158; log entry 12). -/
def State.idleOutput (s : State) (t a : Nat) (td : Lt) : State :=
  let s := (s.wr (Reg.supStatus a) 0).wr (Reg.coastCount a) 0
  let s := s.modAxis a fun x => { x with weir := { x.weir with hold := none } }
  let runs := s.settleRuns a td
  let sp := s.setpointWord t a
  let o := s.feedDev a
  let s := s.wrS 32 (Reg.obsDevAcc a) (Num.satI 32 (Num.rshift o.dev 16))
  s.modObs a fun _ =>
    { o with
      words := if s.kind a = 0 then { tag := td } else { o.words with status := 0, tag := td }
      prev := o.words, ready := td + ns 280
      settling := runs, settleEnd := if runs then o.settleEnd else none, setpoint := sp
      ampLowOn := false, ampHighOn := false, limitOn := false }

/-- The observer before the first output at which the carrier runs: it does not run (R144; log entry 12). -/
def Obs.still (o : Obs) : Obs := { o with acq := match o.acq with | .waiting c => .waiting c | _ => .idle }

/-- One demodulation output of AXIS_a at `td` (R99 to R109, R134 to R158). AMP_SQ shows the primary pair, and keeps its value
on an output without the amplitude check (log entry 94). LOST by itself is no fault condition (log entry 37), an axis is checked
from its carrier's start on (log entry 12), and 0x3302 counts the outputs since the latest start of the acquisition (log entry
115). -/
def State.axisOutput (s : State) (t a : Nat) (td : Lt) : State :=
  if !s.axisObserved t a then s.idleOutput t a td else
  let o0 := s.feedDev a
  let k := s.kind a
  let n1 := s.rd (Reg.pairPrimary a)
  let n2 := s.rd (Reg.pairFine a)
  let drv := s.rd (Reg.excDriver a)
  let (iq1, c1) := s.pairWords t a n1 false
  let (iq2, c2) := if k = 2 then s.pairWords t a n2 true else ([], (0, 0))
  -- SETTLING clears on the first output at or after its end, and not before calibration part 2 has ended (R108, R441)
  let settling := s.settlingAt t a td
  let runs := s.settleRuns a td
  -- before the carrier starts no amplitude is checked (log entry 12)
  let on := s.carrierOn t a
  let am1 := if settling || !on then none else s.ampCheck a false c1.1 c1.2
  let am2 := if settling || !on || k != 2 then none else s.ampCheck a true c2.1 c2.2
  let low1 := match am1 with | some x => x.2.1 | none => false
  let high1 := match am1 with | some x => x.2.2 | none => false
  let low2 := match am2 with | some x => x.2.1 | none => false
  let high2 := match am2 with | some x => x.2.2 | none => false
  let es := s.rd (Reg.excSupStatus t)
  let exc := !settling && (bitAt es drv || bitAt es (6 + drv) || bitAt es (12 + drv))
  let j : Judge := { cm := s.cmFault t a (td + ns 273), exc := exc, ampLow := low1 || low2, ampHigh := high1 || high2,
                     settling := settling }
  let sp := s.spFault t a (td + ns 273)
  -- COAST_COUNT and LOST (R104, R106)
  let cnt0 := s.rd (Reg.coastCount a)
  let limit := s.rd (Reg.coastLimit a)
  let newLost := !o0.lost && j.fault && decide (cnt0 + 1 > limit)
  let o1 : Obs := { o0 with settling := runs, lost := o0.lost || newLost,
                            settleEnd := if runs then o0.settleEnd else none,
                            acq := if newLost then .waiting 3 else o0.acq,
                            total := if newLost then 0 else o0.total,
                            lateLogged := if newLost then false else o0.lateLogged }
  let phi1 := phi32 c1.1 c1.2
  let phi2 := phi32 c2.1 c2.2
  let tr := if on then s.track t a o1 j td (if k = 2 then phi2 else phi1) phi1 else { obs := o1.still }
  let cnt := if j.fault then min 255 (cnt0 + 1) else if settling || tr.slip || tr.dsNow then cnt0 else 0
  let acqDone := tr.obs.acq == .done
  let lost := tr.obs.lost
  let valid := acqDone && !j.fault && !settling && !lost && !tr.slip && !tr.dsNow
  let coast := !valid && decide (1 ≤ cnt) && decide (cnt ≤ limit) && !settling && !lost
  let acquiring := match tr.obs.acq with | .running _ | .restart _ => true | _ => false
  -- words (R152 to R158)
  let (tl, corr, uc, vc, lc) := s.linearise a tr.obs.theta
  let linStatus := bit o0.staleTemp + 2 * bit lc + 4 * bit uc + 8 * bit vc
  let limitNow := uc || lc
  let sg := s.sigma a
  let out := wrapTheta (sg * (tl - (s.rd (Reg.angleZero a) : Int) * 2 ^ 16))
  let frozenNow := lost && !acquiring
  let status := bit valid + 2 * bit coast + 4 * bit settling + 8 * bit lost + 16 * bit acquiring + 32 * bit tr.fed +
    64 * bit o0.staleTemp + 128 * bit limitNow + 256 * bit tr.slip + 512 * bit tr.obs.dsFault +
    1024 * bit (s.phaseStale t drv)
  let w : Words :=
    { angle := (out % 2 ^ 48 / 2 ^ 24).toNat
      turns := out / 2 ^ 48
      speed := if frozenNow then 0 else Num.satI 32 (Num.rshift (sg * tr.obs.omega) 20)
      accel := if frozenNow then 0 else Num.satI 32 (Num.rshift (sg * tr.obs.acc) 16)
      status := status, tag := td }
  let up := decide (o0.words.turns = 32767) && decide (w.turns = -32768)
  let down := decide (o0.words.turns = -32768) && decide (w.turns = 32767)
  let invalidRun := if valid then 0 else o0.invalidRun + 1
  let coastRun := !valid && (o0.coastRun || coast || lost)
  let nacq := s.nAcq t a
  let lateNow := acquiring && !tr.obs.lateLogged && decide (tr.obs.total ≥ 16 * nacq)
  let obs : Obs :=
    { tr.obs with
      words := w, prev := o0.words, ready := td + ns 280, invalidRun := invalidRun, coastRun := coastRun
      ampLowOn := j.ampLow, ampHighOn := j.ampHigh, limitOn := limitNow
      lateLogged := tr.obs.lateLogged || lateNow
      fedPeriod := o0.fedPeriod || tr.fed
      iq := iq1 ++ iq2, corr := [c1.1, c1.2, c2.1, c2.2], setpoint := s.setpointWord t a }
  let gains := obsGains (s.obsBw a) (s.demodNs t)
  let s := s.modObs a fun _ => obs
  -- x of an analogue set-point stays at its value on the last output before SP_FAULT set (R202)
  let spBefore := bitAt (s.rd (Reg.supStatus a)) 8
  let s := s.modAxis a fun x =>
    { x with weir := { x.weir with
        hold := if sp then (if spBefore then x.weir.hold else some (s.analogueTarget a o0.setpoint)) else none } }
  let s := s.wr (Reg.coastCount a) cnt
  let s := s.wr (Reg.supStatus a) (bit valid + 2 * bit j.ampLow + 4 * bit j.ampHigh + 8 * bit j.cm + 16 * bit exc +
    32 * bit coast + 64 * bit settling + 128 * bit lost + 256 * bit sp)
  let s := match am1 with | some x => s.wr (Reg.ampSq a) x.1 | none => s
  let s := if valid then s else s.bump 32 (Reg.invalidCount a)
  -- the gains read 0 until the observer first runs (R144, R161)
  let s := if on then ((s.wr (Reg.obsK1 a) gains.1).wr (Reg.obsK2 a) gains.2.1).wr (Reg.obsK3 a) gains.2.2 else s
  let s := if tr.used then (s.wrS 32 (Reg.obsError a) (Num.satI 32 (Num.rshift tr.eEl 16))).wrS 16 (Reg.dsDeviation a) (Num.satI 16 (Num.rshift tr.delta 32)) else s
  let s := s.wrS 32 (Reg.obsDevAcc a) (Num.satI 32 (Num.rshift obs.dev 16))
  let s := (s.wr (Reg.linStatus a) linStatus).wrS 32 (Reg.linCorrection a) corr
  let s := match o1.acq, tr.obs.acq with
    | .waiting _, .running c => s.wr (Reg.acqCause a) c
    | _, _ => s
  let s := if tr.completed then (s.wr (Reg.acqOutputs a) nacq).bump 32 (Reg.acqCount a) else s
  let s := if tr.slip then s.bump 32 (Reg.slipCount a) else s
  -- calibration ends where a fault condition holds (R91)
  let s := if s.modeCode = CALIBRATE ∧ (j.fault ∨ lost) then s.modTile t fun y => { y with calBad := true } else s
  -- events (R112, R162)
  let ev := s.inRunOrHold
  -- one event for each of the two flags that sets; it names the primary pair where that shows it (log entry 94)
  let shown (primary : Bool) : List Nat :=
    if primary then dU 1 n1 ++ dU 2 (s.rd (Reg.ampSq a)) else dU 1 n2 ++ dU 2 ((am2.map (·.1)).getD 0)
  let s := s.raiseFormed (ev && j.ampLow && !o0.ampLowOn) 0x3103 cAXIS a (shown low1)
  let s := s.raiseFormed (ev && j.ampHigh && !o0.ampHighOn) 0x3103 cAXIS a (shown high1)
  let s := s.raiseFormed (ev && newLost) 0x3107 cAXIS a (dU 2 (s.rd (Reg.supStatus a)) ++ dU 1 limit)
  let s := s.raiseFormed (ev && valid && o0.coastRun) 0x3108 cAXIS a (dU 4 o0.invalidRun)
  let s := s.raiseFormed tr.slip 0x3301 cAXIS a (dI 4 (Num.rshift tr.eEl 32))
  let s := s.raiseFormed tr.completed 0x3302 cAXIS a (dU 1 tr.cause ++ dU 4 tr.obs.used)
  let s := s.raiseFormed (tr.dsNow && !o0.dsFault) 0x3303 cAXIS a (dI 4 (Num.rshift tr.delta 32))
  let s := s.raiseFormed lateNow 0x3304 cAXIS a (dU 1 tr.cause ++ dU 4 nacq)
  let s := s.raiseFormed (limitNow && !o0.limitOn) 0x3305 cAXIS a (dU 1 linStatus)
  let s := s.raiseFormed up 0x3307 cAXIS a (dU 1 0)
  s.raiseFormed down 0x3307 cAXIS a (dU 1 1)

/-- A driver stops counting as SETTLING once the last of its axes has cleared (R108). -/
def State.settleDriver (s : State) (t j : Nat) : State :=
  let d := s.driver t j
  if d.settling && d.phase == .on && (s.tile t).gainDone &&
      (s.driverAxes t j).all (fun a => !((s.axis a).obs.settling)) then
    s.modDriver t j fun d => { d with settling := false }
  else s

/-- DEMOD_OUTPUT of TILE_t: the FIR outputs, the references, and every axis (R13 to R15). -/
def State.demodTile (s : State) (t : Nat) : State :=
  let td := nextGrid (ns (s.demodNs t)) s.lt (s.tile t).lastDemod
  let s := s.goTo td
  let s := s.modTile t fun x => { x with lastDemod := some td }
  if !(s.tile t).running then s else
  let s := each 18 s fun s i =>
    match s.chanAxis t i with
    | some a => s.modChan t i fun c => { c with firOut := c.fir (s.rd (Reg.response a)) }
    | none => s
  let s := each 6 s fun s j => s.driverOutput t j td
  let s := (axesOf t).foldl (fun s a => s.axisOutput t a td) s
  let s := each 6 s fun s j => s.settleDriver t j
  s.calAccumulate t

/-- Puts values in place of the values in use, and TEMP_STALE of the axes of TILE_t. -/
def State.under (s : State) (t : Nat) (values : List (Nat × Nat)) (stale : List Bool) : State :=
  let s := values.foldl (fun s (e : Nat × Nat) => s.wr e.1 e.2) s
  each 6 s fun s k => s.modObs (6 * t + k) fun o => { o with staleTemp := stale.getD k false }

/-- The words of AXIS_a that have reached every consumer at `now` (R13). -/
def State.wordsAt (s : State) (a : Nat) (now : Lt) : Words :=
  let o := (s.axis a).obs
  if o.ready ≤ now then o.words else o.prev

end Sys2Proof.Machine
end

