-- ==== Sys2Proof/Machine/Law.lean ====
section
/-! DEFINITION. The control laws: COEF words, Q9.31 arithmetic, biquads, gain schedule, PIDF_CASCADE, STATE_FB, OPEN, the
preset of a starting law, the output stage, the fade and the cycle costs (chapter 07). -/

namespace Sys2Proof.Machine

/-! ### Banks (R186, R187, R196) -/

/-- Word `i` of a bank in section order; a word that is not listed is the factory bank's. -/
def bankWord (b : List Nat) (i : Nat) : Nat :=
  b.getD i (if i = 5 then 0xFFF80000 else if i = 6 then 0x7FFFF else 0)

/-- A bank with word `i` replaced, written out whole. -/
def bankSet (b : List Nat) (i v : Nat) : List Nat :=
  (List.range 123).map fun k => if k = i then v else bankWord b k

/-- The image CRC of a bank (R187). -/
def bankCrc (b : List Nat) : Nat := crc32 ((List.range 123).flatMap fun i => leBytes 4 (bankWord b i))

/-- The word index of a bank sub-entry 0x3021 to 0x3025 by section (0 to 4) and subindex. -/
def bankIndex (sec sub : Nat) : Option Nat :=
  let (base, n) : Nat × Nat := match sec with
    | 0 => (0, 16) | 1 => (16, 13) | 2 => (29, 40) | 3 => (69, 24) | _ => (93, 30)
  if 1 ≤ sub ∧ sub ≤ n then some (base + sub - 1) else none

/-- A COEF word in 2^-23 (R166). -/
def coef (w : Nat) : Int := toSigned 16 w * ((2 ^ (toSigned 4 (w / 2 ^ 16) + 8).toNat : Nat) : Int)

/-- Law kind of a bank: 0 OPEN, 1 PIDF_CASCADE, 2 STATE_FB. -/
def lawKind (b : List Nat) : Nat := bankWord b 0
/-- DELAY_COMP. -/
def delayComp (b : List Nat) : Bool := bitAt (bankWord b 1) 0
/-- BUS_FF. -/
def busFf (b : List Nat) : Bool := bitAt (bankWord b 1) 1
/-- ACC_MODEL. -/
def accModel (b : List Nat) : Bool := bitAt (bankWord b 1) 2
/-- POS_SHIFT p. -/
def posShift (b : List Nat) : Nat := bitsAt (bankWord b 2) 0 5
/-- ACC_SHIFT q. -/
def accShift (b : List Nat) : Nat := bitsAt (bankWord b 2) 8 5
/-- SRC of SCHED_CFG. -/
def schedSrc (b : List Nat) : Nat := bitsAt (bankWord b 4) 0 2
/-- POINTS of SCHED_CFG. -/
def schedPoints (b : List Nat) : Nat := bitsAt (bankWord b 4) 8 4
/-- U_MIN, U_MAX and U_BIAS in Q9.31. -/
def uMin (b : List Nat) : Int := toSigned 32 (bankWord b 5) * 2 ^ 12
def uMax (b : List Nat) : Int := toSigned 32 (bankWord b 6) * 2 ^ 12
def uBias (b : List Nat) : Int := toSigned 32 (bankWord b 7) * 2 ^ 12
/-- BUS_SEL and V_NOM of BUS_CFG. -/
def busSel (b : List Nat) : Nat := bitsAt (bankWord b 8) 16 3
def vNom (b : List Nat) : Nat := bitsAt (bankWord b 8) 0 16
/-- ORDER of STATE_FB. -/
def sfOrder (b : List Nat) : Nat := bitsAt (bankWord b 9) 0 2 + 1
/-- The named coefficients, 2^-23. -/
def kC (b : List Nat) (i : Nat) : Int := coef (bankWord b (16 + i))
/-- A slot's coefficients b0, b1, b2, a1, a2, 2^-23. -/
def bqC (b : List Nat) (q i : Nat) : Int := coef (bankWord b (29 + 5 * q + i))
/-- STATE_FB coefficients by their place in BANK_SF, 2^-23. -/
def sfC (b : List Nat) (i : Nat) : Int := coef (bankWord b (93 + i))

/-- Whether slot q is enabled and takes part under the bank's law (R174). -/
def slotOn (b : List Nat) (q : Nat) : Bool :=
  bitAt (bankWord b 3) q && (q != 2 && q != 3 || lawKind b == 1)

/-! ### Q9.31 arithmetic (R167) -/

/-- A signal rounded to a multiplier operand, Q9.23. -/
def operand (x : Int) : Int := Num.satI 32 (Num.rshift x 8)

/-- A write-back of an exact sum in 2^-69: rounded, saturated to Q9.31, and whether it saturated. -/
def writeBack (x : Int) : Int × Bool :=
  let r := Num.rshift x 38
  let v := Num.satI 40 r
  (v, decide (v ≠ r))

/-- A signal as a term of an exact sum in 2^-69. -/
def term (x : Int) : Int := x * 2 ^ 38

/-- A product of a coefficient in 2^-46 and a signal, as a term in 2^-69. -/
def prod (k x : Int) : Int := k * operand x

/-- An unscaled coefficient in 2^-46. -/
def k46 (k : Int) : Int := k * 2 ^ 23

/-- A signal saturated to Q9.31, with its flag. -/
def sat40 (x : Int) : Int × Bool := (Num.satI 40 x, decide (Num.satI 40 x ≠ x))

/-! ### Inputs (R170 to R172, R175) -/

/-- What the law of an axis reads in a window; positions in 2^-64 turn. -/
structure LawIn where
  y : Int                                -- turns, 2^-64
  speed : Int                            -- 2^-12 turn/s
  accel : Int                            -- 2^-4 turn/s²
  r : Int
  v : Int
  a : Int
  tns : Nat                              -- loop period, ns
  tau : Nat                              -- GD_EXACT, ns
  deriving DecidableEq, Repr

/-- The signals of R171 under one bank. -/
structure Signals where
  e : Int
  vn : Int
  wn : Int
  an : Int
  sat : Bool
  deriving DecidableEq, Repr

/-- The sum of R172 before its write-back, in 2^-64 turn. -/
def LawIn.ycSum (i : LawIn) (b : List Nat) : Int :=
  if delayComp b then
    Num.rdiv (i.y * (2 * 10 ^ 18) + i.speed * 2 ^ 52 * i.tau * (2 * 10 ^ 9) + i.accel * 2 ^ 60 * i.tau * i.tau) (2 * 10 ^ 18)
  else i.y

/-- y_c of R172 as the Q9.31 signal that R167 makes of it, in 2^-31 turn, and whether it saturated. -/
def LawIn.ycQ (i : LawIn) (b : List Nat) : Int × Bool := sat40 (Num.rshift (i.ycSum b) 33)

/-- y_c in 2^-64 turn, as the weir and the error formation take it. -/
def LawIn.yc (i : LawIn) (b : List Nat) : Int := (i.ycQ b).1 * 2 ^ 33

/-- e, v_n, w_n and a_n, each saturated to Q9.31 (R171); `sat` tells of y_c too, the first of the input signals (R198). -/
def LawIn.signals (i : LawIn) (b : List Nat) : Signals :=
  let p := posShift b
  let e := sat40 (Num.rshift ((i.r - i.yc b) * 2 ^ p) 33)
  let vn := sat40 (Num.rdiv (i.v * 2 ^ p * i.tns) (10 ^ 9 * 2 ^ 33))
  let wn := sat40 (Num.rdiv (i.speed * 2 ^ (p + 19) * i.tns) (10 ^ 9))
  let an := sat40 (Num.rshift i.a (33 + accShift b))
  { e := e.1, vn := vn.1, wn := wn.1, an := an.1, sat := (i.ycQ b).2 || e.2 || vn.2 || wn.2 || an.2 }

/-- The two schedule factors of a point, or of its interpolation, in Q9.31 (R175). -/
def schedAt (b : List Nat) (x : Int) (off : Nat) : Int :=
  let n := schedPoints b
  let xi (i : Nat) : Int := (bitsAt (bankWord b (69 + 3 * i)) 0 16 : Nat) * 2 ^ 16
  let g (i : Nat) : Int := coef (bankWord b (69 + 3 * i + off)) * 2 ^ 8
  if n = 0 then 2 ^ 31 else
  if x ≤ xi 0 then g 0 else
    match (List.range (n - 1)).find? fun i => decide (xi i ≤ x) && decide (x < xi (i + 1)) with
    | some i => g i + Num.rdiv ((g (i + 1) - g i) * (x - xi i)) (xi (i + 1) - xi i)
    | none => g (n - 1)

/-- g_p and g_v as Q9.23 operands, 2^-23 (R175). -/
def schedule (b : List Nat) (i : LawIn) (e : Int) : Int × Int :=
  let src := schedSrc b
  if src = 0 then (2 ^ 23, 2 ^ 23) else
    let sig : Int := match src with
      | 1 => Num.satI 40 (Num.rshift (Num.wrapTurn 64 i.y) 33)
      | 2 => Num.satI 40 (Num.rshift i.v 33)
      | _ => e
    let x := Num.clampI 0 (2 ^ 31) (writeBack (prod (k46 (kC b 12)) (sig.natAbs : Int))).1
    (operand (schedAt b x 1), operand (schedAt b x 2))

/-! ### Biquads (R174, R192) -/

/-- Slot q on one input: its output and states. -/
def slotStep (b : List Nat) (q : Nat) (st : Int × Int × Int × Int) (x : Int) : Int × (Int × Int × Int × Int) × Bool :=
  let (x1, x2, y1, y2) := st
  let y := writeBack (prod (k46 (bqC b q 0)) x + prod (k46 (bqC b q 1)) x1 + prod (k46 (bqC b q 2)) x2 -
    prod (k46 (bqC b q 3)) y1 - prod (k46 (bqC b q 4)) y2)
  (y.1, (x, x1, y.1, y1), y.2)

/-- The states a slot starts with for input x, and whether one of them was held to Q9.31 (R192, R167). -/
def slotSteady (b : List Nat) (q : Nat) (x : Int) : (Int × Int × Int × Int) × Bool :=
  let nb := bqC b q 0 + bqC b q 1 + bqC b q 2
  let da := 2 ^ 23 + bqC b q 3 + bqC b q 4
  let y := sat40 (if da = 0 then Num.rshift ((2 ^ 23 - nb) * x) 23 else Num.rdiv (nb * x) da)
  ((x, x, y.1, y.1), y.2)

/-- A chain of slots `qs` on input `x`; with `steady` each slot starts at its steady state. -/
def chain (b : List Nat) (qs : List Nat) (steady : Bool) (bq : List (Int × Int × Int × Int)) (x : Int) :
    Int × List (Int × Int × Int × Int) × Bool :=
  qs.foldl (init := (x, bq, false)) fun acc q =>
    let (v, bq, sat) := acc
    if slotOn b q then
      let (st, f0) := if steady then slotSteady b q v else (bq.getD q (0, 0, 0, 0), false)
      let (y, st', f) := slotStep b q st v
      (y, (List.range 8).map (fun k => if k = q then st' else bq.getD k (0, 0, 0, 0)), sat || f0 || f)
    else acc

/-- The product of the DC gains of the enabled slots 4 to 7, as a fraction (R192). -/
def outGain (b : List Nat) : Int × Int :=
  [4, 5, 6, 7].foldl (init := ((1 : Int), (1 : Int))) fun acc q =>
    if slotOn b q then
      let nb := bqC b q 0 + bqC b q 1 + bqC b q 2
      let da := 2 ^ 23 + bqC b q 3 + bqC b q 4
      if da = 0 then acc else (acc.1 * nb, acc.2 * da)
    else acc

/-! ### The laws up to u_c (R176 steps 1 to 6, R178 steps 1 to 4, R179) -/

/-- A law after its first half. -/
structure Half where
  st : LawSt
  sig : Signals
  e1 : Int
  ev1 : Int
  gp : Int
  gv : Int
  xh : List Int                          -- x̂ of STATE_FB
  uc : Int
  sats : List Nat                        -- elements whose write-back saturated, in order (0x3403)
  deriving DecidableEq, Repr

/-- A saturation flag as an element of the list. -/
def satE (b : Bool) (e : Nat) : List Nat := if b then [e] else []

/-- One law from its signals to u_c; with `start` its slots and derivative start as R192 gives. -/
def lawHalf (b : List Nat) (st : LawSt) (i : LawIn) (start : Bool) : Half :=
  let sg := i.signals b
  let (gp, gv) := schedule b i sg.e
  let (e1, bq, f2) := if lawKind b = 0 then (sg.e, st.bq, false) else chain b [0, 1] start st.bq sg.e
  let s0 := satE sg.sat 1 ++ satE f2 2
  let fin (ul0 : Int × Bool) (bq : List (Int × Int × Int × Int)) (st : LawSt) (ev1 : Int) (xh : List Int)
      (sats : List Nat) : Half :=
    let (ul, bq, f7) := chain b [4, 5, 6, 7] start bq ul0.1
    let uc := writeBack (term ul + prod (k46 (kC b 7)) sg.an + term (uBias b))
    { st := { st with bq := bq }, sig := sg, e1 := e1, ev1 := ev1, gp := gp, gv := gv, xh := xh, uc := uc.1,
      sats := sats ++ satE ul0.2 6 ++ satE f7 7 ++ satE uc.2 8 }
  match lawKind b with
  | 0 =>
    let r := sat40 (Num.rshift (i.r * 2 ^ posShift b) 33)
    fin (writeBack (prod (k46 (kC b 11)) r.1)) bq st 0 [] (satE (sg.sat || r.2) 1)
  | 1 =>
    let vc := writeBack (prod (gp * kC b 0) e1 + term st.integ1 + prod (k46 (kC b 2)) sg.vn)
    let ev := writeBack (term vc.1 - term sg.wn)
    let (ev1, bq, f4) := chain b [2, 3] start bq ev.1
    let evp := if start then ev1 else st.evPrev
    let dfIn := sat40 (ev1 - evp - st.df)
    let df := writeBack (term st.df + prod (k46 (kC b 6)) dfIn.1)
    let ul0 := writeBack (prod (gv * kC b 3) ev1 + prod (gv * kC b 5) df.1 + term st.integ2)
    fin ul0 bq { st with df := df.1, evPrev := ev1 } ev1 []
      (s0 ++ satE vc.2 3 ++ satE (ev.2 || f4) 4 ++ satE (dfIn.2 || df.2) 5)
  | _ =>
    let n := sfOrder b
    let xp (k : Nat) : Int × Bool :=
      if start then
        match bitsAt (bankWord b 9) (2 + 2 * k) 2 with
        | 0 => (0, false)
        | 1 => (e1, false)
        | 2 => sat40 (sg.vn - sg.wn)
        | _ => (sg.an, false)
      else (st.xhat.getD k 0, false)
    let nu := sat40 (e1 - (xp 0).1)
    let xs := (List.range n).map fun k => writeBack (term (xp k).1 + prod (k46 (sfC b (20 + k))) nu.1)
    let f9 := (List.range n).any (fun k => (xp k).2) || nu.2 || xs.any (·.2)
    let xh := xs.map (·.1)
    let ul0 := writeBack (Num.sumI ((List.range n).map fun k => prod (gp * sfC b (24 + k)) (xh.getD k 0)) + term st.integ1)
    fin ul0 bq st 0 xh (s0 ++ satE f9 9)

/-! ### Preset of a starting law (R192, R193) -/

/-- The integrator limit a preset is held to, Q9.31: IV_LIM, or IS_LIM of STATE_FB. -/
def presetLimit (b : List Nat) : Int := if lawKind b = 1 then kC b 9 * 2 ^ 8 else sfC b 29 * 2 ^ 8

/-- The first half of a law in its first period, with its states preset from `uPrev`; then whether PRESET_CLAMP sets, whether
the preset was held to the integrator's limit, and the difference that remains, Q9.31. -/
def lawStart (b : List Nat) (i : LawIn) (uPrev : Int) : Half × Bool × Bool × Int :=
  let st0 : LawSt := {}
  let h0 := lawHalf b st0 i true
  if lawKind b = 0 then (h0, false, false, 0) else
    let g := outGain b
    let small := decide (g.1.natAbs * 2 ^ 8 < g.2.natAbs)
    let (gn, gd) : Int × Int := if small then (1, 1) else g
    let want := Num.rdiv ((uPrev - h0.uc) * gd) gn
    let lim := presetLimit b
    let clamped := decide ((want.natAbs : Int) > lim)
    let last := if clamped then (if want < 0 then -lim else lim) else want
    let st := if lawKind b = 1 then { st0 with integ2 := last } else { st0 with integ1 := last }
    let h := lawHalf b st i true
    (h, small || clamped, clamped, uPrev - h.uc)

/-! ### Second half: integrators and estimator with the applied command (R176 to R178) -/

/-- An integrator advanced by an increment (2^-69), held to ±lim, unless R177 blocks it. -/
def integrate (i inc lim : Int) (uc uk : Int) : Int × Bool :=
  let blocked := uc != uk && decide (inc ≠ 0) && decide ((inc < 0) = (uc - uk < 0))
  if blocked then (i, false) else
    let r := writeBack (term i + inc)
    (Num.clampI (-lim) lim r.1, r.2)

/-- A law after its second half: its states, SAT_INT1, SAT_INT2 and saturations. -/
def lawFinish (b : List Nat) (h : Half) (uc uk : Int) : LawSt × Bool × Bool × List Nat :=
  match lawKind b with
  | 0 => (h.st, false, false, [])
  | 1 =>
    let l1 := kC b 8 * 2 ^ 8
    let l2 := kC b 9 * 2 ^ 8
    let i1 := integrate h.st.integ1 (prod (h.gp * kC b 1) h.e1) l1 uc uk
    let i2 := integrate h.st.integ2 (prod (h.gv * kC b 4) h.ev1) l2 uc uk
    ({ h.st with integ1 := i1.1, integ2 := i2.1 }, decide ((i1.1.natAbs : Int) = l1), decide ((i2.1.natAbs : Int) = l2),
      satE i1.2 10 ++ satE i2.2 11)
  | _ =>
    let n := sfOrder b
    let nx := (List.range n).map fun r =>
      writeBack (Num.sumI ((List.range n).map fun c => prod (k46 (sfC b (4 * r + c))) (h.xh.getD c 0)) +
        prod (k46 (sfC b (16 + r))) uk)
    let ls := sfC b 29 * 2 ^ 8
    let i1 := integrate h.st.integ1 (prod (h.gp * sfC b 28) h.e1) ls uc uk
    ({ h.st with xhat := nx.map (·.1), integ1 := i1.1 }, decide ((i1.1.natAbs : Int) = ls), false,
      satE (nx.any (·.2)) 9 ++ satE i1.2 10)

/-! ### Output stage and a_cmd (R180, R181) -/

/-- f of R180 in 2^-31, and whether it was limited; `vbus` in mV. -/
def busFactor (b : List Nat) (vbus : Int) : Int × Bool :=
  if busFf b then
    let n : Int := vNom b
    if vbus ≤ 0 ∨ n > 2 * vbus then (2 ^ 32, true)
    else if 2 * n < vbus then (2 ^ 30, true)
    else (Num.rdiv (n * 2 ^ 31) vbus, false)
  else (2 ^ 31, false)

/-- The code of a command (R180), and whether it was clamped. With bus compensation, `ff`, the command enters the
multiplier with f and is rounded to its operand (R167); without it f is 1 and no product is formed. -/
def dacCode (ff : Bool) (f uk : Int) : Int × Bool :=
  let c := if ff then Num.rshift (f * operand uk) 35 else Num.rshift uk 12
  (Num.clampI (-524288) 524287 c, decide (c < -524288) || decide (524287 < c))

/-- a_cmd under one bank, 2^-20 turn/s² (R181), and whether its write-back saturated. -/
def aCmdOf (b : List Nat) (uk ar : Int) : Int × Bool :=
  if accModel b then
    let d := Num.satI 40 (uk - uBias b)
    let w := writeBack (prod (k46 (kC b 10)) d)
    (Num.rshift (w.1 * 2 ^ accShift b) 11, w.2)
  else (Num.rshift ar 44, false)

/-! ### Cycle costs (R182) -/

/-- The law part of the cost of a bank. -/
def lawCost (b : List Nat) : Nat :=
  let slots := ((List.range 8).filter fun q => slotOn b q && (lawKind b != 0 || q ≥ 4)).length
  (if delayComp b then 8 else 0) + (if schedSrc b ≠ 0 then 24 else 0) + 12 * slots +
  (match lawKind b with
   | 1 => 14 + 22
   | 2 => 24 + sfOrder b * sfOrder b + 3 * sfOrder b
   | _ => 6) + 8 + (if busFf b then 10 else 0)

/-- The shared part of the cost of an axis unit. -/
def sharedCost : Nat := 78

/-- CYCLES_TAB of an axis in its current state (R182). -/
def Law.cycles (l : Law) (runs : Bool) : Nat :=
  if !runs then 4 else
    match l.incoming with
    | none => sharedCost + lawCost l.active
    | some b => if l.fadeLen = 1 then sharedCost + lawCost b else sharedCost + lawCost l.active + lawCost b + 10

/-- The cost an axis would reach if a swap to bank `b` with fade length `n` began now (R183). -/
def Law.fadeCost (l : Law) (b : List Nat) (n : Nat) : Nat :=
  if n = 1 then sharedCost + max (lawCost l.active) (lawCost b) else sharedCost + lawCost l.active + lawCost b + 10

/-! ### One axis unit of the law (R191) -/

/-- The law part of a unit: what the window leaves for t_out. -/
structure UnitOut where
  law : Law
  code : Int
  aCmd : Int
  uk : Int
  status : Nat                           -- bits of LAW_STATUS but for RUNNING, MISS and FEED_SENT
  sat : Nat
  fadeDone : Bool
  presetDiff : List Int                  -- what clamped presets left, one event 0x3415 for each
  deriving DecidableEq, Repr

/-- The SAT_INT bits of LAW_STATUS: an integrator at its limit after the period, and `held`, the one that a preset was held to
its limit (R177, R192). -/
def satIntBits (b : List Nat) (s1 s2 held : Bool) : Nat :=
  16 * bit (s1 || held && lawKind b != 1) + 32 * bit (s2 || held && lawKind b == 1)

/-- Runs the law, or both laws of a fade, for one period; `bus` gives BUS_VALUE in mV by input, `clear` the CLEAR_CODE. -/
def Law.unit (l : Law) (i : LawIn) (bus : Nat → Int) (clear : Int) : UnitOut :=
  let fA := busFactor l.active (bus (busSel l.active))
  let uPrev := if l.preset then Num.rdiv (clear * 2 ^ 43) fA.1 else l.uPrev
  let single (b : List Nat) (st : LawSt) (start : Bool) : Half × Bool × Bool × List Int :=
    if start then
      let (h, c, held, d) := lawStart b i uPrev
      (h, c, held, if c then [d] else [])
    else (lawHalf b st i false, false, false, [])
  let one (b : List Nat) (st : LawSt) (start : Bool) : UnitOut :=
    let f := busFactor b (bus (busSel b))
    let (h, pc, held, pd) := single b st start
    let uk := Num.clampI (uMin b) (uMax b) h.uc
    let code := dacCode (busFf b) f.1 uk
    let (st', s1, s2, sats) := lawFinish b h h.uc uk
    let ac := aCmdOf b uk i.a
    let all := h.sats ++ satE ac.2 12 ++ sats
    { law := { l with st := st', preset := false, uPrev := uk, err := h.sig.e, err1 := h.e1 }, code := code.1, aCmd := ac.1, uk := uk,
      status := 4 * bit pc + 8 * bit (decide (uk ≠ h.uc) || code.2) + satIntBits b s1 s2 held +
        64 * bit (!all.isEmpty) + 256 * bit f.2
      sat := all.headD 0, fadeDone := false, presetDiff := pd }
  match l.incoming with
  | none => one l.active l.st l.preset
  | some bi =>
    if l.fadeLen ≤ 1 then
      let u := one bi l.stIn l.presetIn
      { u with law := { l with stIn := u.law.st, presetIn := false, preset := false, uPrev := u.uk, fadePos := 1,
                               err := u.law.err, err1 := u.law.err1 },
               fadeDone := true }
    else
      let fI := busFactor bi (bus (busSel bi))
      let (ha, pcA, heldA, pdA) := single l.active l.st l.preset
      let (hi, pcI, heldI, pdI) := single bi l.stIn l.presetIn
      let j := l.fadePos + 1
      let w := Num.rdiv ((j : Int) * 65536) l.fadeLen
      let mix (x y : Int) : Int := Num.rshift ((65536 - w) * x + w * y) 16
      -- a law signal enters the multiplier with w rounded to its operand (R167)
      let mixQ (x y : Int) : Int := Num.rshift ((65536 - w) * operand x + w * operand y) 8
      let uc0 := mixQ ha.uc hi.uc
      let uc := Num.satI 40 uc0
      let uk := Num.clampI (mixQ (uMin l.active) (uMin bi)) (mixQ (uMax l.active) (uMax bi)) uc
      let code := dacCode (busFf l.active || busFf bi) (mix fA.1 fI.1) uk
      let (sa, a1, a2, satsA) := lawFinish l.active ha uc uk
      let (si, b1, b2, satsI) := lawFinish bi hi uc uk
      let ca := aCmdOf l.active uk i.a
      let ci := aCmdOf bi uk i.a
      let all := ha.sats ++ hi.sats ++ satE (uc ≠ uc0) 8 ++ satE (ca.2 || ci.2) 12 ++ satsA ++ satsI
      { law := { l with st := sa, stIn := si, preset := false, presetIn := false, fadePos := j, uPrev := uk,
                          err := ha.sig.e, err1 := ha.e1 }
        code := code.1, aCmd := mix ca.1 ci.1, uk := uk
        status := 4 * bit (pcA || pcI) + 8 * bit (decide (uk ≠ uc) || code.2) +
          Nat.lor (satIntBits l.active a1 a2 heldA) (satIntBits bi b1 b2 heldI) +
          64 * bit (!all.isEmpty) + 256 * bit (fA.2 || fI.2)
        sat := all.headD 0, fadeDone := decide (j ≥ l.fadeLen), presetDiff := pdA ++ pdI }

/-- The fade completes: INCOMING becomes ACTIVE (R191). -/
def Law.completeFade (l : Law) : Law :=
  match l.incoming with
  | none => l
  | some b => { l with active := b, st := l.stIn, incoming := none, stIn := {}, fadePos := 0, fadeLen := 0 }

end Sys2Proof.Machine
end

