-- ==== Sys2Proof/Machine/Weir.lean ====
section
/-! DEFINITION. The weir: the step of R204, the least-time plan of R205, overshoot, the start of R208 and braking (R210). -/

namespace Sys2Proof.Machine

/-- Limits of a weir in use: V and A in 2^-64 turn per second (squared), J in turn/s³ times 2^64. -/
structure Limits where
  vmax : Int
  amax : Int
  jmax : Int
  deriving DecidableEq, Repr

/-- WEIR_VEL_LIMIT, WEIR_ACC_LIMIT and WEIR_JERK_LIMIT of AXIS_a (R211). -/
def State.limits (s : State) (a : Nat) : Limits :=
  { vmax := (s.rd (Reg.weirVelLimit a) : Int) * 2 ^ 52, amax := (s.rd (Reg.weirAccLimit a) : Int) * 2 ^ 60,
    jmax := (s.rd (Reg.weirJerkLimit a) : Int) * 2 ^ 64 }

/-- A phase of constant jerk: its duration in 2^-64 s and its jerk in turn/s³ times 2^64. -/
abbrev Phase := Int × Int

/-- Position, velocity and acceleration after constant jerk `j` for `t` (2^-64 s). -/
def coastJerk (x : Int × Int × Int) (t j : Int) : Int × Int × Int :=
  let (p, v, a) := x
  (p + Num.rshift (v * t) 64 + Num.rshift (a * t * t) 129 + Num.rdiv (j * t * t * t) (6 * 2 ^ 192),
   v + Num.rshift (a * t) 64 + Num.rshift (j * t * t) 129, a + Num.rshift (j * t) 64)

/-- The state after all the phases. -/
def runPhases (l : List Phase) (x : Int × Int × Int) : Int × Int × Int :=
  l.foldl (fun x ph => coastJerk x ph.1 ph.2) x

/-- The state at time `t` along the phases; the last state is kept once they have ended. -/
def phasesAt : List Phase → Int × Int × Int → Int → Int × Int × Int
  | [], x, _ => x
  | (d, j) :: l, x, t => if t < d then coastJerk x t j else phasesAt l (coastJerk x d j) (t - d)

/-- Total duration of the phases. -/
def duration (l : List Phase) : Int := Num.sumI (l.map (·.1))

/-- The least-time change of velocity from (v, a) to (w, 0) under the limits; an acceleration beyond A is first brought
back to A at full jerk (lowered limits, R209). -/
def transition (lim : Limits) (v a w : Int) : List Phase :=
  let j := max 1 lim.jmax
  let pre : List Phase := if a > lim.amax then [(Num.rdiv ((a - lim.amax) * 2 ^ 64) j, -j)]
    else if a < -lim.amax then [(Num.rdiv ((-lim.amax - a) * 2 ^ 64) j, j)] else []
  let (_, v, a) := runPhases pre (0, v, a)
  -- the velocity reached when a is brought to 0 decides the direction
  let v0 := v + Num.rdiv (a * (a.natAbs : Int)) (2 * j)
  let d : Int := if w ≥ v0 then 1 else -1
  let dv := d * (w - v)
  let as := d * a
  let peak : Int := (Num.isqrt ((2 * j * dv + as * as) / 2).toNat : Nat)
  let t (x : Int) : Int := max 0 (Num.rdiv (x * 2 ^ 64) j)
  pre ++
    if peak ≤ lim.amax then [(t (peak - as), d * j), (t peak, -d * j)]
    else
      let need := dv - Num.rdiv (2 * lim.amax * lim.amax - as * as) (2 * j)
      [(t (lim.amax - as), d * j), (max 0 (Num.rdiv (need * 2 ^ 64) lim.amax), 0), (t lim.amax, -d * j)]

/-- Distance covered from (v, a) over cruise velocity w to rest. -/
def reach (lim : Limits) (v a w : Int) : Int :=
  (runPhases (transition lim v a w) (0, v, a)).1 + (runPhases (transition lim w 0 0) (0, w, 0)).1

/-- Bisection for the cruise velocity whose distance is `need`. -/
def bisect (lim : Limits) (v a need : Int) : Nat → Int → Int → Int
  | 0, lo, _ => lo
  | n + 1, lo, hi =>
    let m := (lo + hi) / 2
    if reach lim v a m ≤ need then bisect lim v a need n m hi else bisect lim v a need n lo m

/-- The path that first lets go of a braking acceleration for `t` at jerk `j`, then brakes to rest. -/
def easePath (lim : Limits) (v a j t : Int) : List Phase :=
  let x := coastJerk (0, v, a) t j
  (t, j) :: transition lim x.2.1 x.2.2 0

/-- Bisection for the time of `easePath` whose distance is `need`; `d` is its direction. -/
def easeTime (lim : Limits) (v a j need d : Int) : Nat → Int → Int → Int
  | 0, lo, _ => lo
  | n + 1, lo, hi =>
    let m := (lo + hi) / 2
    if d * (runPhases (easePath lim v a j m) (0, v, a)).1 ≤ d * need then easeTime lim v a j need d n m hi
    else easeTime lim v a j need d n lo m

/-- Error of position within which a plan that brakes at once counts as meeting its target: 2^-36 turn (R205). -/
abbrev planTol : Nat := 2 ^ 28

/-- The least-time plan from relative state (p, q, a) to relative rest at 0 with cruise velocities in [lo, hi] (R205):
at most seven phases of jerk +J, 0 or −J. Between the path that brakes at once and the one that first brings a to 0 lie
those that let go of part of the braking first; beyond, those with a cruise velocity. -/
def plan (lim : Limits) (p q a lo hi : Int) : List Phase :=
  let need := -p
  let j := max 1 lim.jmax
  let build (w tc : Int) : List Phase := transition lim q a w ++ [(tc, 0)] ++ transition lim w 0 0
  let stop := (runPhases (transition lim q a 0) (0, q, a)).1
  let v0 := q + Num.rdiv (a * (a.natAbs : Int)) (2 * j)
  let rest := Num.rdiv ((a.natAbs : Int) * 2 ^ 64) j
  if (need - stop).natAbs ≤ planTol ∧ lo ≤ 0 ∧ 0 ≤ hi then transition lim q a 0
  else if need ≥ stop then
    let dhi := reach lim q a hi
    if need ≥ dhi ∨ hi ≤ 0 then
      if hi ≤ 0 then transition lim q a hi ++ [(2 ^ 128, 0)]
      else build hi (Num.rdiv ((need - dhi) * 2 ^ 64) hi)
    else if a < 0 ∧ 0 < v0 ∧ v0 < hi ∧ need < reach lim q a v0 then
      easePath lim q a j (easeTime lim q a j need 1 96 0 rest)
    else build (bisect lim q a need 96 (if v0 < hi then max 0 v0 else 0) hi) 0
  else
    let dlo := reach lim q a lo
    if need ≤ dlo ∨ lo ≥ 0 then
      if lo ≥ 0 then transition lim q a lo ++ [(2 ^ 128, 0)]
      else build lo (Num.rdiv ((need - dlo) * 2 ^ 64) lo)
    else if 0 < a ∧ v0 < 0 ∧ lo < v0 ∧ reach lim q a v0 < need then
      easePath lim q a (-j) (easeTime lim q a (-j) need (-1) 96 0 rest)
    else build (bisect lim q a need 96 lo (if lo < v0 then min 0 v0 else 0)) 0

/-- The path behind a target that moves faster than V: the velocity V towards where it is, relative to the target, and then
onwards at V (R206; log entry 96). -/
def pursue (lim : Limits) (p v vx a : Int) : List Phase :=
  let up := decide (p < 0) || (p == 0 && decide (0 < vx))
  transition lim (v - vx) a ((if up then lim.vmax else -lim.vmax) - vx) ++ [(2 ^ 128, 0)]

/-- A value that the evaluation of a plan puts at most `err` beyond its limit is at the limit; one further out is still on its way
back to a lowered limit (R203, R205, R209). -/
def holdWithin (limit err v : Int) : Int := if (v.natAbs : Int) ≤ limit + err then Num.clampI (-limit) limit v else v

/-- The acceleration after `dt` ns from `a0`: within A, and changed by at most J times that time, whatever the rounding of the plan's
phases (R203, R205). -/
def holdAcc (lim : Limits) (a0 a dt : Int) : Int :=
  let step := lim.jmax * dt / 10 ^ 9
  Num.clampI (a0 - step) (a0 + step) (holdWithin lim.amax (2 ^ 52) a)

/-- The new state of a weir and whether it came from the plan (R204, R205). `dtns` is the LT since the last completed
boundary in ns; `x` and `vx` are the target in 2^-64 turn and its velocity. -/
def Weir.advance (w : Weir) (lim : Limits) (x vx ax : Int) (dtns : Nat) : Weir × Bool :=
  let dt : Int := dtns
  let rp := w.pos + Num.rdiv (w.vel * dt) (10 ^ 9) + Num.rdiv (w.acc * dt * dt) (2 * 10 ^ 18)
  let vp := w.vel + Num.rdiv (w.acc * dt) (10 ^ 9)
  if (vx.natAbs : Int) ≤ lim.vmax ∧ (ax.natAbs : Int) ≤ lim.amax ∧
     ((ax - w.acc).natAbs : Int) * 10 ^ 9 ≤ lim.jmax * dt ∧
     ((x - rp).natAbs : Int) * (6 * 10 ^ 27) ≤ lim.jmax * dt * dt * dt ∧
     ((vx - vp).natAbs : Int) * (2 * 10 ^ 18) ≤ lim.jmax * dt * dt then
    ({ w with pos := x, vel := vx, acc := ax }, false)
  else
    let t := Num.rdiv (dt * 2 ^ 64) (10 ^ 9)
    let p0 := w.pos - (x - Num.rdiv (vx * dt) (10 ^ 9))
    let l := if (vx.natAbs : Int) ≤ lim.vmax then plan lim p0 (w.vel - vx) w.acc (-lim.vmax - vx) (lim.vmax - vx)
      else pursue lim p0 w.vel vx w.acc
    if duration l ≤ t then ({ w with pos := x, vel := vx, acc := holdAcc lim w.acc 0 dt }, true) else
      let (p, q, a) := phasesAt l (p0, w.vel - vx, w.acc) t
      let ep := Num.clampI (-(2 ^ 27)) (2 ^ 27) (Config.weirPosErr p q)
      let ev := Num.clampI (-(2 ^ 39)) (2 ^ 39) (Config.weirVelErr p q)
      ({ w with pos := x + p + ep, vel := holdWithin lim.vmax (2 ^ 40) (q + vx + ev), acc := holdAcc lim w.acc a dt }, true)

/-- The state of a weir when its law starts: y_c, ω and α with the limits' clamps (R208). -/
def Weir.start (w : Weir) (lim : Limits) (i : LawIn) (b : List Nat) : Weir :=
  { w with pos := i.yc b, vel := Num.clampI (-lim.vmax) lim.vmax (i.speed * 2 ^ 52),
           acc := Num.clampI (-lim.amax) lim.amax (i.accel * 2 ^ 60), init := true }

/-- The point at which least-time braking from the weir's state comes to rest (R210). -/
def Weir.brakePoint (w : Weir) (lim : Limits) : Int :=
  (runPhases (transition lim w.vel w.acc 0) (w.pos, w.vel, w.acc)).1

/-- Whether (x, vx), seen after `dtns` ns, is the moving point that the last period saw, but for the rounding of its words
(R199, R207; log entry 96). -/
def Weir.sameTarget (w : Weir) (x vx : Int) (dtns : Nat) : Bool :=
  match w.prevTarget with
  | none => false
  | some x0 =>
    let dt : Int := dtns
    decide (((vx - w.prevVel).natAbs : Int) ≤ 2 ^ 52) &&
      decide (((x - x0 - Num.rdiv (w.prevVel * dt) (10 ^ 9)).natAbs : Int) ≤ 2 ^ 32 + Num.cdiv (2 ^ 52 * dtns) (10 ^ 9))

/-- Overshoot tracking of R207 over one step of `dtns` ns from `w` to `w'` towards the moving point x with velocity vx: the new
tracking state, and the size where an overshoot is recorded. An episode opens as p changes sign, and closes at the first boundary
at which the relative velocity has changed sign, which it has done too where p has returned. -/
def Weir.overshoot (w w' : Weir) (limiting : Bool) (x vx : Int) (dtns : Nat) : Weir × Option Int :=
  let w' := { w' with prevTarget := some x, prevVel := vx, shooting := false, overPeak := 0 }
  if !limiting then (w', none) else
    let same := w.sameTarget x vx dtns
    let p0 := w.pos - (x - Num.rdiv (vx * (dtns : Int)) (10 ^ 9))
    let p := w'.pos - x
    let q0 := w.vel - vx
    let q := w'.vel - vx
    let crossed := decide (p0 * p < 0) || same && p0 == 0 && decide (0 < q0 * p)
    let open_ := same && w.shooting
    let size : Int := p.natAbs
    let away := decide (0 ≤ q * p)
    if open_ && (crossed || p == 0) then
      ({ w' with shooting := crossed && away, overPeak := if crossed && away then size else 0 }, some w.overPeak)
    else if open_ || crossed then
      let peak := max (if open_ then w.overPeak else 0) size
      if away then ({ w' with shooting := true, overPeak := peak }, none) else (w', some peak)
    else (w', none)

end Sys2Proof.Machine
end

