-- ==== Sys2Proof/Machine/Laser.lean ====
section
/-! DEFINITION. Laser gates, modulation outputs, profile playback, the laser share of the scheduler, and what the pins
carry (chapters 08, 09 and 11). -/

namespace Sys2Proof.Machine

/-- Laser L. -/
def State.laser (s : State) (l : Nat) : Laser := s.lasers[l]?.getD {}

/-- Changes laser L. -/
def State.modLaser (s : State) (l : Nat) (f : Laser → Laser) : State :=
  { s with lasers := s.lasers.setIfInBounds l (f (s.laser l)) }

/-- Changes the stream of laser L. -/
def State.modStream (s : State) (l : Nat) (f : Stream → Stream) : State :=
  s.modLaser l fun x => { x with stream := f x.stream }

/-- A LASER_FAULT is latched on laser L (R418). -/
def State.laserLatched (s : State) (l : Nat) : Bool := bitAt (s.rd Reg.faultSummary) l

/-- Laser L is DARK or held cleared: neither its gate nor its output follows the channel (R245, R407, R418). -/
def State.laserHeld (s : State) (l : Nat) : Bool := (s.laser l).hold || s.laserLatched l || s.mode.clearLmLow

/-- The laser whose LMO_SEL names output n (R251). -/
def State.lmoLaser (s : State) (n : Nat) : Option Nat := (List.range 16).find? fun l => s.rd (Reg.lmoSel l) == n

/-- The laser whose GATE_PIN names pin n (R257). -/
def State.gateLaser (s : State) (n : Nat) : Option Nat := (List.range 16).find? fun l => s.rd (Reg.gatePin l) == n

/-- The mode in force on ENGINE_t: in a transition that acts engine by engine, the mode it leaves until its own boundary
(R438). On the way into CONFIGURE only the laws run on until then; the lasers have left BUILD at the acceptance. -/
def State.engineMode (s : State) (t : Nat) : Nat :=
  match s.mode.transition with
  | some x =>
    if x.engines.contains t then (if x.wait = .carriersOff ∧ x.fromMode = BUILD then SERVO else x.fromMode) else s.modeCode
  | none => s.modeCode

/-- Laser L follows its channel (R252, R257, R438). -/
def State.laserBuilds (s : State) (l : Nat) : Bool := s.engineMode (l / 2) == BUILD

/-- LMO_CODE: the code at output n (R245, R251, R252). -/
def State.lmoCode (s : State) (n : Nat) : Nat :=
  let clear := s.rd (Reg.lmoClearCode n)
  if s.mode.clearLmLow then clear else
    match s.lmoLaser n with
    | none => clear
    | some l => if s.laserHeld l || !s.laserBuilds l then clear else (s.laser l).value

/-- Output n is high impedance: reset, INIT, or its driver switched off (R238, R256). -/
def State.lmoHighZ (s : State) (n : Nat) : Bool := s.mode.inReset || s.modeCode == INIT || s.logicTest || (s.laser n).off

/-- LMO_STATUS of output n (R260). -/
def State.lmoStatus (s : State) (n : Nat) : Nat :=
  let x := s.laser n
  bit x.overTemp + 2 * bit x.ilim + 4 * bit x.off + 8 * bit s.mode.clearLmLow

/-- Gate pin n drives its active level (R238, R245, R257). -/
def State.gateActive (s : State) (n : Nat) : Bool :=
  match s.gateLaser n with
  | none => false
  | some l => s.laserBuilds l && (s.laser l).gate && !s.laserHeld l

/-- The electrical level of gate pin n; none is high impedance (R257). -/
def State.gateLevel (s : State) (n : Nat) : Option Bool :=
  if s.mode.inReset || s.modeCode == INIT || s.logicTest then none
  else some (s.gateActive n != bitAt (s.rd (Reg.lgPolarity n)) 0)

/-! ### Actions of a laser (R313, R252 to R254) -/

/-- Acts one action of laser L at the present LT. -/
def State.actLaser (s : State) (l : Nat) (x : Action) : State :=
  match x.kind with
  | .gateOpen =>
    s.modLaser l fun y =>
      { y with gate := true, value := x.value.getD y.value
               hold := y.hold && (s.mode.clearLmLow || s.laserLatched l) }
  | .gateClose => s.modLaser l fun y => { y with gate := false, value := 0, play := none, closeLt := some x.lt }
  | .lmoWrite => s.modLaser l fun y => if y.closeLt = some x.lt then y else { y with value := x.value.getD y.value }
  | .profileStart =>
    s.modLaser l fun y => { y with play := some { profile := x.profile, scale := x.scale, start := x.lt, next := 0 } }

/-- Number that stands for an action kind. -/
def ActKind.num : ActKind → Nat
  | .gateOpen => 0 | .gateClose => 1 | .lmoWrite => 2 | .profileStart => 3

/-- An action of a pin: opening or closing the gate. -/
def ActKind.onGate : ActKind → Bool
  | .gateOpen | .gateClose => true
  | _ => false

/-- Whole ns between two LT, the second minus the first. -/
def lateNs (due now : Lt) : Nat := (now - due) / 2 ^ 32

/-- Inserts an action behind those whose LT is not later. -/
def insertAct (x : Action) : List Action → List Action
  | [] => [x]
  | y :: l => if y.lt ≤ x.lt then y :: insertAct x l else x :: y :: l

/-- Gate actions less than 2.0 ns apart execute as one: the later one, or the close at equal LT (R315). -/
def mergeGate : List Action → List Action × Nat
  | [] => ([], 0)
  | x :: l =>
    let (r, n) := mergeGate l
    if x.kind.onGate then
      match r.find? (fun y => y.kind.onGate) with
      | some y =>
        if y.lt - x.lt < ns 2 then
          if y.lt = x.lt ∧ x.kind = .gateClose then (x :: r.filter (fun z => z != y), n + 1)
          else (r, n + 1)
        else (x :: r, n)
      | none => (x :: r, n)
    else (x :: r, n)

/-- Entries of the scheduler that are pending: of the laser shares, the camera shares (a trigger that has not risen takes two,
one that has risen its release) and the host's (R312, R325). -/
def State.pendingActs (s : State) : Nat :=
  let cams := Num.sumI (s.vision.cams.toList.map fun (c : Cam) => ((min 2 (2 * bit c.next.isSome + bit c.high.isSome) : Nat) : Int))
  (List.range 16).foldl (fun n l => n + min 12 (s.laser l).acts.length) (s.hostEntries.length + cams.toNat)

/-- PEAK_PENDING follows the number of pending entries (R325). -/
def State.notePending (s : State) : State := s.wr Reg.peakPending (max (s.rd Reg.peakPending) s.pendingActs)

/-- An action writes its laser's output: a close writes 0, a playback its first sample, an open or a write its value if it
has one (R225, R253, R254). -/
def State.actWrites (s : State) (y : Action) : Bool :=
  match y.kind with
  | .gateClose => true
  | .profileStart => decide (0 < s.rd (Reg.profileLen y.profile))
  | .gateOpen | .lmoWrite => y.value.isSome

/-- Instant of the next sample of a playback (R254). -/
def State.sampleAt (s : State) (p : Playback) : Lt := p.start + ns (100 * s.rd (Reg.profileInterval p.profile) * p.next)

/-- Of the actions and the playback given, one writes the output less than 100 ns after `at_`: a write at `at_` is then not
seen (R251). -/
def State.writesSoon (s : State) (acts : List Action) (play : Option Playback) (at_ : Lt) : Bool :=
  acts.any (fun y => s.actWrites y && decide (at_ < y.lt) && decide (y.lt < at_ + ns 100)) ||
    match play with
    | none => false
    | some p => decide (p.next < s.rd (Reg.profileLen p.profile)) && decide (at_ < s.sampleAt p) && decide (s.sampleAt p < at_ + ns 100)

/-- An action that reached the scheduler after its LT (R316). -/
def State.lateAction (s : State) (l : Nat) (x : Action) : State :=
  let late := lateNs x.lt s.lt
  let must := x.kind == .gateClose || (x.kind == .lmoWrite && x.value == some 0)
  if s.lt ≤ x.lt + ns (s.rd Reg.lateLimit) || must then
    let s := (s.bump 32 Reg.lateCount).wr Reg.lastLateness (min late (2 ^ 32 - 1))
    let s := s.raise 0x3810 cLASER l (dU 1 (Config.actionCode x.kind.num) ++ dI 4 late)
    -- a write less than 100 ns before a later one is not seen (R251)
    let later := s.writesSoon (s.laser l).acts (if x.kind = .gateClose then none else (s.laser l).play) s.lt
    let kept := (s.laser l).value
    let s := s.actLaser l { x with lt := s.lt }
    if later then s.modLaser l fun y => { y with value := kept } else s
  else
    let s := s.bump 32 Reg.refusedCount
    s.raise 0x3812 cLASER l (dU 1 (Config.actionCode x.kind.num) ++ dI 4 late)

/-- Enters actions of laser L; those whose LT has passed are handled by their lateness (R316). -/
def State.enterActs (s : State) (l : Nat) (xs : List Action) : State :=
  xs.foldl (init := s) fun s x =>
    if x.lt < s.lt then s.lateAction l x
    else
      let m := mergeGate (insertAct x (s.laser l).acts)
      let s := s.modLaser l fun y => { y with acts := m.1 }
      let s := if m.2 = 0 then s else s.wr Reg.mergeCount (min (s.rd Reg.mergeCount + m.2) (2 ^ 32 - 1))
      s.notePending

/-- R317: with all its planned actions, a laser's share of 12 entries can be filled in time. -/
def shareFits (tns : Nat) (acts : List Action) : Bool :=
  (List.range (acts.length - 12)).all fun i =>
    match acts[i]?, acts[i + 12]? with
    | some x, some y => decide (x.lt ≤ y.lt / ns tns * ns tns)
    | _, _ => true

/-- GATE_OPEN, GATE_CLOSE, LMO_WRITE and PROFILE_START: laser L's next action executes at its LT if it is of that kind. -/
def State.execAction (s : State) (l : Nat) (k : ActKind) : State :=
  match (s.laser l).acts with
  | [] => s
  | x :: rest =>
    if x.kind = k then
      let s := s.goTo x.lt
      -- a write less than 100 ns before a later one is not seen (R251); a close ends the playback
      let later := s.writesSoon rest (if k = .gateClose then none else (s.laser l).play) x.lt
      let kept := (s.laser l).value
      let s := s.modLaser l fun y => { y with acts := rest }
      let s := s.actLaser l x
      if later then s.modLaser l fun y => { y with value := kept } else s
    else s

/-- Sample i of the profile store (R254). -/
def State.profileSample (s : State) (i : Nat) : Nat := ofLeBytes (memReadBytes zeroByte s.profiles (2 * i) 2)

/-- PROFILE_SAMPLE: the playback engine of laser L writes its next sample at its instant (R254). -/
def State.playSample (s : State) (l : Nat) : State :=
  match (s.laser l).play with
  | none => s
  | some p =>
    let len := s.rd (Reg.profileLen p.profile)
    if p.next ≥ len then s.modLaser l fun y => { y with play := none } else
      let at_ := s.sampleAt p
      let v := (Num.rdiv ((s.profileSample (s.rd (Reg.profileStart p.profile) + p.next) : Int) * p.scale) 65536).toNat
      let s := s.goTo at_
      let later := s.writesSoon (s.laser l).acts none at_
      s.modLaser l fun y =>
        { y with
          value := if later ∨ y.closeLt = some at_ then y.value else min v 65535
          play := if p.next + 1 ≥ len then none else some { p with next := p.next + 1 } }

/-! ### Clear pins on the lasers (R245) -/

/-- CLEAR_LM_N has fallen: every gate goes inactive and every output to its clear code, until the next open edge. -/
def State.clearLasers (s : State) : State := each 16 s fun s l => s.modLaser l fun x => { x with hold := true }

/-- Laser L becomes DARK and stays cleared until its next open edge (R407, R418). -/
def State.darken (s : State) (l : Nat) : State := s.modLaser l fun x => { x with hold := true }

/-! ### Codes of the axis outputs (R234 to R243) -/

/-- CLEAR_CODE of AXIS_a. -/
def State.clearCode (s : State) (a : Nat) : Int := s.rdS 32 (Reg.clearCode a)

/-- TEST drives AXIS_a with TEST_AXO_CODE (R456). -/
def State.testDriven (s : State) (a : Nat) : Bool :=
  s.modeCode == TEST && s.rd Reg.testAxoSel == a && s.test.running.isNone

/-- AXO_CODE: the code at the pins of AXIS_a (R237, R243, R456). -/
def State.axoCodeNow (s : State) (a : Nat) : Int :=
  if s.mode.clearAxLow then s.clearCode a
  else if s.testDriven a then s.rdS 32 Reg.testAxoCode
  else (s.axis a).axo.code

/-- The code at the pins of AXIS_a is remembered for the envelope of R247. -/
def State.noteCode (s : State) (a : Nat) : State :=
  s.modAxo a fun x => { x with codes := ((s.lt, s.axoCodeNow a) :: x.codes).take 8 }

/-- The output of AXIS_a takes a code. -/
def State.setCode (s : State) (a : Nat) (c : Int) : State := (s.modAxo a fun x => { x with code := c }).noteCode a

/-- The code at the pins of the output named in TEST_AXO_SEL may have changed with the test. -/
def State.noteTest (s : State) : State :=
  let a := s.rd Reg.testAxoSel
  if a < 48 then s.noteCode a else s

/-- AXO_STATUS of AXIS_a (R259). -/
def State.axoStatus (s : State) (a : Nat) : Nat :=
  let x := (s.axis a).axo
  bit (x.highZ || s.logicTest) + 2 * bit (x.rangePhase != 0) + 4 * bit s.mode.clearAxLow + 8 * bit x.rbFault

/-- The law of AXIS_a stops at a boundary: a fade completes, and the output goes to CLEAR_CODE (R193, R237). -/
def State.stopLaw (s : State) (a : Nat) : State :=
  if (s.axis a).law.run = .stopped then s else
    let fading := (s.axis a).law.incoming.isSome
    let s := s.modLaw a fun l => { l.completeFade with run := .stopped, preset := false, presetIn := false }
    let s := s.raiseIf fading 0x3411 cAXIS a (dU 4 (bankCrc (s.axis a).law.active))
    let s := s.modAxis a fun x => { x with weir := { x.weir with init := false, brake := none } }
    let s := if (s.axis a).axo.highZ then s else s.setCode a (s.clearCode a)
    s.wrField (Reg.lawStatus a) 1 1 0

/-- The law of AXIS_a starts at a boundary, from the code in force (R193, R208); with `braking` on its braking target
(R210). -/
def State.startLaw (s : State) (a : Nat) (braking : Bool) : State :=
  if (s.axis a).law.run = .stopped then
    let s := s.modLaw a fun l => { l with run := if braking then .braking else .live, preset := true }
    let s := s.modAxis a fun x => { x with weir := { x.weir with init := false, brake := none } }
    s.wrField (Reg.lawStatus a) 1 1 1
  else if braking then
    if (s.axis a).law.run = .braking then s
    else s.modAxis a fun x => { x with law := { x.law with run := .braking }, weir := { x.weir with brake := none } }
  else s.modAxis a fun x => { x with law := { x.law with run := .live }, weir := { x.weir with brake := none } }

end Sys2Proof.Machine
end

