-- ==== Sys2Proof/Machine/Stream.lean ====
section
/-! DEFINITION. Layers and scan streams: segment records, the interpolator, gate and power planning, stops and resumes
(chapter 08), with the melt-pool and autofocus offsets that enter the set-points (chapter 13). -/

namespace Sys2Proof.Machine

/-! ### Segment records (R216 to R218) -/

/-- An unsigned field of a record. -/
def recU (b : List Nat) (o n : Nat) : Nat := ofLeBytes ((b.drop o).take n)

/-- A signed 32-bit field of a record. -/
def recI (b : List Nat) (o : Nat) : Int := toSigned 32 (recU b o 4)

/-- TYPE of a record. -/
abbrev recType (b : List Nat) : Nat := recU b 0 1
/-- FLAGS of a record. -/
abbrev recFlags (b : List Nat) : Nat := recU b 1 1

/-- The flags a type may set, and the payload bytes it uses as (first, count) pairs (R217). -/
def recShape : Nat → Option (Nat × List (Nat × Nat))
  | 1 => some (3, [(4, 18)])
  | 2 => some (3, [(4, 20)])
  | 3 => some (4, [(4, 6)])
  | 4 => some (0, [(4, 10)])
  | 5 => some (0, [(4, 1), (6, 6)])
  | 6 => some (9, [(12, 8)])
  | 7 => some (0, [])
  | _ => none

/-- The end point of a record from its start point (R217). -/
def recEnd (b : List Nat) (p0 : Pt) : Pt :=
  match recType b with
  | 1 | 2 => { x := recI b 4, y := recI b 8, z := if bitAt (recFlags b) 1 then p0.z else recI b 12 }
  | 6 => { p0 with z := recI b 12 }
  | _ => p0

/-- The square of L of a movement, in 2^-62: of the field distance, or of the focus distance where that is 0 (R219). -/
def pathLenSq (p0 p1 : Pt) : Nat :=
  let d2 : Nat := ((p1.x - p0.x) * (p1.x - p0.x) + (p1.y - p0.y) * (p1.y - p0.y)).toNat
  if d2 = 0 then (p1.z - p0.z).natAbs ^ 2 else d2

/-- Duration of L at SPEED in 0.25 ns: L / SPEED, rounded from its exact value (R219). The root of 4 L² is taken down to an
integer, which is twice the duration, rounded down. -/
def moveQuarters (lenSq speed : Nat) : Nat :=
  if speed = 0 then 0 else (Num.isqrt (4 * lenSq * 4000000000 ^ 2 / (speed * 2 ^ 11) ^ 2) + 1) / 2

/-- A record is bad at its place in the stream (R218). -/
def recBad (b : List Nat) (s : Nat) (p0 : Pt) : Bool :=
  match recShape (recType b) with
  | none => true
  | some (fl, used) =>
    let free (i : Nat) : Bool := used.any fun u => decide (u.1 ≤ i) && decide (i < u.1 + u.2)
    decide (recU b 2 2 ≠ s % 65536) || decide (recU b 28 4 ≠ crc32 (b.take 28)) ||
      decide (recFlags b % 256 ≠ Nat.land (recFlags b) fl) ||
      (List.range 24).any (fun i => !free (4 + i) && b.getD (4 + i) 0 != 0) ||
      (recType b == 4 && decide (recU b 10 4 ≥ 1000000000)) ||
      (recType b == 5 && decide (64 ≤ recU b 4 1) && decide (recU b 4 1 ≤ 0xFE)) ||
      ((recType b == 1 || recType b == 2 || recType b == 6) && !bitAt (recFlags b) 0 && recU b 16 4 == 0 &&
        decide (recEnd b p0 ≠ p0))

/-- A number of 0.25 ns as LT. -/
abbrev quarters (n : Nat) : Lt := n * 2 ^ 30

/-- A good record at its place in time (R219). -/
def decodeSeg (b : List Nat) (s : Nat) (p0 : Pt) (t0 : Lt) : Seg :=
  let p1 := recEnd b p0
  let move : Lt := if bitAt (recFlags b) 0 then ns (recU b 16 4) else quarters (moveQuarters (pathLenSq p0 p1) (recU b 16 4))
  match recType b with
  | 1 => { s := s, ty := 1, p0 := p0, p1 := p1, t0 := t0, t1 := t0 + move, t2 := t0 + move }
  | 2 => { s := s, ty := 2, p0 := p0, p1 := p1, t0 := t0, t1 := t0 + move, t2 := t0 + move + ns (recU b 20 4) }
  | 3 => { s := s, ty := 3, p0 := p0, p1 := p1, t0 := t0, t1 := t0, t2 := t0 + ns (recU b 4 4) }
  | 4 =>
    let due := ns (recU b 4 6 * 1000000000 + recU b 10 4)
    { s := s, ty := 4, p0 := p0, p1 := p1, t0 := t0, t1 := t0, t2 := max t0 due,
      late := if due < t0 then some (lateNs due t0) else none }
  | 6 => { s := s, ty := 6, p0 := p0, p1 := p1, t0 := t0, t1 := t0 + move, t2 := t0 + move,
           search := bitAt (recFlags b) 3 }
  | ty => { s := s, ty := ty, p0 := p0, p1 := p1, t0 := t0, t1 := t0, t2 := t0 }

/-! ### The field point and the axis set-points (R220 to R222) -/

/-- The point of a segment at an instant (R220). -/
def Seg.at (x : Seg) (t : Lt) : Pt :=
  if t ≥ x.t1 ∨ x.t1 ≤ x.t0 then x.p1 else if t ≤ x.t0 then x.p0 else
    let f (u v : Int) : Int := u + Num.rdiv ((v - u) * ((t - x.t0 : Nat) : Int)) ((x.t1 - x.t0 : Nat) : Int)
    { x := f x.p0.x x.p1.x, y := f x.p0.y x.p1.y, z := f x.p0.z x.p1.z }

/-- The segment in hand at an instant: the latest that has started. -/
def Stream.segAt (m : Stream) (t : Lt) : Option Seg := (m.segs.filter fun x => decide (x.t0 ≤ t)).getLast?

/-- The field point of a stream at an instant. -/
def Stream.pointAt (m : Stream) (t : Lt) : Pt :=
  match m.segAt t with
  | some x => x.at t
  | none => match m.segs.head? with
    | some x => x.p0
    | none => m.lastEnd

/-- The four weights of the kernel at t, a fraction in 2^-24; the weights are in 2^-73 (R222). -/
def cubicW (t : Int) : List Int :=
  let o : Int := 2 ^ 24
  [-(t * t * t) + 2 * o * t * t - o * o * t, 3 * t * t * t - 5 * o * t * t + 2 * o * o * o,
   -3 * t * t * t + 4 * o * t * t + o * o * t, t * t * t - o * t * t]

/-- Address of node (i, j) of a grid (R222). -/
def gridNode (base i j : Nat) : Nat := base + 8 * (257 * j + i)

/-- One component of the grid correction at (x, y); `off` is 0 for dx and 4 for dy (R222). -/
def State.gridAt (s : State) (base off : Nat) (x y : Int) : Int :=
  let ux := x + 2 ^ 31
  let uy := y + 2 ^ 31
  let i := ux / 2 ^ 24
  let j := uy / 2 ^ 24
  let wx := cubicW (ux % 2 ^ 24)
  let wy := cubicW (uy % 2 ^ 24)
  let node (a b : Int) : Int :=
    toSigned 32 (ofLeBytes (memReadBytes zeroByte s.dram
      (gridNode base (Num.clampI 0 256 a).toNat (Num.clampI 0 256 b).toNat + off) 4))
  let sum := Num.sumI ((List.range 4).flatMap fun m => (List.range 4).map fun k =>
    wx.getD m 0 * wy.getD k 0 * node (i - 1 + m) (j - 1 + k))
  Num.rshift sum 146

/-- The bursts that hold the nodes fetched for laser L's point at an instant (R222). -/
def State.gridBursts (s : State) (l : Nat) (t : Lt) : List Nat :=
  let p := (s.laser l).stream.pointAt t
  let i := (p.x + 2 ^ 31) / 2 ^ 24
  let j := (p.y + 2 ^ 31) / 2 ^ 24
  (List.range 4).flatMap fun (m : Nat) => (List.range 4).map fun (k : Nat) =>
    gridNode (s.rd (Reg.gridBase l)) (Num.clampI 0 256 (i - 1 + (m : Int))).toNat (Num.clampI 0 256 (j - 1 + (k : Int))).toNat / 64

/-- The set-points of X, Y and Z for a field point under the offsets given, 2^-32 turn (R221). -/
def State.fieldToAxes (s : State) (l : Nat) (p : Pt) (corr : Int × Int) : List Int :=
  let grid := bitAt (s.rd (Reg.gridEnable l)) 0
  let base := s.rd (Reg.gridBase l)
  let x0 := if grid then Num.satI 32 (p.x + s.gridAt base 0 p.x p.y) else p.x
  let y0 := if grid then Num.satI 32 (p.y + s.gridAt base 4 p.x p.y) else p.y
  let x := Num.satI 32 (x0 + corr.1)
  let y := Num.satI 32 (y0 + corr.2)
  let z := Num.satI 32 (p.z + Num.rshift (s.rdS 32 (Reg.focusCurv l) * (x * x + y * y)) 62 + s.rdS 32 (Reg.afOffset l))
  let th (i : Nat) (v : Int) : Int :=
    Num.satI 32 (s.rdS 32 (Reg.fieldOffset l i) + Num.rshift (s.rdS 32 (Reg.fieldScale l i) * v) 31)
  [th 0 x, th 1 y, th 2 z]

/-- Set-points and velocities (2^-12 turn/s) of X, Y and Z for the boundary at `t`, in pairs (R221). -/
def State.setpointsAt (s : State) (l : Nat) (t : Lt) : List Int :=
  let m := (s.laser l).stream
  let corr := (s.laser l).corr
  let tns := s.loopNs (l / 2)
  let a := s.fieldToAxes l (m.pointAt t) corr
  let b := s.fieldToAxes l (m.pointAt (t + ns tns)) corr
  (List.range 3).flatMap fun i =>
    let x := a.getD i 0
    [x, Num.satI 32 (Num.rdiv ((b.getD i 0 - x) * 10 ^ 9) (2 ^ 20 * (tns : Int)))]

/-- Set-points at rest: the velocities become 0. -/
def atRest (l : List Int) : List Int := [l.getD 0 0, 0, l.getD 2 0, 0, l.getD 4 0, 0]

/-! ### Gate and power planning (R224, R225, R317) -/

/-- An LT moved by a signed number of ns; never below 0. -/
def shiftNs (t : Lt) (d : Int) : Lt := ((t : Int) + d * 2 ^ 32).toNat

/-- The planned actions of a laser once a segment's actions have joined them (R224, R225). -/
def State.planActs (s : State) (l : Nat) (x : Seg) (b : List Nat) : List Action :=
  let acts := (s.laser l).acts
  let gated := x.ty = 1 ∨ (x.ty = 3 ∧ bitAt (recFlags b) 2)
  if gated then
    let on := s.rdS 32 (Reg.gateOnDelay l)
    let off := s.rdS 32 (Reg.gateOffDelay l)
    let prof := (s.laser l).stream.profile
    let power : Option Nat := if prof.isSome then none else some (if x.ty = 1 then recU b 20 2 else recU b 8 2)
    let topen := shiftNs x.t0 on
    let close : Action := { lt := shiftNs x.t2 off, kind := .gateClose, seg := x.s }
    let lastClose := (acts.filter fun y => y.kind == .gateClose).getLast?
    let opened : List Action :=
      match lastClose with
      | some c =>
        if c.lt ≥ topen then
          let rest := acts.filter fun y => y != c
          -- POWER at the start of a MARK alone (R225)
          match power, x.ty with
          | some v, 1 => insertAct { lt := topen, kind := .lmoWrite, value := some v, seg := x.s } rest
          | _, _ => rest
        else insertAct { lt := topen, kind := .gateOpen, value := power, seg := x.s } acts
      | none => insertAct { lt := topen, kind := .gateOpen, value := power, seg := x.s } acts
    let playing : List Action :=
      match prof, x.ty with
      | some (p, sc, d), 1 =>
        insertAct { lt := shiftNs x.t0 (on + d), kind := .profileStart, seg := x.s, profile := p, scale := sc } opened
      | _, _ => opened
    insertAct close playing
  else acts

/-- Puts a plan in force: actions that are new are entered by R316 and R315, dropped ones leave the share. -/
def State.usePlan (s : State) (l : Nat) (plan : List Action) : State :=
  let old := (s.laser l).acts
  let s := s.modLaser l fun y => { y with acts := old.filter fun x => plan.contains x }
  s.enterActs l (plan.filter fun x => !old.contains x)

/-- Whether the gate will be open once the planned actions have executed. -/
def State.gateEndsOpen (s : State) (l : Nat) : Bool :=
  match ((s.laser l).acts.filter fun x => x.kind.onGate).getLast? with
  | some x => x.kind == .gateOpen
  | none => (s.laser l).gate

/-! ### Progress and stops (R226 to R228, R318) -/

/-- The first segment that may not execute, and its reason: the lowest a fault names (R228). -/
def Stream.stopAt (m : Stream) : Option Stop :=
  m.stops.foldl (init := none) fun (r : Option Stop) x =>
    match r with
    | none => some x
    | some y => if x.seg < y.seg then some x else some y

/-- Whether the gate closes by a planned action after what is open or playing now. -/
def State.closePlanned (s : State) (l : Nat) : Bool := (s.laser l).acts.any fun x => x.kind == .gateClose

/-- A stop before segment `seg` at `t`: the close edge that a merged join has dropped is restored there, which also ends a
playback begun for a segment that does not execute (R228, R254). -/
def State.closeForStop (s : State) (l seg : Nat) (t : Lt) : State :=
  if s.gateEndsOpen l || (s.laser l).play.isSome && !s.closePlanned l then
    s.enterActs l [{ lt := max s.lt t, kind := .gateClose, seg := seg - 1 }]
  else s

/-- A fault or command stop is found: what was decoded from its segment on is withdrawn, with the profile it selected (R225,
R228, R318). -/
def State.addStop (s : State) (l seg reason : Nat) : State :=
  let s := s.modStream l fun m => { m with stops := m.stops ++ [{ seg := seg, reason := reason }] }
  let m := (s.laser l).stream
  -- the approach of a resume, of TYPE 0, is not the segment it leads to (R230)
  match m.segs.find? fun x => decide (x.s ≥ seg) && x.ty != 0 with
  | none => s
  | some x =>
    let keep := m.segs.filter fun y => decide (y.s < seg) || y.ty == 0
    let acts := (s.laser l).acts
    let gone := acts.filter fun y => decide (y.seg ≥ seg)
    let s := s.modLaser l fun y =>
      { y with
        acts := acts.filter fun z => decide (z.seg < seg)
        stream := { m with segs := keep, decodeNext := seg, lastEnd := x.p0, lastTime := x.t0, ended := false, profile := x.prof,
                           withdrawn := m.withdrawn + gone.length } }
    s.closeForStop l seg x.t0

/-- An autofocus search ends without a result: the offset returns to z_0 (R371). -/
def State.afAbandon (s : State) (l cause : Nat) : State :=
  match (s.laser l).search with
  | none => s
  | some x =>
    let s := s.modLaser l fun y => { y with search := none }
    let s := (s.wrS 32 (Reg.afOffset l) x.z0).wr (Reg.afState l) 0
    s.raise 0x3A0A cLASER l (dU 1 cause)

/-- Target and offset in force of the melt-pool correction become 0 (R370). -/
def State.corrZero (s : State) (l : Nat) : State :=
  let s := s.modLaser l fun y => { y with corr := (0, 0), corrNow := (0, 0), corrTarget := (0, 0) }
  (s.wr (Reg.corrDx l) 0).wr (Reg.corrDy l) 0

/-- A search starts with a FOCUS segment, at `t` (R371). -/
def State.afStart (s : State) (l : Nat) (t : Lt) : State :=
  let c := s.rd (Reg.afCamera l)
  let pin := if c < 32 then s.rd (Reg.camPin c) else 0xFF
  let lead := if pin < 16 then some c else if 0x80 ≤ pin ∧ pin < 0xA0 then some (pin - 0x80) else none
  match lead, (s.laser l).search with
  | some k, none =>
    if s.rd (Reg.camLaser k) = l then
      let z0 := s.rdS 32 (Reg.afOffset l)
      let s := s.modLaser l fun y =>
        { y with search := some { camera := c, lead := k, z0 := z0, n := s.rd (Reg.afSteps l),
                                  step := s.rd (Reg.afStep l), settle := s.rd (Reg.afSettle l), started := t } }
      let s := s.wr (Reg.afState l) 1
      s.raiseFull (levelOf 0x3A08) 0x3A08 cLASER l (dI 4 z0) t []
    else s.raiseFull (levelOf 0x3A0A) 0x3A0A cLASER l (dU 1 1) t []
  | _, _ => s.raiseFull (levelOf 0x3A0A) 0x3A0A cLASER l (dU 1 1) t []

/-- The segments that have begun or ended by `t` (R226). -/
def State.streamProgress (s : State) (l : Nat) (t : Lt) : State :=
  let m := (s.laser l).stream
  let s := (m.segs.filter fun x => decide (x.t0 ≤ t) && !x.begun).foldl (init := s) fun s x =>
    let s := s.wr (Reg.segExec l) x.s
    let s := match x.late with
      | some d => s.raiseFull 1 0x3517 cLASER l (dU 4 x.s ++ dI 4 d) x.t0 []
      | none => s
    if x.search then s.afStart l x.t0 else s
  let m := (s.laser l).stream
  let done := m.segs.filter fun x => decide (x.t2 ≤ t)
  let s := s.wr (Reg.segDoneCount l) (min (s.rd (Reg.segDoneCount l) + (done.filter fun x => x.ty != 0).length) (2 ^ 32 - 1))
  let s := s.modStream l fun m =>
    { m with segs := (m.segs.filter fun x => !decide (x.t2 ≤ t)).map fun x =>
               if x.t0 ≤ t then { x with begun := true } else x }
  match done.find? fun x => x.ty == 7 with
  | some x =>
    let s := s.modLaser l fun y =>
      { y with gate := false, value := 0, play := none, stream := { y.stream with finished := true } }
    let s := s.wr (Reg.streamState l) 3
    s.raiseFull 0 0x3512 cLASER l (dU 4 (s.rd (Reg.segDoneCount l))) x.t2 []
  | none => s

/-- A RESUME waits for its records to go back into a segment that had begun (R228, R230). -/
def Stream.backWithin (m : Stream) : Bool := m.resumeSeg.isSome && m.approach

/-- The stream of laser L has stopped at `t` (R228); `partly` says that STOP_SEG had begun. Every fault found is logged, in
detection order. -/
def State.streamStopped (s : State) (l : Nat) (x : Stop) (t : Lt) (partly : Bool) : State :=
  let m := (s.laser l).stream
  let s := ((((s.wr (Reg.streamState l) 2).wr (Reg.stopSeg l) x.seg).wr (Reg.stopReason l) x.reason).wr
    (Reg.stopPartial l) (bit partly)).wr (Reg.stopLt l) (time80 t)
  let s := s.modStream l fun m =>
    { m with segs := [], staging := [], fetching := none, stops := [], hostStop := false, withdrawn := 0, ended := false,
             decodeNext := x.seg, resumeSeg := none, frozen := m.frozen || partly,
             stopPt := if m.frozen then m.stopPt else m.lastEnd }
  let s := (s.corrZero l).afAbandon l 3
  m.stops.foldl (init := s) fun s y =>
    let fault := y.reason != 6 && y.reason != 7
    s.raiseFull (if fault then 3 else 0) (if fault then 0x3513 else 0x3514) cLASER l
      (dU 4 y.seg ++ dU 1 y.reason ++ dU 1 (bit (partly && y.seg == x.seg)) ++ dU 1 m.withdrawn) t []

/-- A stop before its segment falls due at the end of the segment before it (R228). -/
def State.stopIfDue (s : State) (l : Nat) (t : Lt) : State :=
  let m := (s.laser l).stream
  match m.stopAt with
  | none => s
  | some x =>
    if m.decodeNext ≥ x.seg ∧ m.segs.isEmpty ∧ m.lastTime ≤ t then
      (s.closeForStop l x.seg m.lastTime).streamStopped l x m.lastTime (m.backWithin && m.resumeSeg == some x.seg)
    else s

/-- The stream stops within its segment at `t`, now or at the boundary whose set-point cannot be formed (R228): the segments
that end by then complete, what lies after is withdrawn and the gate closes there. The axes hold the last point formed. A stream
that executes its LAYER_END by then does not stop. -/
def State.stopWithin (s : State) (l reason : Nat) (t : Lt) : State :=
  if s.rd (Reg.streamState l) ≠ 1 then s
  else if s.lt < t ∧ (s.laser l).stream.segs.any (fun x => x.ty == 7 && decide (x.t2 ≤ t)) then s
  else
    let s := s.streamProgress l t
    if s.rd (Reg.streamState l) ≠ 1 then s else
    let m := (s.laser l).stream
    let seg := match m.segs.head? with | some x => x.s | none => m.decodeNext
    let partly := match m.segs.head? with | some x => x.ty == 0 || decide (x.t0 < t) | none => m.backWithin
    let acts := (s.laser l).acts
    let keep := acts.filter fun y => decide (y.lt < t)
    let s := s.modLaser l fun y =>
      { y with
        acts := keep
        stream := { m with stops := m.stops ++ [{ seg := seg, reason := reason }],
                           profile := match m.segs.head? with
                             | some x => x.prof
                             | none => m.profile,
                           lastEnd := m.point, lastTime := t, frozen := true,
                           stopPt := match m.segs.head? with
                             | some x => if x.ty = 0 then x.p1 else x.p0
                             | none => if m.resumeSeg.isSome then m.stopPt else m.lastEnd,
                           withdrawn := m.withdrawn + (acts.length - keep.length) } }
    let s :=
      if t ≤ s.lt then
        s.modLaser l fun y => { y with gate := false, value := 0, play := none }
      else if s.gateEndsOpen l || !keep.isEmpty || (s.laser l).gate || (s.laser l).play.isSome then
        s.enterActs l [{ lt := t, kind := .gateClose, seg := seg }]
      else s
    -- a fault found for this very segment keeps its reason
    let stop := ((s.laser l).stream.stopAt).getD { seg := seg, reason := reason }
    s.streamStopped l stop t partly

/-! ### Fetching and decoding (R214, R229, R383, R394) -/

/-- Requests refill where 768 or more records are free; a stopped or ended stream requests nothing. -/
def State.refill (s : State) (l : Nat) : State :=
  let m := (s.laser l).stream
  if m.fetching.isSome || m.ended || m.finished || !m.stops.isEmpty then s else
    let free := 1536 - m.staging.length
    let n := min free (m.len - m.fetchNext)
    if free ≥ 768 ∧ 0 < n then
      s.modStream l fun m => { m with fetching := some (m.fetchNext, n, s.lt) }
    else s

/-- Address of record s of laser L's stream (R212). -/
def State.recordAddr (s : State) (l i : Nat) : Nat :=
  let m := (s.laser l).stream
  (if m.buffer = 0 then s.rd Reg.layerBufBase0 else s.rd Reg.layerBufBase1) + 32 * (m.base + i)

/-- How long before the start of a segment its earliest action may lie: the gate delay, and with profiles of the given offsets
those too (R17, R224, R225). -/
def State.actionLead (s : State) (l : Nat) (offsets : List Int) : Lt :=
  let on := s.rdS 32 (Reg.gateOnDelay l)
  ns (-(offsets.foldl (fun e d => min e (on + d)) on)).toNat

/-- The offset of the profile in force, and those of the profiles that staged records will put in force (R225). -/
def Stream.offset (m : Stream) : List Int := (m.profile.map fun (x : Nat × Nat × Int) => x.2.2).toList
def Stream.nextOffsets (m : Stream) : List Int :=
  (m.staging.filter fun (r : Nat × List Nat) => decide (m.decodeNext ≤ r.1) && recType r.2 == 5 && recU r.2 4 1 != 0xFF).map fun r => recI r.2 8

/-- Decodes the next record if it is staged and its segment begins soon enough after `base`, the end of the next loop period:
within the delays of ±100 µs that R224 allows for, or within the lead of its actions where that is longer, those included that a
staged profile brings. A record that is not staged when the actions of its segment have to be entered starves the stream, and one
whose actions find no room by then stops it (R17, R228). The Boolean says whether decoding goes on. -/
def State.decodeNext (s : State) (l : Nat) (base : Lt) : State × Bool :=
  let m := (s.laser l).stream
  let must := base + s.actionLead l m.offset
  let need := max (base + ns 100000) must
  let horizon := max need (base + s.actionLead l m.nextOffsets)
  let barred := match m.stopAt with | some x => decide (m.decodeNext ≥ x.seg) | none => false
  if m.ended || barred || decide (m.lastTime ≥ horizon) then (s, false)
  else if m.decodeNext ≥ m.len then (s.addStop l m.len 5, false)
  else match m.staging.find? fun r => r.1 == m.decodeNext with
    | none => if m.lastTime ≤ must then (s.addStop l m.decodeNext 4, false) else (s, false)
    | some (i, b) =>
      if recBad b i m.lastEnd then (s.addStop l i 3, false) else
        let x := { decodeSeg b i m.lastEnd m.lastTime with prof := m.profile }
        let s1 := if x.ty = 5 then
            s.modStream l fun m =>
              { m with profile := if recU b 4 1 = 0xFF then none else some (recU b 4 1, recU b 6 2, recI b 8) }
          else s
        let plan := s1.planActs l x b
        if shareFits (s.loopNs (l / 2)) plan then
          let s2 := s1.usePlan l plan
          (s2.modStream l fun m =>
            { m with segs := m.segs ++ [x], decodeNext := i + 1, lastEnd := x.p1, lastTime := x.t2,
                     ended := x.ty == 7, staging := m.staging.filter fun r => decide (r.1 > i) }, x.ty != 7)
        else if m.lastTime < need then (s.addStop l i 8, false)
        else (s, false)

/-- Decodes as many records as the horizon asks for. -/
def State.decodeMany (s : State) (l : Nat) (base : Lt) : Nat → State
  | 0 => s
  | n + 1 =>
    let r := s.decodeNext l base
    if r.2 then State.decodeMany r.1 l base n else r.1

/-! ### Layers (R213 to R215) -/

/-- The lasers that take part in the layer and have not finished it. -/
def State.layerOpen (s : State) : Bool := (List.range 16).any fun l => !(s.laser l).stream.finished

/-- The stream status objects of laser L for a layer in which it has not run (R227, R232). -/
def State.streamFresh (s : State) (l : Nat) : State :=
  (((((s.wr (Reg.streamState l) 0).wr (Reg.segExec l) 0).wr (Reg.stopSeg l) 0).wr (Reg.stopReason l) 0).wr
    (Reg.stopPartial l) 0).wr (Reg.segDoneCount l) 0

/-- The stream of laser L is set up to start at its first LOOP boundary at or after 20 µs past `ref` and `want`, and requests its
records (R214). -/
def State.armStream (s : State) (l : Nat) (ref want : Lt) : State :=
  let n := s.rd (Reg.streamLen l)
  let t := ns (s.loopNs (l / 2))
  let first := Num.cdiv (max (ref + ns 20000) want) t * t
  let s := s.modLaser l fun y =>
    let m := y.stream
    { y with
      acts := []
      stream := { m with
        base := s.rd (Reg.streamStart l), len := n, buffer := s.rd Reg.layerBuffer, startAt := some first
        staging := [], fetchNext := 0, fetching := none, decodeNext := 0, segs := [], lastTime := first, stops := []
        hostStop := false, ended := false, profile := none, finished := n == 0, abandoned := false, resumeSeg := none
        frozen := false, withdrawn := 0, lastEnd := m.pointAt s.lt } }
  (s.streamFresh l).refill l

/-- The layer in use starts from its reference instant: every laser's stream is set up (R214). -/
def State.startLayer (s : State) (ref : Lt) : State :=
  let want := ofTime80 (s.rd Reg.layerStartLt)
  let s := s.modLayer fun x => { x with waiting := false, started := false }
  let s := each 16 s fun s l => s.armStream l ref want
  let s := s.wr Reg.layerState (if s.layerOpen then 1 else 0)
  if want ≠ 0 ∧ want < ref then
    s.raise 0x3516 cDEVICE 0 (dU 4 (s.rd Reg.layerNumber) ++ dI 4 (lateNs want ref))
  else s

/-- The layer in use waits for the next entry into BUILD (R215). -/
def State.layerWaits (s : State) : State :=
  let s := s.modLayer fun x => { x with waiting := true, started := false }
  (each 16 s fun s l =>
    (s.modStream l fun m =>
      { m with finished := true, startAt := none, segs := [], staging := [], fetching := none, stops := [] }).streamFresh l).wr
    Reg.layerState 1

/-- BUILD has been left: a layer of which no segment has begun waits again (R215; log entry 111). -/
def State.layerLeft (s : State) : State := if s.rd Reg.layerState = 1 ∧ !s.layer.waiting then s.layerWaits else s

/-- A staged LAYER_NUMBER has come into use, by a LAYER lockage or a write in CONFIGURE (R213, R215). -/
def State.layerInto (s : State) (old : Nat) : State :=
  let s := if s.rd Reg.layerState = 1 then
      s.raise 0x3518 cDEVICE 0 (dU 4 old ++ dU 4 (s.rd Reg.layerNumber))
    else s
  let s := s.wr Reg.layerInUse (s.rd Reg.layerNumber)
  let s := s.reform
  if s.modeCode = BUILD ∧ s.mode.transition.isNone then s.startLayer s.lt else s.layerWaits

/-- Laser L enters BUILD at its engine's boundary: its field point is at FIELD_HOME, its offsets and its output value are 0
(R220, R252, R370, R438). -/
def State.laserEntered (s : State) (l : Nat) : State :=
  let p : Pt := { x := s.rdS 32 (Reg.fieldHome l 0), y := s.rdS 32 (Reg.fieldHome l 1), z := s.rdS 32 (Reg.fieldHome l 2) }
  let s := s.corrZero l
  let s := s.modLaser l fun y =>
    { y with gate := false, value := 0, play := none, stream := { y.stream with point := p, lastEnd := p, frozen := false } }
  let sp := atRest (s.setpointsAt l s.lt)
  let s := s.modStream l fun m => { m with now := sp, cur := sp }
  -- the stream of a layer in progress that had not begun as BUILD was left starts anew (log entry 111)
  let m := (s.laser l).stream
  match m.startAt with
  | some first => if m.finished then s else s.armStream l s.lt first
  | none => s

/-- The MODE boundary of an entry into BUILD: a waiting layer starts (R215). -/
def State.layerAtBuild (s : State) : State := if s.layer.waiting then s.startLayer s.lt else s

/-- Laser L leaves BUILD: a running stream stops within its segment (R228, reason REACTION). -/
def State.laserLeft (s : State) (l : Nat) : State :=
  ((s.stopWithin l 7 s.lt).modLaser l fun y => { y with acts := [], gate := false, value := 0, play := none }).afAbandon l 3

/-- Every laser leaves BUILD at once (R411). -/
def State.buildLeft (s : State) : State := (each 16 s fun s l => s.laserLeft l).layerLeft

/-! ### Corrections and autofocus at a boundary (R369 to R371) -/

/-- The lead of camera c, or c itself; none while unassigned. -/
def State.leadOf (s : State) (c : Nat) : Option Nat :=
  let pin := if c < 32 then s.rd (Reg.camPin c) else 0xFF
  if pin < 16 then some c else if 0x80 ≤ pin ∧ pin < 0xA0 then some (pin - 0x80) else none

/-- Age of a frame of lead k: issued frames past it (R368). -/
def State.frameAge (s : State) (k f : Nat) : Nat := (s.rd (Reg.camFrameNext k) + 2 ^ 33 - 1 - f) % 2 ^ 32

/-- Of two candidates the winner: higher CAMERA_RANK, then the lower camera, then the later frame (R369). -/
def State.betterCand (s : State) (x y : Cand) : Cand :=
  if x.camera = y.camera then (if (y.frame + 2 ^ 32 - x.frame) % 2 ^ 32 < 2 ^ 31 then y else x)
  else
    let rx := s.rd (Reg.cameraRank x.camera)
    let ry := s.rd (Reg.cameraRank y.camera)
    if ry > rx ∨ (ry = rx ∧ y.camera < x.camera) then y else x

/-- One component moved towards its target by at most `step`. -/
def moveTo (cur target step : Int) : Int := cur + Num.clampI (-step) step (target - cur)

/-- Resolves the candidates whose use boundary is `t`, checks the age of the correction in use and moves the offset (R369,
R370). -/
def State.corrBoundary (s : State) (l : Nat) (t : Lt) : State :=
  let due := (s.laser l).cands.filter fun x => decide (x.use ≤ t)
  let s := s.modLaser l fun y => { y with cands := y.cands.filter fun x => !decide (x.use ≤ t) }
  let s := match due with
    | [] => s
    | x :: rest =>
      let w := rest.foldl s.betterCand x
      let s := due.foldl (init := s) fun (s : State) (y : Cand) => if y = w then s else s.bump 32 (Reg.camCorrOutranked y.camera)
      let lim : Int := s.rd (Reg.corrLimit l)
      let inc := bitAt (s.rd (Reg.camCfg w.camera)) 3
      let tx := if inc then w.baseX + w.dx else w.dx
      let ty := if inc then w.baseY + w.dy else w.dy
      let cx := Num.clampI (-lim) lim tx
      let cy := Num.clampI (-lim) lim ty
      let clamped := decide (cx ≠ tx) || decide (cy ≠ ty)
      let old := (s.laser l).corrClamped
      let s := s.modLaser l fun y => { y with corrTarget := (cx, cy), corrClamped := clamped }
      let s := (s.wr (Reg.corrSrc l) w.camera).wr (Reg.corrFrame l) w.frame
      let k := (s.leadOf w.camera).getD w.camera
      let s := { s with vision := { s.vision with tags := s.vision.tags.map fun (g : Tag) =>
        if g.camera = k ∧ g.frame = w.frame then { g with flags := Nat.lor g.flags 16 } else g } }
      s.raiseIf (clamped && !old) 0x3A0B cLASER l (dU 1 w.camera)
  let src := s.rd (Reg.corrSrc l)
  let s := if src < 32 then
      let k := (s.leadOf src).getD src
      let age := s.frameAge k (s.rd (Reg.corrFrame l))
      if age > s.rd (Reg.maxAge src) ∧ age < 2 ^ 31 then
        let s := s.modLaser l fun y => { y with corrTarget := (0, 0) }
        let s := s.wr (Reg.corrSrc l) 0xFF
        s.raise 0x3A07 cLASER l (dU 1 src ++ dU 4 (s.rd (Reg.corrFrame l)))
      else s
    else s
  let step : Int := s.rd (Reg.corrStepMax l)
  s.modLaser l fun y =>
    { y with corr := (moveTo y.corr.1 y.corrTarget.1 step, moveTo y.corr.2 y.corrTarget.2 step) }

/-- The place of the largest SHARPNESS received, the first of equals. -/
def bestStep (l : List AfStep) : Option (Nat × Nat) :=
  (List.range l.length).foldl (init := none) fun (r : Option (Nat × Nat)) i =>
    match (l[i]?).bind (·.sharp), r with
    | some v, some (_, u) => if v > u then some (i, v) else r
    | some v, none => some (i, v)
    | none, _ => r

/-- The search of laser L at a LOOP boundary (R371). -/
def State.afBoundary (s : State) (l : Nat) (t : Lt) : State :=
  match (s.laser l).search with
  | none => s
  | some x =>
    let steps := x.steps.map fun (y : AfStep) =>
      match y.frame, y.sharp with
      | some f, none => if s.frameAge x.lead f > s.rd (Reg.maxAge x.camera) ∧ s.frameAge x.lead f < 2 ^ 31
          then { y with missing := true } else y
      | _, _ => y
    let x := { x with steps := steps }
    let s := s.modLaser l fun y => { y with search := some x }
    if x.stepAt.isSome then s
    else if x.steps.length < x.n then
      if t ≤ x.started then s else
        let z := x.z0 + ((x.steps.length : Int) - (((x.n - 1) / 2 : Nat) : Int)) * x.step
        let s := s.wrS 32 (Reg.afOffset l) (Num.fitI 32 z)
        s.modLaser l fun y => { y with search := some { x with stepAt := some t, steps := x.steps ++ [{}] } }
    else if x.steps.all fun y => y.missing || y.sharp.isSome then
      let got := (x.steps.filter fun y => y.sharp.isSome).length
      let val (i : Nat) : Option Int := ((x.steps[i]?).bind (·.sharp)).map fun v => (v : Int)
      match bestStep x.steps with
      | some (i, v) =>
        if got < 3 then
          let s := s.wr (Reg.afResult l) 3
          s.afAbandon l 2
        else
          let zk := x.z0 + ((i : Int) - (((x.n - 1) / 2 : Nat) : Int)) * x.step
          let s := s.modLaser l fun y => { y with search := none }
          let s := s.wr (Reg.afState l) 0
          let (z, r, s) : Int × Nat × State :=
            match if i = 0 then none else val (i - 1), val (i + 1) with
            | some a, some b =>
              let den := 2 * (a - 2 * (v : Int) + b)
              -- three equal values leave the vertex open (log entry 2)
              if den = 0 then
                let (f, s') := s.fresh
                (toSigned 32 f, 1, s')
              else (zk + Num.rdiv (x.step * (a - b)) den, 1, s)
            | _, _ => (zk, 2, s)
          let z := Num.fitI 32 z
          let s := (s.wrS 32 (Reg.afOffset l) z).wr (Reg.afResult l) r
          s.raise 0x3A09 cLASER l (dU 1 r ++ dI 4 z)
      | none =>
        let s := s.wr (Reg.afResult l) 3
        s.afAbandon l 2
    else s

/-! ### What has fallen due between boundaries (R226, R228, R404) -/

/-- Nothing of the stream of laser L has fallen due by the present LT. -/
def State.streamRests (s : State) (l : Nat) : Bool :=
  let m := (s.laser l).stream
  s.rd (Reg.streamState l) != 1 ||
    (m.segs.all fun x => (x.begun || decide (s.lt < x.t0)) && decide (s.lt < x.t2)) &&
      (m.stopAt.isNone || !m.segs.isEmpty || decide (s.lt < m.lastTime))

/-- Segments that have begun or ended by the present LT, and a stop that has fallen due, are acted on. -/
def State.streamCatch (s : State) (l : Nat) : State :=
  if s.streamRests l then s
  else
    let s := s.streamProgress l s.lt
    if s.rd (Reg.streamState l) = 1 then s.stopIfDue l s.lt else s

/-- The stream of laser L is RUNNING at the present LT. -/
def State.streamRuns (s : State) (l : Nat) : Bool := (s.streamCatch l).rd (Reg.streamState l) == 1

/-- The same for every laser. -/
def State.streamsCatch (s : State) : State := each 16 s State.streamCatch

/-! ### One LOOP boundary of a laser (R16, R30, R214, R228 to R230) -/

/-- Tags of laser L whose rising edge lies at this very boundary take the offset added for it (R366). -/
def State.tagOffsets (s : State) (l : Nat) (t : Lt) : State :=
  let d := (s.laser l).corrNow
  { s with vision := { s.vision with tags := s.vision.tags.map fun (g : Tag) =>
      if g.laser = l ∧ g.rise = t then { g with dx := d.1, dy := d.2 } else g } }

/-- Up to the SEGMENT boundary: the set-point formed last comes into use, stops and completions fall due, a start or a
resume is carried out, and records are decoded. -/
def State.laserBoundary (s : State) (l : Nat) (t : Lt) : State :=
  let tns := s.loopNs (l / 2)
  let s := s.modLaser l fun y => { y with corrNow := y.corr, stream := { y.stream with now := y.stream.cur } }
  let s := (s.wrS 32 (Reg.corrDx l) (s.laser l).corr.1).wrS 32 (Reg.corrDy l) (s.laser l).corr.2
  let s := s.tagOffsets l t
  let s := if s.rd (Reg.streamState l) = 1 then (s.streamProgress l t).stopIfDue l t else s
  let m := (s.laser l).stream
  let s := if s.laserBuilds l ∧ m.startAt = some t ∧ !m.finished then
      let s := (s.wr (Reg.streamState l) 1).corrZero l
      let s := s.modStream l fun m => { m with startAt := none }
      if s.layer.started then s else
        let s := (s.modLayer fun x => { x with started := true }).wr Reg.layerState 2
        s.raise 0x3510 cDEVICE 0 (dU 4 (s.rd Reg.layerInUse) ++ dU 1 (s.rd Reg.layerBuffer))
    else s
  let m := (s.laser l).stream
  let s := match m.resumeSeg with
    | some seg =>
      if m.staging.any (fun r => r.1 == seg) then
        -- the records are back: the approach, or the segment, begins with the next period (R230; log entry 20)
        let t0 := t + ns tns
        if m.approach then
          let goal := m.stopPt
          let t1 := t0 + quarters (moveQuarters (pathLenSq m.point goal) (s.rd (Reg.resumeSpeed l)))
          let x : Seg := { s := seg, ty := 0, p0 := m.point, p1 := goal, t0 := t0, t1 := t1, t2 := t1, begun := true, prof := m.profile }
          s.modStream l fun m => { m with segs := [x], lastEnd := goal, lastTime := t1, resumeSeg := none, frozen := false }
        else s.modStream l fun m => { m with segs := [], lastEnd := m.stopPt, lastTime := t0, resumeSeg := none, frozen := false }
      else s
    | none => s
  let m := (s.laser l).stream
  if s.laserBuilds l ∧ !m.finished ∧ m.resumeSeg.isNone ∧ (s.rd (Reg.streamState l) = 1 ∨ m.startAt.isSome) then
    s.decodeMany l (t + ns (2 * tns)) 1536
  else s

/-- The LOOP boundary at `t` is a SEGMENT boundary of laser L (R30). -/
def State.segBoundary (s : State) (l : Nat) (t : Lt) : Bool :=
  let m := (s.laser l).stream
  if s.rd (Reg.streamState l) = 1 then
    match m.segAt (t + ns (s.loopNs (l / 2))) with
    | some x => x.s != m.segUsed
    | none => false
  else true

/-- After the SEGMENT lockage: a STOP of the host, the set-point of the next boundary, and the refill; `gridErr` is a grid
fetch for that boundary that stayed uncorrectable (R228). -/
def State.laserSetpoint (s : State) (l : Nat) (t : Lt) (seg gridErr : Bool) : State :=
  let next := t + ns (s.loopNs (l / 2))
  let m := (s.laser l).stream
  let s := if m.hostStop ∧ seg ∧ s.rd (Reg.streamState l) = 1 then
      match m.segAt next with
      | some x => (s.modStream l fun m => { m with hostStop := false }).addStop l x.s 6
      | none => s
    else s
  let s := if gridErr ∧ s.rd (Reg.streamState l) = 1 ∧ bitAt (s.rd (Reg.gridEnable l)) 0 then s.stopWithin l 2 next else s
  let m := (s.laser l).stream
  let s := if s.laserBuilds l ∧ !m.frozen then
      let sp := s.setpointsAt l next
      s.modStream l fun m =>
        { m with cur := sp, point := m.pointAt next, segUsed := match m.segAt next with | some x => x.s | none => m.segUsed }
    else s.modStream l fun m => { m with cur := atRest m.cur }
  s.refill l

/-- The layer has ended: every laser has executed its LAYER_END or was abandoned (R32). -/
def State.layerEnd (s : State) : State :=
  if s.rd Reg.layerState = 2 ∧ !s.layerOpen then
    let n := ((List.range 16).filter fun l => (s.laser l).stream.abandoned).length
    (s.wr Reg.layerState 0).raise 0x3511 cDEVICE 0 (dU 4 (s.rd Reg.layerInUse) ++ dU 4 n)
  else s

/-- Whether a LOOP boundary of ENGINE_0 is a LAYER boundary (R32). -/
def State.layerBoundary (s : State) : Bool := s.rd Reg.layerState != 2 || !s.layerOpen

/-- TRAJ_READ_COMPLETE: the fetch of laser L arrives; each error is a burst of the range with its kind and whether its
re-read was good (R383, R392, R394). Errors are counted by the caller. -/
def State.fetchArrive (s : State) (l : Nat) (bad : List Nat) : State :=
  match (s.laser l).stream.fetching with
  | none => s
  | some (i0, n, since) =>
    let lat := lateNs since s.lt
    let s := s.wr Reg.trajLatMax (max (s.rd Reg.trajLatMax) (min lat (2 ^ 32 - 1)))
    let good := (List.range n).takeWhile fun i => !bad.contains (s.recordAddr l (i0 + i) / 64)
    let recs := good.map fun i => (i0 + i, memReadBytes zeroByte s.dram (s.recordAddr l (i0 + i)) 32)
    let s := s.modStream l fun m =>
      { m with staging := m.staging ++ recs, fetchNext := i0 + good.length, fetching := none }
    if good.length < n then s.addStop l (i0 + good.length) 1 else s

end Sys2Proof.Machine
end

