-- ==== Sys2Proof/Machine/Vision.lean ====
section
/-! DEFINITION. The vision port: triggers and frame tags, received packets, lanes (chapter 13). -/

namespace Sys2Proof.Machine

/-- Camera c. -/
def State.cam (s : State) (c : Nat) : Cam := s.vision.cams[c]?.getD {}

/-- Changes camera c. -/
def State.modCam (s : State) (c : Nat) (f : Cam → Cam) : State :=
  { s with vision := { s.vision with cams := s.vision.cams.setIfInBounds c (f (s.cam c)) } }

/-- Camera c is a lead: it names a CT pin. -/
def State.isLead (s : State) (c : Nat) : Bool := decide (c < 32) && decide (s.rd (Reg.camPin c) < 16)

/-- The engine whose LOOP boundaries are camera c's: that of the laser its lead is tied to (R31, R363). -/
def State.camEngine (s : State) (c : Nat) : Nat :=
  let l := s.rd (Reg.camLaser ((s.leadOf c).getD c))
  if l < 16 then l / 2 else 0

/-- Lead c is triggered in the present mode (R363). -/
def State.camRuns (s : State) (c : Nat) : Bool :=
  s.isLead c && (s.modeCode == BUILD || (bitAt (s.rd (Reg.camCfg c)) 1 && s.inRunOrHold))

/-- The trigger of a camera entered last that has not risen. -/
def Cam.entered (x : Cam) : Option Trigger := match x.later.getLast? with | some y => some y | none => x.next

/-- The LOOP boundary at `b` is a FRAME boundary of camera c: no entered trigger of its lead has its rising edge behind it
(R31). -/
def State.frameBoundary (s : State) (c : Nat) (b : Lt) : Bool :=
  match (s.cam ((s.leadOf c).getD c)).entered with
  | some x => decide (x.rise ≤ b)
  | none => true

/-- The electrical level of CT_n; none is high impedance. A pin that no camera names is driven inactive, low as under the default
CAM_CFG (R238, R239, R363; log entry 97). -/
def State.ctLevel (s : State) (n : Nat) : Option Bool :=
  if s.mode.inReset || s.modeCode == INIT || s.logicTest then none else
    match (List.range 32).find? fun c => s.rd (Reg.camPin c) == n with
    | none => some false
    | some c =>
      let active := s.camRuns c && match (s.cam c).high with | some x => !x.missed | none => false
      some (active != bitAt (s.rd (Reg.camCfg c)) 0)

/-- The first point of a camera's grid at or after `t`, and after `after` where that is given (R363, R364). -/
def nextTrigger (period off : Nat) (t : Lt) (after : Option Lt) : Lt :=
  let p := ns period
  let o := ns off
  let lo := match after with | some u => max t (u + 1) | none => t
  if lo ≤ o then o - (o - lo) / p * p else o + Num.cdiv (lo - o) p * p

/-- A trigger enters, behind one that is due at this very boundary. -/
def Cam.enter (x : Cam) (y : Trigger) : Cam :=
  if x.next.isSome then { x with later := x.later ++ [y] } else { x with next := some y }

/-- At a FRAME boundary at `b`, the next trigger of lead c is chosen, and entered if `b` opens the period before the one
that holds its rising edge (R364). -/
def State.chooseTrigger (s : State) (c : Nat) (b : Lt) : State :=
  if !s.camRuns c || !s.frameBoundary c b then s else
    let t := ns (s.loopNs (s.camEngine c))
    let x := s.cam c
    let lastFall := match x.entered, x.high with | some y, _ => some y.fall | none, some y => some y.fall | none, none => x.lastFall
    let rise := nextTrigger (s.rd (Reg.camPeriod c)) (s.rd (Reg.camOffset c)) (b + t) (lastFall.map fun u => u + ns 100)
    if rise < b + 2 * t then
      (s.modCam c fun x => x.enter { rise := rise, fall := rise + ns (s.rd (Reg.camWidth c)) }).notePending
    else s

/-- The snapshot words of the three axes of a laser as their words stand. -/
def State.snapWords (s : State) (l : Nat) : List Nat × List Bool :=
  let w (i : Nat) := (s.axis (3 * l + i)).obs.words
  ((List.range 3).map fun i => (w i).angle * 256 + (w i).status % 256, (List.range 3).map fun i => bitAt (w i).status 0)

/-- The instants up to which the snapshots of a laser's axes follow their outputs, for an edge at `t` (R367). -/
def State.snapDue (s : State) (l : Nat) (t : Lt) : List Lt :=
  (List.range 3).map fun i =>
    t + ns (50 * s.gdExactOf (3 * l + i))

/-- Replaces the elements whose due instant has not passed at `td`. -/
def follow {α : Type} : List Lt → List α → List α → Lt → List α
  | d :: ds, o :: os, n :: nw, td => (if td ≤ d then n else o) :: follow ds os nw td
  | _, os, _, _ => os

/-- A demodulation output of TILE_t at `td`: the open tags of its lasers follow it (R367). -/
def State.snapTags (s : State) (t : Nat) (td : Lt) : State :=
  let upd (g : Tag) : Tag :=
    if g.complete ∨ bitAt g.flags 7 = true ∨ g.laser / 2 ≠ t ∨ g.laser ≥ 16 then g else
      let w := s.snapWords g.laser
      { g with start := follow g.startDue g.start w.1 td, startValid := follow g.startDue g.startValid w.2 td
               stop := follow g.stopDue g.stop w.1 td, stopValid := follow g.stopDue g.stopValid w.2 td }
  { s with vision := { s.vision with tags := s.vision.tags.map upd } }

/-- Changes the tags of (camera, frame). -/
def State.modTag (s : State) (c f : Nat) (h : Tag → Tag) : State :=
  { s with vision := { s.vision with tags := s.vision.tags.map fun (g : Tag) => if g.camera = c ∧ g.frame = f then h g else g } }

/-- The searches that wait for a frame of lead c take this one if it rises late enough (R371). -/
def State.searchFrame (s : State) (c f : Nat) (rise : Lt) : State :=
  each 16 s fun s l =>
    match (s.laser l).search with
    | some x =>
      (match x.stepAt, x.steps.getLast? with
       | some at_, some y =>
         if x.lead = c ∧ y.frame.isNone ∧ at_ + ns x.settle ≤ rise then
           s.modLaser l fun z => { z with search := some { x with steps := x.steps.dropLast ++ [{ y with frame := some f }] } }
         else s
       | _, _ => s)
    | none => s

/-- The frame of a step has fallen: the next step begins at the first boundary after that (R371). -/
def State.searchFallen (s : State) (c f : Nat) (missed : Bool) : State :=
  each 16 s fun s l =>
    match (s.laser l).search with
    | some x =>
      (match x.steps.getLast? with
       | some y =>
         if x.lead = c ∧ y.frame = some f then
           s.modLaser l fun z =>
             { z with search := some { x with stepAt := none, started := s.lt, steps := x.steps.dropLast ++ [{ y with missing := missed }] } }
         else s
       | none => s)
    | none => s

/-- CT_ASSERT: the trigger of lead c rises, or is missed where it is later than LATE_LIMIT allows (R316, R363 to R366). -/
def State.ctAssert (s : State) (c : Nat) : State :=
  match (s.cam c).next with
  | none => s
  | some x =>
    if !s.camRuns c then s.modCam c fun y => { y with next := none, later := [] }
    else
      let late := lateNs x.rise s.lt
      let missed := decide (s.lt > x.rise + ns (s.rd Reg.lateLimit))
      let isLate := decide (s.lt > x.rise) && !missed
      let s := s.goTo x.rise
      let f := s.rd (Reg.camFrameNext c)
      let l := s.rd (Reg.camLaser c)
      let pin := s.rd (Reg.camPin c)
      let named := decide (l < 16) && !missed
      let w := if named then s.snapWords l else ([0, 0, 0], [false, false, false])
      let gate := decide (l < 16) && s.laserBuilds l && (s.laser l).gate && !s.laserHeld l
      let tag : Tag :=
        { frame := f, camera := c, laser := l, flags := 128 * bit missed + 64 * bit isLate + 2 * bit gate +
            bit (s.modeCode == BUILD)
          rise := s.lt, fall := x.fall, period := s.rd (Reg.camPeriod c)
          start := w.1, startValid := w.2, startDue := if named then s.snapDue l s.lt else []
          dx := if l < 16 then (s.laser l).corrNow.1 else 0, dy := if l < 16 then (s.laser l).corrNow.2 else 0 }
      let s := { s with vision := { s.vision with tags := (tag :: s.vision.tags).take 4096 } }
      let s := s.modCam c fun y => { y with next := y.later.head?, later := y.later.tail, high := some { x with missed := missed } }
      let s := (s.bumpWrap 32 (Reg.camFrameNext c)).bumpWrap 32 Reg.tagCount
      let s := (s.searchFrame c f s.lt)
      if missed then
        let s := s.bump 32 Reg.refusedCount
        s.raise 0x3813 cDEVICE 0 (dU 1 pin ++ dU 1 (Config.actionCode 4) ++ dI 4 late)
      else if isLate then
        let s := (s.bump 32 Reg.lateCount).wr Reg.lastLateness (min late (2 ^ 32 - 1))
        s.raise 0x3810 cCAMERA c (dU 1 (Config.actionCode 4) ++ dI 4 late)
      else s

/-- CT_RELEASE: the trigger of lead c falls; the end snapshot is taken (R363 to R367). -/
def State.ctRelease (s : State) (c : Nat) : State :=
  match (s.cam c).high with
  | none => s
  | some x =>
      let late := lateNs x.fall s.lt
      let isLate := decide (s.lt > x.fall) && !x.missed
      let s := s.goTo x.fall
      let f := (s.rd (Reg.camFrameNext c) + 2 ^ 32 - 1) % 2 ^ 32
      let s := s.modCam c fun y => { y with high := none, lastFall := some s.lt }
      let s := s.modTag c f fun g =>
        if g.laser < 16 ∧ !x.missed then
          let w := s.snapWords g.laser
          { g with fall := s.lt, stop := w.1, stopValid := w.2, stopDue := s.snapDue g.laser s.lt
                   flags := Nat.lor g.flags (64 * bit isLate) }
        else { g with fall := s.lt, stop := [0, 0, 0], stopValid := [false, false, false], stopDue := [s.lt] }
      let s := if isLate then
          let s := (s.bump 32 Reg.lateCount).wr Reg.lastLateness (min late (2 ^ 32 - 1))
          s.raise 0x3810 cCAMERA c (dU 1 (Config.actionCode 5) ++ dI 4 late)
        else s
      s.searchFallen c f x.missed

/-- The 64 bytes of a tag (R366). -/
def Tag.bytes (g : Tag) : List Nat :=
  leBytes 4 g.frame ++ [g.camera, g.laser] ++ leBytes 2 g.flags ++ leBytes 10 (time80 g.rise) ++ leBytes 10 (time80 g.fall) ++
  leBytes 4 g.period ++ ((List.range 3).flatMap fun i => leBytes 4 (g.start.getD i 0)) ++
  ((List.range 3).flatMap fun i => leBytes 4 (g.stop.getD i 0)) ++ leBytes 4 (ofSigned 32 g.dx) ++ leBytes 4 (ofSigned 32 g.dy)

/-- VTX sends a packet now (R362). -/
def State.sendVtx (s : State) (ty camera frame : Nat) (body : List Nat) : State :=
  { s with vision := { s.vision with lastTx := s.lt, sent := vtxPacket ty camera frame body } }

/-- TAG_RD_DATA: the tag that TAG_RD_KEY names, or zeros (R367). -/
def State.tagRead (s : State) : List Nat :=
  let k := s.rd Reg.tagRdKey
  match s.vision.tags.find? fun (g : Tag) => decide (g.camera = bitsAt k 32 8) && decide (g.frame = bitsAt k 0 32) with
  | some g => g.bytes
  | none => List.replicate 64 0

/-- FRAME_TAG_COMPLETE: the oldest open tag of lead c whose trigger has fallen completes and goes out on VTX (R362, R367). -/
def State.tagComplete (s : State) (c : Nat) : State :=
  match (s.vision.tags.filter fun g => decide (g.camera = c) && !g.complete && !g.stopDue.isEmpty).getLast? with
  | none => s
  | some g =>
    let missed := bitAt g.flags 7
    let td := ns (s.demodNs (g.laser / 2))
    let last := g.stopDue.foldl max 0
    let at_ := if g.laser < 16 ∧ !missed then last / td * td + ns 280 else g.fall
    let s := s.goTo at_
    let whole (g : Tag) : Tag :=
      { g with complete := true
               flags := Nat.lor g.flags (4 * bit (g.laser < 16 && !missed && g.startValid.all id) +
                 8 * bit (g.laser < 16 && !missed && g.stopValid.all id)) }
    let s := s.modTag c g.frame whole
    if bitAt (s.rd Reg.laneEnable) 4 then (s.bumpWrap 32 Reg.txTags).sendVtx 0x81 c g.frame (whole g).bytes
    else s

/-! ### Received packets (R361, R362, R368) -/

/-- Receive lane i carries characters: it is enabled and synchronised. -/
def State.laneUp (s : State) (i : Nat) : Bool :=
  decide (i < 4) && bitAt (s.rd Reg.laneEnable) i && bitAt (s.rd Reg.visStatus) i

/-- A valid packet is accepted: it keeps the port ALIVE (R362). -/
def State.rxAccept (s : State) : State :=
  let s := s.bumpWrap 32 Reg.rxPackets
  let s := { s with vision := { s.vision with lastRx := s.lt } }
  if bitAt (s.rd Reg.visStatus) 4 then s else (s.wrField Reg.visStatus 4 1 1).raise 0x3A04 cDEVICE 0 []

/-- A packet of camera c for a frame is discarded for its age or its missing tag (R368). -/
def State.rxAged (s : State) (c f age : Nat) : State :=
  let s := s.bump 32 (Reg.camCorrAged c)
  let first := !(s.cam c).dropping
  let s := s.modCam c fun x => { x with dropping := true }
  s.raiseIf first 0x3A06 cCAMERA c (dU 4 f ++ dU 4 age)

/-- The tag a packet of camera c for frame f refers to, with its lead (R368). -/
def State.rxTag (s : State) (c f : Nat) : Option (Nat × Tag) :=
  match s.leadOf c with
  | none => none
  | some k => (s.vision.tags.find? fun (g : Tag) => decide (g.camera = k) && decide (g.frame = f) && !bitAt g.flags 7).map fun g => (k, g)

/-- A CORRECTION packet (R368, R369). -/
def State.rxCorrection (s : State) (c f : Nat) (dx dy : Int) : State :=
  let s := s.rxAccept
  match s.rxTag c f with
  | none => s.rxAged c f (s.frameAge ((s.leadOf c).getD c) f)
  | some (k, g) =>
    let age := s.frameAge k f
    if age > s.rd (Reg.maxAge c) then s.rxAged c f age else
      let s := s.modCam c fun x => { x with dropping := false, dx := dx, dy := dy }
      let l := s.rd (Reg.camLaser k)
      if !bitAt (s.rd (Reg.camCfg c)) 2 || s.modeCode != BUILD || decide (l ≥ 16) then s else
        let dup := match (s.cam c).supplied with
          | some f0 => decide ((f + 2 ^ 32 - f0) % 2 ^ 32 = 0) || decide ((f + 2 ^ 32 - f0) % 2 ^ 32 > 2 ^ 31)
          | none => false
        if dup then s.bump 32 (Reg.camCorrAged c) else
          let t := ns (s.loopNs (l / 2))
          let use := Num.cdiv (s.lt + ns 200) t * t
          let s := s.modCam c fun x => { x with supplied := some f }
          s.modLaser l fun y =>
            { y with cands := y.cands ++ [{ use := use, camera := c, frame := f, dx := dx, dy := dy, baseX := g.dx, baseY := g.dy }] }

/-- A STATS packet (R368, R371). -/
def State.rxStats (s : State) (c f sharp intensity area : Nat) : State :=
  let s := s.rxAccept
  match s.rxTag c f with
  | none => s.rxAged c f (s.frameAge ((s.leadOf c).getD c) f)
  | some (k, _) =>
    let age := s.frameAge k f
    if age > s.rd (Reg.maxAge c) then s.rxAged c f age else
      let s := s.modCam c fun x => { x with dropping := false, intensity := intensity, area := area }
      let s := (s.wr (Reg.camSharpness c) sharp).wr (Reg.camStatsFrame c) f
      let s := s.modTag k f fun g => { g with flags := Nat.lor g.flags 32 }
      each 16 s fun s l =>
        match (s.laser l).search with
        | some x =>
          if x.lead = k then
            let take (z : AfStep) : AfStep :=
              if z.frame = some f ∧ z.sharp.isNone ∧ !z.missing then { z with sharp := some sharp } else z
            s.modLaser l fun y => { y with search := some { x with steps := x.steps.map take } }
          else s
        | none => s

/-- A packet on receive lane i, from behind its /K27.7/ on: nothing arrives on a lane that is not synchronised, and a packet with
a fault is counted in RX_BAD and dropped (R358, R361). -/
def State.rxPacket (s : State) (i : Nat) (chars : List Nat) : State :=
  if !s.laneUp i then s else
    match rxParse chars with
    | some (.correction c f dx dy) => s.rxCorrection c f dx dy
    | some (.stats c f sharp int area) => s.rxStats c f sharp int area
    | some .heartbeat => s.rxAccept
    | none => s.bump 32 Reg.rxBad

/-- The code groups on VTX while its latest packet goes out, from a running disparity on (R358). -/
def State.vtxGroups (s : State) (rd : Bool) : List Nat := lineGroups rd (charStart :: s.vision.sent ++ [charEnd, charComma])

/-- LANE_SYNC and LANE_SYNC_LOSS of receive lane i (R358). -/
def State.laneSync (s : State) (i : Nat) (on : Bool) : State :=
  if decide (i < 4) && bitAt (s.rd Reg.laneEnable) i && (bitAt (s.rd Reg.visStatus) i != on) then
    (s.wrField Reg.visStatus i 1 (bit on)).raise (if on then 0x3A02 else 0x3A01) cLANE i []
  else s

/-- ALIVE_TIMEOUT: VIS_TIMEOUT has passed without a valid packet (R362). -/
def State.aliveTimeout (s : State) : State :=
  if bitAt (s.rd Reg.visStatus) 4 then
    let s := s.goTo (s.vision.lastRx + ns (1000 * s.rd Reg.visTimeout))
    (s.wrField Reg.visStatus 4 1 0).raise 0x3A03 cDEVICE 0 []
  else s

/-- VTX_HEARTBEAT: 100 µs have passed without a packet on VTX (R362). -/
def State.vtxHeartbeat (s : State) : State :=
  if bitAt (s.rd Reg.laneEnable) 4 then
    (s.goTo (s.vision.lastTx + ns 100000)).sendVtx 0x83 0 0 []
  else s

/-- The vision checks of R372: reason in [15:8] and item in [7:0], 0 where they pass. -/
def State.visCheckCode (s : State) : Nat :=
  let pin (c : Nat) := s.rd (Reg.camPin c)
  let twin := (List.range 32).find? fun c => decide (pin c < 16) && (List.range c).any fun d => pin d == pin c
  let stray := (List.range 32).find? fun c => decide (0x80 ≤ pin c) && decide (pin c < 0xA0) && !s.isLead (pin c - 0x80)
  let dark := (List.range 32).find? fun c => bitAt (s.rd (Reg.camCfg c)) 2 &&
    match s.leadOf c with | some k => s.rd (Reg.camLaser k) == 0xFF | none => false
  match twin, stray, dark with
  | some c, _, _ => 0x100 + c
  | none, some c, _ => 0x200 + c
  | none, none, some c => 0x300 + c
  | none, none, none => 0

/-- A camera's staged width and offset fit its period (R372). -/
def camFits (period width off : Nat) : Bool := decide (width + 1000 ≤ period) && decide (off < period)

end Sys2Proof.Machine
end

