-- ==== Sys2Proof/Machine/Checks.lean ====
section
/-! DEFINITION. The consistency checks made at mode commands, returns and commits: crosspoint, filters, budget, memory
(R57, R130, R183, R380, R395). A check answers 0, or its reason in [15:8] and its item in [7:0]. -/

namespace Sys2Proof.Machine

/-- The code of the first failing condition of a list of (reason, items that fail). -/
def firstFail : List (Nat × List Nat) → Nat
  | [] => 0
  | (r, x :: _) :: _ => 256 * r + x
  | (_, []) :: l => firstFail l

/-- Some pin of TILE_t has role `r` and unit `u`. -/
def State.hasPin (s : State) (t r u : Nat) : Bool :=
  (List.range 48).any fun p => s.pinRole t p == r && s.pinUnit t p == u

/-- The amplifiers an axis's pairs name. -/
def State.axisAmps (s : State) (a : Nat) : List Nat :=
  let pr (n : Nat) := if n < 6 then [2 * n, 2 * n + 1] else []
  if s.kind a = 0 then []
  else pr (s.rd (Reg.pairPrimary a)) ++
    (if s.kind a = 2 ∧ s.rd (Reg.pairFine a) ≠ s.rd (Reg.pairPrimary a) then pr (s.rd (Reg.pairFine a)) else [])

/-- Every use of an amplifier of TILE_t, one entry a use (R57). -/
def State.ampUses (s : State) (t : Nat) : List Nat :=
  ((axesOf t).flatMap fun a => s.axisAmps a ++
      (if s.kind a ≠ 0 ∧ s.rd (Reg.setpointAmp a) < 12 then [s.rd (Reg.setpointAmp a)] else [])) ++
    ((List.range 2).flatMap fun i => if s.rd (Reg.thermChannel t i) < 12 then [s.rd (Reg.thermChannel t i)] else [])

/-- Every use of a sense receiver of TILE_t (R57). -/
def State.rcvUses (s : State) (t : Nat) : List Nat :=
  ((List.range 6).filter fun j => s.drvEnabled t j) ++
    ((List.range 2).flatMap fun i =>
      let c := s.rd (Reg.thermChannel t i)
      if 16 ≤ c ∧ c < 22 then [c - 16] else [])

/-- The crosspoint checks of TILE_t (R57): the first reason of the table that fails, with its lowest item. "VOLTAGE, the same
on all four" of a DUAL_SPEED axis is taken as the mode of its amplifiers; the gains of a pair are condition 0x05's (R60; log
entry 88). -/
def State.xpCode (s : State) (t : Nat) : Nat :=
  let amps := s.ampUses t
  let rcvs := s.rcvUses t
  let ks := (List.range 6).filter fun k => s.kind (6 * t + k) != 0
  let a (k : Nat) := 6 * t + k
  let therm (i : Nat) := s.rd (Reg.thermChannel t i)
  let mixed (n : Nat) : Bool :=
    decide (n < 6) && (decide (s.ampMode t (2 * n) ≠ s.ampMode t (2 * n + 1)) ||
      decide (s.rd (Reg.ampMode t (2 * n)) ≠ s.rd (Reg.ampMode t (2 * n + 1))) ||
      decide (s.rd (Reg.ampReset t (2 * n)) ≠ s.rd (Reg.ampReset t (2 * n + 1))))
  firstFail [
    (1, (List.range 12).filter fun m => amps.contains m && !(s.hasPin t 1 m && s.hasPin t 2 m)),
    (2, (List.range 6).filter fun j => s.drvEnabled t j && !(s.hasPin t 3 j && s.hasPin t 4 j)),
    (3, (List.range 6).filter fun j => rcvs.contains j && !(s.drvEnabled t j && s.senseInternal t j) &&
      !(s.hasPin t 5 j && s.hasPin t 6 j)),
    (4, ((List.range 12).filter fun m => decide ((amps.filter (· == m)).length > 1)) ++
      (((List.range 6).filter fun j => decide ((rcvs.filter (· == j)).length > 1)).map fun j => 16 + j)),
    (5, ks.filter fun k => mixed (s.rd (Reg.pairPrimary (a k))) ||
      (s.kind (a k) == 2 && mixed (s.rd (Reg.pairFine (a k))))),
    (6, ks.filter fun k => (s.axisAmps (a k)).any fun m => s.ampMode t m != (if s.kind (a k) = 3 then 2 else 1)),
    (7, ks.filter fun k => !s.drvEnabled t (s.rd (Reg.excDriver (a k)))),
    (8, ks.filter fun k =>
      if s.kind (a k) = 2 then decide (s.rd (Reg.pairFine (a k)) ≥ 6) || s.rd (Reg.pairFine (a k)) == s.rd (Reg.pairPrimary (a k))
      else s.rd (Reg.pairFine (a k)) != 0xFF),
    (9, (List.range 2).filter fun i => therm i != 0xFF &&
      ((decide (therm i < 12) && s.ampMode t (therm i) != 1) || s.rd (Reg.biasLevel t (s.rd (Reg.thermBias t i))) == 0)),
    (10, ks.filter fun k => decide (s.rd (Reg.setpointAmp (a k)) < 12) && s.ampMode t (s.rd (Reg.setpointAmp (a k))) != 1)]

/-- The filter checks of TILE_t (R130). -/
def State.filtCode (s : State) (t : Nat) : Nat :=
  let ks := (List.range 6).filter fun k => s.kind (6 * t + k) != 0
  let a (k : Nat) := 6 * t + k
  let drv (k : Nat) := s.rd (Reg.excDriver (a k))
  let charge (k : Nat) : Bool := s.kind (a k) == 3
  let amp (k : Nat) := 2 * s.rd (Reg.pairPrimary (a k))
  let pairs (j : Nat) (bad : Nat → Nat → Bool) : Bool :=
    ks.any fun k => ks.any fun q => drv k == j && drv q == j && bad k q
  firstFail [
    (1, (List.range 6).filter fun k => decide ((response (s.rd (Reg.response (a k)))).1 ≠ 5 * 2 ^ s.rd (Reg.demodPeriod t))),
    (2, (List.range 6).filter fun j => pairs j fun k q =>
      s.rd (Reg.maLength (a k)) != s.rd (Reg.maLength (a q)) || s.rd (Reg.response (a k)) != s.rd (Reg.response (a q))),
    (3, ks.filter fun k => charge k &&
      decide (s.rd (Reg.maLength (a k)) ≤ resetWidth (s.rd (Reg.ampReset t (amp k))) + resetGuard (s.rd (Reg.ampReset t (amp k))))),
    (4, (List.range 6).filter fun j => pairs j fun k q =>
      (charge k != charge q) || (charge k && charge q && s.rd (Reg.ampReset t (amp k)) != s.rd (Reg.ampReset t (amp q))))]

/-- B of ENGINE_t: the cycles from the opening of the window to t_out (R169). -/
def State.budget (s : State) (t : Nat) : Nat := s.outNs t - 300

/-- The first reason of R183 a bank breaks by itself. -/
def bankReason (b : List Nat) : Nat :=
  let pts := schedPoints b
  let x (i : Nat) := bankWord b (69 + 3 * i) % 65536
  if lawKind b = 2 ∧ !(2 ≤ sfOrder b && sfOrder b ≤ 4) then 2
  else if schedSrc b ≠ 0 ∧ (pts < 2 ∨ 8 < pts ∨ (List.range (pts - 1)).any fun i => decide (x i ≥ x (i + 1))) then 3
  else if uMin b ≥ uMax b then 4
  else if busFf b ∧ vNom b = 0 then 5
  else if kC b 8 < 0 ∨ kC b 9 < 0 ∨ sfC b 29 < 0 then 7
  else 0

/-- The worst-case cost of AXIS_a; `carried` is a swap length of the commit being checked, `pound` says that swaps bring
the POUND bank (R183). The law is taken as running unless the axis is PARKED or of kind NONE. -/
def State.worstCost (s : State) (a : Nat) (carried : Option Nat) (pound returning : Bool) : Nat :=
  if s.kind a = 0 ∨ (s.axisParked a ∧ !returning) then 4 else
    let l := (s.axis a).law
    let b := if pound then l.pound else l.active
    let lens := carried.toList ++ (l.armed.map (·.len)).toList ++ (l.held.map (·.len)).toList
    lens.foldl (fun c n => max c (l.fadeCost b n)) (l.cycles true)

/-- The budget check of ENGINE_t: CYCLES_WORST and the code for BUDGET_CHECK (R183). -/
def State.budgetCode (s : State) (t : Nat) (carried : Nat → Option Nat) (commit : Bool) (returning : List Nat) : Nat × Nat :=
  let worst := 40 + ((axesOf t).map fun a => s.worstCost a (carried a) commit (returning.contains a)).foldl (· + ·) 0
  let why (k : Nat) : Nat :=
    let a := 6 * t + k
    if (carried a).isSome then bankReason (s.axis a).law.pound
    else if s.kind a = 0 ∨ (s.axisParked a ∧ !returning.contains a) then 0
    else bankReason (s.axis a).law.active
  let off := s.rd (Reg.outOffset t)
  let by_ (r : Nat) := (r, (List.range 6).filter fun k => why k == r)
  let code :=
    if 10 * worst > 9 * s.budget t then 0x1FF else
      let c := firstFail [by_ 2, by_ 3, by_ 4, by_ 5]
      if c ≠ 0 then c
      else if off ≠ 0 ∧ !(400 ≤ off && off ≤ 300 + s.loopNs t) then 0x6FF
      else firstFail [by_ 7]
  (worst, code)

/-- Runs the budget check of ENGINE_t and writes what it found; true where it passes. -/
def State.budgetCheck (s : State) (t : Nat) (carried : Nat → Option Nat) (commit : Bool) (returning : List Nat) : State × Bool :=
  let r := s.budgetCode t carried commit returning
  ((s.wr (Reg.cyclesWorst t) r.1).wr (Reg.budgetCheck t) r.2, r.2 == 0)

/-- Runs the crosspoint check of TILE_t. -/
def State.xpCheck (s : State) (t : Nat) : State × Bool :=
  let c := s.xpCode t
  (s.wr (Reg.xpCheck t) c, c == 0)

/-- Runs the filter check of TILE_t. -/
def State.filtCheck (s : State) (t : Nat) : State × Bool :=
  let c := s.filtCode t
  (s.wr (Reg.filtCheck t) c, c == 0)

/-- Capacity of a channel by MEM_DEVICE (R377). -/
def memCapacity : Nat → Nat
  | 1 => 2 ^ 32
  | _ => 2 ^ 33

/-- Number of fitted channels. -/
def State.memChans (s : State) : Nat := if s.rd Reg.memChannels = 3 then 2 else 1

/-- HOST_SPACE (R379). -/
def State.hostSpaceNow (s : State) : Nat := s.memChans * (memCapacity (s.rd Reg.memDevice) - 65536)

/-- Data rate of a code of R378. -/
def dataRate : Nat → Nat
  | 0 => 3200 | 1 => 4000 | _ => 4800

/-- The data rate of the set point chosen by MEM_FREQ_SEL (R378). -/
def State.rateChosen (s : State) : Nat := dataRate (if s.rd Reg.memFreqSel = 0 then s.rd Reg.memFreqSp0 else s.rd Reg.memFreqSp1)

/-- Size of a grid in bytes (R380). -/
abbrev gridBytes : Nat := 528392
/-- Size of a layer buffer in bytes (R380). -/
abbrev layerBytes : Nat := 2 ^ 28

/-- The memory checks of R395; `build` adds condition 0x04, `leave` the others. -/
def State.memCode (s : State) (leave build : Bool) : Nat :=
  let b0 := s.rd Reg.layerBufBase0
  let b1 := s.rd Reg.layerBufBase1
  let top := s.hostSpaceNow
  firstFail [
    (1, if leave then ([0, 1] : List Nat).filter fun i => decide ((if i = 0 then b0 else b1) + layerBytes > top) else []),
    (2, if leave ∧ b0 < b1 + layerBytes ∧ b1 < b0 + layerBytes then [0] else []),
    (3, if leave then (List.range 16).filter fun l => decide (s.rd (Reg.gridBase l) + gridBytes > top) else []),
    (4, if build ∧ s.rd Reg.memState ≠ 2 then [0] else [])]

/-! ### Commit checks (R42) -/

/-- The staged value of a sub-entry, or the value in use. -/
def State.would (s : State) (staged : List (Nat × Nat)) (k : Nat) : Nat :=
  match staged.find? fun e => e.1 == k with | some e => e.2 | none => s.rd k

/-- A value of a sub-entry is staged and differs from the one in use. -/
def State.wouldChange (s : State) (staged : List (Nat × Nat)) (k : Nat) : Bool := s.would staged k != s.rd k

/-- Every axis that names driver j is PARKED or of kind NONE (R70). -/
def State.driverIdle (s : State) (t j : Nat) : Bool :=
  (axesOf t).all fun a => s.rd (Reg.excDriver a) != j || s.kind a == 0 || s.axisParked a

/-- SERVO, BUILD or HOLD. -/
def State.servoBuildHold (s : State) : Bool := 4 ≤ s.modeCode && s.modeCode ≤ 6

/-- First sub-entry of an axis pound that fails its check, but for the budget (R111, R240). -/
def State.axisCommitFail (s : State) (a : Nat) (st : List (Nat × Nat)) : Option Nat :=
  let low := Reg.ampLow a
  let high := Reg.ampHigh a
  let has (k : Nat) := st.any fun e => e.1 == k
  if (has low || has high) && decide (s.would st low ≥ s.would st high) then some (if has low then low else high)
  else if s.wouldChange st (Reg.axoRange a) && (s.axis a).law.run != .stopped then some (Reg.axoRange a)
  else none

/-- First sub-entry of an engine pound that fails its check (R71, R93). -/
def State.engineCommitFail (s : State) (t : Nat) (st : List (Nat × Nat)) : Option Nat :=
  let has (k : Nat) := st.any fun e => e.1 == k
  let window (lo hi : Nat) : Option Nat :=
    if (has lo || has hi) && decide (toSigned 16 (s.would st lo) + 200 > toSigned 16 (s.would st hi)) then
      some (if has lo then lo else hi)
    else none
  let freq := (List.range 6).find? fun j =>
    s.servoBuildHold && s.wouldChange st (Reg.excFreq t j) && !s.driverIdle t j
  match freq, window (Reg.inCmLow t) (Reg.inCmHigh t), window (Reg.snsCmLow t) (Reg.snsCmHigh t) with
  | some j, _, _ => some (Reg.excFreq t j)
  | none, some k, _ => some k
  | none, none, r => r

/-- First sub-entry of a laser pound that fails its check (R372, R380). -/
def State.laserCommitFail (s : State) (l : Nat) (st : List (Nat × Nat)) : Option Nat :=
  let has (k : Nat) := st.any fun e => e.1 == k
  if has (Reg.gridBase l) && decide (s.would st (Reg.gridBase l) + gridBytes > s.hostSpaceNow) then some (Reg.gridBase l)
  else if has (Reg.afSteps l) && s.would st (Reg.afSteps l) % 2 == 0 then some (Reg.afSteps l)
  else none

/-- First sub-entry of a camera pound that fails its check (R372). -/
def State.cameraCommitFail (s : State) (c : Nat) (st : List (Nat × Nat)) : Option Nat :=
  let p := s.would st (Reg.camPeriod c)
  let has (k : Nat) := st.any fun e => e.1 == k
  let pick (k : Nat) := if has k then some k else some (Reg.camPeriod c)
  if !(has (Reg.camPeriod c) || has (Reg.camWidth c) || has (Reg.camOffset c)) then none
  else if s.would st (Reg.camWidth c) + 1000 > p then pick (Reg.camWidth c)
  else if s.would st (Reg.camOffset c) ≥ p then pick (Reg.camOffset c)
  else none

/-- First sub-entry of the device pound that fails its check (R213, R255, R389). -/
def State.deviceCommitFail (s : State) (st : List (Nat × Nat)) : Option Nat :=
  let has (k : Nat) := st.any fun e => e.1 == k
  let start (l : Nat) := s.would st (Reg.streamStart l)
  let len (l : Nat) := s.would st (Reg.streamLen l)
  let touched (l : Nat) := has (Reg.streamStart l) || has (Reg.streamLen l)
  let layer := has Reg.layerNumber
  let name (l : Nat) := if has (Reg.streamLen l) then Reg.streamLen l else if has (Reg.streamStart l) then Reg.streamStart l
    else Reg.layerNumber
  let outside := (List.range 16).find? fun l => (layer || touched l) && decide (start l + len l > 8388608)
  let clash := (List.range 16).find? fun l => (List.range l).any fun m =>
    (layer || touched l || touched m) && decide (0 < len l) && decide (0 < len m) &&
      decide (start l < start m + len m) && decide (start m < start l + len l)
  let profile := (List.range 64).find? fun p =>
    (has (Reg.profileStart p) || has (Reg.profileLen p)) &&
      decide (s.would st (Reg.profileStart p) + s.would st (Reg.profileLen p) > 1048576)
  if s.wouldChange st Reg.memFreqSel && layer then some Reg.memFreqSel
  else match outside, clash, profile with
    | some l, _, _ => some (name l)
    | none, some l, _ => some (name l)
    | none, none, some p => some (if has (Reg.profileLen p) then Reg.profileLen p else Reg.profileStart p)
    | none, none, none => none

end Sys2Proof.Machine
end

