-- ==== Sys2Proof/Machine/Pound.lean ====
section
/-! DEFINITION. Scopes, pounds, commits and lockages, and what happens as a value comes into use (chapter 02, R188 to
R190, R241, R388). -/

namespace Sys2Proof.Machine

/-- Pound numbers of the scopes (R35). -/
abbrev pEngine (t : Nat) : Nat := 48 + t
abbrev pLaser (l : Nat) : Nat := 56 + l
abbrev pCamera (c : Nat) : Nat := 72 + c
abbrev pDevice : Nat := 104
abbrev pTransition : Nat := 105

/-- The pound in which a staged write of a sub-entry is put (R35). -/
def scopeOf (k : Nat) : Nat :=
  let i := keyIndex k
  if 0x3000 ≤ i ∧ i < 0x3C00 then (i - 0x3000) / 0x40
  else if 0x2100 ≤ i ∧ i < 0x2180 then pEngine ((i - 0x2100) / 0x10)
  else if 0x4000 ≤ i ∧ i < 0x4080 then pEngine ((i - 0x4000) / 0x10)
  else if 0x4100 ≤ i ∧ i < 0x4200 then pLaser ((i - 0x4100) / 0x10)
  else if 0x4401 ≤ i ∧ i < 0x4410 then pCamera (keySub k - 1)
  else match Dict.row? k with
    | some r => if r.applies = .layer then pDevice else pTransition
    | none => pTransition

/-- Index of the record of a pound (R50). -/
def poundRecord (p : Nat) : Nat :=
  if p < 48 then 0x303F + 0x40 * p
  else if p < 56 then 0x400F + 0x10 * (p - 48)
  else if p < 72 then 0x410F + 0x10 * (p - 56)
  else if p < 104 then 0x44E0 + (p - 72)
  else 0x2010 + (p - 104)

/-- The pound whose record has an index. -/
def recordPound (i : Nat) : Option Nat :=
  if 0x3000 ≤ i ∧ i < 0x3C00 ∧ i % 0x40 = 0x3F then some ((i - 0x3000) / 0x40)
  else if 0x4000 ≤ i ∧ i < 0x4080 ∧ i % 0x10 = 0xF then some (pEngine ((i - 0x4000) / 0x10))
  else if 0x4100 ≤ i ∧ i < 0x4200 ∧ i % 0x10 = 0xF then some (pLaser ((i - 0x4100) / 0x10))
  else if 0x44E0 ≤ i ∧ i < 0x4500 then some (pCamera (i - 0x44E0))
  else if i = 0x2010 then some pDevice
  else if i = 0x2011 then some pTransition
  else none

/-- Sub-entry of a pound's record. -/
abbrev poundKey (p sub : Nat) : Nat := regKey (poundRecord p) sub

/-- Class and number of the unit of a pound (R53). -/
def poundUnit (p : Nat) : Nat × Nat :=
  if p < 48 then (cAXIS, p) else if p < 56 then (cENGINE, p - 48) else if p < 72 then (cLASER, p - 56)
  else if p < 104 then (cCAMERA, p - 72) else (cDEVICE, 0)

/-- POUND_STATE: 0 EMPTY, 1 PENDING, 2 ARMED, 3 DEFERRED (R50). -/
def Pound.state (x : Pound) : Nat :=
  match x.armed with
  | some _ => if x.deferred ≠ 0 then 3 else 2
  | none => if x.staged.isEmpty then 0 else 1

/-- A pound closed by its commit (R44). -/
def Pound.closed (x : Pound) : Bool := x.armed.isSome

/-- Puts a value in a pound, replacing an earlier one of the same sub-entry (R38). -/
def Pound.stage (x : Pound) (k v : Nat) : Pound :=
  { x with staged := x.staged.filter (fun e => e.1 != k) ++ [(k, v)] }

/-- A staged value of a sub-entry. -/
def Pound.has (x : Pound) (k : Nat) : Bool := x.staged.any fun e => e.1 == k

/-- The value staged for a sub-entry. -/
def Pound.value (x : Pound) (k : Nat) : Option Nat := (x.staged.find? fun e => e.1 == k).map (·.2)

/-! ### What a value does as it comes into use -/

/-- RANGE_BUSY of AXIS_a (R241). -/
def State.rangeBusy (s : State) (a : Nat) : Bool := (s.axis a).axo.rangePhase != 0

/-- A new AXO_RANGE is in use: t = 0 of the sequence of R241; a running law stops there (R242). -/
def State.startRange (s : State) (a : Nat) : State :=
  let ran := (s.axis a).law.run
  let s := s.stopLaw a
  let s := s.raiseIf (ran != .stopped) 0x3604 cAXIS a (dU 1 (s.rd (Reg.axoRange a)))
  let s := s.modAxo a fun x => { x with rangePhase := 1, rangeLt := s.lt, swWasRun := ran }
  s.setCode a (s.clearCode a)

/-- A frequency lockage: the port begins its switch, or restarts it at the newer set point (R388, R390). -/
def State.startSwitch (s : State) (oldRate : Nat) : State :=
  let again := s.rd Reg.memState == 3
  let s := s.raiseIf again 0x3B22 cDEVICE 0 (dU 4 oldRate ++ dU 4 s.rateChosen)
  let s := s.wr Reg.memState 3
  let s := { s with memPort := { s.memPort with
    stepEnd := none, target := s.rateChosen, switchFrom := if again then s.memPort.switchFrom else s.lt } }
  s.raise 0x3B20 cDEVICE 0 (dU 4 (s.rd Reg.memFreqInUse) ++ dU 4 s.rateChosen)

/-- In CONFIGURE a write of BANK_SWAP copies POUND into ACTIVE at once (R188). -/
def State.swapNow (s : State) (a : Nat) : State := s.modLaw a fun l => { l with active := l.pound }

/-- PULSE has come into use as the set-point source of AXIS_a: P_0 and c_0 are the weir position and the count of the input that
is in use now (R200). -/
def State.pulseFrom (s : State) (a : Nat) : State :=
  if s.rd (Reg.spSource a) = 2 then
    let c := s.rdS 32 (Reg.plsCount (s.rd (Reg.spPulseInput a)))
    s.modAxis a fun x => { x with weir := { x.weir with pulseBase := x.weir.pos, pulseCount := c } }
  else s

/-- The effect of a value beyond its own object, once it is in use; `old` is the value before it. -/
def State.afterUse (s : State) (k old : Nat) : State :=
  let i := keyIndex k
  let sub := keySub k
  if 0x3000 ≤ i ∧ i < 0x3C00 then
    let a := (i - 0x3000) / 0x40
    if k = Reg.axoRange a then (if s.rd k = old then s else s.startRange a)
    else if k = Reg.clearCode a then
      (if (s.axis a).law.run = .stopped ∧ !(s.axis a).axo.highZ ∧ s.modeCode ≠ TEST then s.setCode a (s.clearCode a) else s)
    else if k = Reg.spSource a ∨ (k = Reg.spPulseInput a ∧ s.modeCode = CONFIGURE) then s.pulseFrom a
    else if k = Reg.bankSwap a ∧ s.modeCode = CONFIGURE then s.swapNow a
    else if k = Reg.holdAction a ∧ s.modeCode = HOLD then s.modAxis a fun x => { x with holdWait := true }
    else s
  else if 0x2100 ≤ i ∧ i < 0x2180 then
    let t := (i - 0x2100) / 0x10
    let o := (i - 0x2100) % 0x10
    if o = keyIndex (Reg.pinRole 0 0) - 0x2100 ∨ o = keyIndex (Reg.ampMode 0 0) - 0x2100 ∨
       o = keyIndex (Reg.ampReset 0 0) - 0x2100 then
      if sub = 0 then s else
        (s.wr (Reg.calValid t) 0).modTile t Tile.trimmed
    else if o = keyIndex (Reg.excFreq 0 0) - 0x2100 ∨ o = keyIndex (Reg.excAmpl 0 0) - 0x2100 then
      (s.excitationChanged t (sub - 1)).staleCheck t (sub - 1)
    else s
  else if k = Reg.testAxoSel ∧ old ≠ s.rd k ∧ s.modeCode = TEST then
    -- the output that is no longer named returns to its code (R247, R456)
    (if old < 48 then s.noteCode old else s).noteTest
  else if k = Reg.testAxoCode ∧ s.modeCode = TEST then s.noteTest
  else if k = Reg.laneEnable then
    (if bitsAt (s.rd k) 0 4 = 15 then s else s.wr Reg.visStatus (Nat.land (s.rd Reg.visStatus) (16 + bitsAt (s.rd k) 0 4)))
  else if k = Reg.timeMode ∨ k = Reg.rateManual then
    -- FREE stays in FREE_RUN, with no domain active (log entry 99); in FREE_RUN, RATE_IN_USE = FREQ_EST, which starts at
    -- RATE_MANUAL (R322)
    let s := if s.rd Reg.timeMode = 1 then (s.wr Reg.timeState 0).wr Reg.activeDomain 0xFF else s
    (if s.rd Reg.timeState = 0 ∧ (k = Reg.rateManual ∨ s.rd Reg.timeMode = 1) then
       (s.wr Reg.freqEst (s.rd Reg.rateManual)).wr Reg.rateInUse (s.rd Reg.rateManual)
     else s)
  else if k = Reg.timeFlags then
    -- with STEP_ALLOWED = 0, STEP_STATE reads DISABLED (R301)
    s.wr Reg.stepState (if bitAt (s.rd k) 0 then s.time.stepCode else 3)
  else s

/-- Puts a value in use. -/
def State.putInUse (s : State) (k v : Nat) : State :=
  let old := s.rd k
  (s.wr k v).afterUse k old

/-! ### Deferral (R47) -/

/-- The lock-keeper executes a reaction sequence, or has completed one at this instant (R47). -/
def State.reacting (s : State) : Bool :=
  s.lock.running.isSome || !s.lock.queue.isEmpty || s.lock.doneLt == some s.lt

/-- A driver counts as SETTLING (R108). -/
def State.driverSettling (s : State) (t j : Nat) : Bool := (s.driver t j).settling

/-- A pound holds a value that changes a sub-entry. -/
def State.poundChanges (s : State) (p k : Nat) : Bool :=
  match (s.pound p).value k with | some v => v != s.rd k | none => false

/-- The case of R47 that holds a pound back now, 0 for none; `memStep` says that a training or tracking step runs. -/
def State.deferCaseOf (s : State) (p : Nat) (memStep : Bool) : Nat :=
  let x := s.pound p
  if 48 ≤ p ∧ p < 56 ∧ (List.range 6).any (fun j =>
      (s.poundChanges p (Reg.excFreq (p - 48) j) || s.poundChanges p (Reg.excAmpl (p - 48) j)) && s.driverSettling (p - 48) j) then 1
  else if s.reacting then 3
  else if p = pDevice ∧ s.poundChanges p Reg.memFreqSel ∧ memStep then 4
  else if p < 48 ∧ x.has (Reg.axoRange p) ∧ s.rangeBusy p then 5
  else 0

/-- The case of R47 for a pound together with its bundle (R52). -/
def State.deferCase (s : State) (p : Nat) (memStep : Bool) : Nat :=
  (p :: (s.pound p).bundle).foldl (fun c q => if c ≠ 0 then c else s.deferCaseOf q memStep) 0

/-- A tracking step of the memory runs (R387). -/
def State.memTracking (s : State) : Bool := match s.memPort.tracking with | some t => decide (s.lt < t) | none => false

/-- A training step, a tracking step or a step of a frequency switch runs (R47, R386, R387, R390). -/
def State.memStepRuns (s : State) : Bool :=
  s.memTracking || s.rd Reg.memState == 1 ||
    (s.rd Reg.memState == 3 && match s.memPort.stepEnd with | some t => decide (s.lt < t) | none => true)

/-- The instant at which the step of a switch that holds a frequency lockage ends: open, within the 5 ms that a step takes
at most (R386, R390; log entry 87). -/
def State.openStepEnd (s : State) : State :=
  if s.rd Reg.memState = 3 ∧ s.memPort.stepEnd.isNone then
    let (f, s) := s.fresh
    { s with memPort := { s.memPort with stepEnd := some (s.lt + f % ns 5000000) } }
  else s

/-- A pound becomes DEFERRED by a case of R47, and event 0x2011 tells it, one event for each pound of a bundle (R53; log
entry 86). -/
def State.deferPound (s : State) (p c : Nat) : State :=
  let u := poundUnit p
  let s := if c = 4 then s.openStepEnd else s
  (s.modPound p fun y => { y with deferred := c }).raise 0x2011 u.1 u.2 (dU 1 c)

/-- Armed lockages that a case of R47 holds become DEFERRED. -/
def State.updateDeferrals (s : State) : State :=
  each 105 s fun s p =>
    let x := s.pound p
    if x.armed.isSome ∧ x.deferred = 0 then
      let c := s.deferCase p s.memStepRuns
      if c = 0 then s else s.deferPound p c
    else s

/-! ### Commit and discard (R41 to R45, R51, R52) -/

/-- First sub-entry of a pound that fails its check (R42), the budget apart. -/
def State.commitFail (s : State) (p : Nat) : Option Nat :=
  let st := (s.pound p).staged
  if p < 48 then s.axisCommitFail p st
  else if p < 56 then s.engineCommitFail (p - 48) st
  else if p < 72 then s.laserCommitFail (p - 56) st
  else if p < 104 then s.cameraCommitFail (p - 72) st
  else if p = pDevice then s.deviceCommitFail st
  else none

/-- Arms one pound of a commit; a staged BANK_SWAP becomes its axis's armed request (R188). -/
def State.arm (s : State) (ps : List Nat) (p : Nat) : State :=
  let s := (s.wr (poundKey p 4) (time80 s.lt)).wr (poundKey p 8) 0
  let x := s.pound p
  if x.staged.isEmpty then s else
    let others := ps.filter fun q => q != p && !(s.pound q).staged.isEmpty
    let s := s.modPound p fun y => { y with armed := some s.lt, bundle := others, deferred := 0 }
    if p < 48 then
      match x.value (Reg.bankSwap p) with
      | some n => s.modLaw p fun l => { l with armed := some { len := n, crc := bankCrc l.pound } }
      | none => s
    else s

/-- The axis whose BANK_SWAP a failed budget check names: the one whose bank the code's item gives, else the lowest-numbered
whose swap takes part in the worst case, carried by the commit, armed or held (R183; log entry 86). -/
def State.budgetAxis (s : State) (t code : Nat) (swaps : List Nat) : Nat :=
  let others := (axesOf t).filter fun a => (s.axis a).law.armed.isSome || (s.axis a).law.held.isSome
  let part := if code / 256 = 1 then swaps ++ others else swaps
  if code % 256 < 6 then 6 * t + code % 256 else part.foldl min (part.headD 0)

/-- Commits the pounds `ps` as one lockage; `rec` is the pound whose record the command was written to, and whose
CHECK_FAIL_OBJECT tells a failure. The pounds are checked in the order given, each by its own checks, then the budget (log
entry 86). The abort code, or 0 where the commit is accepted. -/
def State.commit (s : State) (rec : Nat) (ps : List Nat) : State × Nat :=
  if ps.any fun p => (s.pound p).closed then (s, 0xA030)
  else if ps.contains pDevice && (s.pound pDevice).has Reg.layerNumber && s.rd Reg.memState == 3 then (s, 0xA030)
  else
    match ps.findSome? s.commitFail with
    | some k => (s.wr (poundKey rec 8) k, 0xA012)
    | none =>
      let carried (a : Nat) : Option Nat := if ps.contains a then (s.pound a).value (Reg.bankSwap a) else none
      let swaps := ps.filter fun p => decide (p < 48) && (carried p).isSome
      let r : State × Bool := match swaps with
        | [] => (s, true)
        | a :: _ => s.budgetCheck (a / 6) carried true []
      if r.2 then
        let s := r.1.wr (poundKey rec 8) 0
        ((ps.foldl (fun s p => s.arm ps p) s).updateDeferrals, 0)
      else
        let t := swaps.headD 0 / 6
        (r.1.wr (poundKey rec 8) (Reg.bankSwap (r.1.budgetAxis t (r.1.rd (Reg.budgetCheck t)) swaps)), 0xA012)

/-- Discards the staged contents of the pounds `ps`. -/
def State.discard (s : State) (ps : List Nat) : State × Nat :=
  if ps.any fun p => (s.pound p).closed then (s, 0xA030)
  else
    (ps.foldl (init := s) fun s p =>
      if (s.pound p).staged.isEmpty then s
      else (s.modPound p fun x => { x with staged := [] }).bump 32 (poundKey p 7), 0)

/-! ### Lockage (R43, R46, R188 to R190) -/

/-- A request that a lockage brings: it begins, becomes the held swap, or is dropped (R189, R190, R193). -/
def State.beginSwap (s : State) (a : Nat) (w : Swap) : State :=
  let l := (s.axis a).law
  let now := bankCrc l.pound
  if now ≠ w.crc then
    let s := s.bump 32 (Reg.swapLostCount a)
    s.raise 0x3413 cAXIS a (dU 4 w.crc ++ dU 4 now)
  else if l.run = .stopped then
    let s := (s.modLaw a fun l => { l with active := l.pound }).bump 32 (Reg.swapCount a)
    s.raise 0x3410 cAXIS a (dU 2 w.len ++ dU 4 w.crc)
  else
    let s := s.modLaw a fun l => { l with incoming := some l.pound, stIn := {}, fadePos := 0, fadeLen := w.len, presetIn := true }
    let s := s.bump 32 (Reg.swapCount a)
    s.raise 0x3410 cAXIS a (dU 2 w.len ++ dU 4 w.crc)

/-- The swap request of AXIS_a reaches its lockage (R190). -/
def State.lockSwap (s : State) (a : Nat) : State :=
  match (s.axis a).law.armed with
  | none => s
  | some w =>
    let s := s.modLaw a fun l => { l with armed := none }
    -- a request that is still held, whether or not a fade runs, is replaced
    let s := match (s.axis a).law.held with
      | some h =>
        let s := (s.modLaw a fun l => { l with held := none }).bump 32 (Reg.swapLostCount a)
        s.raise 0x3412 cAXIS a (dU 4 h.crc ++ dU 4 w.crc)
      | none => s
    if (s.axis a).law.incoming.isSome then
      let s := s.modLaw a fun l => { l with held := some w }
      s.raise 0x3414 cAXIS a (dU 4 w.crc)
    else s.beginSwap a w

/-- Applies the contents of one pound (R43). -/
def State.applyPound (s : State) (p : Nat) : State :=
  let x := s.pound p
  let oldLayer := s.rd Reg.layerNumber
  let oldRate := s.rateChosen
  let oldSel := s.rd Reg.memFreqSel
  let s := x.staged.foldl (fun s e => s.putInUse e.1 e.2) s
  let s := s.modPound p fun _ => {}
  let s := (s.wr (poundKey p 5) (time80 s.lt)).bump 32 (poundKey p 6)
  -- with every value of the lockage in use (R200)
  let s := if p < 48 ∧ x.has (Reg.spSource p) then s.pulseFrom p else s
  let s := if p < 48 ∧ x.has (Reg.bankSwap p) then s.lockSwap p else s
  let s := if p = pDevice ∧ x.has Reg.memFreqSel ∧ s.rd Reg.memFreqSel ≠ oldSel then s.startSwitch oldRate else s
  if p = pDevice ∧ x.has Reg.layerNumber then s.layerInto oldLayer else s

/-- The lockage of pound p at a boundary of its kind at the present LT, if it is due; a bundle locks as one (R41, R52). -/
def State.lockPound (s : State) (p : Nat) (memStep : Bool) : State :=
  match (s.pound p).armed with
  | none => s
  | some t0 =>
    if t0 + ns 1000 ≤ s.lt ∧ s.deferCase p memStep = 0 then
      let all := p :: (s.pound p).bundle
      all.foldl State.applyPound s
    else if (s.pound p).deferred = 0 ∧ s.deferCase p memStep ≠ 0 then s.deferPound p (s.deferCase p memStep)
    else s

/-- A held swap begins at a LOOP boundary once no fade runs and no sequence holds it (R190). -/
def State.beginHeld (s : State) (a : Nat) : State :=
  match (s.axis a).law.held with
  | some w =>
    if (s.axis a).law.incoming.isNone ∧ !s.reacting then
      (s.modLaw a fun l => { l with held := none }).beginSwap a w
    else s
  | none => s

/-- Entry to CONFIGURE or INIT: every pound but `keep` is emptied (R48, R53). -/
def State.emptyPounds (s : State) : State :=
  let full := (List.range 106).filter fun p => !(s.pound p).staged.isEmpty
  let s := each 48 s fun s a => s.modLaw a fun l => { l with armed := none }
  let s := full.foldl (fun s p => s.bump 32 (poundKey p 7)) s
  let s := { s with pounds := Vector.replicate 106 {} }
  s.raiseIf (!full.isEmpty) 0x2010 cDEVICE 0 (dU 4 full.length)

/-- A MODE boundary applies the device transition pound (R33, R48), also while the lock-keeper runs a sequence that did not
interrupt the transition (log entry 86). -/
def State.lockTransition (s : State) : State :=
  if (s.pound pTransition).armed.isSome then s.applyPound pTransition else s

/-- An interrupted transition cancels its commit: the contents stay staged (R48). -/
def State.cancelTransition (s : State) : State :=
  s.modPound pTransition fun x => { x with armed := none, deferred := 0 }

end Sys2Proof.Machine
end

