-- ==== Sys2Proof/Machine/Keeper.lean ====
section
/-! DEFINITION. The lock-keeper: reactions, sequences, their steps, parking and returns (R407 to R418, R425 to R430). -/

namespace Sys2Proof.Machine

/-! ### Parking (R426) -/

/-- The observer of an axis that becomes PARKED: its words stay, with STATUS 0 (R91, R350). -/
def Obs.parked (o : Obs) : Obs :=
  { o with acq := .idle, lost := false, coastRun := false, invalidRun := 0
           ampLowOn := false, ampHighOn := false, limitOn := false
           words := { o.words with status := 0 }, prev := { o.prev with status := 0 } }

/-- AXIS_a becomes PARKED with a cause. Event 0x2033 is logged where that ends its own return, and where it leaves the return of
its engine or tile `alone` (R426, R428). -/
def State.parkAxis (s : State) (a cause : Nat) (alone : Bool) : State :=
  let was := s.rd (Reg.parkState a)
  if was = 1 then s else
    let own := !((s.engine (a / 6)).returning.contains a)
    let s := s.stopLaw a
    let s := (((s.wr (Reg.parkState a) 1).wr (Reg.parkCause a) cause).wr (Reg.supStatus a) 0).wr (Reg.coastCount a) 0
    let s := s.modAxis a fun x => { x with returnLt := none, obs := x.obs.parked }
    let s := s.modEngine (a / 6) fun x => { x with returning := x.returning.filter (· != a) }
    let s := s.raise 0x2030 cAXIS a (dU 1 cause)
    s.raiseIf (was == 2 && (alone || own)) 0x2033 cAXIS a []

/-- The class of the unit, ENGINE_t or TILE_t, whose return is in progress: some of its axes are RETURNING in it. -/
def State.unitReturning (s : State) (t : Nat) : Option Nat :=
  match (s.engine t).returnCls with | some (c, _) => if (s.engine t).returning.isEmpty then none else some c | none => none

/-- The return of ENGINE_t or of its tile ends, for a PARK of the unit of class `cls`, itself or above. An engine that is parked
in its tile's return leaves that return, which then has nothing to wait for; `back` is the class of the unit that returned and
`since` the boundary of its step 2 (R428; log entry 105). -/
def State.endReturn (s : State) (t cls : Nat) (back : Option Nat) (since : Lt) : State :=
  let s := s.modEngine t fun x => { x with returnCls := none }
  match back with
  | none => s
  | some c =>
    let s := s.raise 0x2033 (if cls = cTILE then c else cENGINE) t []
    s.raiseIf (cls == cENGINE && c == cTILE) 0x2032 cTILE t (dU 4 (lateNs since s.lt / 1000))

/-- ENGINE_t becomes PARKED with its six axes. -/
def State.parkEngine (s : State) (t cause axisCause : Nat) : State :=
  if s.engineParked t then s else
    let s := s.wrField Reg.enginesParked t 1 1
    let s := s.raise 0x2030 cENGINE t (dU 1 cause)
    (axesOf t).foldl (fun s a => s.parkAxis a axisCause false) s

/-- TILE_t becomes PARKED with its engine and axes; its drivers stop (R90, R426). -/
def State.parkTile (s : State) (t : Nat) : State :=
  if s.tileParked t then s else
    let s := s.wrField Reg.tilesParked t 1 1
    let s := s.raise 0x2030 cTILE t (dU 1 1)
    let s := each 6 s fun s j => s.stopDriver t j
    -- in CALIBRATE only the DAC self-check of its outputs goes on (R248)
    let s := s.modTile t fun x =>
      { x with running := false
               cal := if x.cal = .start ∨ x.cal = .phases then .dac else x.cal
               calBad := x.calBad || x.cal == .start || x.cal == .phases, gainDone := true }
    s.parkEngine t 3 3

/-- A PARK of R426 acts at its boundary. -/
def State.parkUnit (s : State) (cls inst : Nat) : State :=
  if cls = cAXIS then s.parkAxis inst 1 true
  else if cls = cENGINE then
    let back := s.unitReturning inst
    let since := (s.engine inst).returnFrom
    let s := s.parkEngine inst 1 4
    let s := (axesOf inst).foldl (fun s a => s.parkAxis a 4 false) s
    s.endReturn inst cENGINE back since
  else if cls = cTILE then
    let back := s.unitReturning inst
    let since := (s.engine inst).returnFrom
    let s := s.parkTile inst
    let s := (axesOf inst).foldl (fun s a => s.parkAxis a 3 false) s
    s.endReturn inst cTILE back since
  else s

/-! ### Returns (R428, R429) -/

/-- The fault latch of AXIS_a clears (R418). -/
def State.clearAxisLatch (s : State) (a : Nat) : State :=
  let v := s.rd Reg.axesFaulted
  if bitAt v a then s.wr Reg.axesFaulted (v - 2 ^ a) else s

/-- AXIS_a is back in service; the duration runs from the boundary of step 2. -/
def State.axisBack (s : State) (a : Nat) (since : Lt) : State :=
  let s := (s.wr (Reg.parkState a) 0).wr (Reg.parkCause a) 0
  let s := (s.modAxis a fun x => { x with returnLt := none, holdWait := x.holdWait || s.modeCode == HOLD }).clearAxisLatch a
  s.raise 0x2032 cAXIS a (dU 4 (lateNs since s.lt / 1000))

/-- Observers and carriers run in the present mode, so that a return acquires (R428). -/
def State.acquires (s : State) : Bool := s.supervised

/-- Step 2 of the return of AXIS_a, `alone` or with its engine: an axis of kind NONE is back at once where it returns alone,
and with the others of its engine (R428, R429). -/
def State.axisReturns (s : State) (a : Nat) (cause : Nat) (alone : Bool) : State :=
  let s := s.raise 0x2031 cAXIS a []
  if !s.acquires || (alone && s.kind a == 0) then s.axisBack a s.lt else
    let s := s.wr (Reg.parkState a) 2
    s.modAxis a fun x =>
      { x with returnLt := some s.lt
               obs := { x.obs with acq := .waiting cause, lost := false, total := 0, used := 0, errRun := 0, lateLogged := false } }

/-- TILE_t starts its amplifiers and ADCs, with the fast start of R116 (R89); they stay off while a logic self-test runs
(R455). -/
def State.tileOn (s : State) (t : Nat) : State :=
  s.modTile t fun x =>
    { x with running := !s.logicTest
             chans := x.chans.map fun (c : Chan) => { c with fastCount := 0, fastSum := 0, dc := 0 } }

/-- Step 2 of a RETURN acts at its boundary. -/
def State.returnUnit (s : State) (cls inst : Nat) : State :=
  if cls = cAXIS then (if s.axisParked inst then s.axisReturns inst 6 true else s)
  else if cls = cENGINE ∨ cls = cTILE then
    let t := inst
    let s := s.raise 0x2031 cls t []
    let s := if cls = cTILE then
        let s := (s.wrField Reg.tilesParked t 1 0).tileOn t
        if s.acquires then each 6 s fun s j => if s.drvEnabled t j then s.startDriver t j else s else s
      else s
    let s := (s.wrField Reg.enginesParked t 1 0).raiseIf (cls == cTILE) 0x2031 cENGINE t []
    let s := (axesOf t).foldl (fun s a => s.axisReturns a (if cls = cTILE then 1 else 6) false) s
    let wait := (axesOf t).filter fun a => s.rd (Reg.parkState a) == 2
    let s := s.modEngine t fun x => { x with returning := wait, returnCls := some (cls, t), returnFrom := s.lt }
    if wait.all fun a => s.kind a == 0 then
      let s := wait.foldl (fun s a => s.axisBack a s.lt) s
      ((s.modEngine t fun x => { x with returning := [], returnCls := none }).raise 0x2032 cls t (dU 4 0)).raiseIf (cls == cTILE) 0x2032 cENGINE t
        (dU 4 0)
    else s
  else s

/-- Step 3 of the returns of ENGINE_t at a boundary: acquisition has completed (R428, R429). -/
def State.returnsDone (s : State) (t : Nat) : State :=
  let ready (s : State) (a : Nat) : Bool := s.kind a == 0 || (s.axis a).obs.acq == .done && !bitAt (s.wordsAt a s.lt).status 4 &&
    decide ((s.axis a).returnLt.getD s.lt < s.lt)
  let e := s.engine t
  let s := match e.returnCls with
    | some (cls, u) =>
      if e.returning.all (ready s) then
        let s := e.returning.foldl (fun s a => s.axisBack a e.returnFrom) s
        let s := s.modEngine t fun x => { x with returning := [], returnCls := none }
        let d := dU 4 (lateNs e.returnFrom s.lt / 1000)
        (s.raise 0x2032 cls u d).raiseIf (cls == cTILE) 0x2032 cENGINE u d
      else s
    | none => s
  (axesOf t).foldl (init := s) fun s a =>
    if s.rd (Reg.parkState a) = 2 ∧ !((s.engine t).returning.contains a) ∧ ready s a then
      s.axisBack a ((s.axis a).returnLt.getD s.lt)
    else s

/-! ### Reactions (R407 to R416) -/

/-- Order of a reaction (R407). -/
def Reaction.order : Reaction → Nat
  | .axisSafe _ => 1
  | .laserSafe _ => 2
  | .deviceHold => 3

/-- The laser of AXIS_a. -/
abbrev laserOf (a : Nat) : Nat := a / 3

/-- The detection order: TIMESTAMP, class, instance, CODE (R404). -/
def Event.before (x y : Event) : Bool :=
  if x.ts ≠ y.ts then decide (x.ts < y.ts)
  else if x.cls ≠ y.cls then decide (x.cls < y.cls)
  else if x.inst ≠ y.inst then decide (x.inst < y.inst)
  else decide (x.code < y.code)

/-- Puts a record before the first that is detected after it. -/
def insertEvent (e : Event) : List Event → List Event
  | [] => [e]
  | x :: l => if e.before x then e :: x :: l else x :: insertEvent e l

/-- Records in detection order; of two alike the first stays first. -/
def sortEvents (l : List Event) : List Event := l.reverse.foldl (fun r e => insertEvent e r) []

/-- The reaction to a fault by its severity and the mode at its detection; `builds` says that the stream of its axis's laser was
RUNNING then; none is LOG (R408). -/
def Event.reaction (e : Event) (builds : Bool) : Option Reaction :=
  if e.level = 2 then
    if e.mode = BUILD ∧ builds then some .deviceHold else some (.axisSafe e.unit)
  else if e.level = 3 then
    if e.unit ≥ 16 then none
    else if e.mode = BUILD ∧ e.code ≠ 0x3513 then some .deviceHold else some (.laserSafe e.unit)
  else if e.level = 4 then
    if 3 ≤ e.mode ∧ e.mode ≤ 6 then some .deviceHold else none
  else none

/-- Step 1 of DEVICE_HOLD: lasers DARK, the device in HOLD where the mode allows it, streams stopped (R411, R439). -/
def State.holdStep1 (s : State) : State :=
  let s := each 16 s fun s l => s.darken l
  let s := s.buildLeft
  if s.inRun then (s.wr Reg.mode HOLD).reform else s

/-- Marks the record of a fault in the intake or the ring. -/
def State.markRecord (s : State) (uid : Nat) (f : Event → Event) : State :=
  let g (e : Event) : Event := if e.uid = uid then f e else e
  s.modLog fun l => { l with intake := l.intake.map g }

/-- A sequence starts at `t0` (R411, R412); a queued one is announced 20 ns after the sequence before it. -/
def State.startSequence (s : State) (k : Reaction) (t0 : Lt) (trigger : Nat) (faulted : List Nat) (cause : Nat)
    (announce : Bool) : State :=
  let s := if announce then
      s.raiseFull 0 0x2020 cDEVICE 0 (dU 1 k.order ++ dU 4 0) (t0 + ns 20) [(1, trigger)]
    else s
  let s := { s with lock := { s.lock with triggerUid := some trigger } }
  match k with
  | .axisSafe a =>
    s.modLock fun x => { x with running := some { kind := .axisSafe a, t0 := t0, trigger := trigger, faulted := faulted } }
  | .laserSafe l =>
    let s := s.darken l
    s.modLock fun x => { x with running := some { kind := .laserSafe l, t0 := t0, trigger := trigger, faulted := faulted } }
  | .deviceHold =>
    let old := s.modeCode
    let fromHold := (s.lock.holdRun.bind (·.fromMode))
    -- a commanded transition, into HOLD too, stops where it stands, and its commit is cancelled (R48, R440)
    let s := if s.mode.transition.isSome ∧ s.inRun then (s.modMode fun m => { m with transition := none }).cancelTransition
      else if s.lock.holdRun.isSome then s.cancelTransition else s
    let s := s.holdStep1
    let left : Option Nat := if old ≠ HOLD ∧ s.modeCode = HOLD then some old else fromHold
    let s := if left.isSome then s.wr Reg.modeStatus 1 else s
    s.modLock fun x =>
      { x with
        holdRun := none
        running := some { kind := .deviceHold, t0 := t0, trigger := trigger, faulted := faulted,
                          engines := List.range 8, cause := cause, fromMode := left } }

/-- A reaction meets the lock-keeper: it starts, takes over or is queued (R415, R416). -/
def State.react (s : State) (k : Reaction) (cls inst uid : Nat) (ts : Lt) (faulted : List Nat) (cause : Nat) : State :=
  match s.lock.running with
  | none => s.startSequence k ts uid faulted cause true
  | some r =>
    if k.order > r.kind.order then
      let s := s.raiseFull 1 0x2022 cDEVICE 0 (dU 4 0 ++ dU 4 0) (ts + ns 20) [(0, r.trigger), (4, uid)]
      let s := s.markRecord uid fun e => { e with takenOver := true }
      let left : List (Nat × Lt) := match r.kind with | .axisSafe a => [(a, r.t0)] | _ => []
      let s := s.modLock fun x => { x with running := none, leftover := x.leftover ++ left }
      s.startSequence k ts uid (faulted ++ r.faulted) cause false
    else
      let same (q : Queued) : Bool := q.cls == cls && q.inst == inst
      let q : Queued := { kind := k, cls := cls, inst := inst, trigger := uid, faulted := faulted, cause := cause }
      let s := s.markRecord uid fun e => { e with queued := true }
      if s.lock.queue.any same then
        let join (y : Queued) : Queued :=
          if same y then { y with kind := if k.order > y.kind.order then k else y.kind, faulted := y.faulted ++ faulted } else y
        let s := s.modLock fun x => { x with queue := x.queue.map join }
        s.raiseFull 0 0x2023 cDEVICE 0 (dU 4 0 ++ dU 4 (s.lock.queue.findIdx same + 1)) (ts + ns 20) [(0, uid)]
      else
        let s := s.modLock fun x => { x with queue := x.queue ++ [q] }
        s.raiseFull 0 0x2023 cDEVICE 0 (dU 4 0 ++ dU 4 s.lock.queue.length) (ts + ns 20) [(0, uid)]

/-- A fault meets the lock-keeper at its TIMESTAMP (R408). -/
def State.meetFault (s : State) (e : Event) (builds : Bool) : State :=
  let now := s.lt
  let s := { s with lt := min s.lt e.ts }
  let s := if e.level = 3 ∧ e.unit < 16 then s.darken e.unit else s
  let (c, i) : Nat × Nat := if e.level = 2 then (cAXIS, e.unit) else if e.level = 3 then (cLASER, e.unit) else (cDEVICE, 0)
  let s := match e.reaction builds with
    | none => s
    | some k => s.react k c i e.uid e.ts (if e.level = 2 then [e.unit] else []) 1
  s.goTo now

/-- The faults detected by now meet the lock-keeper in detection order, those of streams among them, each with the streams as they
were before the first of them (R404, R408, R416). -/
def State.meetFaults (s : State) : State :=
  let s := s.streamsCatch
  let due := sortEvents (s.lock.inbox.filter fun (e : Event) => decide (e.ts ≤ s.lt))
  let order := due.map fun e => (e, s.rd (Reg.streamState (laserOf e.unit)) == 1)
  let s := s.modLock fun x => { x with inbox := x.inbox.filter fun (e : Event) => decide (s.lt < e.ts) }
  order.foldl (fun s (x : Event × Bool) => s.meetFault x.1 x.2) s

/-- Faults that have been detected by now meet the lock-keeper. -/
def State.detect (s : State) : State :=
  if s.lock.inbox.all fun (e : Event) => decide (s.lt < e.ts) then s else s.meetFaults

/-- The running sequence completes at the present LT, and the next queued one begins (R404, R411, R416). -/
def State.completeSequence (s : State) : State :=
  match s.lock.running with
  | none => s
  | some r =>
    let dur := lateNs r.t0 s.lt
    let s := s.wr Reg.lastReactionTime (Num.fitU 32 dur)
    let s := s.raiseFull 0 0x2021 cDEVICE 0 (dU 1 r.kind.order ++ dI 4 dur) (s.lt + ns 10) []
    let s := match r.fromMode with
      | some m =>
        let s := (s.wr Reg.modeStatus 0).wr Reg.lastModeLt (time80 s.lt)
        s.raise 0x2000 cDEVICE 0 (dU 1 m ++ dU 1 HOLD ++ dU 1 r.cause)
      | none => s
    let s := s.modLock fun x => { x with running := none, doneLt := some s.lt, triggerUid := none }
    match s.lock.queue with
    | [] => s
    | q :: rest =>
      let s := s.modLock fun x => { x with queue := rest }
      s.startSequence q.kind s.lt q.trigger q.faulted q.cause true

/-- LASER_SAFE_COMPLETE: at t = 1 µs (R412). -/
def State.laserSafeDone (s : State) : State :=
  match s.lock.running with
  | some { kind := .laserSafe _, t0 := t0, .. } => (s.goTo (t0 + ns 1000)).completeSequence
  | _ => s

/-- AXIS_a goes to its HOLD_ACTION at step 2; it is never raised (R411, R413, R414). -/
def State.holdAxis (s : State) (a : Nat) : State :=
  if (s.axis a).law.run = .stopped then s
  else if s.modeCode = HOLD ∧ s.rd (Reg.holdAction a) = 1 ∧ !(s.axis a).obs.lost then s.startLaw a true
  else s.stopLaw a

/-- Step 2 of a sequence for ENGINE_t, if it falls at this boundary (R411). -/
def State.step2 (s : State) (q : Sequence) (t : Nat) : State × Sequence :=
  if q.t0 + ns 1000 ≤ s.lt ∧ q.engines.contains t then
    let s := (axesOf t).foldl (init := s) fun s a =>
      if q.faulted.contains a then s.parkAxis a 2 true else s.holdAxis a
    (s, { q with engines := q.engines.filter (· != t) })
  else (s, q)

/-- The steps of the lock-keeper that fall at a LOOP boundary of ENGINE_t. -/
def State.keeperBoundary (s : State) (t : Nat) : State :=
  let due := s.lock.leftover.filter fun (x : Nat × Lt) => x.1 / 6 == t && decide (x.2 + ns 1000 ≤ s.lt)
  let s := s.modLock fun x => { x with leftover := x.leftover.filter fun (y : Nat × Lt) => !due.contains y }
  let s := due.foldl (fun s (x : Nat × Lt) => s.parkAxis x.1 2 true) s
  let s := match s.lock.holdRun with
    | none => s
    | some q =>
      let r := s.step2 q t
      if r.2.engines.isEmpty then
        let s := r.1.modLock fun x => { x with holdRun := none }
        let s := (s.wr Reg.modeStatus 0).wr Reg.lastModeLt (time80 s.lt)
        let s := s.raise 0x2000 cDEVICE 0 (dU 1 (q.fromMode.getD HOLD) ++ dU 1 HOLD ++ dU 1 0)
        s.lockTransition
      else r.1.modLock fun x => { x with holdRun := some r.2 }
  match s.lock.running with
  | none => s
  | some q =>
    match q.kind with
    | .axisSafe a =>
      if a / 6 = t ∧ q.t0 + ns 1000 ≤ s.lt then (s.parkAxis a 2 true).completeSequence else s
    | .laserSafe _ => s
    | .deviceHold =>
      let r := s.step2 q t
      let s := r.1.modLock fun x => { x with running := some r.2 }
      if r.2.engines.isEmpty then s.completeSequence else s

/-- The level of PFAIL_N is low (R418; log entry 67). -/
def State.pfailIsLow (s : State) : Bool := s.mode.pfailLow && match s.mode.pfailUp with | some t => decide (s.lt < t) | none => true

/-- FAULT_CLEAR with 0x01: the latches whose conditions have ended clear (R418). -/
def State.faultClear (s : State) : State :=
  let lasers := (List.range 16).filter fun l => s.laserLatched l
  let s := lasers.foldl (init := s) fun s l => (s.wrField Reg.faultSummary l 1 0).darken l
  let holds (c : Nat) : Bool :=
    if c = 0x380D then !bitAt (s.rd Reg.samplePll) 0
    else if c = 0x3B10 then s.rd Reg.memState == 4
    else if c = 0x2028 then s.pfailIsLow
    else false
  let was := bitAt (s.rd Reg.faultSummary) 16
  let left := s.lock.deviceLatched.filter holds
  let s := s.modLock fun x => { x with deviceLatched := left }
  let s := if was ∧ left.isEmpty then s.wrField Reg.faultSummary 16 1 0 else s
  let n := lasers.length + bit (was && left.isEmpty)
  s.raiseIf (decide (0 < n)) 0x202A cDEVICE 0 (dU 4 n)

/-- LK_TRIGGER_SEQ follows the record whose reaction runs, once it is numbered (R405, R433). -/
def State.syncTrigger (s : State) : State :=
  match s.lock.triggerUid with
  | none => s
  | some u =>
    match s.log.seqOf.find? fun (e : Nat × Nat) => e.1 == u with
    | some e => s.wr Reg.lkTriggerSeq e.2
    | none => s

/-- The end of every command: faults meet the lock-keeper and held lockages become DEFERRED. -/
def State.finish (s : State) : State := s.detect.updateDeferrals.syncTrigger

/-- A pin starts DEVICE_HOLD: HOLD_N, or CLEAR_AX_N in BUILD (R410). -/
def State.pinHold (s : State) (uid : Nat) (cause : Nat) : State := s.react .deviceHold cDEVICE 0 uid s.lt [] cause

end Sys2Proof.Machine
end

