-- ==== Sys2Proof/Machine/TestBlock.lean ====
section
/-! DEFINITION. Raw taps and their triggers, and the level signals of the test multiplexer (chapter 17). -/

namespace Sys2Proof.Machine

/-- Tap i. -/
def State.tap (s : State) (i : Nat) : Tap := s.test.taps[i]?.getD {}

/-- Changes tap i. -/
def State.modTap (s : State) (i : Nat) (f : Tap → Tap) : State :=
  { s with test := { s.test with taps := s.test.taps.setIfInBounds i (f (s.tap i)) } }

/-- Low nibble of TRIG_STATE: 0 IDLE, 1 ARMED, 2 TRIGGERED, 3 DONE. -/
def State.trigNow (s : State) (k : Nat) : Nat := s.rd (Reg.trigState k) % 16

/-- The taps of trigger k: those that select a point. -/
def State.tapsOf (s : State) (k : Nat) : List Nat :=
  (List.range 32).filter fun i => s.rd (Reg.tapPoint i) != 0 && s.rd (Reg.tapTrig i) == k

/-- Records in a tap's ring. -/
def State.tapRing (s : State) (i : Nat) : Nat := s.rd (Reg.tapSize i) / 32

/-- Writes bytes into the memory of tap i at an offset of its ring (R462). -/
def State.tapStore (s : State) (i off : Nat) (b : List Nat) : State :=
  let a := s.rd (Reg.tapBase i) + off
  if s.rd (Reg.tapTarget i) = 0 then { s with capture := memWriteBytes zeroByte s.capture a b }
  else { s with dram := memWriteBytes zeroByte s.dram a b }

/-- The trigger reaches DONE once its last tap has stopped (R465, R467). -/
def State.trigDone (s : State) (k reason : Nat) : State :=
  if (s.trigNow k = 1 ∨ s.trigNow k = 2) ∧ (s.tapsOf k).all (fun i => !(s.tap i).active) then
    (s.wr (Reg.trigState k) (16 * reason + 3)).raise 0x3C06 cDEVICE 0 (dU 1 k ++ dU 1 reason)
  else s

/-- A tap that has its TAP_POST records stops (R465). -/
def State.tapEnough (s : State) (i : Nat) : State :=
  let k := s.rd (Reg.tapTrig i)
  if (s.tap i).active ∧ s.trigNow k = 2 ∧ s.rd (Reg.tapPost i) ≤ (s.tap i).post then
    (s.modTap i fun x => { x with active := false }).trigDone k 1
  else s

/-- The 32 bytes of a record (R463). -/
def tapRecord (tns tap flags seq : Nat) (words : List Nat) : List Nat :=
  leBytes 8 tns ++ [tap, flags, 0, 0] ++ leBytes 4 seq ++ (List.range 4).flatMap fun i => leBytes 4 (words.getD i 0)

/-- Tap i takes a value of its point with LT `at_`: one record for every DECIM-th value (R462 to R466). `excluded` and
`miss` are flags of the value; `drop` says that the record cannot be written in time. -/
def State.tapValue (s : State) (i : Nat) (at_ : Lt) (excluded miss drop : Bool) (words : List Nat) : State :=
  let x := s.tap i
  if !x.active then s
  else if x.skip + 1 < s.rd (Reg.decim i) then s.modTap i fun x => { x with skip := x.skip + 1 }
  else
    let k := s.rd (Reg.tapTrig i)
    let post := s.trigNow k == 2 && decide ((ofTime80 (s.rd (Reg.trigLt k))).toNs ≤ at_.toNs)
    let seq := (x.seq + 1) % 2 ^ 32
    if drop then
      let s := s.bump 32 (Reg.tapDropped i)
      let s := s.modTap i fun x => { x with skip := 0, seq := seq, dropping := true }
      s.raiseIf (!x.dropping) 0x3C05 cDEVICE 0 (dU 1 i)
    else
      let flags := 8 * bit miss + 4 * bit excluded + 2 * bit post
      let n := max 1 (s.tapRing i)
      let s := s.tapStore i (32 * (x.written % n)) (tapRecord at_.toNs i flags seq words)
      let s := s.modTap i fun x =>
        { x with
          skip := 0, seq := seq, dropping := false, written := x.written + 1, post := x.post + bit post
          recent := (at_.toNs :: x.recent).take 1024 }
      s.tapEnough i

/-! ### What the points carry (R462) -/

/-- The channel a TAP_UNIT names for the points of the chain: its tile and channel. -/
def tapChannel (u : Nat) : Option (Nat × Nat) :=
  let c := u % 32
  if c < 12 then some (u / 32, c) else if 16 ≤ c ∧ c < 22 then some (u / 32, c - 4) else none

/-- Bits [31:16] of a 32-bit word. -/
def hiHalf (v : Int) : Nat := ofSigned 32 v / 2 ^ 16

/-- Words of the sample-rate points, none where the point does not run. -/
def State.sampleWords (s : State) (point t c : Nat) : Option (List Nat) :=
  let x := (s.tile t).chan c
  let on := (s.tile t).running && (if c < 12 then s.ampMode t c != 0 else true)
  let chain := on && (s.chanAxis t c).isSome
  let plain := c < 12 && (s.pairUser t c).isNone
  let l := match s.chanAxis t c with | some a => s.rd (Reg.maLength a) | none => 1
  match point with
  | 1 => if on then some [ofSigned 32 x.adc] else none
  | 2 => if chain && !plain then some [ofSigned 32 x.dcOut, ofSigned 32 (x.dcUsed / 2 ^ 16)] else none
  | 3 => if chain && !plain then some [ofSigned 32 x.prod.1, ofSigned 32 x.prod.2] else none
  | 4 => if chain then some [ofSigned 32 x.maLast.1, ofSigned 32 x.maLast.2, ((x.win.take l).filterMap id).length] else none
  | _ => none

/-- The taps of the sample-rate points after the sample at `now`. -/
def State.tapSamples (s : State) (now : Lt) (drops : List Nat) : State :=
  each 32 s fun s i =>
    let p := s.rd (Reg.tapPoint i)
    if !(s.tap i).active || p == 0 || decide (4 < p) then s else
      match tapChannel (s.rd (Reg.tapUnit i)) with
      | none => s
      | some (t, c) =>
        match s.sampleWords p t c with
        | none => s
        | some w =>
          let ex := s.chanExcluded t c now || bitAt (s.rd Reg.samplePll) 1
          s.tapValue i now ex false (drops.contains i) w

/-- Words of the points of a demodulation output. -/
def State.demodWords (s : State) (p u t : Nat) : Option (List Nat) :=
  if p = 5 then
    match tapChannel u with
    | some (t', c) =>
      let f := ((s.tile t).chan c).firOut
      if t' = t ∧ (s.chanAxis t c).isSome then some [ofSigned 32 f.1, ofSigned 32 f.2] else none
    | none => none
  else if (p = 6 ∨ p = 7) ∧ u / 6 = t ∧ s.axisObserved t u then
    let o := (s.axis u).obs
    if p = 6 then
      some [s.rd (Reg.obsError u), ofSigned 32 (o.corr.getD 0 0), ofSigned 32 (o.corr.getD 1 0),
        2 ^ 16 * hiHalf (o.iq.getD 2 0) + hiHalf (o.iq.getD 3 0)]
    else
      some [o.words.angle, ofSigned 32 o.words.speed, ofSigned 32 o.words.accel,
        2 ^ 16 * ofSigned 16 o.words.turns + o.words.status % 2 ^ 16]
  else none

/-- The taps of TILE_t's demodulation output at `td`. -/
def State.tapDemod (s : State) (t : Nat) (td : Lt) (drops : List Nat) : State :=
  if !(s.tile t).running then s else
  each 32 s fun s i =>
    let p := s.rd (Reg.tapPoint i)
    if !(s.tap i).active || decide (p < 5) || decide (7 < p) then s else
      match s.demodWords p (s.rd (Reg.tapUnit i)) t with
      | none => s
      | some w => s.tapValue i td false false (drops.contains i) w

/-- The taps of ENGINE_t's loop period whose boundary was `b`; `missed` are its abandoned axes. -/
def State.tapLoop (s : State) (t : Nat) (b : Lt) (missed drops : List Nat) : State :=
  each 32 s fun s i =>
    let p := s.rd (Reg.tapPoint i)
    let a := s.rd (Reg.tapUnit i)
    if !(s.tap i).active || decide (p < 8) || decide (9 < p) || a / 6 != t || decide (48 ≤ a) then s
    else if (s.axis a).law.run = .stopped then s
    else
      let l := (s.axis a).law
      let st := s.rd (Reg.lawStatus a) % 2 ^ 16
      let w := if p = 8 then [ofSigned 40 l.err / 2 ^ 8, ofSigned 40 l.err1 / 2 ^ 8, s.rd (Reg.weirPos a) % 2 ^ 32, st]
        else [ofSigned 32 (s.axis a).axo.code, s.rd (Reg.uCmd a), s.rd (Reg.aCmd a), st]
      s.tapValue i b false (missed.contains a) (drops.contains i) w

/-! ### Arm, fire and stop (R464, R465, R467) -/

/-- Values of tap i per second, as a fraction: ns between two values in the second place (R464). -/
def State.tapNs (s : State) (i : Nat) : Nat :=
  let p := s.rd (Reg.tapPoint i)
  let u := s.rd (Reg.tapUnit i)
  if p ≤ 4 then 100 else if p = 5 then s.demodNs (u / 32) else if p ≤ 7 then s.demodNs (u / 6) else s.loopNs (u / 6)

/-- The rings of two taps overlap. -/
def State.ringsMeet (s : State) (i j : Nat) : Bool :=
  s.rd (Reg.tapTarget i) == s.rd (Reg.tapTarget j) &&
    decide (s.rd (Reg.tapBase i) < s.rd (Reg.tapBase j) + s.rd (Reg.tapSize j)) &&
    decide (s.rd (Reg.tapBase j) < s.rd (Reg.tapBase i) + s.rd (Reg.tapSize i))

/-- The taps of the triggers in `ks` together ask for more than 8 GB/s (R464). -/
def State.tapsTooFast (s : State) (ks : List Nat) : Bool :=
  let sum : Nat × Nat := (ks.flatMap s.tapsOf).foldl (init := ((0 : Nat), (1 : Nat))) fun (f : Nat × Nat) i =>
    let d := max 1 (s.tapNs i * s.rd (Reg.decim i))
    (f.1 * d + 32 * f.2, f.2 * d)
  decide (8 * sum.2 < sum.1)

/-- The arm of trigger k is refused (R464). -/
def State.armRefused (s : State) (k : Nat) (also : List Nat) : Bool :=
  let armed := (List.range 4).filter fun q => q == k || also.contains q || s.trigNow q == 1 || s.trigNow q == 2
  (s.tapsOf k).any (fun i =>
    let size := if s.rd (Reg.tapTarget i) = 0 then 2 * 2 ^ 20 else s.hostSpaceNow
    decide (size < s.rd (Reg.tapBase i) + s.rd (Reg.tapSize i)) || decide (s.tapRing i < s.rd (Reg.tapPost i)) ||
      (List.range 32).any fun j => j != i && s.rd (Reg.tapPoint j) != 0 && s.ringsMeet i j) ||
  s.tapsTooFast armed

/-- ARM of trigger k: rings cleared, TAP_SEQ zero, taps writing (R464). -/
def State.armTrigger (s : State) (k : Nat) : State :=
  let s := s.wr (Reg.trigState k) 1
  (s.tapsOf k).foldl (init := s) fun s i =>
    let s := (s.wr (Reg.tapDropped i) 0).modTap i fun _ => { active := true }
    if s.rd (Reg.tapTarget i) = 0 then { s with capture := memClear s.capture (s.rd (Reg.tapBase i)) (s.rd (Reg.tapSize i)) }
    else { s with dram := memClear s.dram (s.rd (Reg.tapBase i)) (s.rd (Reg.tapSize i)) }

/-- Records of tap i already written whose LT_NS is at or after TRIG_LT take POST and count towards TAP_POST (R463). -/
def State.tapPostPast (s : State) (i : Nat) (tns : Nat) : State :=
  let x := s.tap i
  let n := max 1 (s.tapRing i)
  let idx := (List.range (min x.recent.length n)).filter fun j => decide (tns ≤ x.recent.getD j 0)
  let s := idx.foldl (init := s) fun s j =>
    let off := 32 * ((x.written - 1 - j) % n) + 9
    let a := s.rd (Reg.tapBase i) + off
    let old := memRead zeroByte (if s.rd (Reg.tapTarget i) = 0 then s.capture else s.dram) a
    s.tapStore i off [Nat.lor old.toNat 2]
  s.modTap i fun x => { x with post := idx.length }

/-- Trigger k fires with its source 1 TIME, 2 EVENT or 3 HOST at LT `t` (R465). -/
def State.fireTrigger (s : State) (k source : Nat) (t : Lt) : State :=
  if s.trigNow k ≠ 1 then s.bump 32 (Reg.ignoredCount k) else
    let s := (s.wr (Reg.trigState k) 2).wr (Reg.trigLt k) (time80 t)
    let s := s.raise 0x3C04 cDEVICE 0 (dU 1 k ++ dU 1 source)
    let s := (s.tapsOf k).foldl (fun s i => (s.tapPostPast i t.toNs).tapEnough i) s
    s.trigDone k 1

/-- SOURCE of trigger k: 0 off, 1 TIME, 2 EVENT, 3 HOST. -/
def State.trigSource (s : State) (k : Nat) : Nat := bitsAt (s.rd (Reg.trigCfg k)) 8 2

/-- The taps of trigger k that meet a condition stop at once, with a reason (R467). -/
def State.stopTaps (s : State) (k reason : Nat) (f : Nat → Bool) : State :=
  let hit := (s.tapsOf k).filter fun i => (s.tap i).active && f i
  if hit.isEmpty ∧ ¬ (s.tapsOf k = []) then s
  else if s.trigNow k ≠ 1 ∧ s.trigNow k ≠ 2 then s
  else (hit.foldl (fun s i => s.modTap i fun x => { x with active := false }) s).trigDone k reason

/-- Every tap stops (R467, reason 3). -/
def State.stopAllTaps (s : State) (reason : Nat) : State := each 4 s fun s k => s.stopTaps k reason fun _ => true

/-- As a frequency switch reaches step 1, a trigger with an active tap whose target is external memory goes to DONE with reason
2, and so every tap of it stops (R467; log entry 110). -/
def State.stopDramTaps (s : State) : State :=
  each 4 s fun s k =>
    if (s.tapsOf k).any fun i => (s.tap i).active && s.rd (Reg.tapTarget i) == 1 then s.stopTaps k 2 fun _ => true else s

/-- An admitted record meets the condition of an event trigger, which fires, or ignores it where it is not armed (R465; log entry
102). -/
def State.eventTriggers (s : State) (code level : Nat) (ts : Lt) : State :=
  if code / 256 = 0x3C then s else
  each 4 s fun s k =>
    let c := s.rd (Reg.trigCfg k)
    let same := if bitAt c 10 then bitsAt c 24 8 == code / 256 else bitsAt c 16 16 == code
    if s.trigSource k = 2 ∧ same ∧ bitsAt c 0 3 ≤ level then s.fireTrigger k 2 ts else s

/-- CAPTURE_CMD: STOP [15:12], FIRE [11:8], ARM [3:0], in that order; nothing is done where an arm is refused. The abort
code is 0 where the write is accepted (R464, R465, R467). -/
def State.captureCmd (s : State) (v : Nat) : State × Nat :=
  let ks (lo : Nat) := (List.range 4).filter fun k => bitAt v (lo + k)
  if bitsAt v 4 4 ≠ 0 then (s, 0xA012)
  else if (ks 0).any fun k => s.armRefused k (ks 0) then (s, 0xA012)
  else
    let s := (ks 12).foldl (fun s k => s.stopTaps k 4 fun _ => true) s
    let s := ((ks 8).filter fun k => s.trigSource k == 3).foldl (fun s k => s.fireTrigger k 3 s.lt) s
    ((ks 0).foldl State.armTrigger s, 0)

/-- CAPTURE_RD_DATA: up to 128 records from CAPTURE_RD_ADDR to the end of the capture buffer. -/
def State.captureRead (s : State) : List Nat :=
  let a := s.rd Reg.captureRdAddr
  memReadBytes zeroByte s.capture a (min 4096 (2 * 2 ^ 20 - a))

end Sys2Proof.Machine
end

