-- ==== Sys2Proof/Machine/Log.lean ====
section
/-! DEFINITION. The event log: admission and numbering, the ring and its reads, persistence over a power failure and the
restore at boot (R399 to R406, R431, R432, R452). -/

namespace Sys2Proof.Machine

/-! ### Records (R399 to R402) -/

/-- The 32 bytes of a record. -/
def Event.bytes (e : Event) : List Nat :=
  leBytes 4 e.seq ++ leBytes 10 (time80 e.ts) ++ leBytes 2 (e.cls * 1024 + e.inst) ++ leBytes 2 e.code ++
    [e.level + 32 * bit e.takenOver + 64 * bit e.queued + 128 * bit e.restored, e.mode] ++ leBytes 4 e.layer ++
    (List.range 8).map fun i => e.data.getD i 0

/-- The record of 32 bytes that a sector holds; it reads RESTORED (R432). -/
def Event.ofBytes (b : List Nat) : Event :=
  let f (o n : Nat) := ofLeBytes ((b.drop o).take n)
  { seq := f 0 4, ts := ofTime80 (f 4 10), cls := f 14 2 / 1024, inst := f 14 2 % 1024, code := f 16 2,
    level := f 18 1 % 8, takenOver := bitAt (f 18 1) 5, queued := bitAt (f 18 1) 6, restored := true,
    mode := f 19 1, layer := f 20 4, data := (b.drop 24).take 8 }

/-- The SEQ of a record by its own name, if it has been numbered or is reported lost. -/
def State.seqOfUid (s : State) (u : Nat) : Option Nat := (s.log.seqOf.find? fun (e : Nat × Nat) => e.1 == u).map (·.2)

/-- `l` with the bytes from offset `o` on replaced. -/
def putBytes (l : List Nat) (o : Nat) (b : List Nat) : List Nat :=
  (List.range (max l.length (o + b.length))).map fun i => if o ≤ i ∧ i < o + b.length then b.getD (i - o) 0 else l.getD i 0

/-- DATA with the SEQ of the records it names. -/
def State.eventData (s : State) (e : Event) : List Nat :=
  e.trig.foldl (init := e.data) fun d (x : Nat × Nat) => putBytes d x.1 (leBytes 4 ((s.seqOfUid x.2).getD 0))

/-! ### Admission (R404, R405) -/

/-- Number of records the ring holds. -/
abbrev ringSize : Nat := 4096

/-- OLDEST_SEQ of a ring. -/
def State.oldestOf (s : State) : Nat :=
  match s.log.ring.getLast? with | some e => e.seq | none => s.rd Reg.nextSeq

/-- The next number is given to a record, which joins the ring. -/
def State.number (s : State) (e : Event) (uids : List Nat) : State :=
  let q := s.rd Reg.nextSeq
  let e := { e with seq := q, data := s.eventData e }
  let s := s.modLog fun l =>
    { l with ring := (e :: l.ring).take ringSize, seqOf := ((uids.map fun u => (u, q)) ++ l.seqOf).take 4096 }
  let s := s.wr Reg.nextSeq ((q + 1) % 2 ^ 32)
  let s := s.wr Reg.oldestSeq s.oldestOf
  (s.eventTriggers e.code e.level e.ts).syncTrigger

/-- Event 0x2024 for the records lost so far, numbered at once (R405). -/
def State.numberLoss (s : State) : State :=
  if s.log.lossCount = 0 then s else
    let l := s.log
    let e : Event := { uid := l.nextUid, ts := l.lossTs, cls := cDEVICE, inst := 0, code := 0x2024, level := 1,
                       mode := l.lossMode, layer := l.lossLayer, data := dU 4 l.lossCount ++ leBytes 2 l.lossCode }
    let s := s.modLog fun l => { l with nextUid := l.nextUid + 1, lossCount := 0, lossUids := [] }
    s.number e l.lossUids

/-- The first record of the intake in detection order. -/
def firstEvent : List Event → Option Event
  | [] => none
  | x :: l => match firstEvent l with
    | none => some x
    | some y => if y.before x then some y else some x

/-- A record leaves the intake and is numbered, after the loss it follows. -/
def State.admitEvent (s : State) (e : Event) : State :=
  let s := s.modLog fun l => { l with intake := l.intake.filter fun (x : Event) => x.uid != e.uid }
  s.numberLoss.number e [e.uid]

/-- EVENT_ADMIT: the first record of the intake is admitted 2 µs after its TIMESTAMP. Every block has delivered by then what it
detected before it (R404). -/
def State.eventAdmit (s : State) : State :=
  let s := s.streamsCatch
  match firstEvent s.log.intake with
  | none => s
  | some e =>
    let s := (s.goTo (e.ts + ns 2000)).streamsCatch
    match firstEvent s.log.intake with
    | none => s
    | some e => s.admitEvent e

/-- At most `n` records of the intake are numbered now, in detection order, while they satisfy `p` (R301, R431). -/
def State.admitWhile (p : Event → Bool) : Nat → State → State
  | 0, s => s
  | n + 1, s =>
    match firstEvent s.log.intake with
    | none => s
    | some e => if p e then State.admitWhile p n (s.admitEvent e) else s

/-- EVENT_RD_DATA: up to 128 records from the later of EVENT_RD_SEQ and OLDEST_SEQ (R406). -/
def State.eventRead (s : State) : List Nat :=
  let old := s.oldestOf
  let from_ := if (s.rd Reg.eventRdSeq + 2 ^ 32 - old) % 2 ^ 32 < 2 ^ 31 then (s.rd Reg.eventRdSeq + 2 ^ 32 - old) % 2 ^ 32 else 0
  ((s.log.ring.reverse.drop from_).take 128).flatMap Event.bytes

/-! ### Persistence (R431, R432, R452) -/

/-- Flash address of event sector i (R447). -/
abbrev eventSector (i : Nat) : Nat := 0x200000 + 0x10000 * i

/-- The commit word of a slot and of an event sector (R448; log entry 16). -/
abbrev commitWord : Nat := 0x5CA6C0A1

/-- The image of an event sector: 256 records in sequence order, unused places erased, then the CRC, the SEQ of the last
record and the commit word (log entry 16). -/
def State.sectorImage (s : State) : List Nat :=
  let recs := (s.log.ring.take 256).reverse.flatMap Event.bytes
  let block := recs ++ List.replicate (8192 - recs.length) 0xFF
  let last := match s.log.ring.head? with | some e => e.seq | none => 0
  block ++ leBytes 4 (crc32 block) ++ leBytes 4 last ++ leBytes 4 commitWord

/-- The sector the next persistence writes: the one that is kept erased. -/
def State.erasedSector (s : State) : Nat := match s.store.newest with | some k => 1 - k | none => 0

/-- Bytes of a flash range. -/
def State.flashBytes (s : State) (a n : Nat) : List Nat := memReadBytes erasedByte s.flash a n

/-- The sequence number of the last record of a valid sector (R432). -/
def State.sectorSeq (s : State) (i : Nat) : Option Nat :=
  let w (o : Nat) := ofLeBytes (s.flashBytes (eventSector i + o) 4)
  if w 8200 = commitWord ∧ w 8192 = crc32 (s.flashBytes (eventSector i) 8192) then some (w 8196) else none

/-- The log is restored from the valid sector with the higher last number (R432). -/
def State.restoreLog (s : State) : State :=
  let pick : Option Nat := match s.sectorSeq 0, s.sectorSeq 1 with
    | some a, some b => if (b + 2 ^ 32 - a) % 2 ^ 32 < 2 ^ 31 ∧ a ≠ b then some 1 else some 0
    | some _, none => some 0
    | none, some _ => some 1
    | none, none => none
  match pick with
  | none => ({ s with store := { s.store with newest := none } }.wr Reg.nextSeq 0).raise 0x2026 cDEVICE 0 []
  | some k =>
    let b := s.flashBytes (eventSector k) 8192
    let raw := (List.range 256).map fun i => (b.drop (32 * i)).take 32
    let recs := (raw.filter fun (r : List Nat) => !(r.all fun x => x == 0xFF)).map Event.ofBytes
    let s := { s with store := { s.store with newest := some k } }
    let s := s.modLog fun l => { l with ring := recs.reverse }
    let first := match recs.head? with | some e => e.seq | none => 0
    let s := s.wr Reg.nextSeq (((s.sectorSeq k).getD 0 + 1) % 2 ^ 32)
    let s := (s.wr Reg.oldestSeq s.oldestOf).wr Reg.restoredCount recs.length
    s.raise 0x2025 cDEVICE 0 (dU 4 recs.length ++ dU 4 first)

/-- SECTOR_ERASE_COMPLETE: the older event sector is erased and PERSIST_STATE reads ARMED (R431, R444, R452). -/
def State.sectorErased (s : State) : State :=
  if s.rd Reg.persistState = 1 ∧ s.rd Reg.storeState ≠ 2 ∧ !s.log.stopped then
    let s := { s with flash := memClear s.flash (eventSector s.erasedSector) 0x10000 }
    s.wr Reg.persistState 0
  else s

/-- Flash address of slot i (R447). -/
abbrev slotBase (i : Nat) : Nat := 0x100000 * i

/-- A save in progress is cut short: how much of its image stands in the slot is open, its commit word is not written (R451;
log entry 17). -/
def State.saveCut (s : State) : State :=
  match s.store.save with
  | none => s
  | some x =>
    let (v, s) := s.fresh
    let part := x.image.take (v % (x.image.length + 1))
    let s := { s with flash := memWriteBytes erasedByte s.flash (slotBase x.slot) part }
    { s with store := { s.store with save := none } }.wr Reg.storeState 0

/-- A power-fail write is cut short: its sector has no commit word (R431; log entry 17). -/
def State.persistCut (s : State) : State :=
  if s.rd Reg.persistState = 2 then
    let (v, s) := s.fresh
    { s with flash := memWriteBytes erasedByte s.flash (eventSector s.erasedSector) (s.store.block.take (v % 8201)) }
  else s

/-- Numbering stops: what the intake still holds has been detected from here on, and is lost (R431). -/
def State.stopNumbering (s : State) : State :=
  let late := sortEvents s.log.intake
  late.foldl State.deliver (s.modLog fun l => { l with intake := [], stopped := true })

/-- Event 0x2028 and the persistence of R431: every record before it is numbered, the fault meets the lock-keeper, which may mark
its record, and the block ends with it. -/
def State.pfailPersist (s : State) : State :=
  let k : Event := { ts := s.lt, cls := cDEVICE, code := 0x2028 }
  let s := State.admitWhile (·.before k) 257 s.streamsCatch
  let uid := s.log.nextUid
  let s := (s.raise 0x2028 cDEVICE 0 []).detect
  let s := State.admitWhile (·.before k) 257 s
  let s := match s.log.intake.find? fun (e : Event) => e.uid == uid with
    | some e => s.admitEvent e
    | none => s
  let s := s.stopNumbering.wr Reg.persistState 2
  { s with store := { s.store with pfailRun := true, block := s.sectorImage } }

/-- PFAIL_N has been low for 1 µs, and rises at `up` where that is told: a save in progress is abandoned, event 0x2028 is logged,
and the persistence runs where it is armed (R410, R418, R431, R451, R452; log entry 67). -/
def State.pfailFall (s : State) (up : Option Lt) : State :=
  let s := s.modMode fun m => { m with pfailLow := true, pfailUp := up }
  let s := match s.store.save with
    | some x => s.saveCut.raise 0x2005 cDEVICE 0 (dU 1 x.slot ++ dU 1 3)
    | none => s
  if s.log.stopped then s.raise 0x2028 cDEVICE 0 []
  else if s.rd Reg.persistState = 0 then s.pfailPersist
  else
    let s := s.raise 0x2028 cDEVICE 0 []
    { s with store := { s.store with pfailRun := false } }

/-- PERSIST_WRITE_COMPLETE: the block stands in its sector with its commit word (R431). Where logging has resumed before it, the
other sector is erased next (R452; log entry 103). -/
def State.persistDone (s : State) : State :=
  if s.rd Reg.persistState = 2 then
    let k := s.erasedSector
    let s := { s with flash := memWriteBytes erasedByte s.flash (eventSector k) s.store.block }
    let s := { s with store := { s.store with newest := some k } }
    s.wr Reg.persistState (if s.log.stopped then 3 else 1)
  else s

/-- PFAIL_N_RECOVER: PFAIL_N has stayed high for 1 ms with the supplies in range; a write that still goes on goes on to its end
(R452; log entry 103). -/
def State.pfailRecover (s : State) : State :=
  if !s.mode.pfailLow then s else
    let s := s.modMode fun m => { m with pfailLow := false, pfailUp := none }
    if s.store.pfailRun then
      let n := s.log.stoppedLost
      let s := s.wr Reg.lostCount (min (s.rd Reg.lostCount + n) (2 ^ 32 - 1))
      let s := s.modLog fun l => { l with stopped := false, stoppedLost := 0, lossCount := l.lossCount + n }
      let s := { s with store := { s.store with pfailRun := false } }
      (s.wr Reg.persistState (if s.rd Reg.persistState = 2 then 2 else 1)).raise 0x200A cDEVICE 0 (dU 4 n)
    else s.raise 0x200A cDEVICE 0 (dU 4 0)

end Sys2Proof.Machine
end

