-- ==== Sys2Proof/Machine/MemPort.lean ====
section
/-! DEFINITION. The trajectory memory port (chapter 14) and errors of on-chip SRAM (R22, R409). -/

namespace Sys2Proof.Machine

/-- Changes the memory port. -/
def State.modMem (s : State) (f : MemPort → MemPort) : State := { s with memPort := f s.memPort }

abbrev memOFF : Nat := 0
abbrev memTRAINING : Nat := 1
abbrev memREADY : Nat := 2
abbrev memSWITCHING : Nat := 3
abbrev memFAILED : Nat := 4

/-- MEM_STATE. -/
def State.memState (s : State) : Nat := s.rd Reg.memState

/-! ### Addresses (R379) -/

/-- G, the grain of the interleave. -/
def State.grain (s : State) : Nat := 2 ^ s.rd Reg.interleaveLog2

/-- Channel and channel address of a host address. -/
def State.channelOf (s : State) (a : Nat) : Nat × Nat :=
  if s.memChans = 1 then (0, a) else
    let g := s.grain
    (a / g % 2, a / (2 * g) * g + a % g)

/-- Host address of a channel address. -/
def State.hostAddr (s : State) (ch a : Nat) : Nat :=
  if s.memChans = 1 then a else
    let g := s.grain
    a / g * (2 * g) + ch * g + a % g

/-- Where a channel address lies in the SDRAM (R379). -/
structure SdramPlace where
  rank : Nat
  row : Nat
  bankGroup : Nat
  bank : Nat
  column : Nat                           -- column burst
  byte : Nat                             -- byte within the burst
  deriving DecidableEq, Repr

/-- The place of a channel address under MEM_DEVICE (R377, R379). -/
def sdramPlace (device a : Nat) : SdramPlace :=
  if device = 0 then
    { rank := 0, row := bitsAt a 17 16, bankGroup := bitsAt a 12 3, bank := bitsAt a 15 2, column := bitsAt a 6 6, byte := bitsAt a 0 6 }
  else
    { rank := if device = 2 then bitsAt a 32 1 else 0, row := 2 * bitsAt a 17 15 + bitsAt a 16 1, bankGroup := bitsAt a 12 3
      bank := bitsAt a 15 1, column := bitsAt a 6 6, byte := bitsAt a 0 6 }

/-- The interleave or the number of channels has changed from that of `old`: what the SDRAM holds stays at its channel address,
and what a channel holds that is no longer fitted is lost (R379, R386). -/
def State.remapDram (s old : State) : State :=
  let move (a : Nat) : Option Nat :=
    let (ch, x) := old.channelOf a
    if ch < s.memChans then some (s.hostAddr ch x) else none
  if s.grain = old.grain ∧ s.memChans = old.memChans then s else
    let put (m : List Host.Cell) (c : Host.Cell) : List Host.Cell := match move c.1 with
      | some a => memWrite zeroByte m a c.2
      | none => m
    let bad := s.memPort.bad.filterMap fun (e : MemErr) => (move (64 * e.burst)).map fun a => { e with burst := a / 64 }
    { s.modMem fun m => { m with bad := bad } with dram := s.dram.foldl put [] }

/-! ### Errors (R392) -/

abbrev clsTRAJ : Nat := 0
abbrev clsHOST : Nat := 1
abbrev clsCAPTURE : Nat := 2
abbrev clsSCRUB : Nat := 3

/-- One bit of the CRC-8 of R279. -/
def crc8Bit (c : Nat) : Nat := if bitAt c 7 then Nat.xor (2 * c % 256) 0x2F else 2 * c % 256

/-- The CRC-8 of R279. -/
def crc8 (l : List Nat) : Nat :=
  l.foldl (fun c b => crc8Bit (crc8Bit (crc8Bit (crc8Bit (crc8Bit (crc8Bit (crc8Bit (crc8Bit (Nat.xor c (b % 256)))))))))) 0xFF

/-- The columns of the check matrix: the bytes with three bits set and the first of those with five, so that no two of the 72
bits of a pair share a column and each column has an odd number of bits (R391; log entry 95). -/
def secDedColumns : List Nat :=
  let weight (v : Nat) : Nat := ((List.range 8).filter fun i => bitAt v i).length
  ((List.range 256).filter fun v => weight v == 3) ++ ((List.range 256).filter fun v => weight v == 5).take 8

/-- The 8 check bits over the 64 data bits of a pair (R391). -/
def secDed (d : Nat) : Nat :=
  (secDedColumns.zipIdx.filter fun (c : Nat × Nat) => bitAt d c.2).foldl (fun x c => Nat.xor x c.1) 0

/-- The address check of pair `k` of the burst at channel address `a` (R391). -/
def addrCheck (a k : Nat) : Nat := crc8 ((leBytes 4 (bitsAt a 6 27)).reverse ++ [k])

/-- A beat pair on its lanes: data in bits 63:0, the check bits in 71:64, the address check in 79:72 (R391). -/
def formPair (a k d : Nat) : Nat := d + 2 ^ 64 * secDed d + 2 ^ 72 * addrCheck a k

/-- The check of a beat pair that has been read: 0 good, 1 a single bit, 2 more, 3 another address (R392). -/
def checkPair (a k w : Nat) : Nat :=
  let syndrome := Nat.xor (secDed (bitsAt w 0 64)) (bitsAt w 64 8)
  if bitsAt w 72 8 ≠ addrCheck a k then 3
  else if syndrome = 0 then 0
  else if secDedColumns.contains syndrome ∨ (List.range 8).any (fun i => 2 ^ i == syndrome) then 1
  else 2

/-- The kind of an error: the pair is formed as the write formed it, arrives with its wrong bits and is checked. -/
def State.errKind (s : State) (e : MemErr) : Nat :=
  let at_ := 64 * e.burst + 8 * e.pair
  let a := (s.channelOf (64 * e.burst)).2
  let w := formPair a e.pair (ofLeBytes (memReadBytes zeroByte s.dram at_ 8))
  checkPair a e.pair (e.flips.foldl (fun w i => Nat.xor w (2 ^ i)) w)

/-- A single-bit error of a pair, corrected by a request of class `cls`; the corrected burst is written back with the read
(R392; log entry 106). -/
def State.memSingle (s : State) (cls burst : Nat) : State :=
  let host := 64 * burst
  let ch := (s.channelOf host).1
  let s := (s.wr Reg.lastErrAddr host).wr Reg.lastErrKind (16 * cls + 1)
  let s := s.bump 32 (if ch = 0 then Reg.ceCount0 else Reg.ceCount1)
  let old := s.memPort.quiet.getD ch 0
  let s := s.modMem fun m => { m with quiet := m.quiet.set ch s.lt }
  s.raiseIf (decide (old + ns 1000000000 ≤ s.lt)) 0x3B01 cMEM ch (dU 4 1)

/-- An uncorrectable burst, of the kind of its first bad pair, met by a request of class `cls` (R392). -/
def State.memBurstBad (s : State) (cls burst kind : Nat) : State :=
  let s := (s.wr Reg.lastErrAddr (64 * burst)).wr Reg.lastErrKind (16 * cls + kind)
  (s.bump 32 Reg.ueCount).raise 0x3B02 cDEVICE 0 (dU 1 cls ++ dU 4 burst)

/-- A pair that is uncorrectable in memory stays so until its burst is written whole (R392). -/
def State.leaveBad (s : State) (e : MemErr) : State :=
  if e.rereadGood ∨ s.memPort.bad.any (fun x => x.burst == e.burst && x.pair == e.pair) then s
  else s.modMem fun m => { m with bad := e :: m.bad }

/-- One read of burst `k` by a request of class `cls`, whose pairs `l` arrive wrong: single bits are corrected pair by pair, and
one pair with more makes the whole burst uncorrectable, which the answer tells (R392). -/
def State.readBurst (s : State) (cls k : Nat) (l : List MemErr) : State × Bool :=
  let single := l.filter fun e => s.errKind e == 1
  let worse := l.filter fun e => decide (2 ≤ s.errKind e)
  let s' := single.foldl (fun s _ => s.memSingle cls k) s
  match worse with
  | [] => (s', false)
  | e :: _ => (worse.foldl State.leaveBad (s'.memBurstBad cls k (s.errKind e)), true)

/-- Reads of several pairs, burst by burst: true where one of the bursts is uncorrectable. -/
def State.memErrors (s : State) (cls : Nat) (l : List MemErr) : State × Bool :=
  (l.map (·.burst)).eraseDups.foldl (init := (s, false)) fun x k =>
    let r := x.1.readBurst cls k (l.filter (·.burst == k))
    (r.1, x.2 || r.2)

/-- The pairs that stay uncorrectable in the bursts that satisfy `f`, but for those that `errs` tells of. -/
def State.staysBad (s : State) (errs : List MemErr) (f : Nat → Bool) : List MemErr :=
  s.memPort.bad.filter fun e => f e.burst && !(errs.any fun x => x.burst == e.burst && x.pair == e.pair)

/-- The errors a read of the bursts that satisfy `f` meets: those of the command, and those that stay in memory. -/
def State.errsIn (s : State) (errs : List MemErr) (f : Nat → Bool) : List MemErr :=
  errs.filter (fun e => f e.burst) ++ s.staysBad errs f

/-- A write from `a` on of `n` bytes replaces the bursts it covers whole (R392). -/
def State.repairBursts (s : State) (a n : Nat) : State :=
  s.modMem fun m => { m with bad := m.bad.filter fun e => !(decide (a ≤ 64 * e.burst) && decide (64 * e.burst + 64 ≤ a + n)) }

/-- A TRAJ read of burst `k` in error, read once more at once where it is uncorrectable; true where its data are not used
(R394). -/
def State.trajBurst (s : State) (k : Nat) (l : List MemErr) : State × Bool :=
  let r := s.readBurst clsTRAJ k l
  if !r.2 then r else
    let again := l.filter fun e => !e.rereadGood && decide (2 ≤ s.errKind e)
    if again.isEmpty then ((r.1.bump 32 Reg.rereadRecovered).raise 0x3B04 cDEVICE 0 (dU 4 k), false)
    else r.1.readBurst clsTRAJ k again

/-- TRAJ reads of pairs in error: the bursts whose data are not used, the first last. -/
def State.trajErrors (s : State) (l : List MemErr) : State × List Nat :=
  (l.map (·.burst)).eraseDups.foldl (init := (s, [])) fun x k =>
    let r := x.1.trajBurst k (l.filter (·.burst == k))
    (r.1, if r.2 then k :: x.2 else x.2)

/-! ### Refresh (R384, R385) -/

/-- Number of ranks of a channel (R377). -/
def State.memRanks (s : State) : Nat := if s.rd Reg.memDevice = 2 then 2 else 1

/-- A fitted rank. -/
def State.rankFitted (s : State) (ch r : Nat) : Bool := decide (ch < s.memChans) && decide (r < s.memRanks)

/-- REFRESH_OWED from the owed counts. -/
def State.showOwed (s : State) : State :=
  let o (i : Nat) := min 255 (max (s.memPort.owed.getD (2 * i) 0) (s.memPort.owed.getD (2 * i + 1) 0))
  s.wr Reg.refreshOwed (256 * o 1 + o 0)

/-- The refreshes that are issued at once with `n` owed: those above 4 while TRAJ requests wait, all otherwise (R384). -/
def State.issueRefresh (s : State) (ch r : Nat) (trajWaits : Bool) : State :=
  let i := 2 * ch + r
  let n := s.memPort.owed.getD i 0
  let s := s.raiseIf (decide (6 ≤ n)) 0x3B07 cMEM ch (dU 1 r ++ dU 4 (n - 4))
  (s.modMem fun m => { m with owed := m.owed.set i (if trajWaits then min n 4 else 0) }).showOwed

/-- t_REFI of a rank in ns. -/
def State.refi (s : State) (ch r : Nat) : Nat := if bitAt (s.rd Reg.tempHigh) (2 * ch + r) then 1950 else 3900

/-- REFRESH_TICK of a rank (R384). -/
def State.refreshTick (s : State) (ch r : Nat) (trajWaits : Bool) : State :=
  if s.memState = memREADY ∧ s.rankFitted ch r then
    let i := 2 * ch + r
    let at_ := s.memPort.tickFrom.getD i 0 + ns (s.refi ch r)
    let s := s.goTo at_
    let s := s.modMem fun m => { m with owed := m.owed.set i (m.owed.getD i 0 + 1), tickFrom := m.tickFrom.set i at_ }
    s.issueRefresh ch r trajWaits
  else s

/-- MR4_READ: the results of every rank, in the order of TEMP_HIGH; `waits` says per channel that TRAJ requests wait (R385). -/
def State.mr4Read (s : State) (high : List Bool) (waits : List Bool) : State :=
  if s.memState ≠ memREADY then s else
    let s := s.goTo (s.memPort.lastMr4 + ns 125000)
    let s := s.modMem fun m => { m with lastMr4 := s.lt }
    each 4 s fun s i =>
      let ch := i / 2
      let r := i % 2
      let now := high.getD i false
      if s.rankFitted ch r ∧ now ≠ bitAt (s.rd Reg.tempHigh) i then
        let n := s.memPort.owed.getD i 0
        let n' := if now then 2 * n else (n + 1) / 2
        let s := s.wrField Reg.tempHigh i 1 (bit now)
        let s := s.modMem fun m => { m with owed := m.owed.set i n', tickFrom := m.tickFrom.set i s.lt }
        let s := s.raise (if now then 0x3B05 else 0x3B06) cMEM ch (dU 1 r ++ dU 4 n')
        s.issueRefresh ch r (waits.getD ch false)
      else s

/-- TRAJ_READ_COMPLETE of laser L with the bursts in error (R383, R394). Once no TRAJ request waits, the owed refreshes are
issued (R384). -/
def State.trajRead (s : State) (l : Nat) (errs : List MemErr) : State :=
  match (s.laser l).stream.fetching with
  | none => s
  | some (i0, n, _) =>
    let r := s.trajErrors (errs ++ s.staysBad errs fun k => (List.range n).any fun i => s.recordAddr l (i0 + i) / 64 == k)
    let s := r.1.fetchArrive l r.2
    if s.memState ≠ memREADY ∨ (List.range 16).any (fun l => (s.laser l).stream.fetching.isSome) then s
    else each 4 s fun s i => if s.rankFitted (i / 2) (i % 2) then s.issueRefresh (i / 2) (i % 2) false else s

/-! ### Training, tracking and frequency (R386 to R390) -/

/-- Refresh and the reads of mode register 4 count from here. -/
def State.memStarts (s : State) : State :=
  (s.modMem fun m => { m with owed := [0, 0, 0, 0], tickFrom := [s.lt, s.lt, s.lt, s.lt], lastMr4 := s.lt }).showOwed

/-- A step of training has failed (R386). -/
def State.memFail (s : State) (step ch : Nat) : State :=
  ((s.wr Reg.memState memFAILED).wr Reg.trainFail (256 * step + ch)).raise 0x3B10 cMEM ch (dU 1 step)

/-- Training begins at the set point in use (R386). -/
def State.memTrain (s : State) : State :=
  ((s.wr Reg.memState memTRAINING).wr Reg.memFreqInUse s.rateChosen).wr Reg.trainFail 0

/-- Training ends; `step` is the failed step, 0 where every step passed. -/
def State.memTrained (s : State) (step ch : Nat) : State :=
  if s.memState ≠ memTRAINING then s
  else if 1 ≤ step ∧ step ≤ 8 then s.memFail step ch
  else (s.wr Reg.memState memREADY).memStarts

/-- TRACKING_STEP of a channel, for `dur` ns (R387). -/
def State.trackingStep (s : State) (ch dur : Nat) : State :=
  if s.memState = memREADY ∧ ch < s.memChans then
    s.modMem fun m => { m with tracking := some (s.lt + ns (min dur 1000)) }
  else s

/-- PATROL_READ: the next burst of a channel, with what arrives wrong of one of its pairs (R393). -/
def State.patrolRead (s : State) (ch : Nat) (err : BeatErr) : State :=
  if s.memState = memREADY ∧ ch < s.memChans then
    let a := s.memPort.patrol.getD ch 0
    let host := s.hostAddr ch a
    let e : MemErr := { burst := host / 64, pair := err.pair, flips := err.flips }
    let r := s.memErrors clsSCRUB (s.errsIn (if err.flips.isEmpty then [] else [e]) (· == host / 64))
    let s := r.1.raiseIf r.2 0x3B03 cDEVICE 0 (dU 4 (host / 64))
    let done := memCapacity (s.rd Reg.memDevice) - 65536 ≤ a + 64
    let next := if done then 0 else a + 64
    let s := s.modMem fun m => { m with patrol := m.patrol.set ch next }
    let s := s.wr Reg.scrubPos (s.hostAddr ch next)
    if done then
      let s := s.bumpWrap 32 Reg.scrubPasses
      s.raise 0x3B11 cMEM ch (dU 4 (s.rd Reg.scrubPasses))
    else s
  else s

/-! ### The host window (R381) -/

/-- A HOST request of the present command on the bursts that satisfy `f`: refused where the word of the memory controller
buffers that holds it has a double-bit error, or where a burst that it reads is uncorrectable (R392, R409). -/
def State.hostBursts (s : State) (f : Nat → Bool) : State × Bool :=
  if s.memPort.spoiled then (s.modMem fun m => { m with spoiled := false }, true)
  else s.memErrors clsHOST (s.errsIn s.memPort.found f)

/-- A write of bytes to MEM_DATA: the abort code, 0 where it is done. Only a burst that is written in part is read (R381). -/
def State.memDataWrite (s : State) (b : List Nat) : State × Nat :=
  let a := s.rd Reg.memAddr
  if s.memState ≠ memREADY ∧ s.memState ≠ memSWITCHING then (s, 0xA011)
  else if s.hostSpaceNow < a + b.length then (s, 0xA012)
  else
    let r := s.hostBursts fun k => decide (64 * k < a + b.length) && decide (a < 64 * k + 64) &&
      !(decide (a ≤ 64 * k) && decide (64 * k + 64 ≤ a + b.length))
    if r.2 then (r.1, 0xA012)
    else (({ r.1 with dram := memWriteBytes zeroByte r.1.dram a b }.repairBursts a b.length).wr Reg.memAddr (a + b.length), 0)

/-- A read of MEM_DATA: its bytes, and the abort code. -/
def State.memDataRead (s : State) : State × Nat × List Nat :=
  let a := s.rd Reg.memAddr
  let n := min 4096 (s.hostSpaceNow - a)
  if s.memState ≠ memREADY ∧ s.memState ≠ memSWITCHING then (s, 0xA011, [])
  else if n = 0 then (s, 0xA012, [])
  else
    let r := s.hostBursts fun k => decide (64 * k < a + n) && decide (a < 64 * k + 64)
    if r.2 then (r.1, 0xA012, []) else (r.1, 0, memReadBytes zeroByte r.1.dram a n)

/-- FREQ_SWITCH_COMPLETE; `step` is the failed step, 0 where every step passed. A switch to a set point that is no longer chosen
is not completed but restarts (R388, R390; log entry 106). -/
def State.switchDone (s : State) (step ch : Nat) : State :=
  if s.memState ≠ memSWITCHING then s
  else if 1 ≤ step ∧ step ≤ 8 then s.memFail step ch
  else if s.memPort.target ≠ s.rateChosen then s.startSwitch s.memPort.target
  else
    let s := (s.wr Reg.memState memREADY).wr Reg.memFreqInUse s.memPort.target
    let s := s.memStarts
    s.raise 0x3B21 cDEVICE 0 (dU 4 s.memPort.target ++ dU 4 (lateNs s.memPort.switchFrom s.lt / 1000))

/-! ### On-chip SRAM (R22, R409) -/

/-- Latest correctable error of a region. -/
def State.sramQuiet (s : State) (r : Nat) : Lt := ((s.log.quiet.find? fun (e : Nat × Lt) => e.1 == r).map (·.2)).getD 0

/-- A correctable error of a region: counted, and logged where it ends a quiet second. -/
def State.sramSingle (s : State) (r : Nat) : State :=
  let old := s.sramQuiet r
  let n := ((s.log.ceCounts.find? fun (e : Nat × Nat) => e.1 == r).map (·.2)).getD 0
  let s := s.modLog fun l =>
    { l with quiet := (r, s.lt) :: l.quiet.filter (fun (e : Nat × Lt) => e.1 != r)
             ceCounts := (r, n + 1) :: l.ceCounts.filter (fun (e : Nat × Nat) => e.1 != r) }
  s.raiseIf (decide (old + ns 1000000000 ≤ s.lt)) 0x2040 cSRAM r (dU 4 1)

/-- Event 0x2041 of a region with a severity, on the unit it applies to. -/
def State.sramEvent (s : State) (lv unit : Nat) (e : SramErr) : State :=
  s.raiseUnit lv 0x2041 cSRAM e.region unit (dU 4 e.addr) s.lt []

/-- A double-bit error of a memory controller buffer: the request that holds the word meets it as an uncorrectable burst. A TRAJ
request reads its burst again, from the memory itself; the HOST request that waits longest, or the next one of the command, is
refused; the burst that a CAPTURE request was to write stays uncorrectable; a SCRUB read reports its burst (R22, R392 to R394,
R409; log entry 95). -/
def State.sramRequest (s : State) (e : SramErr) : State :=
  if e.owner < 16 then
    ((s.memBurstBad clsTRAJ e.burst 2).bump 32 Reg.rereadRecovered).raise 0x3B04 cDEVICE 0 (dU 4 e.burst)
  else if e.owner = 17 then
    (s.memBurstBad clsCAPTURE e.burst 2).leaveBad { burst := e.burst, pair := e.addr / 8 % 8, flips := [0, 1] }
  else if e.owner = 18 then (s.memBurstBad clsSCRUB e.burst 2).raise 0x3B03 cDEVICE 0 (dU 4 e.burst)
  else
    let s := s.memBurstBad clsHOST e.burst 2
    if s.net.held.any fun (r : Request) => r.won && !r.spoiled then
      -- the first of the requests that a frequency switch holds
      let i := s.net.held.findIdx fun (r : Request) => r.won && !r.spoiled
      { s with net := { s.net with held := s.net.held.modify i fun (r : Request) => { r with spoiled := true } } }
    else s.modMem fun m => { m with spoiled := true }

/-- A double-bit error of a region (R409). -/
def State.sramDouble (s : State) (e : SramErr) : State :=
  match e.region with
  | 0 | 1 => if e.owner < 48 then s.sramEvent 2 e.owner e else s
  | 2 =>
    let plays := (List.range 16).filter fun l => match (s.laser l).play with | some p => p.profile == e.owner | none => false
    if plays.isEmpty then s.sramEvent 1 0 e else plays.foldl (fun s l => s.sramEvent 3 l e) s
  | 3 => if e.owner < 16 then s.addStop e.owner (s.laser e.owner).stream.decodeNext 1 else s
  | 4 =>
    let s := s.sramEvent 1 0 e
    -- the record that holds the word reads BAD, every other field 0 (R463)
    let a := e.addr / 32 * 32
    let s := { s with capture := memClear s.capture a 32 }
    { s with capture := memWriteBytes zeroByte s.capture (a + 9) [16] }
  | 5 | 6 => s.sramEvent 4 0 e
  | 7 =>
    let s := s.sramEvent 1 0 e
    let s := s.bump 32 (Reg.dropped (e.owner % 2))
    let drop (g : Egress) : Egress := match g.high with
      | _ :: l => { g with high := l }
      | [] => { g with low := g.low.drop 1, lowAt := g.lowAt.drop 1 }
    let eg := s.net.egress.setIfInBounds (e.owner % 2) (drop ((s.net.egress[e.owner % 2]?).getD {}))
    { s with net := { s.net with egress := eg } }
  | 8 =>
    let s := s.sramEvent 1 0 e
    -- tags are held at 64 bytes a frame, in order, over 4,096 places (log entry 18)
    let n := s.rd Reg.tagCount
    let gone := (List.range s.vision.tags.length).find? fun j => (n + 2 ^ 32 - 1 - j) % 4096 == e.addr / 64
    match gone with
    | some j => { s with vision := { s.vision with tags := s.vision.tags.modify j fun (g : Tag) => { g with camera := 0xFF } } }
    | none => s
  | _ => s.sramRequest e

/-- An error of on-chip SRAM. -/
def State.sramError (s : State) (e : SramErr) : State := if e.double then s.sramDouble e else s.sramSingle e.region

end Sys2Proof.Machine
end

