-- ==== Sys2Proof/Machine/Outputs.lean ====
section
/-! DEFINITION. Range changes, the clear pins and HOLD_N, read-back supervision, bus sensing and the drivers of the laser
modulation outputs (chapter 09, R410). -/

namespace Sys2Proof.Machine

/-! ### Range change (R241) -/

/-- RANGE_SWITCH_OPEN: 2 µs into a range change the switch opens and the amplifier changes gain. -/
def State.rangeOpen (s : State) (a : Nat) : State :=
  let x := (s.axis a).axo
  if x.rangePhase = 1 then
    (s.goTo (x.rangeLt + ns 2000)).modAxo a fun y =>
      { y with rangePhase := 2, highZ := true, oldRange := y.range, range := s.rd (Reg.axoRange a) }
  else s

/-- RANGE_SWITCH_CLOSE: 12 µs into a range change the switch closes at CLEAR_CODE in the new range. -/
def State.rangeClose (s : State) (a : Nat) : State :=
  let x := (s.axis a).axo
  if x.rangePhase = 2 then
    let s := (s.goTo (x.rangeLt + ns 12000)).modAxo a fun y => { y with rangePhase := 3, highZ := false }
    s.setCode a (s.clearCode a)
  else s

/-- RANGE_CHANGE_DONE: 14 µs into a range change RANGE_BUSY clears. -/
def State.rangeDone (s : State) (a : Nat) : State :=
  let x := (s.axis a).axo
  if x.rangePhase = 3 then
    let s := (s.goTo (x.rangeLt + ns 14000)).modAxo a fun y => { y with rangePhase := 0 }
    s.raise 0x3603 cAXIS a (dU 1 x.oldRange ++ dU 1 x.range)
  else s

/-! ### The clear pins and HOLD_N (R243 to R245, R410, R493) -/

/-- The uid the next record takes. -/
def State.nextUid (s : State) : Nat := s.log.nextUid

/-- CLEAR_AX_N falls. -/
def State.clearAxFalls (s : State) : State :=
  let s := { s with clearAxFall := s.lt }
  let s := s.modMode fun m => { m with clearAxLow := true }
  let s := (s.wrField Reg.clearPins 0 1 1).bumpWrap 32 Reg.clearAxCount
  let uid := s.nextUid
  let s := s.raise 0x3610 cDEVICE 0 []
  let s := each 8 s fun s t => s.modEngine t fun e => { e with pinFell := true }
  let s := each 48 s fun s a =>
    if (s.axis a).axo.highZ then s
    else s.modAxo a fun x => { x with code := s.clearCode a, codes := ((s.lt + ns 100, s.clearCode a) :: x.codes).take 8 }
  if s.modeCode = BUILD then s.pinHold uid 1 else s

/-- CLEAR_AX_N rises. -/
def State.clearAxRises (s : State) : State :=
  if !s.mode.clearAxLow then s else
    let s := { s with clearAxRise := s.lt }
    let s := (s.modMode fun m => { m with clearAxLow := false }).noteTest
    (s.wrField Reg.clearPins 0 1 0).raise 0x3611 cDEVICE 0 (dU 4 (lateNs s.clearAxFall s.lt / 1000))

/-- CLEAR_LM_N falls. -/
def State.clearLmFalls (s : State) : State :=
  let s := { s with clearLmFall := s.lt }
  let s := s.modMode fun m => { m with clearLmLow := true }
  let s := (s.wrField Reg.clearPins 1 1 1).bumpWrap 32 Reg.clearLmCount
  s.clearLasers.raise 0x3612 cDEVICE 0 []

/-- CLEAR_LM_N rises: every gate and output waits for its next open edge. -/
def State.clearLmRises (s : State) : State :=
  if !s.mode.clearLmLow then s else
    let s := s.modMode fun m => { m with clearLmLow := false }
    (s.wrField Reg.clearPins 1 1 0).raise 0x3613 cDEVICE 0 (dU 4 (lateNs s.clearLmFall s.lt / 1000))

/-- HOLD_N has been low for 50 ns. -/
def State.holdFalls (s : State) : State :=
  let s := s.modMode fun m => { m with holdLow := true, holdSince := s.lt - ns 50 }
  let uid := s.nextUid
  let s := s.raise 0x2027 cDEVICE 0 []
  s.pinHold uid 2

/-- HOLD_N rises. -/
def State.holdRises (s : State) : State :=
  if !s.mode.holdLow then s else
    let s := s.modMode fun m => { m with holdLow := false }
    s.raise 0x2029 cDEVICE 0 (dU 4 (lateNs s.mode.holdSince s.lt / 1000))

/-- A pin acts: it is not looked at while the device is in reset or in INIT (R493). -/
def State.pinsAct (s : State) : Bool := !s.mode.inReset && s.modeCode != INIT

/-! ### Read-back and bus sensing (R246 to R250) -/

/-- R_FS of a range in µV. -/
def rangeUv : Nat → Int
  | 0 => 10000000 | 1 => 5000000 | _ => 2500000

/-- The codes in force at an output at any time in the 2 µs that end at `now` (R247). -/
def Axo.recent (x : Axo) (now : Lt) : List Int :=
  let past := x.codes.filter fun e => decide (e.1 ≤ now)
  let inside := (past.filter fun e => decide (now < e.1 + ns 2000)).map (·.2)
  let before := ((past.filter fun e => !decide (now < e.1 + ns 2000)).head?).map (·.2)
  let l := inside ++ before.toList
  if l.isEmpty then [x.code] else l

/-- A monitoring sample of an output against its envelope: the distance outside in µV and the mismatch; none where it is not
compared. -/
def State.readBack (s : State) (a : Nat) (raw : Int) : Option (Nat × Bool) :=
  let x := (s.axis a).axo
  if x.highZ || decide (2 ≤ x.rangePhase) || s.logicTest || s.testDriven a then none else
    -- in µV times 2^20
    let volts := (x.recent s.lt).map fun c => c * rangeUv x.range * 2
    let lo := volts.foldl min (volts.headD 0)
    let hi := volts.foldl max (volts.headD 0)
    let v := raw * 625 * 2 ^ 19
    let out := if v < lo then lo - v else if hi < v then v - hi else 0
    let limit : Int := (s.rd (Reg.rbLimit a) : Int) * 1000 * 2 ^ 20
    some ((Num.rshift out 20).toNat, decide (limit < out))

/-- A result reaches its consumers (R248 to R250). -/
def State.monDeliver (s : State) (m : MonResult) : State :=
  if m.slot < 48 then
    let a := m.slot
    let s := s.wrS 16 (Reg.rbValue a) (Num.satI 16 m.raw)
    match m.judged with
    | none => s
    | some (d, false) => ((s.wr (Reg.rbDeviation a) d).wr (Reg.rbRun a) 0).modAxo a fun x => { x with rbFault := false }
    | some (d, true) =>
      let first := s.rd (Reg.rbRun a) = 0
      let s := (s.wr (Reg.rbDeviation a) d).bump 8 (Reg.rbRun a)
      let s := s.bump 32 (Reg.rbMismatchCount a)
      let s := if first then s.raiseFull 1 0x3602 cAXIS a (dI 4 d) m.ready [] else s
      if s.rd (Reg.rbCountLimit a) ≤ s.rd (Reg.rbRun a) ∧ !(s.axis a).axo.rbFault then
        (s.modAxo a fun x => { x with rbFault := true }).raiseFull 2 0x3601 cAXIS a (dI 4 d ++ dI 4 (s.axoCodeNow a)) m.ready []
      else s
  else
    let k := m.slot - 48
    let v := min 65535 (Num.rdiv (m.raw * s.rd (Reg.busRatio k)) 4096).toNat
    let s := s.wr (Reg.busValue k) v
    let limit := s.rd (Reg.busLowLimit k)
    if s.busLow.contains k then
      if limit = 0 then { s with busLow := s.busLow.filter (· != k) }
      else if 102 * limit ≤ 100 * v then
        { s with busLow := s.busLow.filter (· != k) }.raiseFull 0 0x3631 cBUS k (dU 2 v) m.ready []
      else s
    else if limit ≠ 0 ∧ v < limit then { s with busLow := k :: s.busLow }.raiseFull 1 0x3630 cBUS k (dU 2 v) m.ready []
    else s

/-- Every result that is ready by now reaches its consumers. -/
def State.monReady (s : State) : State :=
  let due := s.monPending.filter fun (m : MonResult) => decide (m.ready ≤ s.lt)
  due.foldl State.monDeliver { s with monPending := s.monPending.filter fun (m : MonResult) => !decide (m.ready ≤ s.lt) }

/-- The monitoring converter samples: from the completion of INIT on, and not in a logic self-test (R238, R455). -/
def State.monRuns (s : State) : Bool := !s.mode.inReset && s.modeCode != INIT && !s.logicTest

/-- MONITOR_SAMPLE: the next slot on the 500 ns grid is sampled with code `raw` (R246). -/
def State.monitorSample (s : State) (raw : Int) : State :=
  let at_ := nextGrid (ns 500) s.lt s.lastMonitor
  let s := { s.goTo at_ with lastMonitor := some at_ }.monReady
  if !s.monRuns then s else
    let slot := at_ / ns 500 % 56
    let r : MonResult :=
      if slot < 48 then
        let v := Num.satI 16 raw
        { ready := at_ + ns 600, slot := slot, raw := v, judged := s.readBack slot v }
      else { ready := at_ + ns 600, slot := slot, raw := Num.clampI 0 65535 raw }
    { s with monPending := s.monPending ++ [r] }

/-! ### Drivers of the laser modulation outputs (R256) -/

/-- LMO_ILIM and LMO_ILIM_CLEAR. -/
def State.lmoIlim (s : State) (n : Nat) (on : Bool) : State :=
  let old := (s.laser n).ilim
  let s := s.modLaser n fun x => { x with ilim := on }
  s.raiseIf (on && !old) 0x3620 cLMO n []

/-- LMO_OVER_TEMP: the driver of output n switches off. -/
def State.lmoOverTemp (s : State) (n : Nat) : State :=
  let old := (s.laser n).overTemp
  let s := s.modLaser n fun x => { x with overTemp := true, off := true }
  if old then s else
    match s.lmoLaser n with
    | some l => s.raiseFull 3 0x3621 cLMO n (dU 1 l) s.lt []
    | none => s.raiseFull 1 0x3621 cLMO n [0xFF] s.lt []

/-- LMO_OVER_TEMP_CLEAR: OT clears, the driver stays off. -/
def State.lmoCooled (s : State) (n : Nat) : State := s.modLaser n fun x => { x with overTemp := false }

/-- A write of LMO_CLEAR_FAULT: the abort code. -/
def State.lmoClearFault (s : State) (n v : Nat) : State × Nat :=
  if v ≠ 1 ∨ (s.laser n).overTemp then (s, 0xA012)
  else if (s.laser n).off then ((s.modLaser n fun x => { x with off := false }).raise 0x3622 cLMO n [], 0)
  else (s, 0)

end Sys2Proof.Machine
end

