-- ==== Sys2Proof/Machine/Boundary.lean ====
section
/-! DEFINITION. The LOOP boundary of an engine: what is latched, what applies, and which laws start and stop there (R29 to
R48, R193, R194, R200 to R202, R244, R411, R426 to R429, R438). -/

namespace Sys2Proof.Machine

/-! ### What a boundary latches -/

/-- SENSED_AMPL of the drivers, and the period whose outputs had no feed: the outputs since the last boundary are those that
the window of the period before it serves; `ago` places that period among those that have asked for feed (R127, R142). -/
def State.boundaryLatch (s : State) (t ago : Nat) : State :=
  let s := each 6 s fun s j => s.wrField (Reg.excStatus t j) 16 16 (s.sensedAmpl t j)
  (axesOf t).foldl (init := s) fun s a =>
    if s.kind a = 0 then s else
      let o := (s.axis a).obs
      let s := if o.feedDue.getD ago false && !o.fedPeriod then s.bump 32 (Reg.feedMiss a) else s
      s.modObs a fun o => { o with fedPeriod := false }

/-- The latch of the latest boundary of ENGINE_t, where the output of its instant came after it, or has not come at all. -/
def State.latchLate (s : State) (t : Nat) : State :=
  match (s.engine t).earlier with
  | some _ => (s.boundaryLatch t 2).modEngine t fun x => { x with earlier := none }
  | none => s

/-- The temperature of each axis is sampled, from the source in use after the lockages of the boundary (R34, R154). -/
def State.tempLatch (s : State) (t : Nat) : State :=
  (axesOf t).foldl (init := s) fun s a =>
    if s.kind a = 0 then s else
      let (v, stale) := s.linTemp t a
      let s := s.wrS 16 (Reg.linTempUsed a) v
      let s := s.raiseIf (stale && !(s.axis a).obs.staleTemp) 0x3306 cAXIS a (dU 1 (s.rd (Reg.linTempSrc a)))
      s.modObs a fun o => { o with staleTemp := stale }

/-- Whether the period that begins asks for feed, kept for FEED_MISS (R142). -/
def State.feedAsked (s : State) (a : Nat) : State :=
  let asked := s.rd (Reg.obsAccFeed a) == 1 && s.feedLaw a
  s.modObs a fun o => { o with feedDue := (asked :: o.feedDue).take 3 }

/-- SP_FAULT of AXIS_a (R94). -/
def State.spFaulted (s : State) (a : Nat) : Bool := bitAt (s.rd (Reg.supStatus a)) 8

/-- x of AXIS_a for the present boundary in 2^-32 turn, and v_x in 2^-12 turn/s where the source gives it (R200, R202). -/
def State.targetNow (s : State) (a : Nat) : Int × Int :=
  let x : Int × Int := match s.rd (Reg.spSource a) with
    | 0 => (s.rdS 32 (Reg.spHost a), 0)
    | 1 =>
      ((if s.spFaulted a then (s.axis a).weir.hold else none).getD (s.analogueTarget a (s.axis a).obs.setpoint), 0)
    | 2 =>
      let w := (s.axis a).weir
      let c := s.rdS 32 (Reg.plsCount (s.rd (Reg.spPulseInput a)))
      (Num.rshift w.pulseBase 32 + s.rdS 32 (Reg.spPulseScale a) * (c - w.pulseCount), 0)
    | _ =>
      let l := (s.laser (laserOf a)).stream.now
      (l.getD (2 * (a % 3)) 0, l.getD (2 * (a % 3) + 1) 0)
  (Num.satI 32 x.1, x.2)

/-- The target of AXIS_a is taken for the boundary. -/
def State.sampleTarget (s : State) (a : Nat) : State :=
  let (x, v) := s.targetNow a
  s.modAxis a fun y => { y with weir := { y.weir with target := x * 2 ^ 32, targetVel := v * 2 ^ 52 } }

/-- DEMOD_OUTPUT of TILE_t. The output whose instant equals the latest LOOP boundary of the tile's engine is the last of the
earlier period: it is computed under the values before that boundary, and the boundary's latch and its ANALOGUE targets take
their words from it (R34, R127, R142, R200). -/
def State.demodNext (s : State) (t : Nat) : State :=
  let td := nextGrid (ns (s.demodNs t)) s.lt (s.tile t).lastDemod
  match (s.engine t).earlier with
  | some e =>
    if e.until_ = td then
      let now := e.values.map fun (x : Nat × Nat) => (x.1, s.rd x.1)
      let stale := (axesOf t).map fun a => (s.axis a).obs.staleTemp
      let s := ((((s.under t e.values e.stale).demodTile t).under t now stale)).latchLate t
      (axesOf t).foldl (fun s a => if s.rd (Reg.spSource a) = 1 then s.sampleTarget a else s) s
    else (each 6 s fun s j => s.staleCheck t j).demodTile t
  | none => (each 6 s fun s j => s.staleCheck t j).demodTile t

/-! ### Laws at a boundary -/

/-- CLEAR_AX_N acts on the laws at a boundary of ENGINE_t: it is low, or has fallen since the boundary before (R244). -/
def State.pinStops (s : State) (t : Nat) : Bool := s.mode.clearAxLow || (s.engine t).pinFell

/-- CLEAR_AX_N stops the law of AXIS_a. -/
def State.pinStop (s : State) (a : Nat) : State :=
  if (s.axis a).law.run = .stopped then s
  else s.stopLaw a |>.modAxo a fun x => { x with clearedByPin := true }

/-- No law starts while CLEAR_AX_N is low or within 1 µs of its rise, or during a range change (R242, R244). -/
def State.mayStart (s : State) (a : Nat) (b : Lt) : Bool :=
  !s.mode.clearAxLow && (s.clearAxRise == 0 || decide (s.clearAxRise + ns 1000 ≤ b)) && !s.rangeBusy a

/-- AXIS_a is in service: of a kind, and neither PARKED nor RETURNING. -/
def State.axisServes (s : State) (a : Nat) : Bool :=
  s.kind a != 0 && s.rd (Reg.parkState a) == 0 && !s.engineParked (a / 6)

/-- The mode lets the law of AXIS_a run (R194). -/
def State.lawWanted (s : State) (a m : Nat) : Bool :=
  if m = TRACK then s.axisServes a && lawKind (s.axis a).law.active == 0 && bitAt (s.rd (Reg.trackForward a)) 0
  else if m = SERVO ∨ m = BUILD then s.axisServes a
  else false

/-- The law of AXIS_a starts or stops as the mode in force on its engine gives (R193, R194, R237, R413). -/
def State.lawBoundary (s : State) (a m : Nat) (b : Lt) : State :=
  let x := s.axis a
  if m = HOLD then
    let lost := x.obs.lost
    let pos := s.rd (Reg.holdAction a) == 1
    if x.law.run ≠ .stopped then
      -- before step 2 a law runs on; after it, LOST or a HOLD_ACTION of CLEAR stops it
      if x.law.run = .braking ∧ (lost ∨ (x.holdWait ∧ !pos)) then (s.stopLaw a).modAxis a fun y => { y with holdWait := false }
      else if x.law.run = .braking then s.modAxis a fun y => { y with holdWait := false }
      else s
    else if pos ∧ !lost ∧ s.axisServes a ∧ (x.holdWait ∨ x.axo.clearedByPin ∨ x.axo.swWasRun ≠ .stopped) then
      if s.mayStart a b then
        let s := s.startLaw a true
        s.modAxis a fun y => { y with holdWait := false, axo := { y.axo with clearedByPin := false, swWasRun := .stopped } }
      else s
    else s.modAxis a fun y => { y with holdWait := false }
  else
    let s := s.modAxis a fun y => { y with holdWait := false }
    if s.lawWanted a m then
      let s :=
        if x.law.run = .stopped then (if s.mayStart a b then s.startLaw a false else s)
        else if x.law.run = .braking then s.startLaw a false
        else s
      if (s.axis a).law.run = .stopped then s
      else s.modAxo a fun y => { y with clearedByPin := false, swWasRun := .stopped }
    else (s.stopLaw a).modAxo a fun y => { y with clearedByPin := false, swWasRun := .stopped }

/-! ### Commands that wait for a boundary -/

/-- A RESUME acts: the staging share is emptied and refilled from STOP_SEG, and STOP_PARTIAL asks for an approach (R230). -/
def State.resumeStream (s : State) (l : Nat) : State :=
  if s.rd (Reg.streamState l) = 2 ∧ s.laserBuilds l then
    let seg := s.rd (Reg.stopSeg l)
    let part := s.rd (Reg.stopPartial l) == 1
    let s := s.modStream l fun m =>
      { m with staging := [], fetching := none, fetchNext := seg, decodeNext := seg, segs := [], stops := [], ended := false,
               hostStop := false, resumeSeg := some seg, approach := part }
    let s := (s.wr (Reg.streamState l) 1).raise 0x3515 cLASER l (dU 4 seg)
    s.refill l
  else s

/-- ABANDON closes the gate, holds the STREAM axes and counts as the laser's LAYER_END (R231). -/
def State.abandonStream (s : State) (l : Nat) : State :=
  let s := s.modLaser l fun y =>
    let m := y.stream
    { y with
      gate := false, value := 0, play := none, acts := []
      stream := { m with segs := [], staging := [], fetching := none, stops := [], hostStop := false, resumeSeg := none,
                         startAt := none, ended := false, frozen := true, cur := atRest m.cur, lastEnd := m.point,
                         finished := true, abandoned := m.abandoned || !m.finished } }
  ((s.wr (Reg.streamState l) 0).corrZero l).afAbandon l 3

/-- A PARK, RETURN or RESUME whose boundary has come. -/
def State.actDue (s : State) (d : Due) : State :=
  match d with
  | .park cls inst _ => s.parkUnit cls inst
  | .ret cls inst => s.returnUnit cls inst
  | .resume l => s.resumeStream l

/-- The commands of ENGINE_t that fall due at or before its boundary at `b`, in order. -/
def State.dueBoundary (s : State) (t : Nat) (b : Lt) : State :=
  let l := (s.engine t).due
  let s := s.modEngine t fun e => { e with due := e.due.filter fun (x : Lt × Due) => decide (b < x.1) }
  (l.filter fun (x : Lt × Due) => decide (x.1 ≤ b)).foldl (fun s (x : Lt × Due) => s.actDue x.2) s

/-! ### Transitions that act engine by engine (R438) -/

/-- A transition completes: MODE_BUSY clears and event 0x2000 is logged. -/
def State.completeTransition (s : State) (x : Transition) : State :=
  let s := s.modMode fun m => { m with transition := none }
  let s := (s.wr Reg.modeStatus 0).wr Reg.lastModeLt (time80 s.lt)
  let s := s.raise 0x2000 cDEVICE 0 (dU 1 x.fromMode ++ dU 1 x.target ++ dU 1 0)
  if x.byMaster then s.lockTransition else s

/-- ENGINE_t acts on a transition at its boundary at `b`: its lasers enter or leave BUILD; on the way into CONFIGURE the
carriers of its tile stop with its laws (R90, R438). -/
def State.transitionBoundary (s : State) (t : Nat) (b : Lt) : State :=
  match s.mode.transition with
  | none => s
  | some x =>
    if x.engines.contains t ∧ x.accepted + ns 1000 ≤ b then
      let rest := x.engines.filter (· != t)
      let s := s.modMode fun m => { m with transition := some { x with engines := rest } }
      if x.wait = .carriersOff then each 6 s fun s j => s.stopDriver t j
      else if x.target = BUILD then (s.laserEntered (2 * t)).laserEntered (2 * t + 1)
      else if x.fromMode = BUILD then (s.laserLeft (2 * t)).laserLeft (2 * t + 1)
      else s
    else s

/-- The completion of a transition whose last engine has acted. -/
def State.transitionEnd (s : State) : State :=
  match s.mode.transition with
  | some x =>
    if x.wait = .engines ∧ x.engines.isEmpty then
      let s := s.completeTransition x
      if x.target = BUILD then s.layerAtBuild else if x.fromMode = BUILD then s.layerLeft else s
    else s
  | none => s

/-! ### Lockages (R41, R46) -/

/-- The lockages of the scopes of ENGINE_t at its boundary at `b`. -/
def State.lockages (s : State) (t : Nat) (b : Lt) : State :=
  let k := s.memStepRuns
  let s := (axesOf t).foldl (fun s a => s.lockPound a k) s
  let s := s.lockPound (pEngine t) k
  let s := (axesOf t).foldl (fun s a => s.beginHeld a) s
  let s := ([2 * t, 2 * t + 1] : List Nat).foldl (fun s l => if s.segBoundary l b then s.lockPound (pLaser l) k else s) s
  let s := each 32 s fun s c => if s.camEngine c = t ∧ s.frameBoundary c b then s.lockPound (pCamera c) k else s
  if t = 0 then
    -- a LAYER_END that has been executed by now counts, whichever engine its laser belongs to (R32)
    let s := each 16 s fun s l => if s.rd (Reg.streamState l) = 1 then s.streamProgress l b else s
    let s := s.layerEnd
    let s := if s.layerBoundary then s.lockPound pDevice k else s
    if s.memState = memSWITCHING ∧ s.memPort.switchFrom = s.lt then s.stopDramTaps else s
  else s

/-- Where the output of the engine's tile whose instant equals the boundary is still to come, the values that it is computed
under are kept: those that the lockages of the boundary may replace, and the temperature (R34). -/
def State.keepEarlier (s : State) (t : Nat) (b : Lt) : State :=
  if (s.tile t).lastDemod = some b then s else
    let ps := pEngine t :: axesOf t
    let ks := ps.flatMap (fun p => (s.pound p).staged.map (·.1)) ++ (axesOf t).map Reg.linTempUsed
    let e : Earlier := { until_ := b, values := ks.map fun k => (k, s.rd k), stale := (axesOf t).map fun a => (s.axis a).obs.staleTemp }
    s.modEngine t fun x => { x with earlier := some e }

/-- A grid fetch has completed: within 4.0 µs, 1.0 µs more in a tracking step and 4.0 µs more with a second read. Within those
bounds its time is open (R383; log entry 107). -/
def State.gridLatency (s : State) (again : Bool) : State :=
  let (f, s) := s.fresh
  let lat := f % (4001 + (if s.memTracking then 1000 else 0) + (if again then 4000 else 0))
  s.wr Reg.trajLatMax (max (s.rd Reg.trajLatMax) lat)

/-- The grid fetch of a laser for its next point: its errors, of the command or left in memory, are counted; whether a burst stays
uncorrectable (R383, R394). -/
def State.gridErrors (s : State) (l : Nat) (next : Lt) (errs : List (Nat × MemErr)) : State × Bool :=
  if s.laserBuilds l && bitAt (s.rd (Reg.gridEnable l)) 0 then
    let new := (errs.filter fun (e : Nat × MemErr) => e.1 == l).map (·.2)
    let l := new ++ s.staysBad new (s.gridBursts l next).contains
    let r := s.trajErrors l
    (r.1.gridLatency (l.any fun e => decide (2 ≤ s.errKind e)), !r.2.isEmpty)
  else (s, false)

/-- A LOOP boundary of ENGINE_t, up to the requests of the window that it closes: the latches, the lasers, the commands that
fall due, the pins, a transition, the lock-keeper, the lockages, the offsets, the laws and targets, and the next set-points. -/
def State.loopBoundary (s : State) (t : Nat) (sram : List SramErr) (grid : List (Nat × MemErr)) : State :=
  let e := s.engine t
  let b := nextGrid (ns (s.loopNs t)) s.lt e.lastLoop
  let s := (s.goTo b).monReady.streamsCatch.detect
  let s := s.modEngine t fun x => { x with lastLoop := some b, before := x.lastLoop }
  if s.modeCode = INIT then s else
  let s := sram.foldl State.sramError s
  -- an output of this very instant that is still to come brings the latch with it
  let s := if (s.tile t).lastDemod = some b then (s.latchLate t).boundaryLatch t 1 else s.latchLate t
  let ls : List Nat := [2 * t, 2 * t + 1]
  let s := ls.foldl (fun s l => s.laserBoundary l b) s
  let s := (s.dueBoundary t b).returnsDone t
  let s := if s.pinStops t then (axesOf t).foldl State.pinStop s else s
  let s := s.modEngine t fun x => { x with pinFell := false }
  let s := (s.transitionBoundary t b).keeperBoundary t
  let s := (s.keepEarlier t b).lockages t b
  let s := ls.foldl (fun s l => (s.corrBoundary l b).afBoundary l b) s
  let s := (each 6 s fun s j => s.staleCheck t j).tempLatch t
  let m := s.engineMode t
  let s := (axesOf t).foldl (fun s a => s.lawBoundary a m b) s
  let s := (axesOf t).foldl (fun s a => (s.sampleTarget a).feedAsked a) s
  let s := ls.foldl (init := s) fun s l =>
    let r := s.gridErrors l (b + ns (s.loopNs t)) grid
    r.1.laserSetpoint l b (s.segBoundary l b) r.2
  let s := each 32 s fun s c => if s.camEngine c = t then s.chooseTrigger c b else s
  s.transitionEnd

end Sys2Proof.Machine
end

