-- ==== Sys2Proof/Machine/Window.lean ====
section
/-! DEFINITION. The compute window and the output instant of an engine (R165, R168 to R185, R203 to R210). -/

namespace Sys2Proof.Machine

/-- Window overhead in cycles (R182). -/
abbrev windowOverhead : Nat := 40

/-- The words and timing that the law of AXIS_a reads at `now` in a window of ENGINE_t (R170, R172). -/
def State.lawIn (s : State) (t a : Nat) (now : Lt) : LawIn :=
  let w := s.wordsAt a now
  { y := (w.turns * 2 ^ 24 + (w.angle : Int)) * 2 ^ 40, speed := w.speed, accel := w.accel, r := 0, v := 0, a := 0,
    tns := s.loopNs t, tau := 50 * s.gdExactOf a }

/-- v_x of AXIS_a in 2^-64 turn/s (R200, R202). -/
def State.targetVelocity (s : State) (t a : Nat) : Int :=
  let w := (s.axis a).weir
  if s.rd (Reg.spSource a) = 3 then w.targetVel
  else if s.spFaulted a && s.rd (Reg.spSource a) == 1 then 0
  else if bitAt (s.rd (Reg.spDeriv a)) 0 then
    -- carried as an I32 in 2^-12 turn/s (R199)
    Num.satI 32 (Num.rdiv ((w.target - s.rdS 32 (Reg.spTarget a) * 2 ^ 32) * 10 ^ 9) (2 ^ 52 * (s.loopNs t : Int))) * 2 ^ 52
  else 0

/-- One period of the weir for the boundary at `b`: the new weir, its target and v_x, its status, and an overshoot
(R204 to R210). -/
def State.weirPeriod (s : State) (t a : Nat) (i : LawIn) (b : Lt) : Weir × Int × Int × Nat × Option Int :=
  let x := s.axis a
  let w := x.weir
  let lim := s.limits a
  let braking := x.law.run == .braking
  let w0 := if w.init then w else { w.start lim i x.law.active with prevTarget := none, shooting := false, overPeak := 0 }
  -- the braking target is the rest point of the state at the boundary at which braking begins (R210; log entry 35)
  let held := braking && (w0.brake.isSome || !w.init)
  let target := if held then w0.brake.getD (w0.brakePoint lim) else w0.target
  let vx := if held then 0 else s.targetVelocity t a
  let old := s.rd (Reg.weirStatus a)
  let step : Weir × Bool :=
    if w.init && decide (w.doneAt < b) then w0.advance lim target vx 0 (lateNs w.doneAt b)
    else (w0, decide (w0.pos ≠ target) || decide (w0.vel ≠ vx) || decide (w0.acc ≠ 0))
  let brake := if held then some target else if braking then some (step.1.brakePoint lim) else none
  let (w1, shot) := w0.overshoot step.1 step.2 target vx (if w.init then lateNs w.doneAt b else 0)
  let fast := decide ((vx.natAbs : Int) > lim.vmax)
  let frozen := !held && s.spFaulted a && s.rd (Reg.spSource a) == 1
  let tooFar := step.2 && (bitAt old 1 || shot.isSome)
  ({ w1 with brake := brake, doneAt := b, fast := fast, target := w0.target, targetVel := w0.targetVel }, target, vx,
    bit step.2 + 2 * bit tooFar + 4 * bit fast + 8 * bit frozen, shot)

/-- The axis unit of AXIS_a: what it leaves for t_out, with the stalls of the window in its cycles (R165). -/
def State.axisUnit (s : State) (t a : Nat) (b : Lt) (stall : Nat) : Pending :=
  let i := s.lawIn t a s.lt
  let (w, target, vx, wst, shot) := s.weirPeriod t a i b
  let l := (s.axis a).law
  let u := l.unit { i with r := w.pos, v := w.vel, a := w.acc } (fun k => (s.rd (Reg.busValue k) : Int)) (s.clearCode a)
  { law := u.law, weir := w, code := u.code, uk := u.uk, aCmd := u.aCmd, status := u.status, cycles := l.cycles true + stall,
    satElem := u.sat, fadeDone := u.fadeDone, presetDiff := u.presetDiff, target := target, targetVel := vx,
    weirStatus := wst, shot := shot, fastNow := w.fast && !bitAt (s.rd (Reg.weirStatus a)) 2, preset := l.preset || (l.presetIn && l.incoming.isSome) }

/-! ### The output instant (R168, R184, R185, R191, R236) -/

/-- The law that stands after t_out: the states of the period under the buffers as they are now. A law that has stopped or
started since, or a swap that has begun since, keeps its own. -/
def mergeLaw (cur done : Law) : Law :=
  let cur := { cur with uPrev := done.uPrev, err := done.err, err1 := done.err1 }
  match done.incoming, cur.incoming with
  | some _, some _ => { cur with st := done.st, stIn := done.stIn, fadePos := done.fadePos }
  | some _, none => { cur with st := done.stIn }
  | none, _ => { cur with st := done.st }

/-- An abandoned unit: the axis keeps its states and its code (R184, R185). -/
def State.missAxis (s : State) (t a : Nat) : State :=
  let old := s.rd (Reg.missRun a)
  let s := (s.bump 32 (Reg.deadlineMiss a)).bump 8 (Reg.missRun a)
  let run := s.rd (Reg.missRun a)
  let st := s.rd (Reg.lawStatus a)
  let s := s.wr (Reg.lawStatus a) (Nat.land st 0x36 + 128)
  let s := s.modAxis a fun x => { x with pending := none }
  let used := s.rd (Reg.cyclesUsed t)
  let s := s.raiseIf (old == 0) 0x3402 cAXIS a (dU 4 used)
  s.raiseIf (decide (old < run) && run == s.rd (Reg.missLimit a)) 0x3401 cAXIS a (dU 1 run ++ dU 4 used)

/-- A completed unit of an axis whose law does not run. -/
def State.idleAxis (s : State) (a : Nat) : State :=
  let s := (s.wr (Reg.missRun a) 0).wr (Reg.cyclesMeas a) 4
  let s := s.wr (Reg.cyclesMax a) (max (s.rd (Reg.cyclesMax a)) 4)
  s.wr (Reg.lawStatus a) (Nat.land (s.rd (Reg.lawStatus a)) 6)

/-- A completed unit: its states, its code, its a_cmd and what it reports. -/
def State.outputAxis (s : State) (t a : Nat) (b : Lt) (p : Pending) : State :=
  let runs := (s.axis a).law.run != .stopped
  let restarted := (s.axis a).law.preset
  let pinned := s.pinStops t
  let oldStatus := s.rd (Reg.lawStatus a)
  -- states
  let s := s.modAxis a fun x =>
    { x with
      pending := none
      law := mergeLaw x.law p.law
      weir := if runs && !restarted then
          { p.weir with target := x.weir.target, targetVel := x.weir.targetVel, hold := x.weir.hold,
                        pulseBase := x.weir.pulseBase, pulseCount := x.weir.pulseCount,
                        brake := if x.law.run == .braking then (if x.weir.brake.isSome then x.weir.brake else p.weir.brake) else none }
        else x.weir }
  -- code (R236, R237, R243)
  let s := if runs && !restarted && !pinned && !(s.axis a).axo.highZ && !s.rangeBusy a then s.setCode a p.code else s
  -- a_cmd (R140)
  let tns := ns (s.loopNs t)
  let s := s.modObs a fun o => { o with feed := ((b + tns, b + 2 * tns, p.aCmd) :: o.feed).take 4 }
  -- objects
  let clampBit := if p.preset then bitsAt p.status 2 1 else bitsAt oldStatus 2 1
  let s := s.wr (Reg.lawStatus a) (putBits p.status 2 1 clampBit + 2 * bit runs + 1)
  let s := (s.wrS 32 (Reg.uCmd a) (Num.satI 32 (Num.rshift p.uk 12))).wrS 32 (Reg.aCmd a) (Num.fitI 32 (Num.rshift p.aCmd 16))
  let s := (s.wr (Reg.missRun a) 0).wr (Reg.cyclesMeas a) (min p.cycles 65535)
  let s := s.wr (Reg.cyclesMax a) (max (s.rd (Reg.cyclesMax a)) (min p.cycles 65535))
  let s := if p.fadeDone && (s.axis a).law.incoming.isSome then
      let s := s.modLaw a Law.completeFade
      s.raise 0x3411 cAXIS a (dU 4 (bankCrc (s.axis a).law.active))
    else s
  -- INTEG_1 and INTEG_2: the integrators of the law that is ACTIVE from this instant on (R191, R195)
  let st := (s.axis a).law.st
  (s.wrS 32 (Reg.integ1 a) (st.integ1 / 2 ^ 8)).wrS 32 (Reg.integ2 a) (st.integ2 / 2 ^ 8)

/-- t_out of the window that ENGINE_t has computed: codes, states and reports of its six units; `drops` are taps whose
record cannot be written in time. -/
def State.outputInstant (s : State) (t : Nat) (drops : List Nat) : State :=
  match (s.engine t).windowOpen with
  | none => s
  | some b =>
    let s := s.goTo (b + ns (s.outNs t))
    let missed := (s.engine t).missed
    let s := s.modEngine t fun e => { e with windowOpen := none, missed := [] }
    let s := (axesOf t).foldl (init := s) fun s a =>
      if missed.contains a then s.missAxis t a
      else match (s.axis a).pending with
        | some p => s.outputAxis t a b p
        | none => s.idleAxis a
    s.tapLoop t b missed drops

/-! ### The compute window (R165, R168, R169) -/

/-- What the unit of AXIS_a reports as it computes: the objects of its weir, ACC_SAT, an overshoot, a target above its limit
and a clamped preset (R167, R192, R198, R207, R209). -/
def State.unitReports (s : State) (a : Nat) (p : Pending) : State :=
  let s := (s.wrS 32 (Reg.spTarget a) (Num.fitI 32 (Num.rshift p.target 32))).wrS 32 (Reg.spTargetVel a)
    (Num.fitI 32 (Num.rshift p.targetVel 52))
  let s := (s.wr (Reg.weirStatus a) p.weirStatus).wrS 32 (Reg.weirPos a) (Num.fitI 32 (Num.rshift p.weir.pos 32))
  let s := s.wrS 32 (Reg.weirVel a) (Num.fitI 32 (Num.rshift p.weir.vel 52))
  let s := if p.satElem ≠ 0 then s.bump 32 (Reg.accSatCount a) else s
  let s := s.raiseIf (p.satElem != 0 && !bitAt (s.rd (Reg.lawStatus a)) 6) 0x3403 cAXIS a (dU 1 p.satElem)
  let s := match p.shot with
    | some z =>
      let size := Num.satU 32 (Num.rshift z 32)
      ((s.wr (Reg.weirOvershoot a) (Num.fitU 32 (Num.rshift z 32))).bump 32 (Reg.overshootCount a)).raise 0x3501 cAXIS a (dU 4 size)
    | none => s
  let s := s.raiseIf p.fastNow 0x3502 cAXIS a (dI 4 (Num.rshift p.targetVel 52))
  p.presetDiff.foldl (fun s d => s.raise 0x3415 cAXIS a (dI 4 (Num.rshift d 12))) s

/-- Units of the window in position order: those that complete leave their results; the first that does not fit, and all
after it, are abandoned. -/
def State.runUnits (s : State) (t : Nat) (b : Lt) (stalls : List Nat) (bad : List Nat) : List Nat → Nat → Nat → State × List Nat × Nat
  | [], _, used => (s, [], used)
  | a :: rest, k, used =>
    let runs := (s.axis a).law.run != .stopped && !s.engineParked t
    let stall := stalls.getD k 0
    let cost := if runs then (s.axis a).law.cycles true + stall else 4
    if used + cost ≤ s.budget t then
      let s1 :=
        if runs && !bad.contains a then
          let p := s.axisUnit t a b stall
          (s.modAxis a fun x => { x with pending := some p, law := { x.law with preset := false, presetIn := false } }).unitReports a p
        else s
      let r := State.runUnits s1 t b stalls bad rest (k + 1) (used + cost)
      (r.1, (if runs && bad.contains a then a :: r.2.1 else r.2.1), r.2.2)
    else (s, a :: rest, used)

/-- COMPUTE_WINDOW of ENGINE_t: 300 ns after its latest boundary; `stalls` are the extra cycles of each unit and `sram` the
errors met (R165, R183, R409). A window whose outputs are still due performs them first. -/
def State.computeWindow (s : State) (t : Nat) (stalls : List Nat) (sram : List SramErr) : State :=
  match (s.engine t).lastLoop with
  | none => s
  | some b =>
    if (s.engine t).computed = some b ∨ s.modeCode = INIT ∨ s.engineParked t then s else
      let s := s.outputInstant t []
      let s := (s.goTo (b + ns 300)).monReady
      let s := sram.foldl State.sramError s
      -- a double-bit error in a coefficient word: the unit of its axis is not used (log entry 15)
      let bad := (sram.filter fun e => e.double && decide (e.region < 2)).map (·.owner)
      let r := s.runUnits t b stalls bad (axesOf t) 0 windowOverhead
      let s := r.1.modEngine t fun e => { e with computed := some b, windowOpen := some b, missed := r.2.1 }
      (s.wr (Reg.cyclesUsed t) r.2.2).wr (Reg.cyclesPeak t) (max (s.rd (Reg.cyclesPeak t)) r.2.2)

end Sys2Proof.Machine
end

