-- ==== Sys2Proof/Machine/Legacy.lean ====
section
/-! DEFINITION. Encoder emulators, SSI slave ports, the SPI sample port, pulse inputs and the CAN bus states (chapter
10). -/

namespace Sys2Proof.Machine

/-- Changes the legacy interfaces. -/
def State.modLegacy (s : State) (f : Legacy → Legacy) : State := { s with legacy := f s.legacy }

/-! ### Encoder emulators (R263 to R273) -/

/-- ENC_k. -/
def State.enc (s : State) (k : Nat) : Enc := s.legacy.encs[k]?.getD {}

/-- Changes ENC_k. -/
def State.modEnc (s : State) (k : Nat) (f : Enc → Enc) : State :=
  s.modLegacy fun x => { x with encs := x.encs.setIfInBounds k (f (s.enc k)) }

/-- RES of ENC_k. -/
def State.encRes (s : State) (k : Nat) : Nat := bitsAt (s.rd (Reg.encCfg k)) 8 5

/-- EDGE_MIN of ENC_k, ns. -/
def State.edgeMin (s : State) (k : Nat) : Nat := bitsAt (s.rd (Reg.encCfg k)) 24 8

/-- FIELD of ENC_k. -/
def State.encField (s : State) (k : Nat) : Bool := bitAt (s.rd (Reg.encCfg k)) 2

/-- The counts of a word without its turns: floor(ANGLE / 2^(24−n)), or C_t in FIELD (R264). -/
def State.encPos (s : State) (k : Nat) (w : Words) : Int :=
  let n := s.encRes k
  if s.encField k then toSigned 24 w.angle * ((2 ^ (n + 8) : Nat) : Int) / (s.rd (Reg.encSpan k) : Int)
  else ((w.angle / 2 ^ (24 - n) : Nat) : Int)

/-- C_t of a word by itself (R264). -/
def State.encTarget (s : State) (k : Nat) (w : Words) : Int :=
  if s.encField k then s.encPos k w else w.turns * ((2 ^ s.encRes k : Nat) : Int) + s.encPos k w

/-- The change of C_t from the latest word to `w`: TURN_COUNT changes by the signed value nearest 0 (R264). -/
def State.encChange (s : State) (k : Nat) (w : Words) : Int :=
  let e := s.enc k
  let dPos := s.encPos k w - e.lastPos
  if s.encField k then dPos
  else Num.wrapTurn 16 (w.turns - e.lastTurns) * ((2 ^ s.encRes k : Nat) : Int) + dPos

/-- Levels of A and B for a quadrature state (R266). -/
def quadLevels (q : Nat) : Bool × Bool := (q == 1 || q == 2, q == 2 || q == 3)

/-- The quadrature state of two levels (R266). -/
def quadState (a b : Bool) : Nat := if a then (if b then 2 else 1) else if b then 3 else 0

/-- INVERT exchanges the roles of the pins (R266). -/
def State.encInvert (s : State) (k : Nat) : Bool := bitAt (s.rd (Reg.encCfg k)) 3

/-- The level of ENC_Z_k for a count (R271). -/
def State.encZ (s : State) (k : Nat) (c : Int) : Bool :=
  let z := s.rdS 32 (Reg.encZPos k)
  match bitsAt (s.rd (Reg.encCfg k)) 4 2 with
  | 1 => !s.encField k && (c - z) % ((2 ^ s.encRes k : Nat) : Int) == 0
  | 2 => ofSigned 32 c == ofSigned 32 z
  | _ => false

/-- ENC_STATUS and ENC_COUNT follow the emulator (R273). -/
def State.showEnc (s : State) (k : Nat) : State :=
  let e := s.enc k
  (s.wr (Reg.encStatus k) (bit e.running + 2 * bit e.presetWait + 4 * bit e.overspeed + 8 * bit e.holding)).wr
    (Reg.encCount k) (ofSigned 32 e.count)

/-- STATUS of a word carries ACQ or LOST. -/
def Words.unsure (w : Words) : Bool := bitAt w.status 3 || bitAt w.status 4

/-- The preset: C_o = C_t, and P keeps q at the pins' present state (R269). -/
def State.encPreset (s : State) (k : Nat) (w : Words) : State :=
  let e := s.enc k
  let c := s.encTarget k w
  let q := if s.encInvert k then quadState e.pinB e.pinA else quadState e.pinA e.pinB
  s.modEnc k fun e =>
    { e with presetWait := false, target := c, count := c, offset := c - q, lastTurns := w.turns, lastPos := s.encPos k w,
             backlog := 0, next := none, pinZ := s.encZ k c }

/-- ENC_k starts to run (R269); on an axis that is PARKED, in acquisition or LOST it holds at once (R270). OVERSPEED stays until
the first word that clears it (R268). -/
def State.encStart (s : State) (k : Nat) : State :=
  let a := s.rd (Reg.encAxis k)
  let w := s.wordsAt a s.lt
  let s := s.modEnc k fun e =>
    { e with running := true, holding := w.unsure || s.axisParked a,
             words := e.words.filter fun (x : Lt × Words) => decide (s.lt < x.1) }
  if w.unsure then
    s.modEnc k fun e => { e with presetWait := true, target := s.encTarget k w, lastTurns := w.turns, lastPos := s.encPos k w,
                                 backlog := 0, next := none }
  else s.encPreset k w

/-- ENC_k stops: it issues no edges and holds its pins (R263). -/
def State.encStop (s : State) (k : Nat) : State :=
  s.modEnc k fun e => { e with running := false, presetWait := false, holding := false, backlog := 0, next := none }

/-- ENC_k runs (R263). -/
def State.encWanted (s : State) (k : Nat) : Bool :=
  bitAt (s.rd (Reg.encEnable k)) 0 && decide (s.rd (Reg.encAxis k) < 48) && s.inRunOrHold && !s.mode.inReset

/-- The word of t_w judges OVERSPEED by its backlog (R268). -/
def State.encJudge (s : State) (k : Nat) (tw : Lt) : State :=
  let e := s.enc k
  let b := e.target - e.count
  let n := b.natAbs
  let tooFar := decide (n > s.demodNs (s.rd (Reg.encAxis k) / 6) / s.edgeMin k)
  let s := s.modEnc k fun e => { e with overspeed := tooFar }
  let s := if tooFar then
      s.wr (Reg.encBacklogMax k) (min (2 ^ 32 - 1) (if e.overspeed then max (s.rd (Reg.encBacklogMax k)) n else n))
    else s
  let s := if tooFar ∧ ¬ e.overspeed then
      s.raiseFull 1 0x3701 cEMU k (dU 1 (s.rd (Reg.encAxis k)) ++ dI 4 b) tw []
    else s
  if !tooFar ∧ e.overspeed then s.raiseFull 0 0x3702 cEMU k (dU 4 (s.rd (Reg.encBacklogMax k))) tw [] else s

/-- The word of t_w plans the edges of its backlog (R267). -/
def State.encPlan (s : State) (k : Nat) (tw : Lt) : State :=
  let e := s.enc k
  let tns := s.demodNs (s.rd (Reg.encAxis k) / 6)
  let b := e.target - e.count
  let n := b.natAbs
  let sp := max (if n = 0 then 0 else tns / n) (s.edgeMin k)
  let first := max (tw + ns sp) (match e.lastEdge with | some t => t + ns (s.edgeMin k) | none => 0)
  s.modEnc k fun e => { e with backlog := b, spacing := sp, next := if n = 0 then none else some first }

/-- ENC_k takes a word at its t_w (R267 to R270). -/
def State.encTake (s : State) (k : Nat) (tw : Lt) (w : Words) : State :=
  let parked := s.axisParked (s.rd (Reg.encAxis k))
  let t' := (s.enc k).target + s.encChange k w
  let pos := s.encPos k w
  let s := s.modEnc k fun e => { e with target := t', lastTurns := w.turns, lastPos := pos }
  let s := s.wrS 32 (Reg.encBacklog k) (Num.satI 32 (t' - (s.enc k).count))
  let s :=
    if (s.enc k).presetWait then
      if w.unsure then (s.modEnc k fun e => { e with holding := true }).encJudge k tw
      else (((s.encPreset k w).wrS 32 (Reg.encBacklog k) 0).modEnc k fun e => { e with holding := parked }).encJudge k tw
    else if parked || w.unsure then (s.modEnc k fun e => { e with holding := true, backlog := 0, next := none }).encJudge k tw
    else
      let held := (s.enc k).holding
      let d := t' - (s.enc k).count
      let s := s.modEnc k fun e => { e with holding := false }
      let s := if held then s.raiseFull 0 0x3703 cEMU k (dI 4 d) tw [] else s
      (s.encJudge k tw).encPlan k tw
  s.showEnc k

/-- The words that have reached the emulators by now are taken, in order, by those that run (R267). -/
def State.encWords (s : State) : State :=
  each 8 s fun s k =>
    match (s.enc k).words with
    | [] => s
    | l =>
      let s := s.modEnc k fun e => { e with words := l.filter fun (x : Lt × Words) => decide (s.lt < x.1) }
      (l.filter fun (x : Lt × Words) => decide (x.1 ≤ s.lt)).foldl (init := s) fun s (x : Lt × Words) =>
        if (s.enc k).running then s.encTake k x.1 x.2 else s

/-- An output of TILE_t at `td` is on its way to the emulators that follow its axes. -/
def State.encOutputs (s : State) (t : Nat) (td : Lt) : State :=
  each 8 s fun s k =>
    let a := s.rd (Reg.encAxis k)
    if a < 48 ∧ a / 6 = t ∧ (s.axis a).obs.words.tag = td then
      s.modEnc k fun e => { e with words := e.words ++ [(td + ns 280, (s.axis a).obs.words)] }
    else s

/-- Emulators start, stop and hold as the mode, their ENABLE and their axis give (R263, R269, R270). -/
def State.encFollow (s : State) : State :=
  each 8 s fun s k =>
    let e := s.enc k
    if s.encWanted k ∧ !e.running then (s.encStart k).showEnc k
    else if !s.encWanted k ∧ e.running then (s.encStop k).showEnc k
    else if e.running ∧ !e.holding ∧ s.axisParked (s.rd (Reg.encAxis k)) then
      (s.modEnc k fun e => { e with holding := true, backlog := 0, next := none }).showEnc k
    else s

/-- The words that reach ENC_k before its next planned edge are taken, or the next word where no edge is planned (R267). -/
def State.encUntilEdge (k : Nat) : List (Lt × Words) → State → State
  | [], s => s
  | (tw, w) :: l, s =>
    let before := match (s.enc k).next with
      | some t => decide (tw ≤ t)
      | none => true
    if before then
      State.encUntilEdge k l (((s.goTo tw).modEnc k fun e => { e with words := e.words.drop 1 }).encTake k tw w)
    else s

/-- ENC_EDGE: the next planned edge of ENC_k is issued at its instant (R266, R267). -/
def State.encEdge (s : State) (k : Nat) : State :=
  let s := if (s.enc k).running then State.encUntilEdge k (s.enc k).words s else s
  match (s.enc k).next with
  | none => s
  | some t =>
    let s := s.goTo t
    let e := s.enc k
    let d : Int := if e.backlog < 0 then -1 else 1
    let c := e.count + d
    let (a, b) := quadLevels ((c - e.offset) % 4).toNat
    let left := e.backlog - d
    let s := s.modEnc k fun e =>
      { e with count := c, backlog := left, lastEdge := some t, next := if left = 0 then none else some (t + ns e.spacing)
               pinA := if s.encInvert k then b else a, pinB := if s.encInvert k then a else b, pinZ := s.encZ k c }
    s.showEnc k

/-- The output pins of the emulators and SSI ports are high impedance: in reset, in INIT and in a logic self-test (R289, R455). -/
def State.legacyHighZ (s : State) : Bool := s.mode.inReset || s.modeCode == INIT || s.logicTest

/-- The levels of ENC_A_k, ENC_B_k and ENC_Z_k; none is high impedance (R263, R289, R455). -/
def State.encLevels (s : State) (k : Nat) : Option (Bool × Bool × Bool) :=
  if s.legacyHighZ then none else some ((s.enc k).pinA, (s.enc k).pinB, (s.enc k).pinZ)

/-- R265 holds for a configuration and a span. -/
def encSpanFits (cfg span : Nat) : Bool := !bitAt cfg 2 || decide (2 ^ (bitsAt cfg 8 5 + 8) ≤ span)

/-- An ENC_CFG value whose fields are in range (R265, R273). -/
def encCfgFits (cfg : Nat) : Bool :=
  decide (20 ≤ bitsAt cfg 24 8) && decide (4 ≤ bitsAt cfg 8 5) && decide (bitsAt cfg 8 5 ≤ 22) && bitsAt cfg 4 2 != 3 &&
    !(bitAt cfg 2 && bitsAt cfg 4 2 == 1) && bitsAt cfg 13 11 == 0 && bitsAt cfg 6 2 == 0 && bitsAt cfg 0 2 == 0

/-! ### SSI slave ports (R274 to R276) -/

/-- SSI_i. -/
def State.ssi (s : State) (i : Nat) : Ssi := s.legacy.ssis[i]?.getD {}

/-- Changes SSI_i. -/
def State.modSsi (s : State) (i : Nat) (f : Ssi → Ssi) : State :=
  s.modLegacy fun x => { x with ssis := x.ssis.setIfInBounds i (f (s.ssi i)) }

/-- The low `n` bits of `v`, most significant first. -/
def bitsMsb : Nat → Nat → List Bool
  | 0, _ => []
  | n + 1, v => bitAt v n :: bitsMsb n v

/-- The frame of a word under an SSI_FORMAT (R275); `none` where no axis answers. -/
def ssiFrame (fmt : Nat) (w : Option Words) : List Bool :=
  let ab := bitsAt fmt 11 5
  let tb := bitsAt fmt 6 5
  let v := match w with
    | some w => ofSigned tb w.turns * 2 ^ ab + w.angle / 2 ^ (24 - ab)
    | none => 0
  let v := if bitAt fmt 5 then Nat.xor v (v / 2) else v
  let st := match w with | some w => w.status | none => 0
  let alarm := bitAt st 3 || bitAt st 8 || bitAt st 9
  let bits := bitsMsb (tb + ab) v ++ ([bitAt st 0, alarm].take (bitsAt fmt 3 2))
  if bitAt fmt 2 then bits ++ [(bits.filter id).length % 2 == 1] else bits

/-- SSI_i returns to idle once SSI_TIMEOUT has passed without an edge (R274). -/
def State.ssiIdle (s : State) (i : Nat) : State := s.modSsi i fun x => { x with frame := none, data := true }

/-- The end of SSI_TIMEOUT after the latest edge. -/
def State.ssiEnd (s : State) (i : Nat) : Lt := (s.ssi i).last + ns (1000 * s.rd (Reg.ssiTimeout i))

/-- SSI_i has timed out by now, though no command has told it. -/
def State.ssiLapse (s : State) (i : Nat) : State :=
  if (s.ssi i).frame.isSome ∧ s.ssiEnd i ≤ s.lt then s.ssiIdle i else s

/-- The level of SSI_DATA_i; none is high impedance (R289, R455). -/
def State.ssiLevel (s : State) (i : Nat) : Option Bool := if s.legacyHighZ then none else some (s.ssi i).data

/-- SSI_LATCH: the first falling edge after idle latches the words; any other falling edge restarts the timeout (R274). -/
def State.ssiLatch (s : State) (i : Nat) : State :=
  let s := s.ssiLapse i
  match (s.ssi i).frame with
  | some _ => s.modSsi i fun x => { x with last := s.lt }
  | none =>
    let a := s.rd (Reg.ssiAxis i)
    let w := if a < 48 ∧ s.kind a ≠ 0 then some (s.wordsAt a s.lt) else none
    let f := ssiFrame (s.rd (Reg.ssiFormat i)) w
    (s.modSsi i fun x => { x with frame := some f, last := s.lt }).bumpWrap 32 (Reg.ssiFrameCount i)

/-- SSI_CLOCK_EDGE: a rising edge drives the next bit, 0 after the last; each edge restarts the timeout (R274). -/
def State.ssiClock (s : State) (i : Nat) (rising : Bool) : State :=
  let s := s.ssiLapse i
  match (s.ssi i).frame with
  | none => if rising then s else s.ssiLatch i
  | some f =>
    let now := s.lt
    if rising then s.modSsi i fun x => { x with frame := some f.tail, data := f.headD false, last := now }
    else s.modSsi i fun x => { x with last := now }

/-- SSI_TIMEOUT: the timeout passes without an edge (R274). -/
def State.ssiTimeout (s : State) (i : Nat) : State :=
  match (s.ssi i).frame with
  | some _ => (s.goTo (s.ssiEnd i)).ssiIdle i
  | none => s

/-! ### SPI sample port (R277 to R281) -/

/-- The latest latch completed. -/
def Legacy.latch (x : Legacy) : Latch := if x.latest then x.latch1 else x.latch0

/-- The buffer that a transaction in progress at `now` reads (R278). -/
def Legacy.reading (x : Legacy) (now : Lt) : Option Bool :=
  match x.spi with
  | some (b, e) => if now < e then some b else none
  | none => none

/-- A latch is completed: in the buffer that no transaction reads, else in the one that does not hold the latest (R278). -/
def Legacy.putLatch (x : Legacy) (now : Lt) (l : Latch) : Legacy :=
  let b := !((x.reading now).getD x.latest)
  if b then { x with latch1 := l, latest := b } else { x with latch0 := l, latest := b }

/-- SPI_MISO is driven: SPI_CS_N is low (R289). -/
def State.misoDriven (s : State) : Bool := s.pinsAct && (s.legacy.reading s.lt).isSome

/-- CAN_TX is driven recessive, which is high, unless a frame is being sent; none is high impedance (R289). The CAN port goes on
in a logic self-test (R455). -/
def State.canTxRest (s : State) : Option Bool := if s.pinsAct then some true else none

/-- An edge of SAMPLE_N, or a LATCH of the scheduler, at the present LT (R277, R313). -/
def State.sampleEdgeNow (s : State) : State :=
  let now := s.lt
  match s.legacy.lastSample with
  | some t =>
    if now < t + ns 500 then
      let s := s.bump 32 Reg.sampleIgnored
      let s := s.raiseIf (!s.legacy.sampleDropped) 0x3710 cDEVICE 0 (dU 4 (lateNs t now))
      s.modLegacy fun x => { x with sampleDropped := true }
    else takeLatch s now
  | none => takeLatch s now
where
  /-- The copy of all words into a latch buffer. -/
  takeLatch (s : State) (now : Lt) : State :=
    let s := (s.bumpWrap 32 Reg.latchSeq).wr Reg.latchLt (time80 now)
    let l : Latch := { lt := now, seq := s.rd Reg.latchSeq, words := (List.range 48).map fun (a : Nat) => s.wordsAt a now }
    s.modLegacy fun x => { x.putLatch now l with lastSample := some now, sampleDropped := false }

/-- The `n` bytes of `v`, most significant first. -/
def beBytes (n v : Nat) : List Nat := (leBytes n v).reverse

/-- The eight bytes of an axis record, as sent (R279). -/
def spiRecord (w : Words) (shift : Nat) : List Nat :=
  let sp := ofSigned 24 (Num.satI 24 (w.speed / ((2 ^ shift : Nat) : Int)))
  let b := beBytes 3 w.angle ++ beBytes 3 sp ++ [w.status % 256]
  b ++ [crc8 b]

/-- `n` bytes of data: those given, then 0. -/
def padTo (n : Nat) (l : List Nat) : List Nat := (l ++ List.replicate n 0).take n

/-- SPI_CS_N falls, after the transaction before, for `low` ns: the transaction reads the latest latch completed (R278). -/
def State.spiBegin (s : State) (low : Nat) : State :=
  let s := match s.legacy.spi with | some (_, e) => s.goTo e | none => s
  s.modLegacy fun x => { x with spi := some (x.latest, s.lt + ns low) }

/-- What an SPI transaction sends: `data` as the port had it ready, `none` where the command or its arguments are in error
(R280). -/
def State.spiEnd (s : State) (cmd : Nat) (clocks : SpiClocks) (data : Option (List Nat)) : State :=
  let bad := data.isNone || clocks.cut
  let s := s.modLegacy fun x => { x with spiOut := padTo clocks.bytes (data.getD []) }
  if bad then (s.bump 32 Reg.spiErrCount).raise 0x3712 cDEVICE 0 (dU 1 cmd) else s

/-- READ_RECORDS (R280). -/
def State.spiRecords (s : State) (low first count : Nat) (clocks : SpiClocks) : State :=
  let s := s.spiBegin low
  let ok := decide (first ≤ 47) && decide (1 ≤ count) && decide (count ≤ 48) && decide (first + count ≤ 48)
  let sh := s.rd Reg.spiSpeedShift
  let ws := s.legacy.latch.words
  let data := (List.range count).flatMap fun i => spiRecord (ws.getD (first + i) {}) sh
  s.spiEnd 1 clocks (if ok then some data else none)

/-- READ_LATCH, or a transaction with a command the port does not know (R280). -/
def State.spiLatch (s : State) (low cmd arg1 arg2 : Nat) (clocks : SpiClocks) : State :=
  let s := s.spiBegin low
  let b := beBytes 10 (time80 s.legacy.latch.lt) ++ beBytes 4 s.legacy.latch.seq
  s.spiEnd cmd clocks (if cmd = 2 ∧ arg1 = 0 ∧ arg2 = 0 then some (b ++ [crc8 b]) else none)

/-! ### Pulse inputs (R282 to R284) -/

/-- Pulse input k. -/
def State.pulse (s : State) (k : Nat) : Pulse := s.legacy.pulses[k]?.getD {}

/-- Changes pulse input k. -/
def State.modPulse (s : State) (k : Nat) (f : Pulse → Pulse) : State :=
  s.modLegacy fun x => { x with pulses := x.pulses.setIfInBounds k (f (s.pulse k)) }

/-- PLS_COUNT of input k moves by `d`; it wraps. -/
def State.pulseCount (s : State) (k : Nat) (d : Int) : State :=
  s.wrS 32 (Reg.plsCount k) (s.rdS 32 (Reg.plsCount k) + d)

/-- The level a pulse pin's filter accepts, `old` before: a level is new only once it has stood for PLS_FILTER (R282). -/
def State.pulseAccepts (s : State) (k : Nat) (old : Bool) (pin : PinSeen) : Bool :=
  if 10 * s.rd (Reg.plsFilter k) ≤ pin.held then pin.level else old

/-- PULSE_EDGE: what the filters accept of the pins A and B becomes their accepted levels (R282). -/
def State.pulseEdge (s : State) (k : Nat) (pinA pinB : PinSeen) : State :=
  let x := s.pulse k
  let a := s.pulseAccepts k x.a pinA
  let b := s.pulseAccepts k x.b pinB
  let m := s.rd (Reg.plsMode k)
  let now := s.lt
  let dir := match x.lastB with | some t => if now < t + ns 10 then x.prevB else x.b | none => x.b
  let s :=
    if bitsAt m 0 2 = 1 then
      if a ≠ x.a ∧ a ≠ bitAt m 2 then s.pulseCount k (if dir != bitAt m 3 then 1 else -1) else s
    else if bitsAt m 0 2 = 2 then
      match (quadState a b + 4 - quadState x.a x.b) % 4 with
      | 1 => s.pulseCount k 1
      | 3 => s.pulseCount k (-1)
      | 2 =>
        let s := s.bump 32 (Reg.plsErrCount k)
        let s := s.raiseIf (decide (x.lastErr.getD 0 + ns 1000000 ≤ now)) 0x3711 cPULSE k []
        s.modPulse k fun y => { y with lastErr := some now }
      | _ => s
    else s
  s.modPulse k fun y =>
    { y with a := a, b := b, prevB := if b ≠ x.b then x.b else y.prevB, lastB := if b ≠ x.b then some now else y.lastB }

/-- The input is the set-point source of an axis whose law runs (R283). -/
def State.pulseBusy (s : State) (k : Nat) : Bool :=
  (List.range 48).any fun a => (s.axis a).law.run != .stopped && s.rd (Reg.spSource a) == 2 && s.rd (Reg.spPulseInput a) == k

/-- A write of PLS_PRESET: the abort code (R283). -/
def State.plsPreset (s : State) (k v : Nat) : State × Nat :=
  if s.pulseBusy k then (s, 0xA011) else (s.wr (Reg.plsCount k) (v % 2 ^ 32), 0)

/-! ### CAN bus states (R285, R288) -/

/-- CAN_STATUS follows ENABLE and the bus states. -/
def State.showCan (s : State) : State :=
  let v := s.rd Reg.canStatus
  s.wrField Reg.canStatus 0 1 (bit (bitAt (s.rd Reg.canCfg) 0 && !bitAt v 2))

/-- The error counters take new values, and with them the error state (R285, R290). -/
def State.canCounters (s : State) (tec rcv : Nat) : State :=
  let was := s.rd Reg.canStatus
  let passive := decide (128 ≤ tec) || decide (128 ≤ rcv)
  let off := bitAt was 2 || decide (256 ≤ tec)
  let c := min rcv 255 * 256 + min tec 255
  let s := s.wr Reg.canErrCounters c
  let s := (s.wrField Reg.canStatus 1 1 (bit passive)).wrField Reg.canStatus 2 1 (bit off)
  let s := s.raiseIf (passive && !bitAt was 1) 0x3720 cDEVICE 0 (dU 2 c)
  let s := s.raiseIf (off && !bitAt was 2) 0x3721 cDEVICE 0 (dU 2 c)
  s.showCan

/-- CAN_BUS_ERROR: errors that add `tec` to the transmit error counter and `rcv` to the receive error counter, 1 or 8 for each as
ISO 11898-1 counts it (R285; log entry 109). -/
def State.canError (s : State) (tec rcv : Nat) : State :=
  if !bitAt (s.rd Reg.canCfg) 0 then s
  else s.canCounters (bitsAt (s.rd Reg.canErrCounters) 0 8 + tec) (bitsAt (s.rd Reg.canErrCounters) 8 8 + rcv)

/-- A frame has been received without an error: the receive error counter falls by one, or where it is above 127 to a value from
119 to 127, which the standard leaves open (R285; log entry 109). -/
def State.canReceived (s : State) : State :=
  let c := s.rd Reg.canErrCounters
  let n := bitsAt c 8 8
  if !bitAt (s.rd Reg.canStatus) 0 ∨ n = 0 then s
  else if n ≤ 127 then s.canCounters (bitsAt c 0 8) (n - 1)
  else
    let (f, s) := s.fresh
    s.canCounters (bitsAt c 0 8) (119 + f % 9)

/-- A frame has been sent: the transmit error counter falls by one (R285; log entry 109). -/
def State.canSent (s : State) : State :=
  let c := s.rd Reg.canErrCounters
  if !bitAt (s.rd Reg.canStatus) 0 ∨ bitsAt c 0 8 = 0 then s else s.canCounters (bitsAt c 0 8 - 1) (bitsAt c 8 8)

/-- CAN_BUS_OFF_RECOVERY (R285). -/
def State.canRecover (s : State) : State :=
  if bitAt (s.rd Reg.canStatus) 2 ∧ bitAt (s.rd Reg.canCfg) 1 then
    let s := (s.wr Reg.canErrCounters 0).wrField Reg.canStatus 1 2 0
    (s.raise 0x3722 cDEVICE 0 []).showCan
  else s

end Sys2Proof.Machine
end

