-- ==== Sys2Proof/Machine/Net.lean ====
section
/-! DEFINITION. The network ports: frames received, forwarded, queued and sent, with the corrections of the transparent
clock (R309, R310, R327 to R331). -/

namespace Sys2Proof.Machine

/-- Changes the network. -/
def State.modNet (s : State) (f : Net → Net) : State := { s with net := f s.net }

/-- The egress of NET_p. -/
def State.egress (s : State) (p : Nat) : Egress := s.net.egress[p]?.getD {}

/-- Changes the egress of NET_p. -/
def State.modEgress (s : State) (p : Nat) (f : Egress → Egress) : State :=
  s.modNet fun n => { n with egress := n.egress.setIfInBounds p (f (s.egress p)) }

/-- The part of MASTER_n that no object shows. -/
def State.master (s : State) (n : Nat) : Master := s.net.masters[n]?.getD {}

/-- Changes MASTER_n. -/
def State.modMaster (s : State) (n : Nat) (f : Master → Master) : State :=
  s.modNet fun x => { x with masters := x.masters.setIfInBounds n (f (s.master n)) }

/-- Changes network time. -/
def State.modTime (s : State) (f : TimeSt → TimeSt) : State := { s with time := f s.time }

/-- The time unit of NET_p. -/
def State.portTime (s : State) (p : Nat) : PortTime := s.time.ports[p]?.getD {}

/-- Changes the time unit of NET_p. -/
def State.modPortTime (s : State) (p : Nat) (f : PortTime → PortTime) : State :=
  s.modTime fun x => { x with ports := x.ports.setIfInBounds p (f (s.portTime p)) }

/-- EtherType of PTP (R307). -/
abbrev etherPtp : Nat := 0x88F7
/-- EtherType of Raore link (R327). -/
abbrev etherRaore : Nat := 0x88B5
/-- The group address of the PTP peer-delay messages (R329). -/
abbrev pdelayGroup : Nat := 0x0180C200000E

/-- A time in ps as 2^-32 ns. -/
def psLt (p : Int) : Int := Num.rdiv (p * 2 ^ 32) 1000

/-- The ingress timestamp of a frame whose media-access timestamp is the present LT (R309). -/
def State.rxStamp (s : State) (p : Nat) (t : Lt) : Int :=
  (t : Int) - psLt (s.rd (Reg.rxFixed p)) - psLt (s.rd (Reg.phyRxLatency p))

/-- The egress timestamp of a frame whose media-access timestamp is `t` (R309). -/
def State.txStamp (s : State) (p : Nat) (t : Lt) : Int :=
  (t : Int) + psLt (s.rd (Reg.txFixed p)) + psLt (s.rd (Reg.phyTxLatency p))

/-- The domain whose DOMAIN_NUMBER is `n`. -/
def State.domainOf (s : State) (n : Nat) : Option Nat := ([0, 1] : List Nat).find? fun d => s.rd (Reg.domainNumber d) == n

/-- 1 + DOMAIN_RATIO of a PTP domain while it is VALID, 1 otherwise, in 2^-32 (R310). -/
def State.residenceRatio (s : State) (n : Nat) : Int :=
  match s.domainOf n with
  | some d => if s.rd (Reg.domainState d) = 2 then 2 ^ 32 + s.rdS 32 (Reg.domainRatio d) else 2 ^ 32
  | none => 2 ^ 32

/-- The network buffers, in bytes (R21). -/
abbrev netBufferBytes : Nat := 524288

/-- Bytes of the frames that wait in the network buffers. -/
def State.netStored (s : State) : Nat :=
  ([0, 1] : List Nat).foldl (fun n p => (s.egress p).high.foldl (fun m (f : Frame) => m + f.len)
    ((s.egress p).low.foldl (fun m (f : Frame) => m + f.len) n)) 0

/-- A frame belongs to the high queue: PTP event messages, PD_IN, PD_OUT, and priority 4 or more (R330). -/
def Frame.highQueue (f : Frame) : Bool :=
  (f.ether == etherPtp && decide (f.ty < 4)) || (f.ether == etherRaore && (f.ty == 1 || f.ty == 2)) || decide (4 ≤ f.priority)

/-- A frame that came in on another port is sent: it has been forwarded, and stomped where its check sequence was bad (R330,
R354). -/
def State.countForward (s : State) (p : Nat) (f : Frame) : State :=
  match f.rx with
  | some (q, _) =>
    if q = p then s else
      let s := s.bumpWrap 32 (Reg.fwdFrames q)
      if f.bad then s.bump 32 (Reg.fwdStomped q) else s
  | none => s

/-- A frame's first bit leaves NET_p at `te`: the corrections of R310 and the timestamps of peer delay are made. A Follow_Up
takes the residence of its two-step Sync here, behind which it has waited in the same egress. -/
def State.startFrame (s : State) (p : Nat) (f : Frame) (te : Lt) : State :=
  let s := s.countForward p f
  let tx := s.txStamp p te
  let send (s : State) (f : Frame) : State := s.modEgress p fun x => { x with sending := some { f with rx := none } }
  match f.rx, f.ptp with
  | some (q, ti), some m =>
    if f.ether ≠ etherPtp then send s f
    else if f.ty = 0 then
      let add := Num.rshift ((tx - ti) * s.residenceRatio m.domain) 32 + psLt (s.rd (Reg.meanLinkDelay q))
      if m.twoStep then
        let r : Residence := { domain := m.domain, seq := m.seq, add := add }
        let s := s.modPortTime q fun x => { x with residences := (x.residences ++ [r]).drop (x.residences.length - 15) }
        send s f
      else send s { f with ptp := some { m with correction := m.correction + Num.rshift add 16 } }
    else if f.ty = 3 then send s { f with ptp := some { m with correction := m.correction + Num.rshift (tx - ti) 16 } }
    else if f.ty = 8 then
      let mine (r : Residence) : Bool := r.domain == m.domain && r.seq == m.seq
      let add := match (s.portTime q).residences.find? mine with | some r => r.add | none => 0
      let s := s.modPortTime q fun x => { x with residences := x.residences.filter fun r => !mine r }
      send s { f with ptp := some { m with correction := m.correction + Num.rshift add 16 } }
    else send s f
  | none, some m =>
    if f.ether = etherPtp ∧ f.ty = 2 then
      send (s.modPortTime p fun x => { x with req := some (m.seq, tx) }) f
    else send s f
  | _, none => send s f

/-- Stores a frame that waits for NET_p. -/
def State.storeFrame (s : State) (p : Nat) (f : Frame) : State :=
  if f.highQueue then s.modEgress p fun x => { x with high := x.high ++ [f] }
  else
    let n := s.net.stored
    (s.modEgress p fun x => { x with low := x.low ++ [f], lowAt := x.lowAt ++ [n] }).modNet fun x => { x with stored := n + 1 }

/-- The port whose low queue holds the oldest low-queue frame. -/
def State.oldestLow (s : State) : Option Nat :=
  match (s.egress 0).lowAt, (s.egress 1).lowAt with
  | [], [] => none
  | _ :: _, [] => some 0
  | [], _ :: _ => some 1
  | x :: _, y :: _ => some (if x ≤ y then 0 else 1)

/-- Drops oldest low-queue frames, at most `n`, until `len` bytes are free (R330). -/
def State.makeRoom (len : Nat) : Nat → State → State
  | 0, s => s
  | n + 1, s =>
    if s.netStored + len ≤ netBufferBytes then s
    else match s.oldestLow with
      | some q => State.makeRoom len n ((s.bump 32 (Reg.dropped q)).modEgress q fun x => { x with low := x.low.tail, lowAt := x.lowAt.tail })
      | none => s

/-- A frame is to leave NET_p, at `te` where the port is free; otherwise it is stored. Where the buffers are full, an arriving
low-queue frame is dropped, and the oldest low-queue frames are dropped to make room for a high-queue one, which is dropped
where none is left (R330; log entry 98). A PARKED port and a link that is down send nothing. -/
def State.sendFrame (s : State) (p : Nat) (f : Frame) (te : Lt) : State :=
  if s.portParked p || !bitAt (s.rd (Reg.linkStatus p)) 0 then s
  else if (s.egress p).sending.isNone then s.startFrame p f te
  else
    let n := (s.egress 0).low.length + (s.egress 1).low.length
    let s := if f.highQueue then s.makeRoom f.len n else s
    if s.netStored + f.len ≤ netBufferBytes then s.storeFrame p f else s.bump 32 (Reg.dropped p)

/-- FRAME_TRANSMISSION_END: the frame has left, and the next stored one follows, high queue first (R330). -/
def State.frameEnd (s : State) (p : Nat) : State :=
  let e := s.egress p
  if e.sending.isNone then s else
    let s := s.modEgress p fun x => { x with sending := none }
    if s.portParked p || !bitAt (s.rd (Reg.linkStatus p)) 0 then s.modEgress p fun x => { x with high := [], low := [], lowAt := [] }
    else match e.high, e.low with
      | f :: r, _ => (s.modEgress p fun x => { x with high := r }).startFrame p f s.lt
      | [], f :: r => (s.modEgress p fun x => { x with low := r, lowAt := x.lowAt.tail }).startFrame p f s.lt
      | [], [] => s

/-- A frame of the device's own on Raore link (R327). -/
def State.ownFrame (s : State) (ty dest : Nat) (payload : List Nat) : State × Frame :=
  let q := s.net.txSeq
  (s.modNet fun n => { n with txSeq := (q + 1) % 65536 },
   { dest := dest, src := s.rd Reg.deviceMac % 2 ^ 48, ether := etherRaore, ty := ty, hops := s.rd Reg.hopLimit, seq := q,
     length := payload.length, len := max 64 (26 + payload.length), payload := payload })

/-- The master registered from an Ethernet address. -/
def State.ethMaster (s : State) (mac : Nat) : Option Nat :=
  (List.range 4).find? fun n => s.rd (Reg.masterState n) == 1 && s.rd (Reg.masterMac n) == mac

/-- The master that a source is registered as. -/
def State.masterOf (s : State) : Source → Option Nat
  | .eth mac _ => s.ethMaster mac
  | .can => (List.range 4).find? fun n => s.rd (Reg.masterState n) == 2

/-- A frame of a registered master arrived on port p at `t` (R343, R355). -/
def State.seen (s : State) (mac p : Nat) (t : Lt) : State :=
  match s.ethMaster mac with
  | some n => (s.wr (Reg.lastSeenLt n) (time80 t)).modMaster n fun m => { m with lastSeen := t, port := p }
  | none => s

/-- A destination address is a group address. -/
def groupMac (mac : Nat) : Bool := bitAt mac 40

/-- A Raore frame addressed to the device has one of the faults of R328; addresses, EtherType, header and frame check sequence
take 26 bytes, and a tag 4 (R327). -/
def Frame.raoreFault (f : Frame) : Bool :=
  f.version != 1 || !(f.ty == 1 || f.ty == 3 || f.ty == 6) || decide (f.length + 26 + 4 * bit f.tagged > f.len) || f.reserved != 0

/-- FRAME_RECEIVE: a frame arrives on NET_p, is counted, and forwarded to the other port with its first bit leaving `lat` ns
later where that port is free: 760 ± 8 ns in cut-through (R329, R330). What a consumed frame says is served by the commands
of its content; a Follow_Up waits for FOLLOW_UP, which tells its content and forwards it. -/
def State.receiveFrame (s : State) (p : Nat) (f : Frame) (lat : Nat) : State :=
  if s.portParked p || decide (1 < p) then s else
    let now := s.lt
    let own := s.rd Reg.deviceMac % 2 ^ 48
    let s := s.bumpWrap 32 (Reg.rxFrames p)
    let short := decide (f.len < 64)
    let s := if f.bad || short then s.bump 32 (Reg.rxErrors p) else s
    let raore := f.ether == etherRaore
    let mine := f.dest == own
    -- a group address is the device's for the types it receives; another unicast address never is
    let toIt := mine || (groupMac f.dest && (f.ty == 1 || f.ty == 3 || f.ty == 6))
    let s := if !f.bad && !short && raore && toIt && f.raoreFault then s.bump 32 (Reg.raoreDiscarded p) else s
    let s := if !f.bad && !short && raore then s.seen f.src p (s.rxStamp p now).toNat else s
    let other := 1 - p
    let cut := s.rd (Reg.fwdMode p) == 0
    let sync := f.ether == etherPtp && (f.ty == 0 || f.ty == 8)
    let fwd := !mine && f.dest != pdelayGroup && !short && !(raore && decide (f.hops ≤ 1)) && (cut || !f.bad) &&
      !(sync && s.rd (Reg.pdelayState p) != 2) && !s.portParked other
    -- R330 counts from pin to pin; the port takes a frame RX_FIXED after its pins and gives it TX_FIXED before them (R309)
    let pins := psLt (s.rd (Reg.rxFixed p)) + psLt (s.rd (Reg.txFixed other))
    let te := if cut then ((now : Int) + ns (max 752 (min lat 768)) - pins).toNat else now + ns lat
    let keep := f.ether == etherPtp && f.ty == 8 && !f.bad
    let s := if keep then s.modPortTime p fun x => { x with followUp := if fwd then some (f, te) else none } else s
    if fwd && !keep then
      s.sendFrame other { f with hops := if raore then f.hops - 1 else f.hops, rx := some (p, s.rxStamp p now) } te
    else s

/-- The Follow_Up that FRAME_RECEIVE has kept leaves on the other port as it came, but for the residence time of its Sync (R310,
R329); one that no frame was kept for, since it was addressed to the device, is not forwarded. -/
def State.forwardFollowUp (s : State) (p : Nat) (m : Ptp) : State :=
  match (s.portTime p).followUp with
  | none => s
  | some (f, te) =>
    let s := s.modPortTime p fun x => { x with followUp := none }
    if s.portParked p || decide (1 < p) || s.rd (Reg.pdelayState p) != 2 then s else
      s.sendFrame (1 - p) { f with ptp := some m, rx := some (p, s.rxStamp p s.lt) } (max s.lt te)

end Sys2Proof.Machine
end

