-- ==== Sys2Proof/Machine/Time.lean ====
section
/-! DEFINITION. Network time: grandmasters, Syncs, the servo, the initial step, path events and peer delay (R291 to R311). -/

namespace Sys2Proof.Machine

/-- DOMAIN_A (0) or DOMAIN_B (1). -/
def State.domain (s : State) (d : Nat) : Domain := s.time.domains[d]?.getD {}

/-- Changes a domain. -/
def State.modDomain (s : State) (d : Nat) (f : Domain → Domain) : State :=
  s.modTime fun x => { x with domains := x.domains.setIfInBounds d (f (s.domain d)) }

/-- Times in 2^-32 ns as whole ns, to nearest. -/
def toNsI (x : Int) : Int := Num.rshift x 32

/-- The active domain. -/
def State.active (s : State) : Nat := s.rd Reg.activeDomain

/-- DOMAIN_STATE of a domain is VALID. -/
def State.domainValid (s : State) (d : Nat) : Bool := s.rd (Reg.domainState d) == 2

/-- The least-squares slope of offset against LT over the Syncs used, in 2^-32; a single Sync has none (R296;
log entry 10). -/
def slope32 (l : List (Int × Int)) : Int :=
  match l with
  | [] => 0
  | [(t0, o0)] => Config.slopeOfOne t0 o0
  | (t0, o0) :: _ =>
    let n : Int := l.length
    let p := l.map fun (e : Int × Int) => (e.1 - t0, e.2 - o0)
    let sx := Num.sumI (p.map (·.1))
    let sy := Num.sumI (p.map (·.2))
    let sxy := Num.sumI (p.map fun (e : Int × Int) => e.1 * e.2)
    let sxx := Num.sumI (p.map fun (e : Int × Int) => e.1 * e.1)
    Num.rdiv ((n * sxy - sx * sy) * 2 ^ 32) (n * sxx - sx * sx)

/-! ### Local time (R291, R300 to R302) -/

/-- Every LT kept for a duration or a due instant moves with a step of LT by `d`; recorded LT values keep theirs, and armed
lockages take place at the first boundary of their kind (R302). -/
def State.shiftLt (s : State) (d : Int) : State :=
  let sh (t : Lt) : Lt := ((t : Int) + d).toNat
  let so (t : Option Lt) : Option Lt := t.map sh
  let tiles := s.tiles.map fun (x : Tile) =>
    let pins := x.pins.map fun (p : Pin) =>
      { p with since := sh p.since, hist := p.hist.map fun (e : Lt × Bool) => (sh e.1, e.2) }
    let drivers := x.drivers.map fun (v : Driver) => { v with since := sh v.since }
    let amps := x.amps.map fun (a : Amp) => { a with closedAt := so a.closedAt }
    { x with pins := pins, drivers := drivers, amps := amps, lastDemod := so x.lastDemod, lastTherm := so x.lastTherm }
  let axes := s.axes.map fun (x : Axis) =>
    { x with
      obs := { x.obs with settleEnd := so x.obs.settleEnd, ready := sh x.obs.ready, feed := [] }
      weir := { x.weir with doneAt := sh x.weir.doneAt }
      axo := { x.axo with rangeLt := sh x.axo.rangeLt, codes := x.axo.codes.map fun (e : Lt × Int) => (sh e.1, e.2) }
      returnLt := so x.returnLt }
  let engines := s.engines.map fun (e : Engine) =>
    { e with earlier := none, lastLoop := so e.lastLoop, windowOpen := so e.windowOpen, computed := so e.computed, before := so e.before,
             due := e.due.map fun (x : Lt × Due) => (sh x.1, x.2), returnFrom := sh e.returnFrom }
  let seq (q : Sequence) : Sequence := { q with t0 := sh q.t0 }
  let domains := s.time.domains.map fun (x : Domain) =>
    { x with
      foreign := x.foreign.map fun (f : Foreign) => { f with times := f.times.map sh }
      syncs := x.syncs.map fun (e : Int × Int) => (e.1 + d, e.2 + d)
      onPort := x.onPort.map fun (l : List Int) => l.map (· + d)
      lastUsed := sh x.lastUsed, lastOn := x.lastOn.map so, validSince := sh x.validSince
      twoStep := x.twoStep.map fun (w : TwoStep) => { w with ingress := w.ingress + d } }
  let ports := s.time.ports.map fun (x : PortTime) =>
    { x with req := x.req.map fun (e : Nat × Int) => (e.1, e.2 + d), lastReq := so x.lastReq,
             followUp := x.followUp.map fun (e : Frame × Lt) => (e.1, sh e.2),
             lastPair := x.lastPair.map fun (e : Int × Int) => (e.1, e.2 + d) }
  let masters := s.net.masters.map fun (m : Master) =>
    { m with lastSeen := sh m.lastSeen, asmLt := sh m.asmLt, pushLt := sh m.pushLt }
  { s with
    tiles := tiles, axes := axes, engines := engines
    pounds := s.pounds.map fun (p : Pound) => { p with armed := p.armed.map fun (_ : Lt) => 0 }
    mode := { s.mode with holdSince := sh s.mode.holdSince, calStart := sh s.mode.calStart, pfailUp := so s.mode.pfailUp,
                          transition := s.mode.transition.map fun (x : Transition) => { x with accepted := sh x.accepted } }
    clearAxFall := sh s.clearAxFall, clearAxRise := sh s.clearAxRise, clearLmFall := sh s.clearLmFall
    lastMonitor := so s.lastMonitor, lastSample := so s.lastSample
    monPending := s.monPending.map fun (m : MonResult) => { m with ready := sh m.ready }
    lock := { s.lock with running := s.lock.running.map seq, holdRun := s.lock.holdRun.map seq, doneLt := none,
                          inbox := s.lock.inbox.map fun (e : Event) => { e with ts := sh e.ts },
                          leftover := s.lock.leftover.map fun (e : Nat × Lt) => (e.1, sh e.2) }
    log := { s.log with quiet := s.log.quiet.map fun (e : Nat × Lt) => (e.1, sh e.2) }
    vision := { s.vision with lastRx := sh s.vision.lastRx, lastTx := sh s.vision.lastTx }
    memPort := { s.memPort with tickFrom := s.memPort.tickFrom.map sh, lastMr4 := sh s.memPort.lastMr4, tracking := so s.memPort.tracking,
                                switchFrom := sh s.memPort.switchFrom, stepEnd := so s.memPort.stepEnd, quiet := s.memPort.quiet.map sh }
    legacy := { s.legacy with lastSample := so s.legacy.lastSample
                              spi := s.legacy.spi.map fun (e : Bool × Lt) => (e.1, sh e.2)
                              encs := s.legacy.encs.map fun (x : Enc) =>
                                { x with words := x.words.map fun (e : Lt × Words) => (sh e.1, e.2)
                                         next := so x.next, lastEdge := so x.lastEdge }
                              ssis := s.legacy.ssis.map fun (x : Ssi) => { x with last := sh x.last }
                              pulses := s.legacy.pulses.map fun (x : Pulse) => { x with lastB := so x.lastB, lastErr := so x.lastErr } }
    time := { s.time with domains := domains, ports := ports, firstAt := so s.time.firstAt }
    net := { s.net with masters := masters, pdTaken := so s.net.pdTaken
                        held := s.net.held.map fun (r : Request) => { r with ts := sh r.ts } }
    test := { s.test with running := s.test.running.map fun (x : SelfTest) => { x with start := sh x.start } } }

/-- The sample PLL realigns its phase to LT: REALIGNING reads 1 (R295). -/
def State.realign (s : State) : State :=
  (s.wrField Reg.samplePll 1 1 1).modTime fun x => { x with realignEnd := some (s.lt + ns 500000) }

/-- Every pending host entry is cancelled, by a flush (0) or by a step (1) (R302, R321). -/
def State.cancelHost (s : State) (cause : Nat) : State :=
  let n := s.hostEntries.length
  { s with hostEntries := [] }.raise 0x3814 cDEVICE 0 (dU 4 n ++ dU 1 cause)

/-- UTC_OFFSET follows the active domain's Announce. -/
def State.showUtc (s : State) (d : Nat) : State :=
  match (s.domain d).selected with
  | some (_, src) =>
    match (s.domain d).foreign.find? fun (f : Foreign) => f.source == src with
    | some f => s.wrS 16 Reg.utcOffset f.utc
    | none => s
  | none => s

/-- Where the initial step takes LT for domain d: back by its last offset, advanced to the present instant (R300). -/
def State.stepDest (s : State) (d : Nat) : Lt :=
  let x := s.domain d
  let oNow := match x.syncs with
    | (t, o) :: _ => o + Num.rshift (slope32 x.syncs * ((s.lt : Int) - t)) 32
    | [] => 0
  ((s.lt : Int) - oNow).toNat

/-- The initial step of LT for domain d, at the present core cycle (R300, R302). -/
def State.stepLt (s : State) (d : Nat) : State :=
  let now := s.lt
  let dest := s.stepDest d
  let s := State.admitWhile (fun _ => true) 256 s
  let s := (s.wr Reg.stepFrom (time80 now)).wr Reg.stepTo (time80 dest)
  let s : State := { (s.shiftLt ((dest : Int) - now)) with lt := dest }
  let s := (s.wr Reg.stepState 1).modTime fun y => { y with stepCode := 1 }
  let s := s.raise 0x3801 cDOMAIN d (dI 8 (toNsI ((dest : Int) - now)))
  let s := s.cancelHost 1
  -- the active domain may have left VALID while the step waited for the carriers: HOLDOVER was entered then (R297)
  let s := if s.rd Reg.timeState = 3 then s else s.wr Reg.timeState 1
  (s.modDomain d fun y => { y with first := true }).realign

/-- LT_STEP: in CALIBRATE the step is made once the last carrier has stopped (R301). -/
def State.ltStep (s : State) : State :=
  match s.time.stepWait with
  | none => s
  | some d =>
    let on := (List.range 8).any fun t => (List.range 6).any fun j => (s.driver t j).phase != .off
    if on then s else
      let s := s.modTime fun x => { x with stepWait := none, stepRealign := true }
      s.stepLt d

/-- A mode command into TRACK, SERVO or BUILD has been accepted: an initial step that has not been made is forfeited,
unless it is under way (R301). -/
def State.enterRun (s : State) : State :=
  let under := s.time.stepWait.isSome || s.time.stepRealign
  let s := if !s.time.everRun && !under && s.rd Reg.stepState == 0 then
      ((s.wr Reg.stepState 2).modTime fun x => { x with stepCode := 2 }).raise 0x3802 cDEVICE 0 (dU 1 (s.rd Reg.timeState) ++ dU 1 s.active)
    else s
  s.modTime fun x => { x with everRun := true }

/-! ### The active domain (R297, R300, R303) -/

/-- A domain becomes active in place of another, without a step (R303). -/
def State.switchDomain (s : State) (d : Nat) : State :=
  let s := s.raise 0x3805 cDOMAIN s.active (dU 1 d ++ dI 4 (s.rdS 64 (Reg.domainOffset d)))
  let s := (s.wr Reg.activeDomain d).wr Reg.timeState 1
  (s.modDomain d fun x => { x with first := true, lockRun := 0 }).showUtc d

/-- A domain becomes the active one from none. A FREQ_EST outside its word is open (R300; log entry 9). -/
def State.activate (s : State) (d : Nat) : State :=
  let f := Num.fitI 32 (s.rdS 32 Reg.rateInUse - slope32 (s.domain d).syncs)
  let s := (s.wrS 32 Reg.freqEst f).wr Reg.activeDomain d
  (s.modDomain d fun x => { x with first := true, lockRun := 0 }).showUtc d

/-- Domain d becomes active in place of the one acquired at this very instant (R297): the step of LT made from `now` is the one of
d, and so are its records (log entry 100). -/
def State.stepInstead (s : State) (d : Nat) (now : Lt) : State :=
  let dest := s.stepDest d
  let own (e : Event) : Event :=
    if e.code = 0x3801 then { e with ts := dest, inst := d, unit := d, data := dI 8 (toNsI ((dest : Int) - now)) }
    else if e.code = 0x3814 ∧ e.data.getD 4 0 = 1 then { e with ts := dest }
    else e
  let s : State := { (s.shiftLt ((dest : Int) - s.lt)) with lt := dest }
  let s : State := { s with log := { s.log with intake := s.log.intake.map own }, lock := { s.lock with inbox := s.lock.inbox.map own } }
  ((s.wr Reg.stepTo (time80 dest)).activate d).realign

/-- A domain first becomes active: acquisition (R300, R301). -/
def State.acquireDomain (s : State) (d : Nat) : State :=
  let s := s.activate d
  let now := s.lt
  let s := s.modTime fun x => { x with firstAt := some now }
  let may := s.rd Reg.stepState == 0 && bitAt (s.rd Reg.timeFlags) 0 && !s.time.everRun
  if may ∧ s.modeCode = CALIBRATE then
    let s := each 8 s fun s t => each 6 s fun s j => s.stopDriver t j
    s.modTime fun x => { x with stepWait := some d }
  else if may then (s.stepLt d).modTime fun x => { x with tieFrom := some now }
  else s.wr Reg.timeState 1

/-- A domain has become VALID (R297). Where both do at one Sync instant and PREFERRED_DOMAIN's Sync comes second, it is acquired in
place of the other. -/
def State.becomeValid (s : State) (d : Nat) : State :=
  let s := (s.wr (Reg.domainState d) 2).modDomain d fun x => { x with validSince := s.lt }
  let other := 1 - d
  if s.rd Reg.timeMode ≠ 0 then s
  else if s.active = 0xFF then s.acquireDomain d
  else if s.active = d then
    (if s.rd Reg.timeState = 3 then (s.wr Reg.timeState 1).modDomain d fun x => { x with first := true, lockRun := 0 } else s)
  else if s.time.firstAt = some s.lt ∧ s.rd Reg.preferredDomain = d then
    match s.time.tieFrom with
    | some now => s.stepInstead d now
    | none => s.acquireDomain d
  else if !s.domainValid other then s.switchDomain d
  else s

/-- A domain leaves VALID for a state, with the cause of 0x3804 (R296, R297, R304). -/
def State.leaveValid (s : State) (d st cause : Nat) : State :=
  let was := s.domainValid d
  let s := s.wr (Reg.domainState d) st
  if was ∧ s.active = d ∧ s.rd Reg.timeMode = 0 then
    if s.domainValid (1 - d) then s.switchDomain (1 - d)
    else if s.rd Reg.timeState ≠ 3 then
      (s.wr Reg.timeState 3).raise 0x3804 cDOMAIN d (dU 1 cause)
    else s
  else s

/-- A path event on a domain: the count of consistent peer delays on its Sync port restarts (R305, R306). -/
def State.pathEvent (s : State) (d old new : Nat) (jump : Int) : State :=
  let s := s.raise 0x3806 cDOMAIN d (dU 1 old ++ dU 1 new ++ dI 4 (toNsI jump) ++ dU 1 (bit (s.domainValid (1 - d))))
  let s := s.modDomain d fun x => { x with pathDelays := [], lockRun := 0 }
  let s := (s.wr (Reg.pdelayRun new) 0).modPortTime new fun x => { x with count := 0, sum := 0 }
  s.leaveValid d 3 2

/-- Spread of the offsets of the Syncs used. -/
def spread (l : List Int) : Int :=
  match l with
  | [] => 0
  | o :: r => r.foldl (fun m x => if x > m then x else m) o - r.foldl (fun m x => if x < m then x else m) o

/-- 16 measurements each lie within the tolerance of their mean (R306). -/
def steady (tolPs : Nat) (l : List Nat) : Bool :=
  l.length == 16 && l.all fun m => decide (((16 * m : Nat) - (l.foldl (· + ·) 0 : Nat) : Int).natAbs ≤ 16 * tolPs)

/-- A domain in PATH_EVENT returns to VALID once its peer delays and its offsets are steady (R306). -/
def State.tryReturn (s : State) (d : Nat) : State :=
  let x := s.domain d
  let offs := x.onPort.getD (s.rd (Reg.syncPort d)) []
  if s.rd (Reg.domainState d) = 3 ∧ steady (1000 * s.rd Reg.pdelayTol) x.pathDelays ∧ offs.length = 8 ∧
      spread offs ≤ (ns (s.rd Reg.lockLimit) : Nat) then
    (s.raise 0x3807 cDOMAIN d (dI 4 (s.rdS 64 (Reg.domainOffset d)))).becomeValid d
  else s

/-! ### Syncs and the servo (R298, R299, R305) -/

/-- One Sync of the active domain steers LT: `o` its offset, `dt` the LT since the Sync before it, 2^-32 ns (R298, R299). -/
def State.steer (s : State) (d : Nat) (o dt : Int) : State :=
  let dt := if (s.domain d).first then 0 else dt
  let tau : Int := s.rd Reg.servoTc
  let slew : Int := s.rd Reg.slewLimit
  let small := decide ((o.natAbs : Int) * 1000 ≤ slew * 2 ^ 32 * tau)
  let bound := Num.rdiv (slew * 2 ^ 32) 1000000000
  let c := if small then Num.rdiv (-o) (1000000 * tau) else if o < 0 then bound else -bound
  let f0 := s.rdS 32 Reg.freqEst
  let f := if small then f0 - Num.rdiv (o * dt) (2 ^ 32 * 4000000000000 * tau * tau) else f0
  let f' := Num.clampI (-2147483) 2147483 f
  let r := Num.clampI (-2147483) 2147483 (f' + c)
  let clamp := decide (f'.natAbs = 2147483) || decide (r.natAbs = 2147483)
  let s := (s.wrS 32 Reg.freqEst f').wrS 32 Reg.rateInUse r
  let s := s.wrS 32 Reg.timeOffset (Num.satI 32 (toNsI o))
  let s := s.raiseIf (clamp && !s.time.clampOn) 0x380A cDEVICE 0 (dI 4 r)
  let s := s.modTime fun x => { x with clampOn := clamp }
  let lim : Int := (ns (s.rd Reg.lockLimit) : Nat)
  let run := if (o.natAbs : Int) ≤ lim then (s.domain d).lockRun + 1 else 0
  let s := s.modDomain d fun x => { x with first := false, lockRun := run }
  if s.rd Reg.timeState = 1 ∧ 16 ≤ run then
    let s := s.wr Reg.timeState 2
    s.raise 0x3803 cDOMAIN d (dI 4 (s.rdS 32 Reg.timeOffset))
  else if s.rd Reg.timeState = 2 ∧ (o.natAbs : Int) > 4 * lim then s.wr Reg.timeState 1
  else s

/-- One Sync is used on a domain: `t` its ingress timestamp and `o` its offset (R296, R298, R305). The first Sync on a new Sync port
is no path event beside the one of the change (log entry 101). A domain that was VALID before TIME_MODE became NETWORK becomes
active with a Sync of it, PREFERRED_DOMAIN before the other (R297; log entry 99). -/
def State.useSync (s : State) (d p : Nat) (t o : Int) : State :=
  let x := s.domain d
  let st := s.rd (Reg.domainState d)
  let steering := st == 2 && s.active == d && (s.rd Reg.timeState == 1 || s.rd Reg.timeState == 2) && s.rd Reg.timeMode == 0
  let rate := slope32 x.syncs - (s.rdS 32 Reg.rateInUse - s.rdS 32 Reg.freqEst)
  let (dt, jump) : Int × Int := match x.syncs with
    | (t0, o0) :: _ => (t - t0, o - (o0 + Num.rshift (rate * (t - t0)) 32))
    | [] => (0, 0)
  let path := (st == 2 || st == 3) && x.usedOn == some p && decide ((jump.natAbs : Int) > (ns (s.rd Reg.pathStepLimit) : Nat))
  let s := if path then s.pathEvent d p p jump else s
  let s := s.modDomain d fun y =>
    { y with syncs := ((t, o) :: y.syncs).take 8, onPort := y.onPort.set p ((o :: y.onPort.getD p []).take 8), usedOn := some p,
             used := min 255 (y.used + 1), lastUsed := s.lt, twoStep := none }
  let s := s.bumpWrap 32 (Reg.syncUsed d)
  let s := s.wrS 64 (Reg.domainOffset d) (Num.fitI 64 (toNsI o))
  let s := s.wrS 32 (Reg.domainRatio d) (Num.fitI 32 (-(slope32 (s.domain d).syncs)))
  if steering ∧ !path then s.steer d o dt
  else if s.rd (Reg.domainState d) = 1 ∧ 8 ≤ (s.domain d).used ∧ s.rd (Reg.pdelayState p) = 2 then s.becomeValid d
  else if s.rd (Reg.domainState d) = 2 ∧ s.active = 0xFF ∧ s.rd Reg.timeMode = 0 then
    s.acquireDomain (if s.domainValid (1 - d) then s.rd Reg.preferredDomain else d)
  else s.tryReturn d

/-- The Sync port of a domain changes: a path event where the domain is VALID or in PATH_EVENT (R296, R305). -/
def State.changePort (s : State) (d p : Nat) (jump : Int) : State :=
  let old := s.rd (Reg.syncPort d)
  let st := s.rd (Reg.domainState d)
  let s := s.wr (Reg.syncPort d) p
  let s := if old ≠ 0xFF ∧ (st = 2 ∨ st = 3) then s.pathEvent d old p jump else s
  s.modDomain d fun x => { x with used := 0 }

/-- A Sync interval in ns. -/
def syncInterval (log : Int) : Nat := 7812500 * 2 ^ (log + 7).toNat

/-- The offset of a Sync: its ingress timestamp minus the domain's time there (R296). -/
def State.offsetOf (s : State) (p : Nat) (t : Int) (origin : Nat) (corr : Int) : Int :=
  t - ((ns origin : Nat) + corr * 2 ^ 16 + psLt (s.rd (Reg.meanLinkDelay p)) + psLt (s.rdS 32 (Reg.asymmetry p)))

/-- The Syncs of a domain are heard on port p: they are used there unless another port is the Sync port and not yet quiet
for three intervals (R296). No offset is at hand at a two-step Sync: the jump of its path event is free (log entry 2). -/
def State.hearSync (s : State) (d p : Nat) (jump : Option Int) : State × Bool :=
  let x := s.domain d
  let sp := s.rd (Reg.syncPort d)
  if sp = p then (s, true)
  else if sp = 0xFF then (s.wr (Reg.syncPort d) p, true)
  else
    let quiet := match x.lastOn.getD sp none with
      | some t => decide (t + ns (3 * x.syncNs) ≤ s.lt)
      | none => true
    if quiet then
      let r : State × Int := match jump with
        | some j => (s, j)
        | none => ((s.fresh).2, toSigned 96 (s.fresh).1)
      (r.1.changePort d p r.2, true)
    else (s, false)

/-- The distance of an offset from the one predicted from the Sync before it (R305). -/
def State.jumpOf (s : State) (d : Nat) (t o : Int) : Int :=
  let x := s.domain d
  let rate := slope32 x.syncs - (s.rdS 32 Reg.rateInUse - s.rdS 32 Reg.freqEst)
  match x.syncs with
  | (t0, o0) :: _ => o - (o0 + Num.rshift (rate * (t - t0)) 32)
  | [] => 0

/-- A Sync arrives (R296, R298, R308). -/
def State.syncMsg (s : State) (p dn src seq : Nat) (log : Int) (two : Bool) (origin : Nat) (corr : Int) : State :=
  if s.portParked p || s.rd (Reg.pdelayState p) != 2 || decide (log < -7) || decide (1 < log) then s else
  match s.domainOf dn with
  | none => s
  | some d =>
    match (s.domain d).selected with
    | none => s
    | some (_, clock) =>
      if src ≠ clock then s else
        let t := s.rxStamp p s.lt
        let o := s.offsetOf p t origin corr
        let h := s.hearSync d p (if two then none else some (s.jumpOf d t o))
        let s := h.1.modDomain d fun x => { x with lastOn := x.lastOn.set p (some s.lt), syncNs := syncInterval log }
        if !h.2 then s
        else if two then
          -- a two-step Sync whose Follow_Up never came has not been used
          s.modDomain d fun x =>
            { x with twoStep := some { port := p, seq := seq, ingress := t, correction := corr * 2 ^ 16 },
                     used := if x.twoStep.isSome then 0 else x.used }
        else s.useSync d p t o

/-- A Follow_Up arrives: it completes its two-step Sync and is forwarded with the residence correction (R296, R310). -/
def State.followUp (s : State) (p dn src seq : Nat) (origin : Nat) (corr : Int) : State :=
  let s := s.forwardFollowUp p { domain := dn, seq := seq, correction := corr }
  if s.portParked p || s.rd (Reg.pdelayState p) != 2 then s else
  match s.domainOf dn with
  | none => s
  | some d =>
    match (s.domain d).twoStep, (s.domain d).selected with
    | some w, some (_, clock) =>
      if w.port = p ∧ w.seq = seq ∧ src = clock then
        s.useSync d p w.ingress (s.offsetOf p w.ingress origin corr - w.correction)
      else s
    | _, _ => s

/-- SYNC_TIMEOUT: no Sync has been used for three intervals (R296). -/
def State.syncTimeout (s : State) (d : Nat) : State :=
  let x := s.domain d
  if x.syncNs = 0 ∨ x.selected.isNone then s else
    let s := s.goTo (x.lastUsed + ns (3 * x.syncNs))
    let sp := s.rd (Reg.syncPort d)
    let other := 1 - sp
    let heard := sp < 2 && (match x.lastOn.getD other none with | some t => decide (s.lt ≤ t + ns (3 * x.syncNs)) | none => false)
    if heard ∧ s.rd (Reg.pdelayState other) = 2 then
      let v := s.fresh
      v.2.changePort d other (toSigned 96 v.1)
    else
      let s := s.modDomain d fun y => { y with used := 0, twoStep := none }
      if s.domainValid d then s.leaveValid d 1 4 else s

/-- REVERTIVE_SWITCH: PREFERRED_DOMAIN has been VALID for 60 s (R297). -/
def State.revertive (s : State) : State :=
  let d := s.rd Reg.preferredDomain
  if bitAt (s.rd Reg.timeFlags) 1 ∧ s.active ≠ d ∧ s.active ≠ 0xFF ∧ s.domainValid d ∧ s.rd Reg.timeMode = 0 then
    (s.goTo ((s.domain d).validSince + ns 60000000000)).switchDomain d
  else s

/-! ### Grandmaster selection (R296, R304, R307) -/

/-- Lexicographic order of two lists of numbers. -/
def lexLt : List Nat → List Nat → Bool
  | [], _ => false
  | _ :: _, [] => false
  | x :: l, y :: m => decide (x < y) || (x == y && lexLt l m)

/-- A foreign clock is qualified: two Announces within four intervals. -/
def Foreign.qualified (f : Foreign) (now : Lt) : Bool :=
  match f.times with
  | _ :: t :: _ => decide (now ≤ t + ns (4 * f.interval))
  | _ => false

/-- The best clock heard by a domain. -/
def State.bestForeign (s : State) (d : Nat) : Option Foreign :=
  let x := s.domain d
  let ok (f : Foreign) : Bool := f.qualified s.lt || x.selected == some (f.quality.getD 5 0, f.source)
  let key (f : Foreign) : List Nat := f.quality ++ [f.source, f.port]
  (x.foreign.filter ok).foldl (fun (b : Option Foreign) (f : Foreign) =>
    match b with
    | none => some f
    | some g => if lexLt (key f) (key g) then some f else b) none

/-- The data set comparison selects a grandmaster (R296, R304). -/
def State.selectMaster (s : State) (d : Nat) : State :=
  match s.bestForeign d with
  | none => s
  | some f =>
    let gm := f.quality.getD 5 0
    match (s.domain d).selected with
    | none =>
      let s := (s.wr (Reg.gmIdentity d) gm).wr (Reg.domainState d) 1
      s.modDomain d fun x => { x with selected := some (gm, f.source), used := 0, lastOn := [none, none], twoStep := none,
                                      lastUsed := s.lt }
    | some (g0, _) =>
      if g0 = gm then s.modDomain d fun x => { x with selected := some (gm, f.source) }
      else
        let s := (s.wr (Reg.gmIdentity d) gm).bump 32 (Reg.gmChanges d)
        let s := s.modDomain d fun x => { x with selected := some (gm, f.source), used := 0, lastOn := [none, none],
                                                 twoStep := none, lastUsed := s.lt }
        let s := s.raiseIf (s.active == d) 0x3808 cDOMAIN d (dU 4 (gm % 2 ^ 32))
        s.leaveValid d 1 3

/-- An Announce arrives on port p: `quality` is the data set of its grandmaster in the order of comparison (priority1, class,
accuracy, variance, priority2, identity, stepsRemoved). -/
def State.announce (s : State) (p dn src : Nat) (log : Int) (quality : List Nat) (utc : Int) : State :=
  if s.portParked p || decide (log < -3) || decide (3 < log) then s else
  match s.domainOf dn with
  | none => s
  | some d =>
    let same (f : Foreign) : Bool := f.source == src && f.port == p
    let old := match (s.domain d).foreign.find? same with | some f => f.times | none => []
    let f : Foreign := { source := src, port := p, quality := quality, utc := utc, interval := 125000000 * 2 ^ (log + 3).toNat,
                         times := (s.lt :: old).take 4 }
    let s := s.modDomain d fun x => { x with foreign := (f :: x.foreign.filter fun g => !same g).take 8 }
    let s := s.selectMaster d
    if s.active = d then s.showUtc d else s

/-- ANNOUNCE_TIMEOUT: nothing has been announced by the selected clock for ANNOUNCE_TIMEOUT intervals (R296). -/
def State.announceTimeout (s : State) (d : Nat) : State :=
  match (s.domain d).selected with
  | none => s
  | some (_, src) =>
    let last := ((s.domain d).foreign.filter fun (f : Foreign) => f.source == src).foldl (init := (0, 0)) fun (m : Lt × Nat) (f : Foreign) =>
      if m.1 < f.times.headD 0 then (f.times.headD 0, f.interval) else m
    let s := s.goTo (last.1 + ns (s.rd (Reg.announceTimeout d) * last.2))
    let s := s.modDomain d fun x =>
      { x with selected := none, foreign := x.foreign.filter fun (f : Foreign) => f.source != src, used := 0, twoStep := none }
    let s := (s.wr (Reg.gmIdentity d) 0).wr (Reg.syncPort d) 0xFF
    s.leaveValid d 0 1

/-! ### Peer delay (R307, R308) -/

/-- PDELAY_STATE of a port becomes INVALID: its count restarts, and leaving VALID is told (R308). -/
def State.pdelayInvalid (s : State) (p cause : Nat) : State :=
  let was := s.rd (Reg.pdelayState p)
  let s := ((s.wr (Reg.pdelayState p) 0).wr (Reg.pdelayRun p) 0).modPortTime p fun x =>
    { x with count := 0, sum := 0, req := none, missed := 0, lastPair := none }
  s.raiseIf (was == 2) 0x380B cPORT p (dU 1 (Config.pdelayCause cause))

/-- The port measures again (R308, R430). -/
def State.pdelayMeasure (s : State) (p : Nat) : State :=
  if s.rd (Reg.pdelayState p) = 0 then s.wr (Reg.pdelayState p) 1 else s

/-- A count of consistent measurements takes one more, or restarts with it: the new count and sum (R308). -/
def consistent (tolPs count sum m : Nat) : Nat × Nat :=
  if count = 0 ∨ ((count * m : Nat) - (sum : Int) : Int).natAbs ≤ tolPs * count then (count + 1, sum + m) else (1, m)

/-- PDELAY_REQ: a received Pdelay_Req is answered with a one-step Pdelay_Resp, its turnaround in correctionField (R307). -/
def State.pdelayReq (s : State) (p seq src : Nat) (corr : Int) : State :=
  if s.portParked p then s else
    s.sendFrame p
      { dest := pdelayGroup, src := s.rd Reg.deviceMac % 2 ^ 48, ether := etherPtp, ty := 3, len := 72
        ptp := some { domain := 0, seq := seq, correction := corr }, rx := some (p, s.rxStamp p s.lt), payload := [src] } s.lt

/-- The interval of a port's Pdelay_Req, 2^LOG_PDELAY_INTERVAL s, in ns (R324). -/
def State.pdelayInterval (s : State) (p : Nat) : Nat := 62500000 * 2 ^ (s.rdS 16 (Reg.logPdelayInterval p) + 4).toNat

/-- PDELAY_REQ_SEND: a port sends its Pdelay_Req, no sooner than its interval after the one before (R324); three consecutive ones
without a response make it INVALID (R308). ASYMMETRY is taken from the correctionField of the request, as IEEE 1588-2019 gives
(R309). -/
def State.pdelaySend (s : State) (p : Nat) : State :=
  if s.portParked p || decide (1 < p) then s else
    let x := s.portTime p
    let s := match x.lastReq with
      | some t => s.goTo (t + ns (s.pdelayInterval p))
      | none => s
    let missed := if x.req.isSome then x.missed + 1 else x.missed
    let s := s.modPortTime p fun y => { y with missed := missed, req := none }
    let s := if missed ≥ 3 ∧ s.rd (Reg.pdelayState p) ≠ 0 then s.pdelayInvalid p 2 else s
    let q := x.nextSeq
    let s := s.modPortTime p fun y => { y with nextSeq := (q + 1) % 65536, lastReq := some s.lt }
    s.sendFrame p
      { dest := pdelayGroup, src := s.rd Reg.deviceMac % 2 ^ 48, ether := etherPtp, ty := 2, len := 72
        ptp := some { domain := 0, seq := q, correction := -(Num.rshift (psLt (s.rdS 32 (Reg.asymmetry p))) 16) } } s.lt

/-- PDELAY_RESP: a measurement of the link, judged for consistency (R308). `turn` is what the response takes off the round trip: its
correctionField with the turnaround, which carries the correctionField of the request; ASYMMETRY is added to it on receipt (R309). -/
def State.pdelayResp (s : State) (p seq : Nat) (turn : Int) (t3 : Option Nat) : State :=
  if s.portParked p then s else
  match (s.portTime p).req with
  | none => s
  | some (q, t1) =>
    if q ≠ seq then s else
      let t4 := s.rxStamp p s.lt
      let s := s.modPortTime p fun x => { x with req := none, missed := 0 }
      let s := match t3, (s.portTime p).lastPair with
        | some r, some (r0, o0) =>
          let dr := (r : Int) * 2 ^ 16 - r0
          let dt := t4 - o0
          s.wrS 32 (Reg.neighborRatio p)
            (if dt = 0 then toSigned 32 (Config.outOfRange 32 dr) else Num.fitI 32 (Num.rdiv ((dr - dt) * 2 ^ 32) dt))
        | _, _ => s
      let s := match t3 with
        | some r => s.modPortTime p fun x => { x with lastPair := some ((r : Int) * 2 ^ 16, t4) }
        | none => s
      let ratio := 2 ^ 32 + s.rdS 32 (Reg.neighborRatio p)
      let twice := Num.rshift ((t4 - t1) * ratio) 32 - (turn * 2 ^ 16 + psLt (s.rdS 32 (Reg.asymmetry p)))
      let m := Num.fitU 32 (Num.rdiv (twice * 1000) (2 ^ 33))
      let tol := 1000 * s.rd Reg.pdelayTol
      let s := s.pdelayMeasure p
      let c := consistent tol (s.portTime p).count (s.portTime p).sum m
      let s := s.modPortTime p fun x => { x with count := c.1, sum := c.2 }
      let s := (s.wr (Reg.pdelayRun p) (min c.1 255)).wr (Reg.meanLinkDelay p) ((Num.rdiv c.2 c.1).toNat)
      let s := if s.rd (Reg.pdelayState p) = 1 ∧ 16 ≤ c.1 then
          (s.wr (Reg.pdelayState p) 2).raise 0x380C cPORT p (dU 4 (s.rd (Reg.meanLinkDelay p)))
        else s
      each 2 s fun s d =>
        if s.rd (Reg.domainState d) = 3 ∧ s.rd (Reg.syncPort d) = p then
          (s.modDomain d fun x => { x with pathDelays := (m :: x.pathDelays).take 16 }).tryReturn d
        else s

/-! ### Links and the sample PLL (R295, R308, R357) -/

/-- A link goes down; `sync` says whether the SGMII to the PHY stays synchronised. Where the link is down, only that is shown
(R354). -/
def State.linkDown (s : State) (p : Nat) (sync : Bool) : State :=
  if 1 < p then s
  else if !bitAt (s.rd (Reg.linkStatus p)) 0 then s.wr (Reg.linkStatus p) (2 * bit sync)
  else
    let s := (s.wr (Reg.linkStatus p) (2 * bit sync)).raise 0x3905 cPORT p []
    let s := s.modEgress p fun _ => {}
    s.pdelayInvalid p 0

/-- A link comes up. -/
def State.linkUp (s : State) (p : Nat) : State :=
  if decide (1 < p) || bitAt (s.rd (Reg.linkStatus p)) 0 then s else
    let s := (s.wr (Reg.linkStatus p) 3).raise 0x3906 cPORT p []
    if s.portParked p then s else s.pdelayMeasure p

/-- SAMPLE_PLL_LOCK_LOSS: a phase error above 1.0 ns outside realignment (R295). -/
def State.pllLoss (s : State) (ps : Int) : State :=
  if s.rd Reg.samplePll = 1 ∧ 1000 < ps.natAbs then (s.wr Reg.samplePll 0).raise 0x380D cDEVICE 0 (dI 4 ps) else s

/-- SAMPLE_PLL_LOCKED: the loop has regained its phase after a loss. -/
def State.pllLocked (s : State) : State := s.wrField Reg.samplePll 0 1 1

end Sys2Proof.Machine
end

