-- ==== Sys2Proof/Machine/Sched.lean ====
section
/-! DEFINITION. Host entries of the scheduler (R312, R313, R319 to R321). -/

namespace Sys2Proof.Machine

/-- Host share of the scheduler (R312). -/
abbrev hostShare : Nat := 32

/-- Puts a host entry in LT order, behind those of the same LT. -/
def insertHost (e : HostEntry) : List HostEntry → List HostEntry
  | [] => [e]
  | x :: l => if x.lt ≤ e.lt then x :: insertHost e l else e :: x :: l

/-- A host entry executes at the present LT; CAPTURE and MARK_EVENT carry the entry's own LT, also where it comes late (R313,
R465). -/
def State.hostAction (s : State) (e : HostEntry) : State :=
  if e.kind = 1 then s.sampleEdgeNow
  else if e.kind = 2 then (if s.trigSource e.arg = 1 then s.fireTrigger e.arg 1 e.lt else s)
  else s.raiseFull (levelOf 0x3815) 0x3815 cDEVICE 0 (dU 2 e.tag) e.lt []

/-- LATCH, CAPTURE and MARK_EVENT: the next host entry executes at its LT, if it is of that kind. -/
def State.hostDue (s : State) (kind : Nat) : State :=
  match s.hostEntries with
  | [] => s
  | e :: r => if e.kind = kind then ({ s with hostEntries := r }.goTo e.lt).hostAction e else s

/-- The entry 16 bytes spell, where every field is in range (R319). -/
def hostEntryOf (b : List Nat) : Option HostEntry :=
  let f (o n : Nat) : Nat := ofLeBytes ((b.drop o).take n)
  let kind := f 11 1
  let ok := decide (f 6 4 < 1000000000) && decide (f 10 1 < 4) && decide (1 ≤ kind) && decide (kind ≤ 3) &&
    (if kind = 2 then decide (f 12 1 < 4) else f 12 1 == 0) && f 13 1 == 0 && (kind == 3 || f 14 2 == 0)
  if ok then some { lt := ns (f 0 6 * 1000000000 + f 6 4) + f 10 1 * 2 ^ 30, kind := kind, arg := f 12 1, tag := f 14 2 }
  else none

/-- A write of SCHED_ENTRY: the abort code (R319, R320). -/
def State.schedEntry (s : State) (b : List Nat) : State × Nat :=
  if b.length ≠ 16 then (s, 0xA013) else
  match hostEntryOf b with
  | none => (s, 0xA012)
  | some e =>
    if s.hostEntries.length ≥ hostShare then (s, 0xA012) else
      let at_ := s.lt + ns 200
      if at_ ≤ e.lt then
        let s := { s with hostEntries := insertHost e s.hostEntries }
        (s.notePending, 0)
      else
        let late := lateNs e.lt at_
        if at_ ≤ e.lt + ns (s.rd Reg.lateLimit) then
          let s := (s.goTo at_).bump 32 Reg.lateCount
          let s := s.wr Reg.lastLateness (min late (2 ^ 32 - 1))
          let s := s.raise 0x3810 cDEVICE 0 (dU 1 e.kind ++ dI 4 late)
          (s.hostAction e, 0)
        else
          let s := s.bump 32 Reg.refusedCount
          (s.raise 0x3811 cDEVICE 0 (dU 1 e.kind ++ dI 4 late), 0xA031)

/-- A write of SCHED_FLUSH: the abort code (R321). -/
def State.schedFlush (s : State) (v : Nat) : State × Nat := if v = 1 then (s.cancelHost 0, 0) else (s, 0xA012)

end Sys2Proof.Machine
end

