-- ==== Sys2Proof/Machine/Operands.lean ====
section
/-! DEFINITION. The operand forms of an object write: the length of a value of each type, the ranges and reserved bits of
every sub-entry, and the state conditions of R39 (R37 to R39, R337). -/

namespace Sys2Proof.Machine

/-- Bytes of a value of a type; none for STRING and DOMAIN (R337). -/
def tySize : Ty → Option Nat
  | .string => none
  | .domain => none
  | t => some (t.bits / 8)

/-- The axis of a key in 0x3000 to 0x3BFF. -/
abbrev keyAxis (k : Nat) : Nat := (keyIndex k - 0x3000) / 0x40

/-- The tile or engine of a key in 0x2100 to 0x217F or 0x4000 to 0x407F. -/
abbrev keyTile (k : Nat) : Nat := keyIndex k / 0x10 % 0x10

/-- The laser of a key in 0x4100 to 0x41FF. -/
abbrev keyLaser (k : Nat) : Nat := (keyIndex k - 0x4100) / 0x10

/-- PIN_ROLE: the unit suits the role, and no other pin makes the role's count too large (R55, R56). -/
def State.pinRoleFits (s : State) (t p v : Nat) : Bool :=
  let role := v / 16
  let u := v % 16
  let units := if role = 0 then 1 else if role ≤ 2 then 12 else if role ≤ 6 then 6 else if role = 7 then 4 else 0
  let others := ((List.range 48).filter fun q => q != p && s.rd (Reg.pinRole t q) == v).length
  decide (u < units) && (role == 0 || decide (others < (if role = 7 then 8 else 1)))

/-- Highest UNIT of an ATP_SEL node (R461; log entry 23). -/
def atpUnits : Nat → Nat
  | 0x1 => 12 | 0x2 => 6 | 0x3 => 6 | 0x4 => 4 | 0xB => 6 | 0xD => 2 | _ => 16

/-- A COEF word (R166). -/
abbrev coefFits (v : Nat) : Bool := decide (v < 2 ^ 20)

/-- The condition of a sub-entry whose range needs more than two bounds; `direct` says that the value comes into use at the
write. -/
def State.specialFits (s : State) (x : Special) (k v : Nat) (direct : Bool) : Bool :=
  let sub := keySub k
  let t := keyTile k
  match x with
  | .pinRole => s.pinRoleFits t (sub - 1) v
  | .excFreq => decide (0xD1B8 ≤ v) && decide (v ≤ 0xCCCCCC) &&
      (!s.servoBuildHold || v == s.rd k || s.driverIdle t (sub - 1))
  | .ampMode => v / 2 ^ 14 != 3 && bitsAt v 11 3 == 0 && decide (bitsAt v 8 3 ≤ 4) && bitsAt v 5 3 == 0
  | .ampReset => bitsAt v 4 4 != 0
  | .biasLevel => v == 0 || (decide (500 ≤ v) && decide (v ≤ 4500))
  | .thermChannel => decide (v < 12) || (decide (16 ≤ v) && decide (v < 22)) || v == 0xFF
  | .pairFine => decide (v < 6) || v == 0xFF
  | .setpointAmp => decide (v < 12) || v == 0xFF
  | .pullCfg => bitsAt v 8 6 == 0 && decide (v % 256 ≤ 200) && !(bitAt v 15 && v % 256 == 0)
  | .demodPeriod => decide (v < 3) && s.loopNs t % (500 * 2 ^ v) == 0
  | .acqMinOutputs => v == 0 || decide (16 ≤ v)
  | .scale => bitsAt v 13 19 == 0 && bitsAt v 5 3 == 0 && decide (bitsAt v 8 5 ≤ 24) && decide (bitsAt v 0 5 ≤ 24)
  | .schedCfg => bitsAt v 12 20 == 0 && bitsAt v 2 6 == 0 && decide (bitsAt v 8 4 ≤ 8)
  | .bankSched => if sub % 3 = 1 then decide (v ≤ 0x7FFF) else coefFits v
  | .loopPeriod => decide (2500 ≤ v) && decide (v ≤ 200000) && v % s.demodNs t == 0
  | .outOffset => v == 0 || (decide (400 ≤ v) && decide (v ≤ 65530) && v % 10 == 0)
  | .layerStartLt => decide (v % 2 ^ 32 < 1000000000)
  | .gridBase => v % 64 == 0
  | .gatePin => decide (v < 16) || v == 0xFF
  | .lmoSel => decide (v < 16) || v == 0xFF
  | .axoRange =>
    let a := keyAxis k
    decide (v < 3) && (!(s.modeCode == SERVO || s.modeCode == BUILD) || v == s.rd k || s.axisParked a || s.kind a == 0)
  | .encAxis => decide (v < 48) || v == 0xFF
  | .encCfg =>
    let e := (keyIndex k - 0x4200) / 0x10
    encCfgFits v && (!bitAt (s.rd (Reg.encEnable e)) 0 || encSpanFits v (s.rd (Reg.encSpan e)))
  | .encSpan =>
    let e := (keyIndex k - 0x4200) / 0x10
    !bitAt (s.rd (Reg.encEnable e)) 0 || encSpanFits (s.rd (Reg.encCfg e)) v
  | .encEnable =>
    let e := (keyIndex k - 0x4200) / 0x10
    v == 0 || (v == 1 && encSpanFits (s.rd (Reg.encCfg e)) (s.rd (Reg.encSpan e)))
  | .ssiAxis => decide (v < 48) || v == 0xFF
  | .ssiFormat => v % 4 == 0 && bitsAt v 3 2 != 3 && decide (bitsAt v 6 5 ≤ 16) && decide (8 ≤ bitsAt v 11 5) &&
      decide (bitsAt v 11 5 ≤ 24)
  | .plsMode => decide (v < 16) && v % 4 != 3
  | .canReqId => decide (1 ≤ v) && decide (v ≤ 0x7FF)
  | .canRspId => decide (1 ≤ v) && decide (v ≤ 0x7FF) && v != s.rd Reg.canReqId
  | .domainNumber => decide (v ≤ 127) && v != s.rd (Reg.domainNumber (if k = Reg.domainNumber 0 then 1 else 0))
  | .camPin => decide (v < 16) || (decide (0x80 ≤ v) && decide (v < 0xA0)) || v == 0xFF
  | .camLaser => decide (v < 16) || v == 0xFF
  | .camWidth => decide (100 ≤ v) && (!direct || decide (v + 1000 ≤ s.rd (Reg.camPeriod (sub - 1))))
  | .camOffset => !direct || decide (v < s.rd (Reg.camPeriod (sub - 1)))
  | .afCamera => decide (v < 32) || v == 0xFF
  | .afSteps => decide (3 ≤ v) && decide (v ≤ 31) && (!direct || v % 2 == 1)
  | .memChannels => v == 1 || v == 3
  | .layerBufBase0 => v % 65536 == 0
  | .layerBufBase1 => v % 65536 == 0
  | .atpSel => bitsAt v 12 3 == 0 && bitsAt v 7 1 == 0 && decide (bitsAt v 8 4 < atpUnits (v % 16))
  | .testAxoSel => decide (v < 48) || v == 0xFF
  | .captureRdAddr => v % 32 == 0
  | .trigCfg => bitsAt v 11 5 == 0 && bitsAt v 3 5 == 0
  | .tapPoint => decide (v ≤ 9)
  | .tapBase => v % 64 == 0
  | .tapSize => decide (64 ≤ v) && v % 64 == 0

/-- The value of a sub-entry is in range and sets no reserved bit. -/
def State.inRange (s : State) (r : Row) (k v : Nat) (direct : Bool) : Bool :=
  (r.ty != .bool || decide (v < 2)) && (r.ty != .coef || coefFits v) && (r.ty != .time80 || bitsAt v 30 2 == 0) &&
  match r.rng with
  | .any => true
  | .u lo hi => decide (lo ≤ v) && decide (v ≤ hi)
  | .i lo hi => let x := toSigned r.ty.bits v; decide (lo ≤ x) && decide (x ≤ hi)
  | .mask m => Nat.land v m == v
  | .zero => v == 0
  | .sp x => s.specialFits x k v direct

/-- The unit of an RWC object is PARKED, so that it may be written in every mode (R49). -/
def State.unitParked (s : State) (k : Nat) : Bool :=
  let i := keyIndex k
  if 0x3000 ≤ i ∧ i < 0x3C00 then s.axisParked (keyAxis k)
  else if 0x4000 ≤ i ∧ i < 0x4080 then s.engineParked (keyTile k)
  else if 0x2100 ≤ i ∧ i < 0x2180 then s.tileParked (keyTile k)
  else if i = 0x1100 ∨ i = 0x1A10 then s.portParked 0
  else if i = 0x1101 ∨ i = 0x1A11 then s.portParked 1
  else false

/-- What the access code and the mode make of a write: put in use at the write, staged, or refused with 0xA011 (R37). -/
inductive WriteWay where
  | direct | staged | refused
  deriving DecidableEq, Repr

/-- The table of R37 with R49; a WO command is judged by its own chapter. -/
def State.writeWay (s : State) (a : Access) (k : Nat) : WriteWay :=
  match a with
  | .ro => .refused
  | .rw => .direct
  | .wo => .direct
  | .rws => if s.modeCode = CONFIGURE then .direct else if s.inRunOrHold then .staged else .refused
  | .rwc => if s.modeCode = CONFIGURE ∨ (s.modeCode ≠ INIT ∧ s.unitParked k) then .direct else .refused

/-- The abort code of a state condition of R39, 0 where none holds; MEM_DATA has its own. -/
def State.stateCode (s : State) (k : Nat) (direct : Bool) : Nat :=
  let i := keyIndex k
  let busy (g : Nat) : Bool := s.trigNow g == 1 || s.trigNow g == 2
  if 0x3000 ≤ i ∧ i < 0x3C00 ∧ k = Reg.axoRange (keyAxis k) ∧ direct ∧ s.rangeBusy (keyAxis k) then 0xA030
  else if i = 0x4606 ∧ busy (keySub k - 1) then 0xA030
  else if 0x4620 ≤ i ∧ i < 0x4640 ∧ busy (s.rd (Reg.tapTrig (i - 0x4620))) then 0xA030
  else 0

end Sys2Proof.Machine
end

