-- ==== Sys2Proof/Machine/Views.lean ====
section
/-! DEFINITION. What a read of an object returns: the objects whose value is computed from the state at the read, and the
bytes of every value (R40, R337, R341 and the object tables). -/

namespace Sys2Proof.Machine

/-- PD_IN_MAP or PD_OUT_MAP up to its first entry of 0 (R356). -/
def State.pdMap (s : State) (key : Nat → Nat) : List Nat :=
  ((List.range 32).map fun i => s.rd (key i)).takeWhile (· != 0)

/-- Key and size of a map entry; none where it names no sub-entry, or one without a fixed size. -/
def pdEntry (e : Nat) : Option (Nat × Nat) :=
  let k := e / 256
  match Dict.row? k with
  | some r => (tySize r.ty).map fun n => (k, n)
  | none => none

/-- Bytes of the values of a map. -/
def pdMapBytes (l : List Nat) : Nat := (l.map fun e => match pdEntry e with | some x => x.2 | none => 0).foldl (· + ·) 0

/-- The axes of PD_IN_AXES, in ascending order. -/
def State.pdAxes (s : State) : List Nat := (List.range 48).filter fun a => bitAt (s.rd Reg.pdInAxes) a

/-- PD_IN_BYTES: LENGTH of PD_IN (R350, R352). -/
def State.pdInBytes (s : State) : Nat := 48 + 12 * s.pdAxes.length + pdMapBytes (s.pdMap Reg.pdInMap)

/-- CYCLES_TAB of AXIS_a (R182). -/
def State.cyclesTabNow (s : State) (a : Nat) : Nat :=
  let l := (s.axis a).law
  l.cycles (l.run != .stopped && !s.engineParked (a / 6))

/-- The bank that BANK_READ_SEL of AXIS_a chooses; none while INCOMING is empty (R196). -/
def State.bankRead (s : State) (a : Nat) : Option (List Nat) :=
  let l := (s.axis a).law
  match s.rd (Reg.bankReadSel a) with
  | 0 => some l.pound
  | 1 => some l.active
  | _ => l.incoming

/-- The words of a bank section on a read: 0 while INCOMING is empty (R186, R196). -/
def State.bankView (s : State) (a sec sub : Nat) : Option Nat :=
  match bankIndex sec sub with
  | none => none
  | some i => some (match s.bankRead a with | some b => bankWord b i | none => 0)

/-- Computed values of the objects of AXIS_a. -/
def State.axisView (s : State) (a k : Nat) : Option Nat :=
  let l := (s.axis a).law
  let o := keyIndex k - (0x3000 + 0x40 * a)
  let sub := keySub k
  if sub = 0 then none
  else if o = 0x0B then
    let w := s.wordsAt a s.lt
    match sub with
    | 1 => some w.angle
    | 2 => some (ofSigned 16 w.turns)
    | 3 => some (ofSigned 32 w.speed)
    | 4 => some (ofSigned 32 w.accel)
    | 5 => some w.status
    | 6 => some (time80 w.tag)
    | _ => none
  else if 0x21 ≤ o ∧ o ≤ 0x25 then s.bankView a (o - 0x21) sub
  else if k = Reg.gdTabulated a then some (s.gdTabulatedOf a)
  else if k = Reg.gdExact a then some (s.gdExactOf a)
  else if k = Reg.demodStatus a then
    let j := s.rd (Reg.excDriver a)
    some (bit (s.phaseStale (a / 6) j) + 2 * bit (s.driver (a / 6) j).guardOn)
  else if k = Reg.ampLearnedFine a ∧ s.kind a ≠ 2 then some 0
  else if k = Reg.dsDeviation a ∧ s.kind a ≠ 2 then some 0
  else if k = Reg.obsBwInUse a then some (s.obsBw a)
  else if k = Reg.bankState a then some (bit l.incoming.isSome + 2 * bit l.armed.isSome + 4 * bit l.held.isSome)
  else if k = Reg.fadePos a then some (if l.incoming.isSome then l.fadePos else 0)
  else if k = Reg.fadeLen a then some (if l.incoming.isSome then l.fadeLen else 0)
  else if k = Reg.crcPound a then some (bankCrc l.pound)
  else if k = Reg.crcActive a then some (bankCrc l.active)
  else if k = Reg.crcIncoming a then some (match l.incoming with | some b => bankCrc b | none => 0)
  else if k = Reg.crcRequest a then
    some (match l.held, l.armed with | some w, _ => w.crc | none, some w => w.crc | none, none => 0)
  else if k = Reg.cyclesTab a then some (s.cyclesTabNow a)
  else if k = Reg.axoCode a then some (ofSigned 32 (s.axoCodeNow a))
  else if k = Reg.axoStatus a then some (s.axoStatus a)
  else none

/-- POUND_STATE and POUND_PENDING (R50). -/
def State.poundView (s : State) (k : Nat) : Option Nat :=
  match recordPound (keyIndex k) with
  | none => none
  | some p =>
    if keySub k = 2 then some (s.pound p).state
    else if keySub k = 3 then some (s.pound p).staged.length
    else none

/-- Objects whose value is computed at the read; none for an object that holds its value. -/
def State.view (s : State) (k : Nat) : Option Nat :=
  let i := keyIndex k
  match s.poundView k with
  | some v => some v
  | none =>
    if 0x3000 ≤ i ∧ i < 0x3C00 then s.axisView (keyAxis k) k
    else if 0x2100 ≤ i ∧ i < 0x2180 then
      -- ENABLED of EXC_STATUS follows EXC_CONFIG (R65)
      if i % 16 = 5 ∧ 1 ≤ keySub k ∧ keySub k ≤ 6 then
        some (putBits (s.rd k) 0 1 (bit (s.drvEnabled ((i - 0x2100) / 16) (keySub k - 1))))
      else none
    else if 0x4000 ≤ i ∧ i < 0x4080 then
      let t := keyTile k
      if k = Reg.budgetCycles t then some (s.budget t)
      else if k = Reg.cyclesTotal t then some (40 + ((axesOf t).map fun a => s.cyclesTabNow a).foldl (· + ·) 0)
      else none
    else if 0x4100 ≤ i ∧ i < 0x4200 then
      let l := keyLaser k
      if i % 16 = 4 ∧ 1 ≤ keySub k then
        -- the stream as it stands at the present LT (R232)
        some ((s.streamCatch l).rd k)
      else if k = Reg.lmoCode l then some (s.lmoCode l)
      else if k = Reg.lmoStatus l then some (s.lmoStatus l)
      else none
    else if i = 0x4409 ∧ 1 ≤ keySub k then
      -- a follower reads its lead's (R374)
      match s.leadOf (keySub k - 1) with
      | some l => some (s.rd (Reg.camFrameNext l))
      | none => none
    else if k = Reg.localTime then some (time80 s.lt)
    else if k = Reg.hostFree then some (hostShare - s.hostEntries.length)
    else if k = Reg.pdInBytes then some s.pdInBytes
    else if k = Reg.hostSpace then some s.hostSpaceNow
    else if k = Reg.lkState then some (match s.lock.running with | some q => q.kind.order | none => 0)
    else if k = Reg.lkQueued then some (min 255 s.lock.queue.length)
    else if k = Reg.faultSummary then some (putBits (s.rd k) 17 1 (bit s.mode.holdLow))
    else if k = Reg.axesParked then some (((List.range 48).map fun a => bit (s.axisParked a) * 2 ^ a).foldl (· + ·) 0)
    else none

/-- The value a read of a sub-entry of fixed size returns; a WO object reads 0. -/
def State.readValue (s : State) (k : Nat) : Nat := (s.view k).getD (s.rd k)

/-- "Scagahel Devices" in ASCII (R341). -/
def vendorName : List Nat :=
  [0x53, 0x63, 0x61, 0x67, 0x61, 0x68, 0x65, 0x6C, 0x20, 0x44, 0x65, 0x76, 0x69, 0x63, 0x65, 0x73]

/-- "Exius 48" in ASCII (R341). -/
def productName : List Nat := [0x45, 0x78, 0x69, 0x75, 0x73, 0x20, 0x34, 0x38]

/-- "EX48-FC-I" in ASCII (R341). -/
def orderingCode : List Nat := [0x45, 0x58, 0x34, 0x38, 0x2D, 0x46, 0x43, 0x2D, 0x49]

/-- The bytes of a STRING or DOMAIN object other than MEM_DATA (R341 and the chapters); the WO object SCHED_ENTRY reads 0 in the
16 bytes of an entry (R10, R319). -/
def State.longBytes (s : State) (k : Nat) : List Nat :=
  if k = Reg.vendorName then vendorName
  else if k = Reg.productName then productName
  else if k = Reg.orderingCode then orderingCode
  else if k = Reg.serialNumber then (List.range 16).map fun i => Config.serialNumber.getD i 0
  else if k = Reg.eventRdData then s.eventRead
  else if k = Reg.captureRdData then s.captureRead
  else if k = Reg.tagRdData then s.tagRead
  else if k = Reg.profileWrData then
    let a := s.rd Reg.profileWrAddr
    memReadBytes zeroByte s.profiles (2 * a) (min 4096 (2 * (2 ^ 20 - a)))
  else if k = Reg.schedEntry then List.replicate 16 0
  else []

/-- The bytes a read of a sub-entry returns. -/
def State.valueBytes (s : State) (k : Nat) : List Nat :=
  match Dict.row? k with
  | some r => match tySize r.ty with
    | some n => leBytes n (s.readValue k)
    | none => s.longBytes k
  | none => []

end Sys2Proof.Machine
end

