-- ==== Sys2Proof/Machine/Masters.lean ====
section
/-! DEFINITION. Masters: registration, the command token, the CAN port's slot, and the push of the event log (R287, R342 to
R344, R353). -/

namespace Sys2Proof.Machine

/-! ### Slots (R287, R342, R343) -/

/-- The lowest free master slot. -/
def State.freeSlot (s : State) : Option Nat := (List.range 4).find? fun n => s.rd (Reg.masterState n) == 0

/-- The rank a source may have at most: its ALLOW_RANK where ALLOW_MAC lists it, OPEN_RANK where registration is open; none
where it may not register (R342). -/
def State.rankCap (s : State) (mac : Nat) : Option Nat :=
  match (List.range 4).find? fun i => s.rd (Reg.allowMac i) == mac && mac != 0 with
  | some i => some (s.rd (Reg.allowRank i))
  | none => if bitAt (s.rd Reg.openRegistration) 0 then some (s.rd Reg.openRank) else none

/-- A slot is taken: its records start afresh, and its push starts at the next sequence number (R353, R355). -/
def State.takeSlot (s : State) (n kind mac rank port : Nat) (ts : Lt) : State :=
  let s := ((s.wr (Reg.masterState n) kind).wr (Reg.masterMac n) mac).wr (Reg.masterRank n) rank
  let s := ((s.wr (Reg.lastSeenLt n) (time80 ts)).wr (Reg.pushEnable n) 1).wr (Reg.pushAckSeq n) (s.rd Reg.nextSeq)
  let s := s.modMaster n fun _ => { port := port, lastSeen := ts, pushNext := s.rd Reg.nextSeq, pushLt := s.lt }
  s.raise 0x3901 cMASTER n (dU 1 rank ++ leBytes 4 (mac % 2 ^ 32))

/-- REGISTER of an Ethernet source: the abort code and its reply (R342). -/
def State.register (s : State) (mac port want : Nat) (ts : Lt) : State × Nat × List Nat :=
  match s.rankCap mac with
  | none => (s, 0xA023, [])
  | some cap =>
    let rank := min want cap
    match s.ethMaster mac with
    | some n =>
      ((s.wr (Reg.masterRank n) rank).raise 0x3901 cMASTER n (dU 1 rank ++ leBytes 4 (mac % 2 ^ 32)), 0, [n, rank])
    | none => match s.freeSlot with
      | none => (s, 0xA023, [])
      | some n => (s.takeSlot n 1 mac rank port ts, 0, [n, rank])

/-- The CAN port holds a slot. -/
def State.canSlot (s : State) : Option Nat := s.masterOf .can

/-- REGISTERED of CAN_STATUS follows the slot. -/
def State.showRegistered (s : State) : State := s.wrField Reg.canStatus 3 1 (bit s.canSlot.isSome)

/-- The CAN port registers while ENABLE is 1 and it holds no slot, and leaves its slot when ENABLE comes into use as 0
(R287). -/
def State.canRegister (s : State) : State :=
  if bitAt (s.rd Reg.canCfg) 0 ∧ s.canSlot.isNone then
    match s.freeSlot with
    | some n =>
      let s := s.takeSlot n 2 0 (s.rd Reg.canRank) 0 s.lt
      ({ s with legacy := { s.legacy with canWaiting := false } }).showRegistered
    | none =>
      let s := s.raiseIf (!s.legacy.canWaiting) 0x3723 cDEVICE 0 []
      ({ s with legacy := { s.legacy with canWaiting := true } }).showRegistered
  else s

/-- TOKEN_HOLDER and TOKEN_SINCE_LT take a new holder (R355). -/
def State.setToken (s : State) (n : Nat) : State :=
  let s := s.wr Reg.tokenHolder n
  if n = 0xFF then s else s.wr Reg.tokenSinceLt (time80 s.lt)

/-- The slot of a master becomes free with all it held; a token lost in SERVO or BUILD acts by TOKEN_LOSS_ACTION (R343,
R344). -/
def State.freeMaster (s : State) (n : Nat) : State :=
  let s := ((s.wr (Reg.masterState n) 0).wr (Reg.masterMac n) 0).wr (Reg.masterRank n) 0
  let s := s.modMaster n fun _ => {}
  if s.rd Reg.tokenHolder = n then
    let s := s.setToken 0xFF
    if s.modeCode = SERVO ∨ s.modeCode = BUILD then
      let uid := s.nextUid
      let act := s.rd Reg.tokenLossAction
      let s := s.raise 0x3904 cMASTER n (dU 1 act)
      if act = 1 then s.react .deviceHold cDEVICE 0 uid s.lt [] 1 else s
    else s
  else s

/-- An Ethernet master is deregistered, with the cause of 0x3902; the CAN port takes the slot where it waits for one (R287,
R343). -/
def State.deregister (s : State) (n cause : Nat) : State :=
  if s.rd (Reg.masterState n) = 1 ∧ n < 4 then
    ((s.raise 0x3902 cMASTER n (dU 1 cause)).freeMaster n).canRegister
  else s

/-- MASTER_TIMEOUT of MASTER_n, at its instant (R343). -/
def State.masterTimeout (s : State) (n : Nat) : State :=
  if s.rd (Reg.masterState n) = 1 ∧ n < 4 then
    (s.goTo ((s.master n).lastSeen + ns (s.rd Reg.masterTimeout * 1000000))).deregister n 1
  else s

/-- CAN_CFG has come into use: the port takes part in bus traffic while ENABLE is 1 (R287, R288). -/
def State.canConfigured (s : State) : State :=
  let s := s.showCan
  if bitAt (s.rd Reg.canCfg) 0 then s.canRegister
  else match s.canSlot with
    | some n => (s.freeMaster n).showRegistered
    | none => { s with legacy := { s.legacy with canWaiting := false } }

/-! ### The token (R344) -/

/-- TOKEN_TAKE by MASTER_n: the abort code. -/
def State.tokenTake (s : State) (n force : Nat) : State × Nat :=
  let h := s.rd Reg.tokenHolder
  if 1 < force then (s, 0xA012)
  else if h = n then (s, 0)
  else if h = 0xFF ∨ (force = 1 ∧ s.rd (Reg.masterRank h) < s.rd (Reg.masterRank n)) then
    ((s.setToken n).raise 0x3903 cMASTER n (dU 1 n ++ dU 1 h), 0)
  else (s, 0xA021)

/-- TOKEN_RELEASE by MASTER_n: the abort code. -/
def State.tokenRelease (s : State) (n : Nat) : State × Nat :=
  if s.rd Reg.tokenHolder = n then ((s.setToken 0xFF).raise 0x3903 cMASTER n (dU 1 0xFF ++ dU 1 n), 0) else (s, 0xA021)

/-! ### Event push (R353) -/

/-- Distance from sequence number `a` to `b`, wrapping. -/
def seqDist (a b : Nat) : Nat := (b + 2 ^ 32 - a) % 2 ^ 32

/-- One EVENT_PUSH to MASTER_n with up to 32 records from its next one on. -/
def State.pushFrame (s : State) (n : Nat) : State :=
  let m := s.master n
  let ack := s.rd (Reg.pushAckSeq n)
  let old := s.oldestOf
  let next := s.rd Reg.nextSeq
  let lost := decide (seqDist m.pushNext next > seqDist old next)
  let first := if lost then old else m.pushNext
  let gap := decide (seqDist ack next > seqDist old next) && first == old
  let count := min 32 (seqDist first next)
  if count = 0 then s else
    let recs := ((s.log.ring.reverse.drop (seqDist old first)).take count).flatMap Event.bytes
    let s := if gap && !m.gapLogged then
        (s.raise 0x3909 cMASTER n (dU 4 ack ++ dU 4 first)).modMaster n fun x => { x with gapLogged := true }
      else s
    let r := s.ownFrame 5 (s.rd (Reg.masterMac n)) (leBytes 4 first ++ [count, bit gap, 0, 0] ++ recs)
    let s := r.1.sendFrame m.port r.2 r.1.lt
    s.modMaster n fun x => { x with pushNext := (first + count) % 2 ^ 32 }

/-- Every record from MASTER_n's next one on is pushed, 32 to a frame. -/
def State.pushAll (s : State) (n : Nat) : State :=
  if s.rd (Reg.masterState n) = 1 ∧ bitAt (s.rd (Reg.pushEnable n)) 0 then
    -- the retry counts from the push of the first record that awaits its acknowledgement
    let s := s.modMaster n fun m => { m with pushLt := if m.pushNext = s.rd (Reg.pushAckSeq n) then s.lt else m.pushLt }
    each (Num.cdiv (min ringSize (seqDist (s.master n).pushNext (s.rd Reg.nextSeq))) 32) s fun s _ => s.pushFrame n
  else s

/-- Records have been logged: they go to every master that has its push enabled. -/
def State.pushNew (s : State) : State := each 4 s State.pushAll

/-- Records that a command has numbered since `s0` go out (R353). -/
def State.pushSince (s s0 : State) : State := if s.rd Reg.nextSeq = s0.rd Reg.nextSeq then s else s.pushNew

/-- EVENT_ACK of an Ethernet source: PUSH_ACK_SEQ takes the highest number that does not exceed NEXT_SEQ. -/
def State.eventAck (s : State) (mac port ack : Nat) : State :=
  let s := s.seen mac port s.lt
  match s.ethMaster mac with
  | none => s
  | some n =>
    let cur := s.rd (Reg.pushAckSeq n)
    let next := s.rd Reg.nextSeq
    let step := seqDist cur (ack % 2 ^ 32)
    if 0 < step ∧ step ≤ seqDist cur next then
      let s := s.wr (Reg.pushAckSeq n) (ack % 2 ^ 32)
      s.modMaster n fun m =>
        { m with pushLt := s.lt, gapLogged := false
                 pushNext := if seqDist cur m.pushNext < step then ack % 2 ^ 32 else m.pushNext }
    else s

/-- EVENT_PUSH_RETRY of MASTER_n: PUSH_RETRY has passed without an acknowledgement that advanced. -/
def State.pushRetry (s : State) (n : Nat) : State :=
  if s.rd (Reg.masterState n) = 1 ∧ bitAt (s.rd (Reg.pushEnable n)) 0 ∧ s.rd (Reg.pushAckSeq n) ≠ s.rd Reg.nextSeq ∧ n < 4 then
    let s := s.goTo ((s.master n).pushLt + ns (s.rd Reg.pushRetry * 1000000))
    (s.modMaster n fun m => { m with pushNext := s.rd (Reg.pushAckSeq n), pushLt := s.lt }).pushAll n
  else s

/-- ASSEMBLY_TIMEOUT of MASTER_n: 100 ms have passed without a part (R334). -/
def State.assemblyTimeout (s : State) (n : Nat) : State :=
  if (s.master n).asm.isEmpty then s
  else (s.goTo ((s.master n).asmLt + ns 100000000)).modMaster n fun m => { m with asm := [], asmKey := 0 }

end Sys2Proof.Machine
end

