-- ==== Sys2Proof/Machine/Write.lean ====
section
/-! DEFINITION. A write of an RW, RWS or RWC object: its checks in the order of R38, and the value put in use or staged (R35
to R39, R44, R49, R186, R214, R255, R337, R450). -/

namespace Sys2Proof.Machine

/-- The bank word a sub-entry 0x3021 to 0x3025 of an axis names (R186, R196). -/
def bankKey (k : Nat) : Option (Nat × Nat) :=
  let i := keyIndex k
  let o := (i - 0x3000) % 0x40
  if 0x3000 ≤ i ∧ i < 0x3C00 ∧ 0x21 ≤ o ∧ o ≤ 0x25 then (bankIndex (o - 0x21) (keySub k)).map fun w => (keyAxis k, w) else none

/-- A value comes into use by a write: a bank word in its POUND buffer, every other value in its object, with what follows
from it. -/
def State.useValue (s : State) (k v : Nat) : State :=
  match bankKey k with
  | some (a, w) => s.modLaw a fun l => { l with pound := bankSet l.pound w v }
  | none =>
    let old := s.rd Reg.layerNumber
    let before := s
    let s := s.putInUse k v
    if k = Reg.layerNumber then s.layerInto old
    else if k = Reg.canCfg then s.canConfigured
    else if k = Reg.interleaveLog2 ∨ k = Reg.memChannels then s.remapDram before
    else if k = Reg.canRank then (match s.canSlot with | some n => s.wr (Reg.masterRank n) v | none => s)
    else s

/-- A value of a record of the configuration store comes into use in INIT: nothing runs that would follow it (R239, R450). -/
def State.loadValue (s : State) (k v : Nat) : State :=
  let i := keyIndex k
  let a := keyAxis k
  if 0x3000 ≤ i ∧ i < 0x3C00 ∧ (k = Reg.axoRange a ∨ k = Reg.clearCode a ∨ k = Reg.bankSwap a ∨ k = Reg.holdAction a) then s.wr k v
  else s.useValue k v

/-- A write of PROFILE_WR_DATA: the abort code (R255, R261). -/
def State.writeProfile (s : State) (b : List Nat) : State × Nat :=
  let a := s.rd Reg.profileWrAddr
  let n := b.length / 2
  if b.length % 2 ≠ 0 then (s, 0xA013)
  else if 2 ^ 20 < a + n then (s, 0xA012)
  else ({ s with profiles := memWriteBytes zeroByte s.profiles (2 * a) b }.wr Reg.profileWrAddr (a + n), 0)

/-- The length of a value fits the type (R337). -/
def lengthFits (r : Row) (n : Nat) : Bool :=
  match tySize r.ty with
  | some m => n == m
  | none => decide (n ≤ 4096)

/-- LAYER_START_LT lies in the past by more than LATE_LIMIT; 0 is no time but asks for a start at the lockage (R213, R214). -/
def State.tooLate (s : State) (k v : Nat) : Bool :=
  k == Reg.layerStartLt && v != 0 && decide (ofTime80 v + ns (s.rd Reg.lateLimit) < s.lt)

/-- A write of `b` to a sub-entry that is no command: the abort code, 0 where it is accepted. -/
def State.writeObject (s : State) (r : Row) (k : Nat) (b : List Nat) : State × Nat :=
  if r.access = .ro then (s, 0xA010)
  else if !lengthFits r b.length then (s, 0xA013)
  else
    let way := s.writeWay r.access k
    if way = .refused then (s, 0xA011)
    else if way = .staged ∧ (s.pound (scopeOf k)).closed then (s, 0xA030)
    else if k = Reg.memData then s.memDataWrite b
    else if k = Reg.profileWrData then s.writeProfile b
    else
      let v := ofLeBytes b
      let direct := way == .direct
      let c := s.stateCode k direct
      if c ≠ 0 then (s, c)
      else if !s.inRange r k v direct then (s, 0xA012)
      else if s.tooLate k v then (s, 0xA031)
      else if direct then (s.useValue k v, 0)
      else (s.modPound (scopeOf k) fun x => x.stage k v, 0)

/-! ### Stored sub-entries (R449) and their load (R450) -/

/-- RW sub-entries that are never stored, and 0x4600 to 0x46FF. -/
def unstored (k : Nat) : Bool :=
  let i := keyIndex k
  (decide (0x4600 ≤ i) && decide (i < 0x4700)) || (decide (0x2040 ≤ i) && decide (i ≤ 0x2042)) ||
  (decide (0x3000 ≤ i) && decide (i < 0x3C00) &&
    (let a := keyAxis k; k == Reg.bankReadSel a || k == Reg.spHost a || k == Reg.cyclesMax a)) ||
  [Reg.profileWrAddr, Reg.profileWrData, Reg.eventRdSeq, Reg.tagRdKey, Reg.memAddr, Reg.memData, Reg.trajLatMax,
    Reg.pushEnable 0, Reg.pushEnable 1, Reg.pushEnable 2, Reg.pushEnable 3].contains k

/-- A sub-entry is stored (R449). -/
def isStored (r : Row) (k : Nat) : Bool :=
  (r.access == .rws || r.access == .rwc || r.access == .rw) && !unstored k

/-- The value a save stores: a bank word from ACTIVE, every other value as it is in use. -/
def State.savedValue (s : State) (k : Nat) : Nat :=
  match bankKey k with
  | some (a, w) => bankWord (s.axis a).law.active w
  | none => s.rd k

/-- One record of a slot (R448). -/
def slotRecord (k : Nat) (v : List Nat) : List Nat :=
  let l := leBytes 2 (keyIndex k) ++ [keySub k, v.length] ++ v
  l ++ List.replicate ((4 - l.length % 4) % 4) 0

/-- The stored sub-entries of a row, in ascending order of key within each record of its table. -/
def rowKeys (r : Row) : List Nat :=
  (List.range r.count).flatMap fun n => (List.range (r.subHi + 1 - r.subLo)).map fun e => regKey (r.index + r.stride * n) (r.subLo + e)

/-- The records of the image of a save (R448, R449, R451). The objects from 0x4000 on stand first: a LOOP_PERIOD is then
loaded before the DEMOD_PERIOD that has to divide it (log entry 33). -/
def State.imageRecords (s : State) : List (List Nat) :=
  let high (r : Row) : Bool := decide (0x4000 ≤ r.index)
  (Dict.rows.filter high ++ Dict.rows.filter fun r => !high r).flatMap fun r =>
    match tySize r.ty with
    | some n => ((rowKeys r).filter fun k => isStored r k).map fun k => slotRecord k (leBytes n (s.savedValue k))
    | none => []

/-- One record of a slot is put in use as a write in CONFIGURE that is never refused for mode; false where it is skipped. -/
def State.loadRecord (s : State) (k : Nat) (b : List Nat) : State × Bool :=
  match Dict.row? k with
  | none => (s, false)
  | some r =>
    let v := ofLeBytes b
    if isStored r k && lengthFits r b.length && s.inRange r k v true && !s.tooLate k v then (s.loadValue k v, true)
    else (s, false)

/-- Puts the records of a slot in use in record order: `n` records from the body, with the number of those skipped. -/
def State.loadRecords (s : State) : Nat → List Nat → Nat → State × Nat
  | 0, _, skipped => (s, skipped)
  | n + 1, body, skipped =>
    let k := regKey (ofLeBytes (body.take 2)) (ofLeBytes ((body.drop 2).take 1))
    let len := ofLeBytes ((body.drop 3).take 1)
    let size := (4 + len + 3) / 4 * 4
    let x := s.loadRecord k ((body.drop 4).take len)
    x.1.loadRecords n (body.drop size) (skipped + bit (!x.2))

end Sys2Proof.Machine
end

