-- ==== Sys2Proof/Machine/Slots.lean ====
section
/-! DEFINITION. The configuration store in flash: slots, their checks, the load in INIT, saves and erases (R447 to R451). -/

namespace Sys2Proof.Machine

/-- An unsigned field of slot i. -/
def State.slotField (s : State) (i off n : Nat) : Nat := ofLeBytes (s.flashBytes (slotBase i + off) n)

/-- GENERATION and BODY_LEN of slot i. -/
abbrev State.slotGen (s : State) (i : Nat) : Nat := s.slotField i 0x08 4
abbrev State.slotLen (s : State) (i : Nat) : Nat := s.slotField i 0x14 4

/-- The reason for which slot i is not valid, 0 where it is (R450). -/
def State.slotReason (s : State) (i : Nat) : Nat :=
  let gen := s.slotGen i
  let len := s.slotLen i
  if s.slotField i 0x0FFFFC 4 ≠ commitWord then 1
  else if s.slotField i 0 4 ≠ 0x4C524143 ∨ s.slotField i 4 2 ≠ 1 then 2
  else if s.slotField i 6 2 ≠ s.rd Reg.dictVersion then 4
  else if gen = 0 ∨ 0xFFFFFFFE < gen ∨ 1048504 < len ∨ len % 4 ≠ 0 then 5
  else if s.slotField i (0x40 + len) 4 ≠ crc32 (s.flashBytes (slotBase i) (0x40 + len)) then 3
  else 0

/-- The valid slot with the higher generation, slot A on equal ones. -/
def State.newestSlot (s : State) : Option Nat :=
  match s.slotReason 0, s.slotReason 1 with
  | 0, 0 => if s.slotGen 0 < s.slotGen 1 then some 1 else some 0
  | 0, _ => some 0
  | _, 0 => some 1
  | _, _ => none

/-- The header of slot i is erased. -/
def State.slotBlank (s : State) (i : Nat) : Bool := (s.flashBytes (slotBase i) 64).all fun b => b == 0xFF

/-- The load of the store in INIT, from a flash that has answered (R450). -/
def State.loadStore (s : State) : State :=
  let reject (s : State) (i : Nat) : State :=
    let r := s.slotReason i
    s.raiseIf (r != 0 && !s.slotBlank i) 0x2003 cDEVICE 0 (dU 1 i ++ dU 1 r)
  let s := reject (reject s 0) 1
  match s.newestSlot with
  | none => s.raise 0x2002 cDEVICE 0 []
  | some i =>
    let count := s.slotField i 0x10 4
    let gen := s.slotGen i
    let body := s.flashBytes (slotBase i + 0x40) (s.slotLen i)
    -- a record takes at least four bytes of the body
    let r := s.loadRecords (min count (body.length / 4)) body 0
    let s := each 48 r.1 State.swapNow
    let s := ((s.wr Reg.storeSlot i).wr Reg.storeGeneration gen).wr Reg.storeBytes body.length
    let s := (s.wr Reg.storeSkipped r.2).raise 0x2001 cDEVICE 0 (dU 1 i ++ dU 4 gen ++ dU 2 count)
    s.raiseIf (decide (0 < r.2)) 0x2006 cDEVICE 0 (dU 4 r.2)

/-- The image of a save: header, body and CRC (R448). -/
def State.slotImage (s : State) (gen : Nat) : List Nat :=
  let recs := s.imageRecords
  let body := recs.flatten
  let head := leBytes 4 0x4C524143 ++ leBytes 2 1 ++ leBytes 2 (s.rd Reg.dictVersion) ++ leBytes 4 gen ++
    leBytes 2 (s.rd Reg.siliconRev) ++ [0, 0] ++ leBytes 4 recs.length ++ leBytes 4 body.length ++ leBytes 10 (time80 s.lt)
  let all := padTo 64 head ++ body
  all ++ leBytes 4 (crc32 all)

/-- STORE_CMD 0x01: the abort code (R451). The target is erased with its commit word as the save begins. -/
def State.save (s : State) : State × Nat :=
  let m := s.modeCode
  if m = INIT ∨ m = CALIBRATE ∨ m = TEST ∨ s.rd Reg.storeState = 2 then (s, 0xA011)
  else if s.rd Reg.storeState = 1 then (s, 0xA030)
  else
    let newest := s.newestSlot
    let target := match newest with | some i => 1 - i | none => 0
    let gen := match newest with | some i => s.slotGen i + 1 | none => 1
    if 0xFFFFFFFE < gen then (s, 0xA012)
    else
      let image := s.slotImage gen
      if 1048504 + 0x44 < image.length then (s, 0xA012)
      else
        let s := { s with flash := memClear s.flash (slotBase target) 0x100000
                          store := { s.store with save := some { slot := target, generation := gen, image := image } } }
        ((s.wr Reg.storeState 1).wr Reg.storeBytes (image.length - 0x44), 0)

/-- STORE_SAVE_COMPLETE: the image stands with its commit word, or the save has failed with the cause of 0x2005: 1 program or
erase, 2 read-back. -/
def State.saveDone (s : State) (cause : Nat) : State :=
  match s.store.save with
  | none => s
  | some x =>
    if cause = 1 ∨ cause = 2 then s.saveCut.raise 0x2005 cDEVICE 0 (dU 1 x.slot ++ dU 1 cause)
    else
      let f := memWriteBytes erasedByte s.flash (slotBase x.slot) x.image
      let f := memWriteBytes erasedByte f (slotBase x.slot + 0x0FFFFC) (leBytes 4 commitWord)
      let s := { s with flash := f, store := { s.store with save := none } }
      let s := ((s.wr Reg.storeState 0).wr Reg.storeSlot x.slot).wr Reg.storeGeneration x.generation
      s.raise 0x2004 cDEVICE 0 (dU 1 x.slot ++ dU 4 x.generation)

/-- STORE_CMD 0x02: both slots are erased, in CONFIGURE only; the abort code. -/
def State.eraseSlots (s : State) : State × Nat :=
  if s.modeCode ≠ CONFIGURE ∨ s.rd Reg.storeState = 2 then (s, 0xA011)
  else if s.rd Reg.storeState = 1 then (s, 0xA030)
  else ({ s with flash := memClear (memClear s.flash (slotBase 0) 0x100000) (slotBase 1) 0x100000 }, 0)

/-- A write of STORE_CMD: the abort code. -/
def State.storeCommand (s : State) (v : Nat) : State × Nat :=
  if v = 1 then s.save else if v = 2 then s.eraseSlots else (s, 0xA012)

end Sys2Proof.Machine
end

