-- ==== Sys2Proof/Machine/SelfTest.lean ====
section
/-! DEFINITION. The self-tests of TEST: start, end, signatures and abort (R457 to R459). -/

namespace Sys2Proof.Machine

/-- The expected signature of a row, for revision B0 (R459). -/
def expectedSig (n : Nat) : Nat :=
  if n < 8 then 0x6D1E4A93
  else [0x2B87F05C, 0xC4E21D37, 0x91A06BE8, 0x5F39C271, 0x0E74B9D2, 0xA35C0847, 0x77D1E61A, 0x3C085FA5, 0xE9B62430,
    0x48FA7D6B].getD (n - 8) 0

/-- A RO object of a partition that the logic self-test resets (R458): the tiles with their engines, the observer bank, the
interpolator and scheduler with the layer, the output stage with the bus monitor and the counts of the CLEAR pins, the legacy
interfaces, and the vision port. The records of the pounds, the fault and service records, and the levels of the CLEAR pins
belong to none of them (log entry 74). -/
def partitionRo (k : Nat) : Bool :=
  let i := keyIndex k
  let o := (i - 0x3000) % 0x40
  let inside := (decide (0x2100 ≤ i) && decide (i < 0x2180)) ||
    (decide (0x3000 ≤ i) && decide (i < 0x3C00) && o != 0x2C && o != 0x3F) ||
    (decide (0x2040 ≤ i) && decide (i ≤ 0x2042)) || i == 0x2060 || (i == 0x2061 && k != Reg.clearPins) ||
    (decide (0x4000 ≤ i) && decide (i < 0x4080) && i % 0x10 != 0xF) ||
    (decide (0x4100 ≤ i) && decide (i < 0x4200) && i % 0x10 != 0xF) ||
    (decide (0x4200 ≤ i) && decide (i < 0x44E0))
  inside && (match Dict.row? k with | some r => r.access == .ro | none => false)

/-- The amplifiers and ADCs of every tile in service start again (R89, R455). -/
def State.tilesOn (s : State) : State := each 8 s fun s t => if s.tileParked t then s else s.tileOn t

/-- The partitions are reset and loaded again with every value in use (R458): their RO objects read reset values, their
memories and sequencers start afresh; banks and values in use stay. -/
def State.resetPartitions (s : State) : State :=
  State.tilesOn { s with
    regs := s.regs.filter fun (e : Nat × Nat) => !partitionRo e.1
    tiles := s.tiles.map fun (x : Tile) => { lastDemod := x.lastDemod, lastTherm := x.lastTherm }
    axes := s.axes.map fun (x : Axis) =>
      { law := { pound := x.law.pound, active := x.law.active }
        -- a sequence of R241 that has opened the switch still closes it (R242)
        axo := { code := x.axo.code, highZ := x.axo.highZ, range := x.axo.range, oldRange := x.axo.oldRange,
                 rangePhase := x.axo.rangePhase, rangeLt := x.axo.rangeLt } }
    engines := s.engines.map fun (x : Engine) => { lastLoop := x.lastLoop, pinFell := x.pinFell, before := x.before, due := x.due }
    -- what CLEAR_LM_N holds stays held until the next open edge (R245)
    lasers := s.lasers.map fun (x : Laser) => { hold := x.hold }
    layer := {}
    busLow := []
    hostEntries := []
    monPending := []
    legacy := { canWaiting := s.legacy.canWaiting }
    vision := {} }

/-- A self-test starts: `cmd` 1 logic, 2 memory, 3 both, logic first (R457). A starting logic self-test stops every tap (R467),
and the amplifiers and ADCs are off while it runs (R455). -/
def State.startSelftest (s : State) (cmd : Nat) : State :=
  let s := if cmd = 2 then s else s.stopAllTaps 3
  let s := if cmd = 2 then s else each 8 s fun s t => s.modTile t fun x => { x with running := false }
  let s := each 18 s fun s n => s.wr (Reg.selftestSig n) 0
  let s := (s.wr Reg.selftestState 1).wr Reg.selftestFail 0
  State.noteTest { s with test := { s.test with running := some { cmd := cmd, logic := cmd != 2, start := s.lt } } }

/-- A write of SELFTEST_CMD: the abort code. -/
def State.selftestCommand (s : State) (v : Nat) : State × Nat :=
  if s.modeCode ≠ TEST then (s, 0xA011)
  else if s.test.running.isSome then (s, 0xA030)
  else if v = 0 ∨ 3 < v then (s, 0xA012)
  else (s.startSelftest v, 0)

/-- The signatures of rows `lo` to `hi` - 1 are compared and shown; a row that `sigs` does not name has its expected one. -/
def State.judgeSigs (s : State) (sigs : List (Nat × Nat)) (lo hi : Nat) : State × Nat :=
  ((List.range (hi - lo)).map (· + lo)).foldl (init := (s, 0)) fun (x : State × Nat) n =>
    let v := match sigs.find? fun (e : Nat × Nat) => e.1 == n with | some e => e.2 % 2 ^ 32 | none => expectedSig n
    (x.1.wr (Reg.selftestSig n) v, x.2 + (if v = expectedSig n then 0 else 2 ^ n))

/-- SELFTEST_COMPLETE: the part that runs ends with its signatures; with 0x03 the memory part follows the logic part. -/
def State.selftestDone (s : State) (sigs : List (Nat × Nat)) : State :=
  match s.test.running with
  | none => s
  | some x =>
    let r := if x.logic then s.resetPartitions.judgeSigs sigs 0 12 else s.judgeSigs sigs 12 18
    let fail := x.fail + r.2
    let s := r.1.wr Reg.selftestFail fail
    if x.logic ∧ x.cmd = 3 then
      { s with test := { s.test with running := some { x with logic := false, fail := fail } } }
    else
      let time := lateNs x.start s.lt / 1000
      let s := State.noteTest { s with test := { s.test with running := none } }
      let s := (s.wr Reg.selftestTime (Num.fitU 32 time)).wr Reg.selftestState (if fail = 0 then 2 else 3)
      if fail = 0 then s.raise 0x3C01 cDEVICE 0 (dU 1 x.cmd ++ dU 4 time) else s.raise 0x3C02 cDEVICE 0 (dU 1 x.cmd ++ dU 4 fail)

/-- A mode command into CONFIGURE stops a running test at once, and the partitions are reset, whichever test it was (R459; log
entry 74). -/
def State.abortSelftest (s : State) : State :=
  match s.test.running with
  | none => s
  | some x =>
    let s := each 18 s.resetPartitions fun s n => s.wr (Reg.selftestSig n) 0
    let s := { s with test := { s.test with running := none } }
    let s := s.wr Reg.selftestTime (Num.fitU 32 (lateNs x.start s.lt / 1000))
    (s.wr Reg.selftestState 4).raise 0x3C03 cDEVICE 0 []

end Sys2Proof.Machine
end

