-- ==== Sys2Proof/Machine/Modes.lean ====
section
/-! DEFINITION. The mode machine: reset, INIT, mode commands with their checks, transitions and their completion, calibration,
and PARK_CMD (R425 to R430, R436 to R446, R493). -/

namespace Sys2Proof.Machine

/-! ### Reset (R443, R444) -/

/-- Number of pounds that hold staged values. -/
def State.fullPounds (s : State) : Nat := ((List.range 106).filter fun p => !(s.pound p).staged.isEmpty).length

/-- The device enters reset, and INIT with it: only the flash, the pins' levels and the waiting commands outlast it. A save or
a power-fail write in progress is cut short. Where pounds are emptied, event 0x2010 is the first record of the new log (R53;
log entry 89). -/
def State.enterReset (s : State) : State :=
  let s := s.saveCut.persistCut
  let r : State := { State.reset with
    flash := s.flash, freeCount := s.freeCount, pending := s.pending
    log := if s.mode.inReset then s.log else {}
    mode := { resetPinLow := s.mode.resetPinLow, supplyBad := s.mode.supplyBad, holdLow := s.mode.holdLow,
              clearAxLow := s.mode.clearAxLow, clearLmLow := s.mode.clearLmLow, pfailLow := s.pfailIsLow } }
  r.raiseIf (!s.mode.inReset && decide (0 < s.fullPounds)) 0x2010 cDEVICE 0 (dU 4 s.fullPounds)

/-- The device leaves reset where RESET_N is high and the supplies are in range: LT = 0, MODE INIT (R292, R444). -/
def State.tryLeaveReset (s : State) : State :=
  if s.mode.inReset ∧ !s.mode.resetPinLow ∧ !s.mode.supplyBad then { s.modMode fun m => { m with inReset := false } with lt := 0 }
  else s

/-- RESET_N_ASSERT. -/
def State.resetAsserted (s : State) : State := (s.modMode fun m => { m with resetPinLow := true }).enterReset

/-- RESET_N_RELEASE. -/
def State.resetReleased (s : State) : State := (s.modMode fun m => { m with resetPinLow := false }).tryLeaveReset

/-- SUPPLY_TRIP. -/
def State.supplyTrip (s : State) : State := (s.modMode fun m => { m with supplyBad := true }).enterReset

/-- A tile reads above the trip level of its die temperature, 110 to 115 °C (R472). -/
def dieTrips (die : List Int) : Bool :=
  (List.range 8).any fun t => match die[t]? with
    | some d => decide (d > (11000 + Config.dieTrip t % 501 : Nat))
    | none => false

/-- SUPPLY_RECOVERED. -/
def State.supplyBack (s : State) : State := (s.modMode fun m => { m with supplyBad := false }).tryLeaveReset

/-! ### Mode commands: the checks (R437, R442) -/

/-- The transitions a master may command (R438). -/
def permitted (old new : Nat) : Bool :=
  if new = CONFIGURE then decide (CALIBRATE ≤ old)
  else if old = CONFIGURE then new == CALIBRATE || new == TRACK || new == TEST
  else if old = CALIBRATE then new == TRACK
  else if old = TRACK then new == SERVO || new == HOLD
  else if old = SERVO then new == BUILD || new == TRACK || new == HOLD
  else if old = BUILD then new == SERVO || new == TRACK || new == HOLD
  else if old = HOLD then new == TRACK || new == SERVO
  else false

/-- The process-data checks (R352): the code for PD_CHECK. -/
def State.pdCode (s : State) : Nat :=
  let inMap := s.pdMap Reg.pdInMap
  let outMap := s.pdMap Reg.pdOutMap
  let rw (e : Nat) : Bool := match Dict.row? (e / 256) with | some r => r.access == .rw | none => false
  let bad1 := (List.range inMap.length).filter fun i => (pdEntry (inMap.getD i 0)).isNone
  let bad2 := ((List.range outMap.length).filter fun i => (pdEntry (outMap.getD i 0)).isNone || !rw (outMap.getD i 0)).map (· + 0x80)
  let on := bitAt (s.rd Reg.pdInEnable) 0
  let wire := (max (26 + s.pdInBytes) 64 + 20) * 8
  firstFail [
    (1, bad1 ++ bad2),
    (2, (if 1492 < s.pdInBytes then [0] else []) ++ (if 1492 < pdMapBytes outMap then [0x80] else [])),
    (3, if on ∧ s.rd Reg.pdInPeriod * s.loopNs 0 < 2 * wire then [0] else []),
    (4, if on ∧ s.rd Reg.pdInDest = 0 then [0] else [])]

/-- A pending change that keeps the device from SERVO and BUILD (R72, R240): its item. -/
def State.blockItem (s : State) : Option Nat :=
  let changes (p k : Nat) : Bool := (s.pound p).closed && (match (s.pound p).value k with | some v => v != s.rd k | none => false)
  match (List.range 48).find? fun a => s.rangeBusy a || changes a (Reg.axoRange a) with
  | some a => some a
  | none =>
    ((List.range 48).find? fun n =>
      let d := s.driver (n / 6) (n % 6)
      d.settling || d.phase == .waitStart || d.phase == .waitStop || d.phase == .gap ||
        changes (pEngine (n / 6)) (Reg.excFreq (n / 6) (n % 6))).map (· + 0x80)

/-- Runs a check for each of 0 to n − 1 in order until one fails; the number of the one that fails. -/
def firstBad (f : State → Nat → State × Bool) : List Nat → State → State × Option Nat
  | [], s => (s, none)
  | t :: l, s =>
    let r := f s t
    if r.2 then firstBad f l r.1 else (r.1, some t)

/-- The crosspoint and then the filter check of every tile in order, up to the first that fails: reason of R442 and tile. -/
def State.tileChecks (s : State) : List Nat → State × Option (Nat × Nat)
  | [] => (s, none)
  | t :: l =>
    let x := s.xpCheck t
    if !x.2 then (x.1, some (2, t)) else
      let f := x.1.filtCheck t
      if !f.2 then (f.1, some (3, t)) else f.1.tileChecks l

/-- The checks of a command that leaves CONFIGURE: reason and item of the first that fails, none where they pass. -/
def State.leaveChecks (s : State) : State × Option (Nat × Nat) :=
  match s.tileChecks (List.range 8) with
  | (s, some w) => (s, some w)
  | (s, none) =>
    let pd := s.pdCode
    let s := s.wr Reg.pdCheck pd
    if pd ≠ 0 then (s, some (5, 0)) else
      let vis := s.visCheckCode
      let s := s.wr Reg.visCheck vis
      if vis ≠ 0 then (s, some (6, 0)) else
        let mem := s.memCode true false
        (s.wr Reg.memCheck mem, if mem ≠ 0 then some (7, 0) else none)

/-- The checks of R442 in their order: the abort code with reason and item, 0 where the command is accepted. -/
def State.modeChecks (s : State) (target : Nat) : State × Nat × Nat × Nat :=
  let old := s.modeCode
  let run := target = TRACK ∨ target = SERVO ∨ target = BUILD
  if !permitted old target then (s, 0xA011, 1, target)
  else if s.mode.holdLow ∧ target ≠ HOLD then (s, 0xA011, 0x0B, 0)
  else if (s.lock.running.isSome ∨ !s.lock.queue.isEmpty) ∧ target ≠ HOLD then (s, 0xA030, 0x0D, 0)
  else if s.rd Reg.modeStatus = 1 ∧ target ≠ HOLD then (s, 0xA030, 0x0E, 0)
  else
    match (if old = CONFIGURE then s.leaveChecks else (s, none)) with
    | (s, some (r, i)) => (s, 0xA012, r, i)
    | (s, none) =>
      match (if run then firstBad (fun s t => s.budgetCheck t (fun _ => none) false []) (List.range 8) s else (s, none)) with
      | (s, some t) => (s, 0xA012, 4, t)
      | (s, none) =>
        let up := target = SERVO ∨ target = BUILD
        match (if up then s.blockItem else none) with
        | some i => (s, 0xA030, 0x0C, i)
        | none =>
          let failed (a : Nat) : Bool := !s.axisParked a && s.kind a != 0 && bitAt (s.rd (Reg.axoCheck a)) 0
          match (if up then (List.range 48).find? failed else none) with
          | some a => (s, 0xA012, 8, a)
          | none =>
            if up ∧ bitAt (s.rd Reg.faultSummary) 16 then (s, 0xA012, 9, 0)
            else if target = BUILD then
              let mem := s.memCode false true
              let s := s.wr Reg.memCheck mem
              if mem ≠ 0 then (s, 0xA012, 7, 0)
              else match (List.range 16).find? fun l => s.laserLatched l with
                | some l => (s, 0xA012, 0x0A, l)
                | none => (s, 0, 0, 0)
            else (s, 0, 0, 0)

/-! ### Calibration (R441) -/

/-- Every enabled driver is set to start, where its tile is in service. -/
def State.startDrivers (s : State) : State := each 8 s fun s t => each 6 s fun s j => s.startDriver t j

/-- The corrections of a tile are the factory trim again (R84). -/
def State.dropGains (s : State) (t : Nat) : State := s.modTile t Tile.trimmed

/-- Calibration begins on every tile that is in service; the outputs of a PARKED tile take the DAC self-check alone (R248). -/
def State.beginCal (s : State) : State :=
  let s := s.wr Reg.calState 1
  each 8 s fun s t =>
    if s.tileParked t then s.modTile t fun x => { x with cal := .dac, calBad := true, gainDone := true }
    else
      ((s.wr (Reg.calValid t) 0).dropGains t).modTile t fun x =>
        { x with cal := .start, calBad := false, calCount := 0, gainDone := false }

/-- Part 1 has ended on TILE_t: every enabled driver has started and no axis of it settles for a driver (R108). -/
def State.driversSettled (s : State) (t : Nat) : Bool :=
  (List.range 6).all fun j => !s.drvEnabled t j || ((s.driver t j).running && !(s.driver t j).settling)

/-- Parts 1 and 2 have ended on a tile: part 3 begins, its sums at 0. -/
def State.calAdvance (s : State) : State :=
  if s.modeCode ≠ CALIBRATE then s else
    each 8 s fun s t =>
      let x := s.tile t
      if x.cal = .start ∧ x.gainDone ∧ s.driversSettled t then
        let s := s.modTile t fun x =>
          { x with cal := .phases, calCount := 0
                   drivers := x.drivers.map fun (d : Driver) => { d with argRef := 0, argSum := 0 } }
        (axesOf t).foldl (init := s) fun s a => s.modObs a fun o =>
          { o with calSeen := 0, sumSq := 0, sumSqFine := 0, phRe := 0, phIm := 0, phReF := 0, phImF := 0 }
      else s

/-- The end of part 2 on TILE_t: measured gains (2^-30) and offsets (chain units) of the amplifiers and sense receivers in
use; element 12 + j of the offsets is that of receiver j (R83, R441). -/
def State.calGains (s : State) (t : Nat) (gains : List Nat) (offsets : List Int) (sns : List Nat) : State :=
  let x := s.tile t
  if x.cal ≠ .start ∨ x.gainDone then s else
    let s := each 12 s fun s m =>
      if !s.ampInUse t m then s
      else s.modAmp t m fun y => { y with gain := gains[m]?, offset := offsets[m]? }
    s.modTile t fun x =>
      { x with gainDone := true
               snsGain := Vector.ofFn fun (j : Fin 6) => if s.receiverInUse t j.val then sns[j.val]? else none
               snsOffset := Vector.ofFn fun (j : Fin 6) => if s.receiverInUse t j.val then offsets[12 + j.val]? else none }

/-- DEMOD_PHASE_CAL of one pair from its sums; it stays and 0x3202 tells it where the magnitude of the mean is below 2^-12
(R126). -/
def State.calPhase (s : State) (a key pair : Nat) (re im : Int) : State :=
  let mag2 : Int := re * re + im * im
  if mag2 < (2 ^ 52) * (2 ^ 52) then
    s.raise 0x3202 cAXIS a (dU 1 pair ++ dU 4 (isqrtMean mag2))
  else s.wrS 16 key (Num.rshift (Num.wrapTurn 48 (Num.atan2Turn48 im re)) 33)
where
  /-- The magnitude of the mean of 4,096 terms in 2^-52, to the nearest 2^-16. -/
  isqrtMean (m2 : Int) : Nat := (Num.isqrt m2.toNat + 2 ^ 47) / 2 ^ 48

/-- A further acquisition of AXIS_a with cause 7: the values that CALIBRATE measured come into use (R144). An axis whose first
acquisition has not begun still waits for that one. -/
def State.reacquire (s : State) (a : Nat) : State :=
  if !s.axisLive a then s else
    s.modObs a fun o => match o.acq with
      | .idle => o
      | .waiting 1 => o
      | _ => { o with acq := .waiting 7, total := 0, lateLogged := false }

/-- The root of the mean of 4,096 squares, from their sum, to the nearest whole number (R101; log entry 47). -/
def rootMean (sum : Int) : Nat := (Num.isqrt sum.toNat + 32) / 64

/-- The end of part 3 on TILE_t, once 4,096 outputs have been measured: phases and amplitudes come into use (R101, R126). An
axis that was not in service on every one of them keeps its own. -/
def State.calPhases (s : State) (t : Nat) : State :=
  let x := s.tile t
  if x.cal ≠ .phases ∨ x.calCount < 4096 then s else
    let s := each 6 s fun s j =>
      let d := s.driver t j
      if d.running then
        -- the mean of arg(e) is taken about the argument of the first output (log entry 92)
        (s.wrS 16 (Reg.excPhaseCal t j) (Num.wrapTurn 16 (Num.rdiv (4096 * d.argRef + d.argSum) (4096 * 2 ^ 32)))).wr (Reg.calFreq t j)
          (s.rd (Reg.excFreq t j))
      else s
    let s := (axesOf t).foldl (init := s) fun s a =>
      if !s.axisLive a ∨ (s.axis a).obs.calSeen < 4096 then s else
        let o := (s.axis a).obs
        let s := s.calPhase a (Reg.demodPhaseCal a) (s.rd (Reg.pairPrimary a)) o.phRe o.phIm
        let s := s.wr (Reg.ampLearned a) (min (rootMean o.sumSq) (2 ^ 32 - 1))
        if s.kind a = 2 then
          let s := s.calPhase a (Reg.demodPhaseCalFine a) (s.rd (Reg.pairFine a)) o.phReF o.phImF
          s.wr (Reg.ampLearnedFine a) (min (rootMean o.sumSqFine) (2 ^ 32 - 1))
        else s
    let s := each 6 s fun s j => s.staleCheck t j
    let s := (axesOf t).foldl State.reacquire s
    s.modTile t fun x => { x with cal := .dac }

/-- The end of part 4 on TILE_t: the deviation of each driven output in µV over its four monitoring cycles, against a quarter
of RB_LIMIT. The tile's calibration ends, with CAL_VALID = 1 unless a fault condition held (R91). -/
def State.calDac (s : State) (t : Nat) (devs : List Nat) : State :=
  if (s.tile t).cal ≠ .dac then s else
    let s := (List.range 6).foldl (init := s) fun s k =>
      let a := 6 * t + k
      let dev := devs.getD k 0
      if (s.axis a).axo.highZ then s else
        let fail := decide (s.rd (Reg.rbLimit a) * 1000 < 4 * dev)
        (s.wr (Reg.axoCheck a) (bit fail)).raiseIf fail 0x3605 cAXIS a (dU 4 dev)
    let good := !(s.tile t).calBad
    let s := s.modTile t fun x => { x with cal := .done }
    if good then s.wr (Reg.calValid t) 1 else if s.rd (Reg.calValid t) = 0 then s.dropGains t else s

/-- CAL_PART_END: part 2, 3 or 4 ends on TILE_t with what it measured. -/
def State.calPartEnd (s : State) (t part : Nat) (gains : List Nat) (offsets : List Int) (sns devs : List Nat) : State :=
  if s.modeCode ≠ CALIBRATE ∨ 8 ≤ t then s
  else if part = 2 then s.calGains t gains offsets sns
  else if part = 3 then s.calPhases t
  else if part = 4 then s.calDac t devs
  else s

/-- CAL_DONE: every part has ended on every tile, the part 4 of a PARKED one included, and memory training too. -/
def State.calDone (s : State) : State :=
  let tiles := (List.range 8).all fun t => (s.tile t).cal == .done
  if s.modeCode = CALIBRATE ∧ s.rd Reg.calState = 1 ∧ tiles ∧ s.memState ≠ memTRAINING then
    (s.wr Reg.calState 2).raise 0x2008 cDEVICE 0 (dU 4 (lateNs s.mode.calStart s.lt / 1000))
  else s

/-- Calibration that has not ended is abandoned: unfinished tiles keep CAL_VALID = 0, and their trim. -/
def State.abandonCal (s : State) : State :=
  let s := if s.rd Reg.calState = 1 then s.wr Reg.calState 3 else s
  each 8 s fun s t =>
    let cut := (s.tile t).cal = .start ∨ (s.tile t).cal = .phases ∨ (s.tile t).cal = .dac
    let s := if cut ∧ s.rd (Reg.calValid t) = 0 then s.dropGains t else s
    s.modTile t fun x => { x with cal := .idle, gainDone := true }

/-! ### Acceptance and completion (R438, R440) -/

/-- A transition completes that no engine's boundary completes: its wait has ended. -/
def State.settleMode (s : State) : State :=
  match s.mode.transition with
  | none => s
  | some x =>
    let drvs (f : Driver → Bool) : Bool := (List.range 8).all fun t => (List.range 6).all fun j => f (s.driver t j)
    let done_ := match x.wait with
      | .drivers => drvs fun d => d.phase != .waitStart
      | .carriersOff => x.engines.isEmpty && drvs fun d => d.phase == .off
      | .training => s.memState != memTRAINING && s.time.stepWait.isNone && !s.time.stepRealign
      | .engines => false
    if !done_ then s else
      let s := s.completeTransition x
      if x.target = CONFIGURE then
        let s := s.emptyPounds
        let s := each 16 s fun s l => s.wr (Reg.afOffset l) 0
        s.stopAllTaps 3
      else if x.target = TEST ∧ s.rd Reg.selftestOnEntry ≠ 0 then s.startSelftest (s.rd Reg.selftestOnEntry)
      else s

/-- The steps of a master's command into HOLD begin (R411, R440); a transition in progress stops where it stands. -/
def State.enterHold (s : State) : State :=
  let cut := s.mode.transition.isSome
  let old := s.modeCode
  let s := if cut then (s.modMode fun m => { m with transition := none }).cancelTransition else s.arm [pTransition] pTransition
  let s := (s.holdStep1.wr Reg.modeStatus 1)
  s.modLock fun x =>
    { x with holdRun := some { kind := .deviceHold, t0 := s.lt, trigger := 0, engines := List.range 8, cause := 0, fromMode := some old } }

/-- A mode command is accepted: MODE reads the target, and the transition begins. -/
def State.acceptMode (s : State) (target : Nat) (byMaster : Bool) : State :=
  let old := s.modeCode
  if target = HOLD then s.enterHold else
    let s := if byMaster then s.arm [pTransition] pTransition else s
    let s := (s.wr Reg.mode target).reform.wr Reg.modeStatus 1
    let s := if target = TEST ∨ old = TEST then s.noteTest else s
    let s := if target = TRACK ∨ target = SERVO ∨ target = BUILD then s.enterRun else s
    let running := decide (TRACK ≤ old) && decide (old ≤ HOLD)
    let wait : Wait :=
      if target = CONFIGURE then .carriersOff
      else if old = CONFIGURE then .drivers
      else if old = CALIBRATE then .training
      else .engines
    let engines := if wait = .engines ∨ (target = CONFIGURE ∧ running) then List.range 8 else []
    let x : Transition := { fromMode := old, target := target, accepted := s.lt, byMaster := byMaster, wait := wait, engines := engines }
    let s := s.modMode fun m => { m with transition := some x }
    let s :=
      if target = CONFIGURE then
        let s := if old = BUILD then s.buildLeft else s
        let s := if old = CALIBRATE then s.abandonCal else s
        let s := s.abortSelftest
        if running then s else each 8 s fun s t => each 6 s fun s j => s.stopDriver t j
      else if target = CALIBRATE then
        ((s.modMode fun m => { m with calStart := s.lt }).startDrivers.beginCal).memTrain
      else if old = CONFIGURE ∧ target = TRACK then s.startDrivers
      else if old = CALIBRATE then s.abandonCal
      else s
    s.settleMode

/-- A mode command: the abort code (R442). -/
def State.modeCommand (s : State) (target : Nat) (byMaster : Bool) : State × Nat :=
  if target = 0 ∨ 7 < target then (s, 0xA012) else
    let (s, code, reason, item) := s.modeChecks target
    let s := s.wr Reg.modeRefuse (if code = 0 then 0 else 256 * reason + item)
    if code ≠ 0 then (s, code)
    else
      let s := if byMaster then s.modMode fun m => { m with bootSeq := false } else s
      (s.acceptMode target byMaster, 0)

/-- A command of the automatic sequence of R445. -/
def State.bootCommand (s : State) (target : Nat) : State :=
  let r := s.modeCommand target false
  if r.2 = 0 then r.1
  else (r.1.modMode fun m => { m with bootSeq := false }).raise 0x2009 cDEVICE 0 (dU 2 (r.1.rd Reg.modeRefuse))

/-- AUTO_TRACK: the device commands TRACK itself once CAL_STATE reads DONE. -/
def State.autoTrack (s : State) : State :=
  if s.mode.bootSeq ∧ s.modeCode = CALIBRATE ∧ s.rd Reg.calState = 2 then
    (s.modMode fun m => { m with bootSeq := false }).bootCommand TRACK
  else s

/-! ### INIT (R444, R445, R493) -/

/-- A pin that is low at the completion of INIT is taken to fall there (R493). -/
def State.pinsAtInit (s : State) : State :=
  let m := s.mode
  let s := s.modMode fun x => { x with holdLow := false, clearAxLow := false, clearLmLow := false, pfailLow := false, pfailUp := none }
  let s := if m.clearAxLow then s.clearAxFalls else s
  let s := if m.clearLmLow then s.clearLmFalls else s
  let s := if m.holdLow then s.holdFalls else s
  if m.pfailLow then s.pfailFall none else s

/-- INIT_COMPLETE: the load of the store, the restore of the log and the transition into CONFIGURE; `kib` is the capacity of
the flash that has answered, 0 where none does. `found` and `loaded` are the instants, in ns of LT, at which the flash was
discovered, at most 5 ms, and the store loaded, at most 60 ms (R444). -/
def State.initComplete (s : State) (kib found loaded : Nat) : State :=
  let now := s.lt
  let s := { s.wr Reg.flashSize kib with lt := min now (ns (min found 5000000)) }
  let s := if kib = 0 then (s.wr Reg.storeState 2).raise 0x2007 cDEVICE 0 [] else s
  let s := { s with lt := max s.lt (min now (ns (min loaded 60000000))) }
  let s := if kib = 0 then s.raise 0x2026 cDEVICE 0 [] else s.restoreLog.loadStore
  let s := { s with lt := now }
  let s := each 48 s fun s a =>
    let r := s.rd (Reg.axoRange a)
    let s := s.modAxo a fun x => { x with highZ := false, range := r, oldRange := r }
    s.setCode a (s.clearCode a)
  let s := each 8 s fun s t => s.tileOn t
  let s := (s.realign.wr Reg.mode CONFIGURE).reform
  let s := (s.wr Reg.lastModeLt (time80 s.lt)).raise 0x2000 cDEVICE 0 (dU 1 INIT ++ dU 1 CONFIGURE ++ dU 1 3)
  let s := s.pinsAtInit
  if s.rd Reg.bootTarget = 1 then (s.modMode fun m => { m with bootSeq := true }).bootCommand CALIBRATE else s

/-- REALIGN_COMPLETE, `dt` cycles on but by its latest instant: the sample PLL has realigned; after a step in CALIBRATE the carriers and the calibration start again
(R295, R301). -/
def State.realignDone (s : State) (dt : Nat) : State :=
  match s.time.realignEnd with
  | none => s.advance dt
  | some e =>
    let t := (s.advance dt).lt
    let s := { s with lt := if s.lt ≤ e then min t e else t }
    let s := (s.wr Reg.samplePll 1).modTime fun x => { x with realignEnd := none }
    if s.time.stepRealign then
      let s := s.modTime fun x => { x with stepRealign := false }
      if s.modeCode = CALIBRATE then s.startDrivers.beginCal
      else if s.modeCode = TRACK then s.startDrivers
      else s
    else s

/-! ### PARK_CMD (R425 to R430) -/

/-- PARK or RETURN of a port acts at the write: the abort code. -/
def State.portCommand (s : State) (park : Bool) (p : Nat) (src : Option Nat) : State × Nat :=
  if park then
    if s.portParked p then (s, 0)
    else if src = some p ∨ s.portParked (1 - p) then (s, 0xA012)
    else
      let s := (s.wrField Reg.portsParked p 1 1).raise 0x2030 cPORT p (dU 1 1)
      ((s.modEgress p fun x => { x with high := [], low := [], lowAt := [] }).pdelayInvalid p 1, 0)
  else if !s.portParked p then (s, 0xA012)
  else
    let s := s.wrField Reg.portsParked p 1 0
    let s := (s.raise 0x2031 cPORT p []).raise 0x2032 cPORT p (dU 4 0)
    (s.pdelayMeasure p, 0)

/-- A laser with a RUNNING stream that the axes of a unit serve, in BUILD (R427). -/
def State.servesStream (s : State) (axes : List Nat) : Bool :=
  s.modeCode == BUILD && axes.any fun a => s.streamRuns (laserOf a)

/-- The checks of step 1 of a return: R57 and R130 on every tile, and R183 with the ACTIVE banks, with the units counted as
back. -/
def State.returnChecks (s : State) (cls t : Nat) (axes : List Nat) : State × Bool :=
  let back := axes.foldl (fun s a => s.wr (Reg.parkState a) 0) s
  let back := if cls = cAXIS then back else back.wrField Reg.enginesParked t 1 0
  let back := if cls = cTILE then back.wrField Reg.tilesParked t 1 0 else back
  let c := back.tileChecks (List.range 8)
  let s := each 8 s fun s i => (s.wr (Reg.xpCheck i) (c.1.rd (Reg.xpCheck i))).wr (Reg.filtCheck i) (c.1.rd (Reg.filtCheck i))
  if c.2.isSome then (s, false) else
    let r := back.budgetCode t (fun _ => none) false axes
    ((s.wr (Reg.cyclesWorst t) r.1).wr (Reg.budgetCheck t) r.2, r.2 == 0)

/-- The checks and the effect of a write of PARK_CMD: the abort code; `src` is the port through which it arrived. -/
def State.parkAsked (s : State) (v : Nat) (src : Option Nat) : State × Nat :=
  let cmd := bitsAt v 24 8
  let cls := bitsAt v 16 8
  let n := bitsAt v 0 16
  let count := if cls = cTILE ∨ cls = cENGINE then 8 else if cls = cAXIS then 48 else if cls = cPORT then 2 else 0
  if (s.lock.running.isSome ∨ !s.lock.queue.isEmpty) ∧ cmd = 2 then (s, 0xA030)
  else if cmd = 0 ∨ 2 < cmd ∨ count ≤ n then (s, 0xA012)
  else if cls = cPORT then s.portCommand (cmd == 1) n src
  else
    let t := if cls = cAXIS then n / 6 else n
    let axes := if cls = cAXIS then [n] else axesOf t
    let due (d : Due) : State := s.modEngine t fun e => { e with due := e.due ++ [(s.lt + ns 1000, d)] }
    if s.servesStream axes then (s, 0xA011)
    else if cmd = 1 then (due (.park cls n 1), 0)
    else
      let parked := if cls = cAXIS then s.axisParked n else if cls = cENGINE then s.engineParked n else s.tileParked n
      let above := if cls = cAXIS then s.engineParked t || s.tileParked t else if cls = cENGINE then s.tileParked t else false
      if !parked ∨ above then (s, 0xA012)
      else
        let r := s.returnChecks cls t axes
        if r.2 then (r.1.modEngine t fun e => { e with due := e.due ++ [(s.lt + ns 1000, .ret cls n)] }, 0) else (r.1, 0xA012)

/-- A write of PARK_CMD: a mode command, which ends the automatic sequence where it is accepted (R437, R445). -/
def State.parkCommand (s : State) (v : Nat) (src : Option Nat) : State × Nat :=
  let r := s.parkAsked v src
  if r.2 = 0 then (r.1.modMode fun m => { m with bootSeq := false }, 0) else r

end Sys2Proof.Machine
end

