-- ==== Sys2Proof/Machine/Commands.lean ====
section
/-! DEFINITION. The command objects (access WO) and the one path by which every write of an object goes, with its checks in the
order of R38. -/

namespace Sys2Proof.Machine

/-- POUND_COMMIT of pound p: the abort code; the value is judged before the state of the pound (R44, R48, R51, R52). -/
def State.poundCommand (s : State) (p v : Nat) : State × Nat :=
  if 48 ≤ p ∧ p < 56 then
    let t := p - 48
    let ps := ((List.range 6).filter fun k => bitAt v (1 + k)).map (fun k => 6 * t + k) ++ (if bitAt v 0 then [p] else [])
    if bitsAt v 9 7 ≠ 0 ∨ bitAt v 7 ∨ ps.isEmpty then (s, 0xA012)
    else if bitAt v 8 then s.discard ps
    else s.commit p ps
  else if v = 2 then s.discard [p]
  else if v = 1 ∧ p ≠ pTransition then s.commit p [p]
  else (s, 0xA012)

/-- A latched laser's latch clears by RESUME or ABANDON; it stays cleared until its next open edge (R418). -/
def State.laserLatchClears (s : State) (l : Nat) : State :=
  if s.laserLatched l then (s.wrField Reg.faultSummary l 1 0).darken l else s

/-- STREAM_CMD of laser l: the abort code (R230, R231, R417). -/
def State.streamCommand (s : State) (l v : Nat) : State × Nat :=
  let cmd := bitsAt v 24 8
  let seg := bitsAt v 0 24
  let s := s.streamCatch l
  let st := s.rd (Reg.streamState l)
  if cmd = 1 then
    if s.modeCode ≠ BUILD then (s, 0xA011)
    else if s.lock.running.isSome ∨ !s.lock.queue.isEmpty then (s, 0xA030)
    else if seg ≠ s.rd (Reg.stopSeg l) ∨ st ≠ 2 then (s, 0xA012)
    else
      let s := s.laserLatchClears l
      (s.modEngine (l / 2) fun e => { e with due := e.due ++ [(s.lt + ns 1000, .resume l)] }, 0)
  else if seg ≠ 0 then (s, 0xA012)
  else if cmd = 2 then
    if st ≠ 1 then (s, 0xA012)
    -- a fault stop that is being carried out stands (R231)
    else if !(s.laser l).stream.stops.isEmpty then (s, 0)
    else (s.modStream l fun m => { m with hostStop := true }, 0)
  else if cmd = 3 then ((s.laserLatchClears l).abandonStream l, 0)
  else (s, 0xA012)

/-- A write of FAULT_CLEAR: the abort code (R417, R418, R433). -/
def State.faultClearCommand (s : State) (v : Nat) : State × Nat :=
  if s.lock.running.isSome ∨ !s.lock.queue.isEmpty then (s, 0xA030)
  else if v = 1 then (s.faultClear, 0)
  else (s, 0xA012)

/-- A write of a WO object by its bytes: the abort code. `src` is the port of an Ethernet request. -/
def State.commandObject (s : State) (k : Nat) (b : List Nat) (src : Option Nat) : State × Nat :=
  let i := keyIndex k
  let v := ofLeBytes b
  match recordPound i with
  | some p => s.poundCommand p v
  | none =>
    if k = Reg.modeCmd then s.modeCommand v true
    else if k = Reg.storeCmd then s.storeCommand v
    else if k = Reg.faultClear then s.faultClearCommand v
    else if k = Reg.parkCmd then s.parkCommand v src
    else if 0x4100 ≤ i ∧ i < 0x4200 then
      let l := keyLaser k
      if k = Reg.streamCmd l then s.streamCommand l v else s.lmoClearFault l v
    else if 0x42C0 ≤ i ∧ i < 0x42C8 then s.plsPreset (i - 0x42C0) v
    else if k = Reg.schedEntry then s.schedEntry b
    else if k = Reg.schedFlush then s.schedFlush v
    else if k = Reg.selftestCmd then s.selftestCommand v
    else if k = Reg.captureCmd then s.captureCmd v
    else (s, 0xA010)

/-- A write of `b` to (index, subindex), with every check of R38 in order: the abort code, 0 where it is accepted. -/
def State.doWrite (s : State) (index sub : Nat) (b : List Nat) (src : Option Nat) : State × Nat :=
  if 0x5000 ≤ index ∧ index < 0x6000 then (s, 0xA010)
  else if !Dict.hasIndex index then (s, 0xA001)
  else
    let k := regKey index sub
    match (if sub < 256 then Dict.row? k else none) with
    | none => (s, 0xA002)
    | some r =>
      if r.access = .wo then
        if !lengthFits r b.length then (s, 0xA013) else s.commandObject k b src
      else s.writeObject r k b

/-- The answer to the latest message served. -/
def State.answer (s : State) (code : Nat) (data : List Nat) : State := s.modNet fun n => { n with reply := { abort := code, data := data } }

/-- A write with its answer. -/
def State.writeAnswered (s : State) (index sub : Nat) (b : List Nat) (src : Option Nat) : State :=
  let r := s.doWrite index sub b src
  r.1.answer r.2 []

/-- A write of a value to a sub-entry of fixed size, with its answer. -/
def State.writeKey (s : State) (k n v : Nat) : State := s.writeAnswered (keyIndex k) (keySub k) (leBytes n v) none

end Sys2Proof.Machine
end

