-- ==== Sys2Proof/Machine/Raore.lean ====
section
/-! DEFINITION. Raore link: access messages, their admission, the arbitration of a window, process data in and out, and the CAN
requests (R286, R332 to R338, R342 to R353). -/

namespace Sys2Proof.Machine

/-! ### Messages (R332, R333) -/

abbrev svcREAD : Nat := 0x01
abbrev svcWRITE : Nat := 0x02
abbrev svcREADPART : Nat := 0x03
abbrev svcPART : Nat := 0x04
abbrev svcLAST : Nat := 0x05
abbrev svcDESC : Nat := 0x06
abbrev svcREGISTER : Nat := 0x10
abbrev svcDEREGISTER : Nat := 0x11
abbrev svcTAKE : Nat := 0x12
abbrev svcRELEASE : Nat := 0x13

/-- The messages of a payload, back to back; one that runs past the payload is malformed. The first argument bounds their
number. -/
def parseMsgs : Nat → List Nat → List Msg
  | 0, _ => []
  | _, [] => []
  | n + 1, b =>
    let f (o k : Nat) := ofLeBytes ((b.drop o).take k)
    let len := f 5 1
    { service := f 0 1, tag := f 1 1, index := f 2 2, sub := f 4 1, data := (b.drop 6).take len,
      bad := decide (b.length < 6 + len) } :: parseMsgs n (b.drop (6 + len))

/-- The service is unknown, or its LEN disagrees with it; REGISTER and DEREGISTER are refused over CAN (R287, R333). -/
def Msg.malformed (m : Msg) (can : Bool) : Bool :=
  let n := m.data.length
  m.bad || decide (255 < n) ||
    !(if m.service = svcREAD ∨ m.service = svcDESC ∨ m.service = svcRELEASE then n == 0
      else if m.service = svcDEREGISTER then n == 0 && !can
      else if m.service = svcREGISTER then n == 1 && !can
      else if m.service = svcTAKE then n == 1
      else if m.service = svcREADPART then n == 6
      else if m.service = svcPART ∨ m.service = svcLAST then decide (4 ≤ n)
      else m.service == svcWRITE)

/-- The services an unregistered source may use (R344). -/
def Msg.openToAll (m : Msg) : Bool :=
  m.service == svcREAD || m.service == svcREADPART || m.service == svcDESC || m.service == svcREGISTER

/-- TYPE code of a type (R337). -/
def Ty.code : Ty → Nat
  | .bool => 0x01 | .u8 => 0x02 | .u16 => 0x03 | .u32 => 0x04 | .u64 => 0x05 | .i16 => 0x06 | .i32 => 0x07 | .i64 => 0x08
  | .coef => 0x0B | .time80 => 0x0C | .string => 0x0D | .domain => 0x0E

/-- ACCESS code of READ_DESC (R338). -/
def Access.code : Access → Nat
  | .ro => 0 | .rw => 1 | .rws => 2 | .rwc => 3 | .wo => 4

/-- APPLIES code of READ_DESC (R338). -/
def Applies.code : Applies → Nat
  | .none => 0 | .write => 1 | .configure => 2 | .loop => 4 | .segment => 5 | .frame => 6 | .layer => 7 | .mode => 8

/-- The reply data of READ_DESC of a row. -/
def descBytes (r : Row) : List Nat :=
  [Ty.code r.ty, Access.code r.access, Applies.code r.applies, 0] ++ leBytes 2 ((tySize r.ty).getD 4096)

/-- TYPE and size of an object the manual does not describe, 0x5000 to 0x5FFF: one of the types of R337, the same in every
reply about the object; none for a STRING or DOMAIN (R337, R340; log entry 24). -/
def vendorType (index sub : Nat) : Nat × Option Nat :=
  let code := 1 + Config.vendorType (regKey index sub) % 14
  (code, [1, 1, 2, 4, 8, 2, 4, 8, 2, 4, 4, 10][code - 1]?)

/-- READ_DESC of such an object: it is read-only, as every write of it is refused with 0xA010 (R37, R338, R340). -/
def vendorDesc (index sub : Nat) : List Nat :=
  let t := vendorType index sub
  [t.1, Access.code .ro, Applies.code .none, 0] ++ leBytes 2 (t.2.getD 4096)

/-- The bytes such an object reads as: free, in the number of its type; a BOOL is 0x00 or 0x01, a STRING is ASCII (R337). -/
def State.vendorBytes (s : State) (index sub : Nat) : State × List Nat :=
  let t := vendorType index sub
  let r := s.fresh
  match t.2 with
  | some n => (r.2, leBytes n (if t.1 = 1 then r.1 % 2 else r.1))
  | none =>
    let c := r.2.fresh
    (c.2, (leBytes (r.1 % 4097) c.1).map fun x => if t.1 = 0x0D then x % 128 else x)

/-- A read of a value: the abort code and its bytes; `room` is how many bytes a READ may answer with, and `part` the range of a
READ_PART (R333, R340, R381). -/
def State.doRead (s : State) (index sub room : Nat) (part : Option (Nat × Nat)) : State × Nat × List Nat :=
  let cut (b : List Nat) : Nat × List Nat := match part with
    | some (o, n) => (0, leBytes 4 o ++ (b.drop o).take (min n (room - 4)))
    | none => if room < b.length then (0xA013, []) else (0, b)
  if 0x5000 ≤ index ∧ index < 0x6000 then
    let r := s.vendorBytes index sub
    (r.1, cut r.2)
  else if !Dict.hasIndex index then (s, 0xA001, [])
  else
    let k := regKey index sub
    if 256 ≤ sub ∨ (Dict.row? k).isNone then (s, 0xA002, [])
    else if k = Reg.memData then
      let r := s.memDataRead
      if r.2.1 ≠ 0 then r else (r.1, cut r.2.2)
    else (s, cut (s.valueBytes k))

/-- READ_DESC of a sub-entry: the abort code and the descriptor, where the reply has room for it (R286, R338). -/
def State.doDesc (s : State) (index sub room : Nat) : State × Nat × List Nat :=
  let fit (b : List Nat) : State × Nat × List Nat := if room < b.length then (s, 0xA013, []) else (s, 0, b)
  if 0x5000 ≤ index ∧ index < 0x6000 then fit (vendorDesc index sub)
  else if !Dict.hasIndex index then (s, 0xA001, [])
  else match (if sub < 256 then Dict.row? (regKey index sub) else none) with
    | none => (s, 0xA002, [])
    | some r => fit (descBytes r)

/-! ### Writes of masters (R334, R344) -/

/-- A write that only the holder of the token may make: PARK_CMD, and MODE_CMD but for HOLD (R344, R437). -/
def needsToken (k : Nat) (b : List Nat) : Bool := k == Reg.parkCmd || (k == Reg.modeCmd && b != [HOLD])

/-- The port an Ethernet source sends through. -/
def Source.portNo : Source → Option Nat
  | .eth _ p => some p
  | .can => none

/-- A write by MASTER_n: the abort code. -/
def State.masterWrite (s : State) (n : Nat) (src : Source) (index sub : Nat) (b : List Nat) : State × Nat :=
  if needsToken (regKey index sub) b && s.rd Reg.tokenHolder != n then (s, 0xA021)
  else s.doWrite index sub b src.portNo

/-- The assembly buffer of MASTER_n becomes empty. -/
def State.dropAsm (s : State) (n : Nat) : State := s.modMaster n fun m => { m with asm := [], asmKey := 0 }

/-- The most bytes that parts for a sub-entry assemble: the largest size of its type, at most 4,096; none where there is no such
sub-entry (R334). -/
def partLimit (index sub : Nat) : Option Nat :=
  if 0x5000 ≤ index ∧ index < 0x6000 then some 4096
  else (if sub < 256 then Dict.row? (regKey index sub) else none).map fun r => (tySize r.ty).getD 4096

/-- WRITE_PART or WRITE_LAST of MASTER_n: the abort code (R334). -/
def State.writePart (s : State) (n : Nat) (src : Source) (index sub : Nat) (d : List Nat) (last : Bool) : State × Nat :=
  let k := regKey index sub
  let m := s.master n
  let have_ := if m.asmKey = k ∧ s.lt ≤ m.asmLt + ns 100000000 then m.asm else []
  let off := ofLeBytes (d.take 4)
  let body := d.drop 4
  let all := have_ ++ body
  let s := s.dropAsm n
  let vendor : Bool := decide (0x5000 ≤ index) && decide (index < 0x6000)
  if !vendor ∧ !Dict.hasIndex index then (s, 0xA001)
  else
    match partLimit index sub with
    | none => (s, 0xA002)
    | some size =>
      if off ≠ have_.length ∨ size < all.length then (s, 0xA013)
      else if last then s.masterWrite n src index sub all
      else (s.modMaster n fun x => { x with asmKey := k, asm := all, asmLt := s.lt }, 0)

/-- One message is served: the abort code and the reply data (R347). `room` bounds the data a reply can carry. -/
def State.serve (s : State) (src : Source) (ts : Lt) (room : Nat) (m : Msg) : State × Nat × List Nat :=
  if m.malformed (src == .can) then (s, 0xA003, [])
  else
    let done (r : State × Nat) : State × Nat × List Nat := (r.1, r.2, [])
    match s.masterOf src with
    | none =>
      if m.service = svcREGISTER then
        match src with
        | .eth mac p => s.register mac p (m.data.headD 0) ts
        | .can => (s, 0xA003, [])
      else if m.service = svcREAD then s.doRead m.index m.sub room none
      else if m.service = svcREADPART then
        s.doRead m.index m.sub room (some (ofLeBytes (m.data.take 4), ofLeBytes (m.data.drop 4)))
      else if m.service = svcDESC then s.doDesc m.index m.sub room
      else (s, 0xA022, [])
    | some n =>
      if m.service = svcREAD then s.doRead m.index m.sub room none
      else if m.service = svcREADPART then
        s.doRead m.index m.sub room (some (ofLeBytes (m.data.take 4), ofLeBytes (m.data.drop 4)))
      else if m.service = svcDESC then s.doDesc m.index m.sub room
      else if m.service = svcWRITE then done (s.masterWrite n src m.index m.sub m.data)
      else if m.service = svcPART then done (s.writePart n src m.index m.sub m.data false)
      else if m.service = svcLAST then done (s.writePart n src m.index m.sub m.data true)
      else if m.service = svcREGISTER then
        match src with
        | .eth mac p => s.register mac p (m.data.headD 0) ts
        | .can => (s, 0xA003, [])
      else if m.service = svcDEREGISTER then (s.deregister n 0, 0, [])
      else if m.service = svcTAKE then done (s.tokenTake n (m.data.headD 0))
      else done (s.tokenRelease n)

/-- A message of a source has been received: its master's REQUEST_COUNT counts it (R355). -/
def State.countMsg (s : State) (src : Source) (n : Nat) : State :=
  match s.masterOf src with
  | some k => s.wr (Reg.requestCount k) ((s.rd (Reg.requestCount k) + n) % 2 ^ 32)
  | none => s

/-- A frame of a source was seen at the present LT. -/
def State.seenFrom (s : State) : Source → State
  | .eth mac p => s.seen mac p s.lt
  | .can => match s.canSlot with
    | some n => (s.wr (Reg.lastSeenLt n) (time80 s.lt)).modMaster n fun m => { m with lastSeen := s.lt }
    | none => s

/-- The data a reply can carry: 255 bytes, or what is left of a CAN FD or a classical frame behind the message's six bytes
(R286, R332). -/
def replyRoom (src : Source) (m : Msg) : Nat := if src = .can then (if m.classical then 2 else 58) else 255

/-! ### Admission (R345, R347) -/

/-- Requests held, but for the ends of PD_OUT frames. -/
def State.heldCount (s : State) : Nat := (s.net.held.filter fun (r : Request) => r.msg.service != 0).length

/-- The abort code of a message at admission, 0 where it is held. -/
def State.admitCode (s : State) (src : Source) (m : Msg) (pos : Nat) : Nat :=
  if 16 ≤ pos ∨ m.malformed (src == .can) then 0xA003
  else if (s.masterOf src).isNone ∧ !m.openToAll then 0xA022
  else if 64 ≤ s.heldCount then 0xA040
  else 0

/-- One message of a frame is held, or answered with its refusal. -/
def State.admitMsg (s : State) (src : Source) (ts : Lt) (frame pos : Nat) (m : Msg) : State :=
  let c := s.admitCode src m pos
  s.modNet fun n =>
    if c = 0 then
      let r : Request := { ts := ts, src := src, frame := frame, pos := pos, msg := m }
      { n with held := n.held ++ [r] }
    else
      let a : Answer := { frame := frame, pos := pos, src := src, msg := m, code := c, data := [] }
      { n with answers := n.answers ++ [a] }

/-- The bytes of the reply to a message (R332). -/
def Answer.bytes (a : Answer) : List Nat :=
  let d := if a.code = 0 then a.data else leBytes 2 a.code
  [Nat.lor (a.msg.service % 64) (if a.code = 0 then 0x80 else 0xC0), a.msg.tag] ++ leBytes 2 a.msg.index ++
    [a.msg.sub, d.length] ++ d

/-- Puts an answer before the first that stands later in the frame. -/
def insertAnswer (a : Answer) : List Answer → List Answer
  | [] => [a]
  | b :: l => if a.pos < b.pos then a :: b :: l else b :: insertAnswer a l

/-- A message of the CAN port in the frame format of the request that it answers (R285, R286). -/
def State.canFrame (s : State) (m : Msg) (data : List Nat) : CanFrame :=
  let rate := if m.brs then ([0, 2000, 4000, 5000] : List Nat).getD (s.rd Reg.canDataRate) 0 else 0
  { id := s.rd Reg.canRspId, fd := !m.classical, brs := m.brs, esi := !m.classical && bitAt (s.rd Reg.canStatus) 1,
    nominal := ([500, 1000, 250] : List Nat).getD (s.rd Reg.canNomRate) 1000, dataRate := rate, delayComp := decide (2000 ≤ rate),
    data := data }

/-- The bytes of replies in frames of at most 1,492 bytes, whole replies in their order (R327; log entry 108). -/
def replyLoads : List (List Nat) → List (List Nat)
  | [] => []
  | b :: l =>
    match replyLoads l with
    | c :: r => if b.length + c.length ≤ 1492 then (b ++ c) :: r else b :: c :: r
    | [] => [b]

/-- The reply of a frame leaves, once none of its messages is held: on the port of the request (R331, R335), or on CAN. -/
def State.replyFrame (s : State) (f : Nat) : State :=
  if s.net.held.any fun (r : Request) => r.frame == f then s else
    let l := (s.net.answers.filter fun (a : Answer) => a.frame == f).foldl (fun l a => insertAnswer a l) []
    let s := s.modNet fun n => { n with answers := n.answers.filter fun (a : Answer) => a.frame != f }
    match l with
    | [] => s
    | a :: _ =>
      match a.src with
      | .eth mac p =>
        (replyLoads (l.map Answer.bytes)).foldl (init := s) fun s b =>
          let r := s.ownFrame 4 mac b
          r.1.sendFrame p r.2 r.1.lt
      | .can => State.canSent (s.modNet fun n => { n with canReply := some (s.canFrame a.msg (l.flatMap Answer.bytes)) })

/-- The replies of every frame that has been answered leave, in order of arrival. -/
def State.replies (s : State) : State :=
  (s.net.answers.map fun (a : Answer) => a.frame).eraseDups.foldl State.replyFrame s

/-- The messages of a frame are admitted one by one. -/
def State.admitFrame (s : State) (src : Source) (ts : Lt) (ms : List Msg) : State :=
  let f := s.net.frameNo
  let s := s.modNet fun n => { n with frameNo := f + 1 }
  let s := s.countMsg src ms.length
  let s := ((List.range ms.length).zip ms).foldl (fun s (x : Nat × Msg) => s.admitMsg src ts f x.1 x.2) s
  s.replyFrame f

/-- ACCESS: an ACCESS frame of an Ethernet source on port p. The command stands at the frame's timestamp of R309, so that a request
is held before its window closes (R345; log entry 68). -/
def State.accessFrame (s : State) (mac p : Nat) (payload : List Nat) : State :=
  if s.portParked p ∨ 1 < p then s else
    let s := s.seen mac p s.lt
    s.admitFrame (.eth mac p) s.lt (parseMsgs (payload.length + 1) payload)

/-- A CAN frame is one the port serves: a base-format data frame with CAN_REQ_ID of a length its format has; bit rates switch in
CAN FD frames only, and not where CAN_DATA_RATE says no switch. Every other frame is acknowledged and ignored (R285, R286). -/
def State.canTakes (s : State) (h : CanHead) (n : Nat) : Bool :=
  bitAt (s.rd Reg.canStatus) 0 && h.plain && h.id == s.rd Reg.canReqId && decide (0 < n) && decide (n ≤ if h.fd then 64 else 8) &&
    (!h.brs || h.fd && s.rd Reg.canDataRate != 0)

/-- CAN_REQUEST: a frame with one message (R286). -/
def State.canRequest (s : State) (h : CanHead) (payload : List Nat) : State :=
  let s := s.canReceived
  if !s.canTakes h payload.length then s else
    let s := s.seenFrom .can
    let ms := (parseMsgs 1 payload).map fun (m : Msg) =>
      { m with bad := m.bad || decide (payload.length ≠ 6 + m.data.length) && !h.fd, classical := !h.fd, brs := h.brs }
    s.admitFrame .can s.lt ms

/-! ### Process data out (R351) -/

/-- The values of a PD_OUT payload as writes, in map order. -/
def pdValues : List Nat → List Nat → List Msg
  | [], _ => []
  | e :: l, b =>
    match pdEntry e with
    | some (k, n) => { service := svcWRITE, tag := 0, index := keyIndex k, sub := keySub k, data := b.take n } :: pdValues l (b.drop n)
    | none => pdValues l b

/-- PD_OUT: a PD_OUT frame of an Ethernet source, at its timestamp of R309 (R351; log entry 68). -/
def State.pdOut (s : State) (mac p seq : Nat) (payload : List Nat) : State :=
  if s.portParked p ∨ 1 < p then s else
    let s := s.seen mac p s.lt
    let map := s.pdMap Reg.pdOutMap
    match s.ethMaster mac with
    | none => s.bump 32 Reg.pdOutDropped
    | some n =>
      if payload.length ≠ pdMapBytes map then
        let first := !(s.master n).pdDropping
        let s := (s.bump 32 Reg.pdOutDropped).modMaster n fun m => { m with pdDropping := true }
        s.raiseIf first 0x3908 cMASTER n (dU 4 payload.length)
      else
        let f := s.net.frameNo
        let s := (s.modNet fun x => { x with frameNo := f + 1 }).modMaster n fun m => { m with pdDropping := false }
        let ts := s.lt
        let req (pos : Nat) (m : Msg) : Request :=
          { ts := ts, src := .eth mac p, frame := f, pos := pos, msg := m, pd := true, pdSeq := seq }
        let vs := pdValues map payload
        let r := ((List.range vs.length).zip vs).foldl (init := (s, 0)) fun (x : State × Nat) (y : Nat × Msg) =>
          if 64 ≤ x.1.heldCount then (x.1.bump 32 Reg.pdOutRefused, 1)
          else (x.1.modNet fun n => { n with held := n.held ++ [req y.1 y.2] }, x.2)
        let mark : Msg := { service := 0, tag := r.2, index := 0, sub := 0, data := [] }
        r.1.modNet fun n => { n with held := n.held ++ [req vs.length mark] }

/-! ### Arbitration (R346) -/

/-- A request of a window as the arbitration sees it: its place, its master, and what it writes. -/
structure Claim where
  place : Nat
  slot : Nat
  req : Request
  token : Bool                           -- a TOKEN_TAKE
  key : Nat
  value : List Nat
  deriving DecidableEq, Repr, Inhabited

/-- The value a WRITE_LAST will submit: the buffer of its master, then the parts held before it in the window; none where they
are out of sequence or too long (R334). -/
def State.assembled (s : State) (n : Nat) (before : List Request) (r : Request) : Option (List Nat) :=
  let k := regKey r.msg.index r.msg.sub
  let m := s.master n
  let start := if m.asmKey = k ∧ s.lt ≤ m.asmLt + ns 100000000 then m.asm else []
  let room := (partLimit r.msg.index r.msg.sub).getD 0
  let all := before.foldl (init := start) fun (have_ : List Nat) (q : Request) =>
    if s.masterOf q.src ≠ some n ∨ !(q.msg.service == svcPART || q.msg.service == svcLAST) then have_
    else if regKey q.msg.index q.msg.sub ≠ k ∨ q.msg.service = svcLAST ∨ ofLeBytes (q.msg.data.take 4) ≠ have_.length then []
    else if room < (have_ ++ q.msg.data.drop 4).length then []
    else have_ ++ q.msg.data.drop 4
  let value := all ++ r.msg.data.drop 4
  if ofLeBytes (r.msg.data.take 4) = all.length ∧ value.length ≤ room then some value else none

/-- The claims of a window. -/
def State.claims (s : State) (l : List Request) : List Claim :=
  ((List.range l.length).zip l).filterMap fun (x : Nat × Request) =>
    let r := x.2
    match s.masterOf r.src with
    | none => none
    | some n =>
      let c : Claim := { place := x.1, slot := n, req := r, token := false, key := regKey r.msg.index r.msg.sub, value := r.msg.data }
      if r.msg.service = svcWRITE then some c
      else if r.msg.service = svcLAST then (s.assembled n (l.take x.1) r).map fun v => { c with value := v }
      else if r.msg.service = svcTAKE then some { c with token := true, key := 0, value := [] }
      else none

/-- Two claims contend for one thing. -/
def Claim.meets (x y : Claim) : Bool := x.token == y.token && x.key == y.key

/-- The safety class of a claim (R346). -/
def Claim.safety (c : Claim) : Nat :=
  let v := ofLeBytes c.value
  if c.token then 1
  else if c.key = Reg.modeCmd then (if v = HOLD then 2 else if v = TRACK ∨ v = SERVO ∨ v = BUILD then 0 else 1)
  else if c.key = Reg.parkCmd then (if bitsAt v 24 8 = 1 then 2 else if bitsAt v 24 8 = 2 then 0 else 1)
  else if (List.range 16).any fun l => c.key == Reg.streamCmd l then
    (if bitsAt v 24 8 = 1 then 0 else if bitsAt v 24 8 = 2 ∨ bitsAt v 24 8 = 3 then 2 else 1)
  else 1

/-- Claim x wins over y: the higher class, the higher rank, the earlier timestamp, the lower master, the earlier arrival. -/
def State.winsOver (s : State) (x y : Claim) : Bool :=
  let r (c : Claim) := s.rd (Reg.masterRank c.slot)
  if x.safety ≠ y.safety then decide (y.safety < x.safety)
  else if r x ≠ r y then decide (r y < r x)
  else if x.req.ts ≠ y.req.ts then decide (x.req.ts < y.req.ts)
  else if x.slot ≠ y.slot then decide (x.slot < y.slot)
  else decide (x.place < y.place)

/-- The slot a claim loses to, where it loses. -/
def State.losesTo (s : State) (cs : List Claim) (c : Claim) : Option Nat :=
  let set := cs.filter fun (d : Claim) => d.meets c
  let fight := set.any fun (x : Claim) => set.any fun (y : Claim) => x.slot != y.slot && (x.token || x.value != y.value)
  if !fight then none else
    match set.find? fun (x : Claim) => set.all fun (y : Claim) => x.place == y.place || s.winsOver x y with
    | none => none
    | some w => if c.place = w.place ∨ (!c.token ∧ c.value = w.value) then none else some w.slot

/-! ### The close of a window (R345, R347) -/

/-- Requests in the order in which they take effect: by timestamp, then by master number, then by arrival. -/
def State.insertRequest (s : State) (x : Nat × Request) : List (Nat × Request) → List (Nat × Request)
  | [] => [x]
  | y :: l =>
    let n (z : Nat × Request) := (s.masterOf z.2.src).getD 4
    if x.2.ts < y.2.ts ∨ (x.2.ts = y.2.ts ∧ n x < n y) then x :: y :: l else y :: s.insertRequest x l

/-- A message that reads or writes MEM_DATA. -/
def Msg.ofMemData (m : Msg) : Bool :=
  regKey m.index m.sub == Reg.memData &&
    (m.service == svcREAD || m.service == svcREADPART || m.service == svcWRITE || m.service == svcLAST)

/-- Requests wait for a frequency switch to end: a request of MEM_DATA while it runs, and behind a held one every later request of
the same master, and of the others those that read MEM_DATA or write it or MEM_ADDR, so that each meets the MEM_ADDR of its own
turn (R345, R381, R419; log entry 68). -/
def State.memHeld (s : State) (src : Source) (m : Msg) : Bool :=
  s.memState == memSWITCHING && m.ofMemData ||
    s.net.held.any fun (q : Request) => q.won &&
      (q.src == src || (s.masterOf src).isSome && s.masterOf q.src == s.masterOf src || m.ofMemData ||
        regKey m.index m.sub == Reg.memAddr && m.service == svcWRITE)

/-- The end of a PD_OUT frame: its values have completed (R350, R351). -/
def State.pdOutEnd (s : State) (r : Request) : State :=
  let bad := s.net.pdRefusedNow || r.msg.tag == 1
  let n := (s.masterOf r.src).getD 0xFF
  let s := s.bumpWrap 32 Reg.pdOutApplied
  s.modNet fun x => { x with pdOutSeq := r.pdSeq, pdOutMaster := n, pdOutResult := bit bad, pdRefusedNow := false }

/-- One request takes effect, or is refused as the loser of an arbitration. -/
def State.serveRequest (s : State) (loser : Option Nat) (r : Request) : State :=
  if r.pd ∧ r.msg.service = 0 then s.pdOutEnd r
  else
    let x : State × Nat × List Nat :=
      match loser, s.masterOf r.src with
      | some w, some n =>
        let s := (s.bump 32 (Reg.arbLostCount n)).raise 0x3907 cMASTER n (dU 1 w ++ dU 2 r.msg.index ++ dU 1 r.msg.sub)
        (if r.msg.service = svcLAST then s.dropAsm n else s, 0xA020, [])
      | some _, none => (s, 0xA020, [])
      | none, _ => s.serve r.src r.ts (replyRoom r.src r.msg) r.msg
    if r.pd then
      if x.2.1 = 0 then x.1 else (x.1.bump 32 Reg.pdOutRefused).modNet fun n => { n with pdRefusedNow := true }
    else
      x.1.modNet fun n =>
        let a : Answer := { frame := r.frame, pos := r.pos, src := r.src, msg := r.msg, code := x.2.1, data := x.2.2 }
        { n with answers := n.answers ++ [a], reply := { abort := x.2.1, data := x.2.2 } }

/-- The requests of one window are resolved together; `errs` is what reads of external memory find wrong. -/
def State.resolve (s : State) (errs : List MemErr) (l : List Request) : State :=
  let cs := s.claims l
  let order := ((List.range l.length).zip l).foldl (fun acc (x : Nat × Request) => s.insertRequest x acc) []
  order.foldl (init := s) fun s (x : Nat × Request) =>
    let loser := match cs.find? fun (c : Claim) => c.place == x.1 with | some c => s.losesTo cs c | none => none
    if loser.isNone && s.memHeld x.2.src x.2.msg then
      s.modNet fun n => { n with held := n.held ++ [{ x.2 with won := true, errs := errs }] }
    else s.serveRequest loser x.2

/-- HOST reads of external memory find `errs` wrong while `f` runs. -/
def State.finding (s : State) (errs : List MemErr) (f : State → State) : State :=
  (f (s.modMem fun m => { m with found := errs })).modMem fun m => { m with found := [], spoiled := false }

/-- A LOOP boundary of ENGINE_0 at `b` closes the window before it: the requests stamped before `b`, but for those that wait for
the memory, which have been arbitrated in their own windows. -/
def State.closeWindow (s : State) (b : Lt) (errs : List MemErr) : State :=
  let mine (r : Request) : Bool := !r.won && decide (r.ts < b)
  let l := s.net.held.filter mine
  if l.isEmpty then s.modMem fun m => { m with spoiled := false } else
    let s := s.modNet fun n => { n with held := n.held.filter fun r => !mine r }
    (s.finding errs fun s => s.resolve errs l).replies

/-! ### Requests served by themselves, and those that a switch had held (R335, R381, R419) -/

/-- A request that stands in no frame takes effect: a write of bytes, however long, a read of MEM_DATA, of which all data can be
told, or another message (R333, R334, R381). -/
def State.serveWhole (s : State) (src : Source) (m : Msg) : State × Nat × List Nat :=
  if m.service = svcWRITE ∧ 255 < m.data.length ∨ m.service = svcWRITE ∧ m.ofMemData then
    match s.masterOf src with
    | none => (s, 0xA022, [])
    | some n =>
      let r := s.masterWrite n src m.index m.sub m.data
      (r.1, r.2, [])
  else if m.service = svcREAD ∧ m.ofMemData then s.memDataRead
  else s.serve src s.lt (replyRoom src m) m

/-- A request that waited for the memory takes effect; one that stood in no frame leaves its answer in `released`. -/
def State.serveHeld (s : State) (r : Request) : State :=
  let go (s : State) : State :=
    if r.alone then
      let x := s.serveWhole r.src r.msg
      let a : Reply := { abort := x.2.1, data := x.2.2 }
      x.1.modNet fun n => { n with reply := a, released := n.released ++ [(r.src, a)] }
    else s.serveRequest none r
  ((s.modMem fun m => { m with spoiled := r.spoiled }).finding r.errs go)

/-- The requests that waited for the memory proceed in their order, once it has become READY or has FAILED, and their replies
leave (R335, R381, R388). -/
def State.releaseHeld (s : State) : State :=
  if s.memState = memSWITCHING ∨ s.memState = memTRAINING ∨ !(s.net.held.any fun (r : Request) => r.won) then s else
    let l := s.net.held.filter fun (r : Request) => r.won
    let s := s.modNet fun n => { n with held := n.held.filter (fun (r : Request) => !r.won), released := [] }
    (l.foldl State.serveHeld s).replies

/-- A request served by itself that has to wait for the memory is held, and its reply with it (R335, R381). -/
def State.holdAlone (s : State) (src : Source) (m : Msg) (errs : List MemErr) : State :=
  s.modNet fun n =>
    { n with
      frameNo := n.frameNo + 1
      held := n.held ++ [{ ts := s.lt, src := src, frame := n.frameNo, pos := 0, msg := m, won := true, alone := true, errs := errs }] }

/-- One message served by itself, outside a frame: its answer stays in the state. -/
def State.message (s : State) (src : Source) (m : Msg) : State :=
  let s := (s.seenFrom src).countMsg src 1
  if s.memHeld src m then s.holdAlone src m [] else
    let r := s.serve src s.lt (replyRoom src m) m
    r.1.answer r.2.1 r.2.2

/-- LOOP_BOUNDARY: the boundary, and for ENGINE_0 the close of its window, with what HOST reads find wrong as unit 16. -/
def State.loopStep (s : State) (t : Nat) (sram : List SramErr) (grid : List (Nat × MemErr)) : State :=
  if 8 ≤ t then s else
    let s := s.loopBoundary t sram grid
    if t = 0 then
      s.closeWindow ((s.engine 0).lastLoop.getD 0) ((grid.filter fun (e : Nat × MemErr) => e.1 == 16).map (·.2))
    else s.modMem fun m => { m with spoiled := false }

/-! ### Process data in (R349, R350) -/

/-- The 12 bytes of the record of an axis. -/
def pdAxisRecord (w : Words) : List Nat :=
  leBytes 4 (w.angle * 256 + w.status % 256) ++ leBytes 4 (ofSigned 32 w.speed) ++ leBytes 2 (ofSigned 16 w.turns) ++
    [w.status / 256 % 256, 0]

/-- The PD_IN payload copied at the present LT. -/
def State.pdInPayload (s : State) : List Nat :=
  let ws := (List.range 48).map fun a => s.wordsAt a s.lt
  let age (t : Nat) : Nat :=
    let tag := ((axesOf t).map fun a => (ws.getD a {}).tag).foldl max 0
    min 65535 (lateNs tag s.lt)
  leBytes 10 (time80 s.lt) ++ leBytes 4 s.net.pdSeqSent ++ [s.modeCode, s.rd Reg.tokenHolder] ++ leBytes 2 s.net.pdOutSeq ++
    [s.net.pdOutMaster, s.net.pdOutResult] ++ ((List.range 8).flatMap fun t => leBytes 2 (age t)) ++
    leBytes 6 (s.rd Reg.pdInAxes) ++ List.replicate 6 0 ++ (s.pdAxes.flatMap fun a => pdAxisRecord (ws.getD a {})) ++
    ((s.pdMap Reg.pdInMap).flatMap fun e => s.valueBytes (e / 256))

/-- PD_IN_SNAPSHOT: 300 ns after the latest boundary of ENGINE_0, where it qualifies and has not been taken. -/
def State.pdInSnapshot (s : State) : State :=
  match (s.engine 0).lastLoop with
  | none => s
  | some b =>
    let cycle := ns (s.rd Reg.pdInPeriod * s.loopNs 0)
    if bitAt (s.rd Reg.pdInEnable) 0 ∧ s.inRunOrHold ∧ b % cycle = 0 ∧ s.net.pdTaken ≠ some b then
      let s := s.goTo (b + ns 300)
      let data := s.pdInPayload
      let seq := s.net.pdSeqSent
      let s := (s.wr Reg.pdInSeq seq).modNet fun n => { n with pdSeqSent := (seq + 1) % 2 ^ 32, pdTaken := some b }
      let r := s.ownFrame 2 (s.rd Reg.pdInDest) data
      (r.1.sendFrame 0 r.2 r.1.lt).sendFrame 1 r.2 r.1.lt
    else s

end Sys2Proof.Machine
end

