-- ==== Sys2Proof/Machine/Common.lean ====
section
/-! DEFINITION. What the meanings of the commands share: when a command is heard, how LT reaches its instant, and what ends
every command. -/

namespace Sys2Proof.Machine

/-- The end of every command: monitoring results that are ready reach their consumers, emulators follow the mode and the words that
have reached them, calibration and a transition go on where what they waited for has come, and faults meet the lock-keeper. -/
def State.done (s : State) : State := s.monReady.encFollow.encWords.calAdvance.settleMode.finish

/-- LT has come to the instant of a command: what has fallen due by then is acted on before it. -/
def State.arrive (s : State) : State := s.monReady.detect

/-- What a command that is no reset command leaves: the queue, and what holds the device in reset, are not its to change. -/
def State.keep (s r : State) : State :=
  { r with
    pending := s.pending
    mode := { r.mode with inReset := s.mode.inReset, resetPinLow := s.mode.resetPinLow, supplyBad := s.mode.supplyBad } }

/-- A command that acts in every mode; in reset the device does nothing (R443, R444). -/
def State.alive (s : State) (f : State → State) : State := if s.mode.inReset then s else s.keep (f s).done

/-- A command of a unit that is off in reset and in INIT (R89, R444). -/
def State.up (s : State) (f : State → State) : State := if s.pinsAct then s.keep (f s).done else s

/-- A command `dt` core cycles after the one before it, which acts in every mode. -/
def State.aliveAt (s : State) (dt : Nat) (f : State → State) : State :=
  s.alive fun s => f (s.advance dt).arrive

/-- A command `dt` core cycles after the one before it; in INIT only LT goes on. -/
def State.upAt (s : State) (dt : Nat) (f : State → State) : State :=
  s.alive fun s =>
    let s := (s.advance dt).arrive
    if s.modeCode = INIT then s else f s

/-- An edge of HOLD_N, CLEAR_AX_N, CLEAR_LM_N or PFAIL_N. In reset and in INIT only the level is kept, for the completion of
INIT (R493); an edge to the level the pin has is none. -/
def State.pinEdge (s : State) (dt : Nat) (changes : Bool) (mark : ModeSt → ModeSt) (act : State → State) : State :=
  if s.mode.inReset then s.keep (s.modMode mark)
  else s.alive fun s =>
    let s := s.advance dt
    if s.modeCode = INIT then s.modMode mark else if changes then act s.arrive else s.arrive

/-- A source is heard: its port is in service, or the CAN port is enabled (R285, R426). -/
def State.heard (s : State) : Source → Bool
  | .eth _ p => decide (p < 2) && !s.portParked p
  | .can => bitAt (s.rd Reg.canStatus) 0

/-- One message, served by itself. -/
def State.serveAlone (s : State) (src : Source) (m : Msg) : State := if s.heard src then s.message src m else s

/-- A write of bytes of a source, served by itself: in one WRITE, or assembled from parts where it is longer (R333, R334). -/
def State.hostWriteBytes (s : State) (src : Source) (k : Nat) (b : List Nat) : State :=
  if !s.heard src then s else
    let s := (s.seenFrom src).countMsg src 1
    let m : Msg := { service := svcWRITE, tag := 0, index := keyIndex k, sub := keySub k, data := b }
    match s.masterOf src with
    | none => s.answer 0xA022 []
    | some n =>
      if s.memHeld src m then s.holdAlone src m s.memPort.found else
        let r := s.masterWrite n src (keyIndex k) (keySub k) b
        r.1.answer r.2 []

/-- A write of an `n`-byte value, served by itself. -/
def State.hostWriteAs (s : State) (src : Source) (k n v : Nat) : State := s.hostWriteBytes src k (leBytes n v)

/-- A write to an object of unit `i` of `count`; there is no object of a unit beyond them. -/
def State.hostWriteIn (s : State) (src : Source) (count i k n v : Nat) : State :=
  if i < count then s.hostWriteAs src k n v else s

/-- Size of POUND_COMMIT of a pound: an engine's selects scopes and takes two bytes (R50, R52). -/
def poundBytes (p : Nat) : Nat := if 48 ≤ p ∧ p < 56 then 2 else 1

/-- The word that commits (1) or discards (2) a pound by itself (R50, R52). -/
def poundWord (p v : Nat) : Nat := if 48 ≤ p ∧ p < 56 then (if v = 1 then 1 else 257) else v

/-- SAMPLE_INSTANT: all ADCs convert, and the taps of the sample-rate points follow (R15, R462). -/
def State.sampleInstant (s : State) (adc pins : List (Nat × Int)) (drops : List Nat) : State :=
  let s := s.sampleTiles s.lastSample adc pins
  { s with lastSample := some s.lt }.tapSamples s.lt drops

/-- DEMOD_OUTPUT of TILE_t: its words are formed, and distributed to taps, frame tags and emulators (R13, R267, R367, R462). -/
def State.demodOutput (s : State) (t : Nat) (drops : List Nat) : State :=
  if 8 ≤ t then s else
    let s := s.demodNext t
    let td := ((s.tile t).lastDemod).getD s.lt
    ((s.tapDemod t td drops).snapTags t td).encOutputs t td

/-- EVENT_ACK from an Ethernet source on a port that is in service. -/
def State.eventAckFrom (s : State) (mac port ack : Nat) : State :=
  if s.heard (.eth mac port) then s.eventAck mac port ack else s

/-- A write of MEM_DATA by a source; `errs` is what its read-modify-write finds wrong (R38, R381, R392). -/
def State.memDataWriteBy (s : State) (src : Source) (b : List Nat) (errs : List MemErr) : State :=
  s.finding errs fun s => s.hostWriteBytes src Reg.memData b

/-- A read of MEM_DATA by a source, with what it finds wrong; the data are those of a READ_PART, so that all of them can be told
(R333, R381, R392). -/
def State.memDataReadBy (s : State) (src : Source) (errs : List MemErr) : State :=
  if !s.heard src then s else
    let s := (s.seenFrom src).countMsg src 1
    let m : Msg := { service := svcREAD, tag := 0, index := keyIndex Reg.memData, sub := keySub Reg.memData, data := [] }
    if s.memHeld src m then s.holdAlone src m errs else
      s.finding errs fun s =>
        let r := s.memDataRead
        r.1.answer r.2.1 r.2.2

end Sys2Proof.Machine
end

