-- ==== Sys2Proof/Machine/ActionCmds.lean ====
section
/-! DEFINITION. The meanings of the commands of the actions of the scheduler (R313). -/

namespace Sys2Proof.Machine

/-- GATE_OPEN (R313). -/
def execGateOpen (laser : Nat) (s : State) : Host.Outcome State Fault Refusal :=
  .next (s.up fun s => s.execAction laser .gateOpen)

/-- GATE_CLOSE (R313). -/
def execGateClose (laser : Nat) (s : State) : Host.Outcome State Fault Refusal :=
  .next (s.up fun s => s.execAction laser .gateClose)

/-- LMO_WRITE (R313). -/
def execLmoWrite (laser : Nat) (s : State) : Host.Outcome State Fault Refusal :=
  .next (s.up fun s => s.execAction laser .lmoWrite)

/-- PROFILE_START (R254). -/
def execProfileStart (laser : Nat) (s : State) : Host.Outcome State Fault Refusal :=
  .next (s.up fun s => s.execAction laser .profileStart)

/-- PROFILE_SAMPLE (R254). -/
def execProfileSample (laser : Nat) (s : State) : Host.Outcome State Fault Refusal :=
  .next (s.up fun s => s.playSample laser)

/-- CT_ASSERT (R363). -/
def execCtAssert (cam : Nat) (s : State) : Host.Outcome State Fault Refusal :=
  .next (s.up fun s => s.ctAssert cam)

/-- CT_RELEASE (R363). -/
def execCtRelease (cam : Nat) (s : State) : Host.Outcome State Fault Refusal :=
  .next (s.up fun s => s.ctRelease cam)

/-- LATCH (R313). -/
def execLatch (s : State) : Host.Outcome State Fault Refusal :=
  .next (s.up fun s => s.hostDue 1)

/-- CAPTURE (R465). -/
def execCapture (s : State) : Host.Outcome State Fault Refusal :=
  .next (s.up fun s => s.hostDue 2)

/-- MARK_EVENT (R313). -/
def execMarkEvent (s : State) : Host.Outcome State Fault Refusal :=
  .next (s.up fun s => s.hostDue 3)

end Sys2Proof.Machine
end

