-- ==== Sys2Proof/Machine/ClockCmds.lean ====
section
/-! DEFINITION. The meanings of the commands of the sample PLL and the step of LT (R295, R301). -/

namespace Sys2Proof.Machine

/-- SAMPLE_PLL_LOCK_LOSS (R295). -/
def execSamplePllLockLoss (dt : Nat) (ps : Int) (s : State) : Host.Outcome State Fault Refusal :=
  .next (s.upAt dt fun s => s.pllLoss ps)

/-- REALIGN_COMPLETE (R295). -/
def execRealignComplete (dt : Nat) (s : State) : Host.Outcome State Fault Refusal :=
  .next (s.up fun s => s.realignDone dt)

/-- LT_STEP (R301). -/
def execLtStep (dt : Nat) (s : State) : Host.Outcome State Fault Refusal :=
  .next (s.upAt dt fun s => s.ltStep.pushSince s)

/-- SAMPLE_PLL_LOCKED (R295). -/
def execSamplePllLocked (dt : Nat) (s : State) : Host.Outcome State Fault Refusal :=
  .next (s.upAt dt fun s => s.pllLocked)

end Sys2Proof.Machine
end

