-- ==== Sys2Proof/Machine/EventCmds.lean ====
section
/-! DEFINITION. The meanings of the commands of the event log and the end of LASER_SAFE (R404, R412). -/

namespace Sys2Proof.Machine

/-- EVENT_ADMIT (R404). -/
def execEventAdmit (s : State) : Host.Outcome State Fault Refusal :=
  .next (s.up fun s => s.eventAdmit.pushNew)

/-- LASER_SAFE_COMPLETE (R412). -/
def execLaserSafeComplete (s : State) : Host.Outcome State Fault Refusal :=
  .next (s.up fun s => s.laserSafeDone)

end Sys2Proof.Machine
end

