-- ==== Sys2Proof/Machine/LegacyCmds.lean ====
section
/-! DEFINITION. The meanings of the commands of the legacy interfaces: encoder emulators, SSI, SPI, pulse inputs and CAN (chapter 10). -/

namespace Sys2Proof.Machine

/-- ENC_EDGE (R267). -/
def execEncEdge (enc : Nat) (s : State) : Host.Outcome State Fault Refusal :=
  .next (s.up fun s => s.encEdge enc)

/-- SAMPLE_N_FALL (R277). -/
def execSampleNFall (dt : Nat) (s : State) : Host.Outcome State Fault Refusal :=
  .next (s.upAt dt fun s => s.sampleEdgeNow)

/-- SSI_LATCH (R274). -/
def execSsiLatch (dt : Nat) (ssi : Nat) (s : State) : Host.Outcome State Fault Refusal :=
  .next (s.upAt dt fun s => s.ssiLatch ssi)

/-- SSI_TIMEOUT (R274). -/
def execSsiTimeout (ssi : Nat) (s : State) : Host.Outcome State Fault Refusal :=
  .next (s.up fun s => s.ssiTimeout ssi)

/-- READ_RECORDS (R280). -/
def execReadRecords (dt : Nat) (low : Nat) (first : Nat) (count : Nat) (clocks : SpiClocks)
    (s : State) : Host.Outcome State Fault Refusal :=
  .next (s.upAt dt fun s => s.spiRecords low first count clocks)

/-- READ_LATCH (R280). -/
def execReadLatch (dt : Nat) (low : Nat) (cmd : Nat) (arg1 : Nat) (arg2 : Nat) (clocks : SpiClocks)
    (s : State) : Host.Outcome State Fault Refusal :=
  .next (s.upAt dt fun s => s.spiLatch low cmd arg1 arg2 clocks)

/-- PULSE_EDGE (R282). -/
def execPulseEdge (dt : Nat) (pulse : Nat) (a : PinSeen) (b : PinSeen) (s : State) : Host.Outcome State Fault Refusal :=
  .next (s.upAt dt fun s => s.pulseEdge pulse a b)

/-- PLS_PRESET (R283). -/
def execPlsPreset (dt : Nat) (src : Source) (pulse : Nat) (count : Int) (s : State) : Host.Outcome State Fault Refusal :=
  .next (s.upAt dt fun s => s.hostWriteIn src 8 pulse (Reg.plsPreset pulse) 4 (ofSigned 32 count))

/-- ENC_ENABLE (R269). -/
def execEncEnable (dt : Nat) (src : Source) (enc : Nat) (value : Nat) (s : State) : Host.Outcome State Fault Refusal :=
  .next (s.upAt dt fun s => s.hostWriteIn src 8 enc (Reg.encEnable enc) 1 value)

/-- CAN_REQUEST (R286). -/
def execCanRequest (dt : Nat) (head : CanHead) (payload : List Nat)
    (s : State) : Host.Outcome State Fault Refusal :=
  .next (s.upAt dt fun s => s.canRequest head payload)

/-- CAN_BUS_ERROR (R285). -/
def execCanBusError (dt : Nat) (tec : Nat) (rec : Nat) (s : State) : Host.Outcome State Fault Refusal :=
  .next (s.upAt dt fun s => s.canError tec rec)

/-- CAN_BUS_OFF_RECOVERY (R285). -/
def execCanBusOffRecovery (dt : Nat) (s : State) : Host.Outcome State Fault Refusal :=
  .next (s.upAt dt fun s => s.canRecover)

/-- SSI_CLOCK_EDGE (R274). -/
def execSsiClockEdge (dt : Nat) (ssi : Nat) (rising : Bool) (s : State) : Host.Outcome State Fault Refusal :=
  .next (s.upAt dt fun s => s.ssiClock ssi rising)

end Sys2Proof.Machine
end

