-- ==== Sys2Proof/Machine/LinkCmds.lean ====
section
/-! DEFINITION. The meanings of the commands of Raore link and the network ports (chapter 12). -/

namespace Sys2Proof.Machine

/-- FRAME_RECEIVE (R329). -/
def execFrameReceive (dt : Nat) (port : Nat) (frame : Frame) (lat : Nat) (s : State) : Host.Outcome State Fault Refusal :=
  .next (s.aliveAt dt fun s => s.receiveFrame port frame lat)

/-- ACCESS (R347). -/
def execAccess (dt : Nat) (mac : Nat) (port : Nat) (payload : List Nat) (s : State) : Host.Outcome State Fault Refusal :=
  .next (s.upAt dt fun s => s.accessFrame mac port payload)

/-- READ (R333). -/
def execRead (dt : Nat) (src : Source) (index : Nat) (sub : Nat) (s : State) : Host.Outcome State Fault Refusal :=
  .next (s.upAt dt fun s => s.serveAlone src { service := svcREAD, tag := 0, index := index, sub := sub, data := [] })

/-- WRITE (R38). -/
def execWrite (dt : Nat) (src : Source) (index : Nat) (sub : Nat) (data : List Nat)
    (s : State) : Host.Outcome State Fault Refusal :=
  .next (s.upAt dt fun s => s.serveAlone src { service := svcWRITE, tag := 0, index := index, sub := sub, data := data })

/-- READ_PART (R333). -/
def execReadPart (dt : Nat) (src : Source) (index : Nat) (sub : Nat) (offset : Nat) (count : Nat)
    (s : State) : Host.Outcome State Fault Refusal :=
  .next
    (s.upAt dt fun s => s.serveAlone src { service := svcREADPART, tag := 0, index := index, sub := sub, data := leBytes 4 offset ++ leBytes 2 count })

/-- WRITE_PART (R334). -/
def execWritePart (dt : Nat) (src : Source) (index : Nat) (sub : Nat) (offset : Nat) (data : List Nat)
    (s : State) : Host.Outcome State Fault Refusal :=
  .next
    (s.upAt dt fun s => s.serveAlone src { service := svcPART, tag := 0, index := index, sub := sub, data := leBytes 4 offset ++ data })

/-- WRITE_LAST (R334). -/
def execWriteLast (dt : Nat) (src : Source) (index : Nat) (sub : Nat) (offset : Nat) (data : List Nat)
    (s : State) : Host.Outcome State Fault Refusal :=
  .next
    (s.upAt dt fun s => s.serveAlone src { service := svcLAST, tag := 0, index := index, sub := sub, data := leBytes 4 offset ++ data })

/-- READ_DESC (R338). -/
def execReadDesc (dt : Nat) (src : Source) (index : Nat) (sub : Nat) (s : State) : Host.Outcome State Fault Refusal :=
  .next (s.upAt dt fun s => s.serveAlone src { service := svcDESC, tag := 0, index := index, sub := sub, data := [] })

/-- PD_OUT (R351). -/
def execPdOut (dt : Nat) (mac : Nat) (port : Nat) (seq : Nat) (payload : List Nat)
    (s : State) : Host.Outcome State Fault Refusal :=
  .next (s.upAt dt fun s => s.pdOut mac port seq payload)

/-- FRAME_TRANSMISSION_END (R330). -/
def execFrameTransmissionEnd (dt : Nat) (port : Nat) (s : State) : Host.Outcome State Fault Refusal :=
  .next (s.aliveAt dt fun s => s.frameEnd port)

end Sys2Proof.Machine
end

