-- ==== Sys2Proof/Machine/LoopCmds.lean ====
section
/-! DEFINITION. The meanings of the commands of the loop period of an engine and the process data taken from it (R29, R165, R168, R349). -/

namespace Sys2Proof.Machine

/-- LOOP_BOUNDARY (R29). -/
def execLoopBoundary (engine : Nat) (sram : List SramErr) (grid : List (Nat × MemErr))
    (s : State) : Host.Outcome State Fault Refusal :=
  .next (s.up fun s => s.loopStep engine sram grid)

/-- PD_IN_SNAPSHOT (R349). -/
def execPdInSnapshot (s : State) : Host.Outcome State Fault Refusal :=
  .next (s.up fun s => s.pdInSnapshot)

/-- COMPUTE_WINDOW (R165). -/
def execComputeWindow (engine : Nat) (stalls : List Nat) (sram : List SramErr) (s : State) : Host.Outcome State Fault Refusal :=
  .next (s.up fun s => s.computeWindow engine stalls sram)

/-- OUTPUT_INSTANT (R168). -/
def execOutputInstant (engine : Nat) (drops : List Nat) (s : State) : Host.Outcome State Fault Refusal :=
  .next (s.up fun s => s.outputInstant engine drops)

end Sys2Proof.Machine
end

