-- ==== Sys2Proof/Machine/MasterCmds.lean ====
section
/-! DEFINITION. The meanings of the commands of masters, the token and the event push (R342 to R344, R353). -/

namespace Sys2Proof.Machine

/-- REGISTER (R342). -/
def execRegister (dt : Nat) (src : Source) (rank : Nat) (s : State) : Host.Outcome State Fault Refusal :=
  .next (s.upAt dt fun s => s.serveAlone src { service := svcREGISTER, tag := 0, index := 0, sub := 0, data := [rank] })

/-- DEREGISTER (R343). -/
def execDeregister (dt : Nat) (src : Source) (s : State) : Host.Outcome State Fault Refusal :=
  .next (s.upAt dt fun s => s.serveAlone src { service := svcDEREGISTER, tag := 0, index := 0, sub := 0, data := [] })

/-- TOKEN_TAKE (R344). -/
def execTokenTake (dt : Nat) (src : Source) (force : Nat) (s : State) : Host.Outcome State Fault Refusal :=
  .next (s.upAt dt fun s => s.serveAlone src { service := svcTAKE, tag := 0, index := 0, sub := 0, data := [force] })

/-- TOKEN_RELEASE (R344). -/
def execTokenRelease (dt : Nat) (src : Source) (s : State) : Host.Outcome State Fault Refusal :=
  .next (s.upAt dt fun s => s.serveAlone src { service := svcRELEASE, tag := 0, index := 0, sub := 0, data := [] })

/-- EVENT_ACK (R353). -/
def execEventAck (dt : Nat) (mac : Nat) (port : Nat) (ack : Nat) (s : State) : Host.Outcome State Fault Refusal :=
  .next (s.upAt dt fun s => s.eventAckFrom mac port ack)

/-- EVENT_PUSH_RETRY (R353). -/
def execEventPushRetry (master : Nat) (s : State) : Host.Outcome State Fault Refusal :=
  .next (s.up fun s => s.pushRetry master)

/-- MASTER_TIMEOUT (R343). -/
def execMasterTimeout (master : Nat) (s : State) : Host.Outcome State Fault Refusal :=
  .next (s.up fun s => s.masterTimeout master)

/-- ASSEMBLY_TIMEOUT (R334). -/
def execAssemblyTimeout (master : Nat) (s : State) : Host.Outcome State Fault Refusal :=
  .next (s.up fun s => s.assemblyTimeout master)

end Sys2Proof.Machine
end

