-- ==== Sys2Proof/Machine/MemoryCmds.lean ====
section
/-! DEFINITION. The meanings of the commands of the external memory port (chapter 14). -/

namespace Sys2Proof.Machine

/-- REFRESH_TICK (R384). -/
def execRefreshTick (channel : Nat) (rank : Nat) (trajWaits : Bool) (s : State) : Host.Outcome State Fault Refusal :=
  .next (s.up fun s => s.refreshTick channel rank trajWaits)

/-- MR4_READ (R385). -/
def execMr4Read (high : List Bool) (waits : List Bool) (s : State) : Host.Outcome State Fault Refusal :=
  .next (s.up fun s => s.mr4Read high waits)

/-- TRACKING_STEP (R387). -/
def execTrackingStep (dt : Nat) (channel : Nat) (duration : Nat) (s : State) : Host.Outcome State Fault Refusal :=
  .next (s.upAt dt fun s => s.trackingStep channel duration)

/-- PATROL_READ (R393). -/
def execPatrolRead (dt : Nat) (channel : Nat) (err : BeatErr) (s : State) : Host.Outcome State Fault Refusal :=
  .next (s.upAt dt fun s => s.patrolRead channel err)

/-- TRAJ_READ_COMPLETE (R383). -/
def execTrajReadComplete (dt : Nat) (laser : Nat) (errs : List MemErr) (s : State) : Host.Outcome State Fault Refusal :=
  .next (s.upAt dt fun s => s.trajRead laser errs)

/-- TRAINING_COMPLETE (R386). -/
def execTrainingComplete (dt : Nat) (step : Nat) (channel : Nat) (s : State) : Host.Outcome State Fault Refusal :=
  .next (s.upAt dt fun s => (s.memTrained step channel).releaseHeld)

/-- FREQ_SWITCH_COMPLETE (R388). -/
def execFreqSwitchComplete (dt : Nat) (step : Nat) (channel : Nat) (s : State) : Host.Outcome State Fault Refusal :=
  .next (s.upAt dt fun s => (s.switchDone step channel).releaseHeld)

/-- MEM_DATA_WRITE (R381). -/
def execMemDataWrite (dt : Nat) (src : Source) (data : List Nat) (errs : List MemErr)
    (s : State) : Host.Outcome State Fault Refusal :=
  .next (s.upAt dt fun s => s.memDataWriteBy src data errs)

/-- MEM_DATA_READ (R381). -/
def execMemDataRead (dt : Nat) (src : Source) (errs : List MemErr) (s : State) : Host.Outcome State Fault Refusal :=
  .next (s.upAt dt fun s => s.memDataReadBy src errs)

end Sys2Proof.Machine
end

