-- ==== Sys2Proof/Machine/ModeCmds.lean ====
section
/-! DEFINITION. The meanings of the commands of the mode commands (R437 to R442). -/

namespace Sys2Proof.Machine

/-- MODE_CMD_CONFIGURE (R438). -/
def execModeCmdConfigure (dt : Nat) (src : Source) (s : State) : Host.Outcome State Fault Refusal :=
  .next (s.upAt dt fun s => s.hostWriteAs src Reg.modeCmd 1 CONFIGURE)

/-- MODE_CMD_CALIBRATE (R441). -/
def execModeCmdCalibrate (dt : Nat) (src : Source) (s : State) : Host.Outcome State Fault Refusal :=
  .next (s.upAt dt fun s => s.hostWriteAs src Reg.modeCmd 1 CALIBRATE)

/-- MODE_CMD_TRACK (R438). -/
def execModeCmdTrack (dt : Nat) (src : Source) (s : State) : Host.Outcome State Fault Refusal :=
  .next (s.upAt dt fun s => s.hostWriteAs src Reg.modeCmd 1 TRACK)

/-- MODE_CMD_SERVO (R438). -/
def execModeCmdServo (dt : Nat) (src : Source) (s : State) : Host.Outcome State Fault Refusal :=
  .next (s.upAt dt fun s => s.hostWriteAs src Reg.modeCmd 1 SERVO)

/-- MODE_CMD_BUILD (R438). -/
def execModeCmdBuild (dt : Nat) (src : Source) (s : State) : Host.Outcome State Fault Refusal :=
  .next (s.upAt dt fun s => s.hostWriteAs src Reg.modeCmd 1 BUILD)

/-- MODE_CMD_HOLD (R440). -/
def execModeCmdHold (dt : Nat) (src : Source) (s : State) : Host.Outcome State Fault Refusal :=
  .next (s.upAt dt fun s => s.hostWriteAs src Reg.modeCmd 1 HOLD)

/-- MODE_CMD_TEST (R457). -/
def execModeCmdTest (dt : Nat) (src : Source) (s : State) : Host.Outcome State Fault Refusal :=
  .next (s.upAt dt fun s => s.hostWriteAs src Reg.modeCmd 1 TEST)

end Sys2Proof.Machine
end

