-- ==== Sys2Proof/Machine/OutputCmds.lean ====
section
/-! DEFINITION. The meanings of the commands of the axis and laser modulation outputs (chapter 09). -/

namespace Sys2Proof.Machine

/-- MONITOR_SAMPLE (R246). -/
def execMonitorSample (raw : Int) (s : State) : Host.Outcome State Fault Refusal :=
  .next (s.up fun s => s.monitorSample raw)

/-- RANGE_SWITCH_OPEN (R241). -/
def execRangeSwitchOpen (axis : Nat) (s : State) : Host.Outcome State Fault Refusal :=
  .next (s.up fun s => s.rangeOpen axis)

/-- RANGE_SWITCH_CLOSE (R241). -/
def execRangeSwitchClose (axis : Nat) (s : State) : Host.Outcome State Fault Refusal :=
  .next (s.up fun s => s.rangeClose axis)

/-- RANGE_CHANGE_DONE (R241). -/
def execRangeChangeDone (axis : Nat) (s : State) : Host.Outcome State Fault Refusal :=
  .next (s.up fun s => s.rangeDone axis)

/-- LMO_ILIM (R256). -/
def execLmoIlim (dt : Nat) (lmo : Nat) (s : State) : Host.Outcome State Fault Refusal :=
  .next (s.upAt dt fun s => s.lmoIlim lmo true)

/-- LMO_OVER_TEMP (R256). -/
def execLmoOverTemp (dt : Nat) (lmo : Nat) (s : State) : Host.Outcome State Fault Refusal :=
  .next (s.upAt dt fun s => s.lmoOverTemp lmo)

/-- LMO_CLEAR_FAULT (R256). -/
def execLmoClearFault (dt : Nat) (src : Source) (lmo : Nat) (s : State) : Host.Outcome State Fault Refusal :=
  .next (s.upAt dt fun s => s.hostWriteIn src 16 lmo (Reg.lmoClearFault lmo) 1 1)

/-- LMO_OVER_TEMP_CLEAR (R256). -/
def execLmoOverTempClear (dt : Nat) (lmo : Nat) (s : State) : Host.Outcome State Fault Refusal :=
  .next (s.upAt dt fun s => s.lmoCooled lmo)

/-- LMO_ILIM_CLEAR (R256). -/
def execLmoIlimClear (dt : Nat) (lmo : Nat) (s : State) : Host.Outcome State Fault Refusal :=
  .next (s.upAt dt fun s => s.lmoIlim lmo false)

end Sys2Proof.Machine
end

