-- ==== Sys2Proof/Machine/PinCmds.lean ====
section
/-! DEFINITION. The meanings of the commands of the pins HOLD_N, CLEAR_AX_N, CLEAR_LM_N and PFAIL_N (R243, R245, R410, R431, R493). -/

namespace Sys2Proof.Machine

/-- HOLD_N_FALL (R410). -/
def execHoldNFall (dt : Nat) (s : State) : Host.Outcome State Fault Refusal :=
  .next (s.pinEdge dt (!s.mode.holdLow) (fun m => { m with holdLow := true }) State.holdFalls)

/-- HOLD_N_RISE (R410). -/
def execHoldNRise (dt : Nat) (s : State) : Host.Outcome State Fault Refusal :=
  .next (s.pinEdge dt s.mode.holdLow (fun m => { m with holdLow := false }) State.holdRises)

/-- CLEAR_AX_N_FALL (R243). -/
def execClearAxNFall (dt : Nat) (s : State) : Host.Outcome State Fault Refusal :=
  .next (s.pinEdge dt (!s.mode.clearAxLow) (fun m => { m with clearAxLow := true }) State.clearAxFalls)

/-- CLEAR_AX_N_RISE (R244). -/
def execClearAxNRise (dt : Nat) (s : State) : Host.Outcome State Fault Refusal :=
  .next (s.pinEdge dt s.mode.clearAxLow (fun m => { m with clearAxLow := false }) State.clearAxRises)

/-- CLEAR_LM_N_FALL (R245). -/
def execClearLmNFall (dt : Nat) (s : State) : Host.Outcome State Fault Refusal :=
  .next (s.pinEdge dt (!s.mode.clearLmLow) (fun m => { m with clearLmLow := true }) State.clearLmFalls)

/-- CLEAR_LM_N_RISE (R245). -/
def execClearLmNRise (dt : Nat) (s : State) : Host.Outcome State Fault Refusal :=
  .next (s.pinEdge dt s.mode.clearLmLow (fun m => { m with clearLmLow := false }) State.clearLmRises)

/-- PFAIL_N_FALL (R431). -/
def execPfailNFall (fall : PinFall) (s : State) : Host.Outcome State Fault Refusal :=
  .next (s.pinEdge fall.cycles (!(s.advance fall.cycles).pfailIsLow) (fun m => { m with pfailLow := true })
    fun s => (s.pfailFall (fall.rise.map fun n => s.lt + ns n)).pushNew)

/-- PERSIST_WRITE_COMPLETE (R431). -/
def execPersistWriteComplete (dt : Nat) (s : State) : Host.Outcome State Fault Refusal :=
  .next (s.upAt dt fun s => s.persistDone)

/-- PFAIL_N_RECOVER (R452). -/
def execPfailNRecover (dt : Nat) (s : State) : Host.Outcome State Fault Refusal :=
  .next (s.pinEdge dt s.mode.pfailLow (fun m => { m with pfailLow := false, pfailUp := none }) State.pfailRecover)

end Sys2Proof.Machine
end

