-- ==== Sys2Proof/Machine/PoundCmds.lean ====
section
/-! DEFINITION. The meanings of the commands of pounds and bank swaps (R42 to R52, R188). -/

namespace Sys2Proof.Machine

/-- POUND_COMMIT (R42). -/
def execPoundCommit (dt : Nat) (src : Source) (pound : Nat) (s : State) : Host.Outcome State Fault Refusal :=
  .next (s.upAt dt fun s => s.hostWriteIn src 106 pound (poundKey pound 1) (poundBytes pound) (poundWord pound 1))

/-- POUND_DISCARD (R51). -/
def execPoundDiscard (dt : Nat) (src : Source) (pound : Nat) (s : State) : Host.Outcome State Fault Refusal :=
  .next (s.upAt dt fun s => s.hostWriteIn src 106 pound (poundKey pound 1) (poundBytes pound) (poundWord pound 2))

/-- BUNDLED_COMMIT (R52). -/
def execBundledCommit (dt : Nat) (src : Source) (engine : Nat) (scopes : Nat) (s : State) : Host.Outcome State Fault Refusal :=
  .next (s.upAt dt fun s => s.hostWriteIn src 8 engine (poundKey (pEngine engine) 1) 2 (scopes % 128))

/-- BUNDLED_DISCARD (R52). -/
def execBundledDiscard (dt : Nat) (src : Source) (engine : Nat) (scopes : Nat) (s : State) : Host.Outcome State Fault Refusal :=
  .next (s.upAt dt fun s => s.hostWriteIn src 8 engine (poundKey (pEngine engine) 1) 2 (scopes % 128 + 256))

/-- BANK_SWAP_CONFIGURE (R188). -/
def execBankSwapConfigure (dt : Nat) (src : Source) (axis : Nat) (length : Nat)
    (s : State) : Host.Outcome State Fault Refusal :=
  .next (s.upAt dt fun s => s.hostWriteIn src 48 axis (Reg.bankSwap axis) 2 length)

end Sys2Proof.Machine
end

