-- ==== Sys2Proof/Machine/PowerCmds.lean ====
section
/-! DEFINITION. The meanings of the commands of reset, power-up and calibration (chapter 16). -/

namespace Sys2Proof.Machine

/-- RESET_N_ASSERT (R443). -/
def execResetNAssert (s : State) : Host.Outcome State Fault Refusal :=
  .next (s.resetAsserted)

/-- SUPPLY_TRIP (R443). -/
def execSupplyTrip (s : State) : Host.Outcome State Fault Refusal :=
  .next (s.supplyTrip)

/-- SUPPLY_RECOVERED (R443). -/
def execSupplyRecovered (s : State) : Host.Outcome State Fault Refusal :=
  .next (s.supplyBack)

/-- RESET_N_RELEASE (R444). -/
def execResetNRelease (s : State) : Host.Outcome State Fault Refusal :=
  .next (s.resetReleased)

/-- INIT_COMPLETE (R444). -/
def execInitComplete (dt : Nat) (flashKiB : Nat) (found : Nat) (loaded : Nat) (s : State) : Host.Outcome State Fault Refusal :=
  .next (s.aliveAt dt fun s => if s.modeCode = INIT then s.initComplete flashKiB found loaded else s)

/-- AUTO_TRACK (R445). -/
def execAutoTrack (dt : Nat) (s : State) : Host.Outcome State Fault Refusal :=
  .next (s.upAt dt fun s => s.autoTrack)

/-- SECTOR_ERASE_COMPLETE (R431). -/
def execSectorEraseComplete (dt : Nat) (s : State) : Host.Outcome State Fault Refusal :=
  .next (s.upAt dt fun s => s.sectorErased)

/-- CAL_PART_END (R441). -/
def execCalPartEnd (dt : Nat) (tile : Nat) (part : Nat) (gains : List Nat) (offsets : List Int) (sensed : List Nat)
    (deviations : List Nat) (s : State) : Host.Outcome State Fault Refusal :=
  .next (s.upAt dt fun s => s.calPartEnd tile part gains offsets sensed deviations)

/-- CAL_DONE (R441). -/
def execCalDone (dt : Nat) (s : State) : Host.Outcome State Fault Refusal :=
  .next (s.upAt dt fun s => s.calDone)

end Sys2Proof.Machine
end

