-- ==== Sys2Proof/Machine/PtpCmds.lean ====
section
/-! DEFINITION. The meanings of the commands of network time: links, Sync, Announce and peer delay (chapter 11). -/

namespace Sys2Proof.Machine

/-- LINK_DOWN (R308). -/
def execLinkDown (dt : Nat) (down : PortDown) (s : State) : Host.Outcome State Fault Refusal :=
  .next (s.aliveAt dt fun s => s.linkDown down.port down.sync)

/-- LINK_UP (R357). -/
def execLinkUp (dt : Nat) (port : Nat) (s : State) : Host.Outcome State Fault Refusal :=
  .next (s.aliveAt dt fun s => s.linkUp port)

/-- SYNC (R298). -/
def execSync (dt : Nat) (port : Nat) (domain : Nat) (source : Nat) (seq : Nat) (interval : Int) (twoStep : Bool)
    (origin : Nat) (correction : Int) (s : State) : Host.Outcome State Fault Refusal :=
  .next (s.aliveAt dt fun s => (s.syncMsg port domain source seq interval twoStep origin correction).pushSince s)

/-- FOLLOW_UP (R310). -/
def execFollowUp (dt : Nat) (port : Nat) (domain : Nat) (source : Nat) (seq : Nat) (origin : Nat) (correction : Int)
    (s : State) : Host.Outcome State Fault Refusal :=
  .next (s.aliveAt dt fun s => (s.followUp port domain source seq origin correction).pushSince s)

/-- ANNOUNCE (R296). -/
def execAnnounce (dt : Nat) (port : Nat) (domain : Nat) (source : Nat) (interval : Int) (quality : List Nat) (utc : Int)
    (s : State) : Host.Outcome State Fault Refusal :=
  .next (s.aliveAt dt fun s => s.announce port domain source interval quality utc)

/-- ANNOUNCE_TIMEOUT (R296). -/
def execAnnounceTimeout (domain : Nat) (s : State) : Host.Outcome State Fault Refusal :=
  .next (s.alive fun s => s.announceTimeout domain)

/-- SYNC_TIMEOUT (R296). -/
def execSyncTimeout (domain : Nat) (s : State) : Host.Outcome State Fault Refusal :=
  .next (s.alive fun s => s.syncTimeout domain)

/-- REVERTIVE_SWITCH (R297). -/
def execRevertiveSwitch (s : State) : Host.Outcome State Fault Refusal :=
  .next (s.alive fun s => s.revertive)

/-- PDELAY_REQ (R307). -/
def execPdelayReq (dt : Nat) (port : Nat) (seq : Nat) (source : Nat) (correction : Int)
    (s : State) : Host.Outcome State Fault Refusal :=
  .next (s.aliveAt dt fun s => s.pdelayReq port seq source correction)

/-- PDELAY_REQ_SEND (R308). -/
def execPdelayReqSend (dt : Nat) (port : Nat) (s : State) : Host.Outcome State Fault Refusal :=
  .next (s.aliveAt dt fun s => s.pdelaySend port)

/-- PDELAY_RESP (R308). -/
def execPdelayResp (dt : Nat) (port : Nat) (seq : Nat) (turnaround : Int) (t3 : Option Nat)
    (s : State) : Host.Outcome State Fault Refusal :=
  .next (s.aliveAt dt fun s => (s.pdelayResp port seq turnaround t3).pushSince s)

end Sys2Proof.Machine
end

