-- ==== Sys2Proof/Machine/RecoveryCmds.lean ====
section
/-! DEFINITION. The meanings of the commands of parking, returns and the clearing of latches (R418, R426, R428). -/

namespace Sys2Proof.Machine

/-- PARK (R426). -/
def execPark (dt : Nat) (src : Source) (cls : Nat) (unit : Nat) (s : State) : Host.Outcome State Fault Refusal :=
  .next (s.upAt dt fun s => s.hostWriteAs src Reg.parkCmd 4 (0x01000000 + cls % 256 * 65536 + unit % 65536))

/-- RETURN (R428). -/
def execReturnUnit (dt : Nat) (src : Source) (cls : Nat) (unit : Nat) (s : State) : Host.Outcome State Fault Refusal :=
  .next (s.upAt dt fun s => s.hostWriteAs src Reg.parkCmd 4 (0x02000000 + cls % 256 * 65536 + unit % 65536))

/-- FAULT_CLEAR (R418). -/
def execFaultClear (dt : Nat) (src : Source) (s : State) : Host.Outcome State Fault Refusal :=
  .next (s.upAt dt fun s => s.hostWriteAs src Reg.faultClear 1 1)

end Sys2Proof.Machine
end

