-- ==== Sys2Proof/Machine/SampleCmds.lean ====
section
/-! DEFINITION. The meanings of the commands of the sample instant and the demodulation output (R13, R15). -/

namespace Sys2Proof.Machine

/-- SAMPLE_INSTANT (R15). -/
def execSampleInstant (adc : List (Nat × Int)) (pins : List (Nat × Int)) (drops : List Nat)
    (s : State) : Host.Outcome State Fault Refusal :=
  .next (s.up fun s => s.sampleInstant adc pins drops)

/-- DEMOD_OUTPUT (R13). -/
def execDemodOutput (tile : Nat) (drops : List Nat) (s : State) : Host.Outcome State Fault Refusal :=
  .next (s.up fun s => s.demodOutput tile drops)

end Sys2Proof.Machine
end

