-- ==== Sys2Proof/Machine/ScheduleCmds.lean ====
section
/-! DEFINITION. The meanings of the commands of host entries of the scheduler (R320, R321). -/

namespace Sys2Proof.Machine

/-- SCHED_ENTRY (R320). -/
def execSchedEntry (dt : Nat) (src : Source) (entry : List Nat) (s : State) : Host.Outcome State Fault Refusal :=
  .next (s.upAt dt fun s => s.hostWriteBytes src Reg.schedEntry entry)

/-- SCHED_FLUSH (R321). -/
def execSchedFlush (dt : Nat) (src : Source) (s : State) : Host.Outcome State Fault Refusal :=
  .next (s.upAt dt fun s => s.hostWriteAs src Reg.schedFlush 1 1)

end Sys2Proof.Machine
end

