-- ==== Sys2Proof/Machine/StoreCmds.lean ====
section
/-! DEFINITION. The meanings of the commands of the configuration store (R451). -/

namespace Sys2Proof.Machine

/-- SAVE (R451). -/
def execSave (dt : Nat) (src : Source) (s : State) : Host.Outcome State Fault Refusal :=
  .next (s.upAt dt fun s => s.hostWriteAs src Reg.storeCmd 1 1)

/-- STORE_SAVE_COMPLETE (R451). -/
def execStoreSaveComplete (dt : Nat) (cause : Nat) (s : State) : Host.Outcome State Fault Refusal :=
  .next (s.upAt dt fun s => s.saveDone cause)

/-- ERASE (R451). -/
def execErase (dt : Nat) (src : Source) (s : State) : Host.Outcome State Fault Refusal :=
  .next (s.upAt dt fun s => s.hostWriteAs src Reg.storeCmd 1 2)

end Sys2Proof.Machine
end

