-- ==== Sys2Proof/Machine/StreamCmds.lean ====
section
/-! DEFINITION. The meanings of the commands of streams and the profile store (R230, R231, R255). -/

namespace Sys2Proof.Machine

/-- RESUME (R230). -/
def execResume (dt : Nat) (src : Source) (laser : Nat) (segment : Nat) (s : State) : Host.Outcome State Fault Refusal :=
  .next (s.upAt dt fun s => s.hostWriteIn src 16 laser (Reg.streamCmd laser) 4 (0x01000000 + segment % 2 ^ 24))

/-- STOP (R231). -/
def execStop (dt : Nat) (src : Source) (laser : Nat) (s : State) : Host.Outcome State Fault Refusal :=
  .next (s.upAt dt fun s => s.hostWriteIn src 16 laser (Reg.streamCmd laser) 4 0x02000000)

/-- ABANDON (R231). -/
def execAbandon (dt : Nat) (src : Source) (laser : Nat) (s : State) : Host.Outcome State Fault Refusal :=
  .next (s.upAt dt fun s => s.hostWriteIn src 16 laser (Reg.streamCmd laser) 4 0x03000000)

/-- PROFILE_WR_DATA (R255). -/
def execProfileWrData (dt : Nat) (src : Source) (data : List Nat) (s : State) : Host.Outcome State Fault Refusal :=
  .next (s.upAt dt fun s => s.hostWriteBytes src Reg.profileWrData data)

end Sys2Proof.Machine
end

