-- ==== Sys2Proof/Machine/TestCmds.lean ====
section
/-! DEFINITION. The meanings of the commands of self-tests and raw taps (chapter 17). -/

namespace Sys2Proof.Machine

/-- SELFTEST_LOGIC (R457). -/
def execSelftestLogic (dt : Nat) (src : Source) (s : State) : Host.Outcome State Fault Refusal :=
  .next (s.upAt dt fun s => s.hostWriteAs src Reg.selftestCmd 1 1)

/-- SELFTEST_MEMORY (R457). -/
def execSelftestMemory (dt : Nat) (src : Source) (s : State) : Host.Outcome State Fault Refusal :=
  .next (s.upAt dt fun s => s.hostWriteAs src Reg.selftestCmd 1 2)

/-- SELFTEST_BOTH (R457). -/
def execSelftestBoth (dt : Nat) (src : Source) (s : State) : Host.Outcome State Fault Refusal :=
  .next (s.upAt dt fun s => s.hostWriteAs src Reg.selftestCmd 1 3)

/-- SELFTEST_COMPLETE (R458). -/
def execSelftestComplete (dt : Nat) (sigs : List (Nat × Nat)) (s : State) : Host.Outcome State Fault Refusal :=
  .next (s.upAt dt fun s => s.selftestDone sigs)

/-- CAPTURE_ARM (R464). -/
def execCaptureArm (dt : Nat) (src : Source) (triggers : Nat) (s : State) : Host.Outcome State Fault Refusal :=
  .next (s.upAt dt fun s => s.hostWriteAs src Reg.captureCmd 2 (triggers % 16))

/-- CAPTURE_FIRE (R465). -/
def execCaptureFire (dt : Nat) (src : Source) (triggers : Nat) (s : State) : Host.Outcome State Fault Refusal :=
  .next (s.upAt dt fun s => s.hostWriteAs src Reg.captureCmd 2 (triggers % 16 * 256))

/-- CAPTURE_STOP (R467). -/
def execCaptureStop (dt : Nat) (src : Source) (triggers : Nat) (s : State) : Host.Outcome State Fault Refusal :=
  .next (s.upAt dt fun s => s.hostWriteAs src Reg.captureCmd 2 (triggers % 16 * 4096))

end Sys2Proof.Machine
end

