-- ==== Sys2Proof/Machine/TileCmds.lean ====
section
/-! DEFINITION. The meanings of the commands of the front-end tiles (chapter 03). -/

namespace Sys2Proof.Machine

/-- CARRIER_STOP (R73). -/
def execCarrierStop (tile : Nat) (drv : Nat) (s : State) : Host.Outcome State Fault Refusal :=
  .next (s.up fun s => s.carrierStop tile drv)

/-- CARRIER_START (R63). -/
def execCarrierStart (tile : Nat) (drv : Nat) (s : State) : Host.Outcome State Fault Refusal :=
  .next (s.up fun s => s.carrierStart tile drv)

/-- AMPLITUDE_STEP (R74). -/
def execAmplitudeStep (tile : Nat) (drv : Nat) (s : State) : Host.Outcome State Fault Refusal :=
  .next (s.up fun s => s.amplitudeStep tile drv)

/-- RESET_SWITCH_CLOSE (R78). -/
def execResetSwitchClose (tile : Nat) (amp : Nat) (s : State) : Host.Outcome State Fault Refusal :=
  .next (s.up fun s => s.resetClose tile amp)

/-- RESET_SWITCH_OPEN (R78). -/
def execResetSwitchOpen (tile : Nat) (amp : Nat) (s : State) : Host.Outcome State Fault Refusal :=
  .next (s.up fun s => s.resetOpen tile amp)

/-- THERM_WINDOW (R86). A die temperature above its trip level takes the device out of its operating range (R443, R472). -/
def execThermWindow (die : List Int) (s : State) : Host.Outcome State Fault Refusal :=
  .next (if s.pinsAct && dieTrips die then s.supplyTrip else s.up fun s => s.thermWindow die)

/-- DRIVER_ILIMIT (R65). -/
def execDriverIlimit (dt : Nat) (tile : Nat) (drv : Nat) (s : State) : Host.Outcome State Fault Refusal :=
  .next (s.upAt dt fun s => s.driverIlimit tile drv true)

/-- ILIMIT_CLEAR (R65). -/
def execIlimitClear (dt : Nat) (tile : Nat) (drv : Nat) (s : State) : Host.Outcome State Fault Refusal :=
  .next (s.upAt dt fun s => s.driverIlimit tile drv false)

end Sys2Proof.Machine
end

