-- ==== Sys2Proof/Machine/VisionCmds.lean ====
section
/-! DEFINITION. The meanings of the commands of the vision port (chapter 13). -/

namespace Sys2Proof.Machine

/-- CORRECTION (R368). -/
def execCorrection (dt : Nat) (lane : Nat) (cam : Nat) (frame : Nat) (dx : Int) (dy : Int)
    (s : State) : Host.Outcome State Fault Refusal :=
  .next (s.upAt dt fun s => s.rxPacket lane (packetChars 0x01 cam frame (leBytes 4 (ofSigned 32 dx) ++ leBytes 4 (ofSigned 32 dy))))

/-- STATS (R368). -/
def execStats (dt : Nat) (lane : Nat) (cam : Nat) (frame : Nat) (sharpness : Nat) (intensity : Nat) (area : Nat)
    (s : State) : Host.Outcome State Fault Refusal :=
  .next (s.upAt dt fun s => s.rxPacket lane
    (packetChars 0x02 cam frame (leBytes 4 sharpness ++ leBytes 4 intensity ++ leBytes 4 area ++ leBytes 4 0)))

/-- HEARTBEAT (R362). -/
def execHeartbeat (dt : Nat) (lane : Nat) (s : State) : Host.Outcome State Fault Refusal :=
  .next (s.upAt dt fun s => s.rxPacket lane (packetChars 0x03 0 0 []))

/-- LANE_SYNC (R358). -/
def execLaneSync (dt : Nat) (rx : LaneBits) (s : State) : Host.Outcome State Fault Refusal :=
  .next (s.upAt dt fun s => if gainsSync rx.bits then s.laneSync rx.lane true else s)

/-- LANE_SYNC_LOSS (R358). -/
def execLaneSyncLoss (dt : Nat) (rx : LaneWords) (s : State) : Host.Outcome State Fault Refusal :=
  .next (s.upAt dt fun s => if losesSync rx.words then s.laneSync rx.lane false else s)

/-- ALIVE_TIMEOUT (R362). -/
def execAliveTimeout (s : State) : Host.Outcome State Fault Refusal :=
  .next (s.up fun s => s.aliveTimeout)

/-- VTX_HEARTBEAT (R362). -/
def execVtxHeartbeat (s : State) : Host.Outcome State Fault Refusal :=
  .next (s.up fun s => s.vtxHeartbeat)

/-- FRAME_TAG_COMPLETE (R367). -/
def execFrameTagComplete (cam : Nat) (s : State) : Host.Outcome State Fault Refusal :=
  .next (s.up fun s => s.tagComplete cam)

/-- RX_BAD_PACKET (R361). -/
def execRxBadPacket (dt : Nat) (rx : LaneWords) (s : State) : Host.Outcome State Fault Refusal :=
  .next (s.upAt dt fun s => s.rxPacket rx.lane rx.words)

end Sys2Proof.Machine
end

