-- ==== Sys2Proof/Machine/Dispatch.lean ====
section
/-! DEFINITION. The dispatch of a command to its meaning. -/

namespace Sys2Proof.Machine

def exec (i : Instr) (s : State) : Host.Outcome State Fault Refusal :=
  match i with
  | .resetNAssert => Sys2Proof.Machine.execResetNAssert s
  | .supplyTrip => Sys2Proof.Machine.execSupplyTrip s
  | .supplyRecovered => Sys2Proof.Machine.execSupplyRecovered s
  | .resetNRelease => Sys2Proof.Machine.execResetNRelease s
  | .initComplete dt flashKiB found loaded => Sys2Proof.Machine.execInitComplete dt flashKiB found loaded s
  | .autoTrack dt => Sys2Proof.Machine.execAutoTrack dt s
  | .sectorEraseComplete dt => Sys2Proof.Machine.execSectorEraseComplete dt s
  | .holdNFall dt => Sys2Proof.Machine.execHoldNFall dt s
  | .holdNRise dt => Sys2Proof.Machine.execHoldNRise dt s
  | .clearAxNFall dt => Sys2Proof.Machine.execClearAxNFall dt s
  | .clearAxNRise dt => Sys2Proof.Machine.execClearAxNRise dt s
  | .clearLmNFall dt => Sys2Proof.Machine.execClearLmNFall dt s
  | .clearLmNRise dt => Sys2Proof.Machine.execClearLmNRise dt s
  | .pfailNFall fall => Sys2Proof.Machine.execPfailNFall fall s
  | .persistWriteComplete dt => Sys2Proof.Machine.execPersistWriteComplete dt s
  | .pfailNRecover dt => Sys2Proof.Machine.execPfailNRecover dt s
  | .sampleInstant adc pins drops => Sys2Proof.Machine.execSampleInstant adc pins drops s
  | .demodOutput tile drops => Sys2Proof.Machine.execDemodOutput tile drops s
  | .encEdge enc => Sys2Proof.Machine.execEncEdge enc s
  | .loopBoundary engine sram grid => Sys2Proof.Machine.execLoopBoundary engine sram grid s
  | .pdInSnapshot => Sys2Proof.Machine.execPdInSnapshot s
  | .computeWindow engine stalls sram => Sys2Proof.Machine.execComputeWindow engine stalls sram s
  | .outputInstant engine drops => Sys2Proof.Machine.execOutputInstant engine drops s
  | .carrierStop tile drv => Sys2Proof.Machine.execCarrierStop tile drv s
  | .carrierStart tile drv => Sys2Proof.Machine.execCarrierStart tile drv s
  | .amplitudeStep tile drv => Sys2Proof.Machine.execAmplitudeStep tile drv s
  | .resetSwitchClose tile amp => Sys2Proof.Machine.execResetSwitchClose tile amp s
  | .resetSwitchOpen tile amp => Sys2Proof.Machine.execResetSwitchOpen tile amp s
  | .thermWindow die => Sys2Proof.Machine.execThermWindow die s
  | .driverIlimit dt tile drv => Sys2Proof.Machine.execDriverIlimit dt tile drv s
  | .monitorSample raw => Sys2Proof.Machine.execMonitorSample raw s
  | .rangeSwitchOpen axis => Sys2Proof.Machine.execRangeSwitchOpen axis s
  | .rangeSwitchClose axis => Sys2Proof.Machine.execRangeSwitchClose axis s
  | .rangeChangeDone axis => Sys2Proof.Machine.execRangeChangeDone axis s
  | .lmoIlim dt lmo => Sys2Proof.Machine.execLmoIlim dt lmo s
  | .lmoOverTemp dt lmo => Sys2Proof.Machine.execLmoOverTemp dt lmo s
  | .samplePllLockLoss dt ps => Sys2Proof.Machine.execSamplePllLockLoss dt ps s
  | .realignComplete dt => Sys2Proof.Machine.execRealignComplete dt s
  | .gateOpen laser => Sys2Proof.Machine.execGateOpen laser s
  | .gateClose laser => Sys2Proof.Machine.execGateClose laser s
  | .lmoWrite laser => Sys2Proof.Machine.execLmoWrite laser s
  | .profileStart laser => Sys2Proof.Machine.execProfileStart laser s
  | .profileSample laser => Sys2Proof.Machine.execProfileSample laser s
  | .ctAssert cam => Sys2Proof.Machine.execCtAssert cam s
  | .ctRelease cam => Sys2Proof.Machine.execCtRelease cam s
  | .latch => Sys2Proof.Machine.execLatch s
  | .capture => Sys2Proof.Machine.execCapture s
  | .markEvent => Sys2Proof.Machine.execMarkEvent s
  | .sampleNFall dt => Sys2Proof.Machine.execSampleNFall dt s
  | .ssiLatch dt ssi => Sys2Proof.Machine.execSsiLatch dt ssi s
  | .ssiTimeout ssi => Sys2Proof.Machine.execSsiTimeout ssi s
  | .readRecords dt low first count clocks => Sys2Proof.Machine.execReadRecords dt low first count clocks s
  | .readLatch dt low cmd arg1 arg2 clocks => Sys2Proof.Machine.execReadLatch dt low cmd arg1 arg2 clocks s
  | .pulseEdge dt pulse a b => Sys2Proof.Machine.execPulseEdge dt pulse a b s
  | .plsPreset dt src pulse count => Sys2Proof.Machine.execPlsPreset dt src pulse count s
  | .encEnable dt src enc value => Sys2Proof.Machine.execEncEnable dt src enc value s
  | .canRequest dt head payload => Sys2Proof.Machine.execCanRequest dt head payload s
  | .canBusError dt tec rec => Sys2Proof.Machine.execCanBusError dt tec rec s
  | .canBusOffRecovery dt => Sys2Proof.Machine.execCanBusOffRecovery dt s
  | .frameReceive dt port frame lat => Sys2Proof.Machine.execFrameReceive dt port frame lat s
  | .access dt mac port payload => Sys2Proof.Machine.execAccess dt mac port payload s
  | .read dt src index sub => Sys2Proof.Machine.execRead dt src index sub s
  | .write dt src index sub data => Sys2Proof.Machine.execWrite dt src index sub data s
  | .readPart dt src index sub offset count => Sys2Proof.Machine.execReadPart dt src index sub offset count s
  | .writePart dt src index sub offset data => Sys2Proof.Machine.execWritePart dt src index sub offset data s
  | .writeLast dt src index sub offset data => Sys2Proof.Machine.execWriteLast dt src index sub offset data s
  | .readDesc dt src index sub => Sys2Proof.Machine.execReadDesc dt src index sub s
  | .register dt src rank => Sys2Proof.Machine.execRegister dt src rank s
  | .deregister dt src => Sys2Proof.Machine.execDeregister dt src s
  | .tokenTake dt src force => Sys2Proof.Machine.execTokenTake dt src force s
  | .tokenRelease dt src => Sys2Proof.Machine.execTokenRelease dt src s
  | .pdOut dt mac port seq payload => Sys2Proof.Machine.execPdOut dt mac port seq payload s
  | .eventAck dt mac port ack => Sys2Proof.Machine.execEventAck dt mac port ack s
  | .eventPushRetry master => Sys2Proof.Machine.execEventPushRetry master s
  | .masterTimeout master => Sys2Proof.Machine.execMasterTimeout master s
  | .assemblyTimeout master => Sys2Proof.Machine.execAssemblyTimeout master s
  | .linkDown dt down => Sys2Proof.Machine.execLinkDown dt down s
  | .linkUp dt port => Sys2Proof.Machine.execLinkUp dt port s
  | .sync dt port domain source seq interval twoStep origin correction => Sys2Proof.Machine.execSync dt port domain source seq interval twoStep origin correction s
  | .followUp dt port domain source seq origin correction => Sys2Proof.Machine.execFollowUp dt port domain source seq origin correction s
  | .announce dt port domain source interval quality utc => Sys2Proof.Machine.execAnnounce dt port domain source interval quality utc s
  | .announceTimeout domain => Sys2Proof.Machine.execAnnounceTimeout domain s
  | .syncTimeout domain => Sys2Proof.Machine.execSyncTimeout domain s
  | .revertiveSwitch => Sys2Proof.Machine.execRevertiveSwitch s
  | .pdelayReq dt port seq source correction => Sys2Proof.Machine.execPdelayReq dt port seq source correction s
  | .pdelayReqSend dt port => Sys2Proof.Machine.execPdelayReqSend dt port s
  | .pdelayResp dt port seq turnaround t3 => Sys2Proof.Machine.execPdelayResp dt port seq turnaround t3 s
  | .ltStep dt => Sys2Proof.Machine.execLtStep dt s
  | .refreshTick channel rank trajWaits => Sys2Proof.Machine.execRefreshTick channel rank trajWaits s
  | .mr4Read high waits => Sys2Proof.Machine.execMr4Read high waits s
  | .trackingStep dt channel duration => Sys2Proof.Machine.execTrackingStep dt channel duration s
  | .patrolRead dt channel err => Sys2Proof.Machine.execPatrolRead dt channel err s
  | .trajReadComplete dt laser errs => Sys2Proof.Machine.execTrajReadComplete dt laser errs s
  | .trainingComplete dt step channel => Sys2Proof.Machine.execTrainingComplete dt step channel s
  | .freqSwitchComplete dt step channel => Sys2Proof.Machine.execFreqSwitchComplete dt step channel s
  | .memDataWrite dt src data errs => Sys2Proof.Machine.execMemDataWrite dt src data errs s
  | .memDataRead dt src errs => Sys2Proof.Machine.execMemDataRead dt src errs s
  | .correction dt lane cam frame dx dy => Sys2Proof.Machine.execCorrection dt lane cam frame dx dy s
  | .stats dt lane cam frame sharpness intensity area => Sys2Proof.Machine.execStats dt lane cam frame sharpness intensity area s
  | .heartbeat dt lane => Sys2Proof.Machine.execHeartbeat dt lane s
  | .laneSync dt rx => Sys2Proof.Machine.execLaneSync dt rx s
  | .laneSyncLoss dt rx => Sys2Proof.Machine.execLaneSyncLoss dt rx s
  | .aliveTimeout => Sys2Proof.Machine.execAliveTimeout s
  | .vtxHeartbeat => Sys2Proof.Machine.execVtxHeartbeat s
  | .frameTagComplete cam => Sys2Proof.Machine.execFrameTagComplete cam s
  | .eventAdmit => Sys2Proof.Machine.execEventAdmit s
  | .poundCommit dt src pound => Sys2Proof.Machine.execPoundCommit dt src pound s
  | .poundDiscard dt src pound => Sys2Proof.Machine.execPoundDiscard dt src pound s
  | .bundledCommit dt src engine scopes => Sys2Proof.Machine.execBundledCommit dt src engine scopes s
  | .bundledDiscard dt src engine scopes => Sys2Proof.Machine.execBundledDiscard dt src engine scopes s
  | .modeCmdConfigure dt src => Sys2Proof.Machine.execModeCmdConfigure dt src s
  | .modeCmdCalibrate dt src => Sys2Proof.Machine.execModeCmdCalibrate dt src s
  | .modeCmdTrack dt src => Sys2Proof.Machine.execModeCmdTrack dt src s
  | .modeCmdServo dt src => Sys2Proof.Machine.execModeCmdServo dt src s
  | .modeCmdBuild dt src => Sys2Proof.Machine.execModeCmdBuild dt src s
  | .modeCmdHold dt src => Sys2Proof.Machine.execModeCmdHold dt src s
  | .modeCmdTest dt src => Sys2Proof.Machine.execModeCmdTest dt src s
  | .park dt src cls unit => Sys2Proof.Machine.execPark dt src cls unit s
  | .returnUnit dt src cls unit => Sys2Proof.Machine.execReturnUnit dt src cls unit s
  | .resume dt src laser segment => Sys2Proof.Machine.execResume dt src laser segment s
  | .stop dt src laser => Sys2Proof.Machine.execStop dt src laser s
  | .abandon dt src laser => Sys2Proof.Machine.execAbandon dt src laser s
  | .faultClear dt src => Sys2Proof.Machine.execFaultClear dt src s
  | .lmoClearFault dt src lmo => Sys2Proof.Machine.execLmoClearFault dt src lmo s
  | .bankSwapConfigure dt src axis length => Sys2Proof.Machine.execBankSwapConfigure dt src axis length s
  | .profileWrData dt src data => Sys2Proof.Machine.execProfileWrData dt src data s
  | .schedEntry dt src entry => Sys2Proof.Machine.execSchedEntry dt src entry s
  | .schedFlush dt src => Sys2Proof.Machine.execSchedFlush dt src s
  | .save dt src => Sys2Proof.Machine.execSave dt src s
  | .storeSaveComplete dt cause => Sys2Proof.Machine.execStoreSaveComplete dt cause s
  | .erase dt src => Sys2Proof.Machine.execErase dt src s
  | .selftestLogic dt src => Sys2Proof.Machine.execSelftestLogic dt src s
  | .selftestMemory dt src => Sys2Proof.Machine.execSelftestMemory dt src s
  | .selftestBoth dt src => Sys2Proof.Machine.execSelftestBoth dt src s
  | .selftestComplete dt sigs => Sys2Proof.Machine.execSelftestComplete dt sigs s
  | .captureArm dt src triggers => Sys2Proof.Machine.execCaptureArm dt src triggers s
  | .captureFire dt src triggers => Sys2Proof.Machine.execCaptureFire dt src triggers s
  | .captureStop dt src triggers => Sys2Proof.Machine.execCaptureStop dt src triggers s
  | .calPartEnd dt tile part gains offsets sensed deviations => Sys2Proof.Machine.execCalPartEnd dt tile part gains offsets sensed deviations s
  | .calDone dt => Sys2Proof.Machine.execCalDone dt s
  | .samplePllLocked dt => Sys2Proof.Machine.execSamplePllLocked dt s
  | .lmoOverTempClear dt lmo => Sys2Proof.Machine.execLmoOverTempClear dt lmo s
  | .ilimitClear dt tile drv => Sys2Proof.Machine.execIlimitClear dt tile drv s
  | .lmoIlimClear dt lmo => Sys2Proof.Machine.execLmoIlimClear dt lmo s
  | .laserSafeComplete => Sys2Proof.Machine.execLaserSafeComplete s
  | .rxBadPacket dt rx => Sys2Proof.Machine.execRxBadPacket dt rx s
  | .frameTransmissionEnd dt port => Sys2Proof.Machine.execFrameTransmissionEnd dt port s
  | .ssiClockEdge dt ssi rising => Sys2Proof.Machine.execSsiClockEdge dt ssi rising s

end Sys2Proof.Machine
end

