-- ==== Sys2Proof/Machine/Flags.lean ====
section
/-! DEFINITION. The flags that pins show: FAULT_N, READY and the level signals of the test multiplexer. The status words of the
units are computed with the units. -/

namespace Sys2Proof.Machine

/-- FAULT_N is driven low: reset, INIT, or any latch (R418, R446). -/
def State.faultN (s : State) : Bool :=
  s.mode.inReset || s.modeCode == INIT || decide (s.rd Reg.axesFaulted ≠ 0) || decide (s.rd Reg.faultSummary % 2 ^ 17 ≠ 0)

/-- READY is high (R444, R446). -/
def State.readyPin (s : State) : Bool := !s.mode.inReset && s.modeCode != INIT

/-! ### Pins of the board (R446; log entry 114) -/

/-- How a pin is driven; `driven` has the levels of its interface. -/
inductive Drive where
  | highZ
  | low
  | high
  | driven
  deriving DecidableEq, Repr

/-- Pins of which no other definition gives the state; `n` is a memory channel or a network port. -/
inductive BoardPin where
  | qspiSelect
  | qspiOther
  | sdramReset
  | sdramOther (n : Nat)
  | sgmii (n : Nat)
  | vtx
  deriving DecidableEq, Repr

/-- The flash is being written or erased (R431, R451). -/
def State.flashBusy (s : State) : Bool := s.rd Reg.storeState == 1 || s.rd Reg.persistState == 1 || s.rd Reg.persistState == 2

/-- The state of a pin (R446). In INIT the flash is read. -/
def State.boardPin (s : State) (p : BoardPin) : Drive :=
  if s.mode.inReset then (match p with | .sdramReset => .low | _ => .highZ)
  else if s.modeCode = INIT then
    match p with
    | .qspiSelect | .qspiOther => .driven
    | .sdramReset => if s.memState = memOFF then .low else .driven
    | .sdramOther _ | .sgmii _ | .vtx => .highZ
  else
    match p with
    | .qspiSelect => if s.flashBusy then .driven else .high
    | .qspiOther | .sdramReset => .driven
    | .sdramOther n => if s.memState ≠ memOFF ∧ n < s.rd Reg.memChannels then .driven else .highZ
    | .sgmii n => if s.portParked n then .highZ else .driven
    | .vtx => if bitAt (s.rd Reg.laneEnable) 4 then .driven else .highZ

/-! ### Analogue pins of the tiles (R85, R89, R90, R455) -/

/-- The units of TILE_t have power: it is in service, out of reset and INIT, and no logic self-test runs. -/
def State.tilePowered (s : State) (t : Nat) : Bool :=
  !s.mode.inReset && s.modeCode != INIT && !s.tileParked t && !s.logicTest

/-- What bias output b of TILE_t drives on its pins, in mV; none is high impedance (R85, R89). -/
def State.biasOut (s : State) (t b : Nat) : Option Nat :=
  if s.tilePowered t && s.rd (Reg.biasLevel t b) != 0 then some (s.rd (Reg.biasLevel t b)) else none

/-- The power stage of driver j of TILE_t is connected to its pins: it drives the carrier, or 0 V before its start and in the
gap of a change. Parking the tile disconnects it at the next zero crossing of its carrier (R63, R73, R90). -/
def State.driverDrives (s : State) (t j : Nat) : Bool :=
  !s.mode.inReset && s.modeCode != INIT && !s.logicTest && (s.driver t j).phase != .off

/-- The crosspoint holds pin AIN_t_p at high impedance: without power, in the role HIGHZ, and where its unit drives nothing
(R55, R85, R89, R90). -/
def State.pinHighZ (s : State) (t p : Nat) : Bool :=
  match s.pinRole t p with
  | 0 => true
  | 3 | 4 => !s.driverDrives t (s.pinUnit t p)
  | 7 => (s.biasOut t (s.pinUnit t p)).isNone
  | _ => !s.tilePowered t

/-- What a pull source drives: towards the high rail or the low one, its current in µA, and that rail in mV (R95, R96). -/
structure Pull where
  high : Bool
  microAmps : Nat
  railMv : Int
  deriving DecidableEq, Repr

/-- The pull source of pin AIN_t_p; none where it does not act, or is held off: on pins that drive, on the inputs of a CHARGE
amplifier, and without power (R95, R96; log entry 105). -/
def State.pullSource (s : State) (t p : Nat) : Option Pull :=
  let v := s.rd (Reg.pullCfg t p)
  let role := s.pinRole t p
  let sense := role == 5 || role == 6
  let off := role == 3 || role == 4 || role == 7 ||
    ((role == 1 || role == 2) && s.ampMode t (s.pinUnit t p) == 2) || !s.tilePowered t
  if off || !bitAt v 15 then none
  else
    let high := bitAt v 14
    some { high := high, microAmps := bitsAt v 0 8
           railMv := if sense then (if high then 4800 else -4800) else (if high then 4800 else 200) }

/-! ### Test multiplexers (R460, R461) -/

/-- What ATP_i carries: the tile, the unit and the node of ATP_SEL while it is enabled; none is high impedance (R446, R461). -/
def State.atpNode (s : State) (i : Nat) : Option (Nat × Nat × Nat) :=
  let v := s.rd (Reg.atpSel i)
  if s.mode.inReset || s.modeCode == INIT || s.logicTest || !bitAt v 15 then none
  else some (bitsAt v 4 3, bitsAt v 8 4, bitsAt v 0 4)

/-- A TRAJ request has waited for longer than TRAJ_AGE_CAP (R382, R460). -/
def State.trajOld (s : State) : Bool :=
  (List.range 16).any fun l => match (s.laser l).stream.fetching with
    | some (_, _, t) => decide (t + ns (s.rd Reg.trajAgeCap) < s.lt)
    | none => false

/-- The compute unit of AXIS_a is busy: within a window, from the end of the units before it and the overhead on, for the cycles
that it takes, at 1 ns each; the unit that the output instant abandons until then (R165, R182, R184, R460). -/
def State.unitBusy (s : State) (a : Nat) : Bool :=
  let t := a / 6
  match (s.engine t).windowOpen with
  | none => false
  | some b =>
    let missed := (s.engine t).missed
    let cost (a : Nat) : Nat := match (s.axis a).pending with | some p => p.cycles | none => 4
    let start := windowOverhead + (((axesOf t).filter (· < a)).map cost).foldl (· + ·) 0
    let stop := if missed.head? = some a then s.budget t else start + cost a
    (!missed.contains a || missed.head? == some a) &&
      decide (b + ns (300 + start) ≤ s.lt) && decide (s.lt < b + ns (300 + stop))

/-- The level of pin TP_i where its select names a level signal of the state. Pulses and clocks are not levels; those of the
partitions read 0 while a logic self-test runs. -/
def State.tpLevel (s : State) (i : Nat) : Option Bool :=
  let v := s.rd (Reg.tpSel i)
  let hidden := s.logicTest
  if s.mode.inReset || s.modeCode == INIT then none
  else if v = 0 ∨ (0x14 ≤ v ∧ v ≤ 0x1F) ∨ (0xE3 ≤ v ∧ v ≤ 0xEF) ∨ 0xF4 ≤ v then some false
  else if hidden && (decide (v ≤ 0x10) || (decide (0x80 ≤ v) && decide (v ≤ 0xAF)) || (decide (0xC0 ≤ v) && decide (v ≤ 0xDF))) then some false
  else if 0x80 ≤ v ∧ v ≤ 0xAF then some (s.unitBusy (v - 0x80))
  else if 0x20 ≤ v ∧ v ≤ 0x4F then some (!hidden && s.switchClosed ((v - 0x20) / 6) (2 * ((v - 0x20) % 6)))
  else if 0x50 ≤ v ∧ v ≤ 0x7F then some (!hidden && bitAt (s.axis (v - 0x50)).obs.words.status 0)
  else if 0xB0 ≤ v ∧ v ≤ 0xBF then some (!hidden && (s.laser (v - 0xB0)).gate)
  else if v = 0xE0 then some s.lock.running.isSome
  else if v = 0xE1 then some (!s.lock.queue.isEmpty)
  else if v = 0xE2 then some (bitAt (s.rd Reg.faultSummary) 16)
  else if v = 0xF2 then some s.memTracking
  else if v = 0xF3 then some s.trajOld
  else none

end Sys2Proof.Machine
end

