-- ==== Sys2Proof/WellFormed.lean ====
section
/-! DEFINITION. The commands whose operands name units that exist and values that fit their fields. -/

namespace Sys2Proof

open Machine

/-- A list of bytes. -/
def isBytes (l : List Nat) : Bool := l.all fun b => decide (b < 256)

/-- A number that fits `w` bits in two's complement. -/
def inBits (w : Nat) (x : Int) : Bool := decide (-(2 ^ (w - 1) : Int) ≤ x) && decide (x < 2 ^ (w - 1))

/-- A source on a port of the device. -/
def sourceFits : Source → Bool
  | .eth mac p => decide (mac < 2 ^ 48) && decide (p < 2)
  | .can => true

/-- What arrives wrong of a beat pair: a burst of the largest host space, one of its 8 pairs, and at most two different bits of
its data and check bits, as many as the code tells apart; the address check may arrive in any form (R377, R391). -/
def memErrFits (e : MemErr) : Bool :=
  decide (e.burst < 2 ^ 28) && decide (e.pair < 8) && decide e.flips.Nodup && (e.flips.all fun i => decide (i < 80)) &&
    decide ((e.flips.filter fun i => decide (i < 72)).length ≤ 2)

/-- An error of one of the ten regions of on-chip SRAM (R409). -/
def sramErrFits (e : SramErr) : Bool := decide (e.region < 10) && decide (e.burst < 2 ^ 28)

/-- A command is well formed. -/
def Instr.wellFormed : Instr → Bool
  | .resetNAssert => true
  | .supplyTrip => true
  | .supplyRecovered => true
  | .resetNRelease => true
  | .initComplete _ _ _ _ => true
  | .autoTrack _ => true
  | .sectorEraseComplete _ => true
  | .holdNFall _ => true
  | .holdNRise _ => true
  | .clearAxNFall _ => true
  | .clearAxNRise _ => true
  | .clearLmNFall _ => true
  | .clearLmNRise _ => true
  | .pfailNFall _ => true
  | .persistWriteComplete _ => true
  | .pfailNRecover _ => true
  | .sampleInstant _ _ drops => (drops.all fun i => decide (i < 32))
  | .demodOutput tile drops => decide (tile < 8) && (drops.all fun i => decide (i < 32))
  | .encEdge enc => decide (enc < 8)
  | .loopBoundary engine sram grid => decide (engine < 8) && sram.all sramErrFits && (grid.all fun e => decide (e.1 < 17) && memErrFits e.2)
  | .pdInSnapshot => true
  | .computeWindow engine _ sram => decide (engine < 8) && sram.all sramErrFits
  | .outputInstant engine drops => decide (engine < 8) && (drops.all fun i => decide (i < 32))
  | .carrierStop tile drv => decide (tile < 8) && decide (drv < 6)
  | .carrierStart tile drv => decide (tile < 8) && decide (drv < 6)
  | .amplitudeStep tile drv => decide (tile < 8) && decide (drv < 6)
  | .resetSwitchClose tile amp => decide (tile < 8) && decide (amp < 12)
  | .resetSwitchOpen tile amp => decide (tile < 8) && decide (amp < 12)
  | .thermWindow _ => true
  | .driverIlimit _ tile drv => decide (tile < 8) && decide (drv < 6)
  | .monitorSample _ => true
  | .rangeSwitchOpen axis => decide (axis < 48)
  | .rangeSwitchClose axis => decide (axis < 48)
  | .rangeChangeDone axis => decide (axis < 48)
  | .lmoIlim _ lmo => decide (lmo < 16)
  | .lmoOverTemp _ lmo => decide (lmo < 16)
  | .samplePllLockLoss _ _ => true
  | .realignComplete _ => true
  | .gateOpen laser => decide (laser < 16)
  | .gateClose laser => decide (laser < 16)
  | .lmoWrite laser => decide (laser < 16)
  | .profileStart laser => decide (laser < 16)
  | .profileSample laser => decide (laser < 16)
  | .ctAssert cam => decide (cam < 32)
  | .ctRelease cam => decide (cam < 32)
  | .latch => true
  | .capture => true
  | .markEvent => true
  | .sampleNFall _ => true
  | .ssiLatch _ ssi => decide (ssi < 2)
  | .ssiTimeout ssi => decide (ssi < 2)
  | .readRecords _ _ first count _ => decide (first < 256) && decide (count < 256)
  | .readLatch _ _ cmd arg1 arg2 _ => decide (cmd < 256) && decide (arg1 < 256) && decide (arg2 < 256)
  | .pulseEdge _ pulse _ _ => decide (pulse < 8)
  | .plsPreset _ src pulse count => sourceFits src && decide (pulse < 8) && inBits 32 count
  | .encEnable _ src enc value => sourceFits src && decide (enc < 8) && decide (value < 256)
  | .canRequest _ head payload => decide (head.id < 2048) && isBytes payload
  | .canBusError _ _ _ => true
  | .canBusOffRecovery _ => true
  | .frameReceive _ port _ _ => decide (port < 2)
  | .access _ mac port payload => decide (mac < 2 ^ 48) && decide (port < 2) && isBytes payload
  | .read _ src index sub => sourceFits src && decide (index < 65536) && decide (sub < 256)
  | .write _ src index sub data => sourceFits src && decide (index < 65536) && decide (sub < 256) && isBytes data
  | .readPart _ src index sub offset count => sourceFits src && decide (index < 65536) && decide (sub < 256) && decide (offset < 2 ^ 32) && decide (count < 65536)
  | .writePart _ src index sub offset data => sourceFits src && decide (index < 65536) && decide (sub < 256) && decide (offset < 2 ^ 32) && isBytes data
  | .writeLast _ src index sub offset data => sourceFits src && decide (index < 65536) && decide (sub < 256) && decide (offset < 2 ^ 32) && isBytes data
  | .readDesc _ src index sub => sourceFits src && decide (index < 65536) && decide (sub < 256)
  | .register _ src rank => sourceFits src && decide (rank < 256)
  | .deregister _ src => sourceFits src
  | .tokenTake _ src force => sourceFits src && decide (force < 256)
  | .tokenRelease _ src => sourceFits src
  | .pdOut _ mac port seq payload => decide (mac < 2 ^ 48) && decide (port < 2) && decide (seq < 65536) && isBytes payload
  | .eventAck _ mac port ack => decide (mac < 2 ^ 48) && decide (port < 2) && decide (ack < 2 ^ 32)
  | .eventPushRetry master => decide (master < 4)
  | .masterTimeout master => decide (master < 4)
  | .assemblyTimeout master => decide (master < 4)
  | .linkDown _ down => decide (down.port < 2)
  | .linkUp _ port => decide (port < 2)
  | .sync _ port domain source seq interval _ _ _ => decide (port < 2) && decide (domain < 4096) && decide (source < 2 ^ 64) && decide (seq < 65536) && inBits 8 interval
  | .followUp _ port domain source seq _ _ => decide (port < 2) && decide (domain < 4096) && decide (source < 2 ^ 64) && decide (seq < 65536)
  | .announce _ port domain source interval _ _ => decide (port < 2) && decide (domain < 4096) && decide (source < 2 ^ 64) && inBits 8 interval
  | .announceTimeout domain => decide (domain < 2)
  | .syncTimeout domain => decide (domain < 2)
  | .revertiveSwitch => true
  | .pdelayReq _ port seq _ _ => decide (port < 2) && decide (seq < 65536)
  | .pdelayReqSend _ port => decide (port < 2)
  | .pdelayResp _ port seq _ _ => decide (port < 2) && decide (seq < 65536)
  | .ltStep _ => true
  | .refreshTick channel rank _ => decide (channel < 2) && decide (rank < 2)
  | .mr4Read _ _ => true
  | .trackingStep _ channel _ => decide (channel < 2)
  | .patrolRead _ channel err => decide (channel < 2) && memErrFits { burst := 0, pair := err.pair, flips := err.flips }
  | .trajReadComplete _ laser errs => decide (laser < 16) && errs.all memErrFits
  | .trainingComplete _ _ channel => decide (channel < 2)
  | .freqSwitchComplete _ _ channel => decide (channel < 2)
  | .memDataWrite _ src data errs => sourceFits src && isBytes data && errs.all memErrFits
  | .memDataRead _ src errs => sourceFits src && errs.all memErrFits
  | .correction _ lane cam frame dx dy => decide (lane < 4) && decide (cam < 256) && decide (frame < 2 ^ 32) && inBits 32 dx && inBits 32 dy
  | .stats _ lane cam frame sharpness intensity area => decide (lane < 4) && decide (cam < 256) && decide (frame < 2 ^ 32) && decide (sharpness < 2 ^ 32) && decide (intensity < 2 ^ 32) && decide (area < 2 ^ 32)
  | .heartbeat _ lane => decide (lane < 4)
  | .laneSync _ rx => decide (rx.lane < 4)
  | .laneSyncLoss _ rx => decide (rx.lane < 4) && rx.words.all fun g => decide (g < 1024)
  | .aliveTimeout => true
  | .vtxHeartbeat => true
  | .frameTagComplete cam => decide (cam < 32)
  | .eventAdmit => true
  | .poundCommit _ src pound => sourceFits src && decide (pound < 106)
  | .poundDiscard _ src pound => sourceFits src && decide (pound < 106)
  | .bundledCommit _ src engine scopes => sourceFits src && decide (engine < 8) && decide (scopes < 128)
  | .bundledDiscard _ src engine scopes => sourceFits src && decide (engine < 8) && decide (scopes < 128)
  | .modeCmdConfigure _ src => sourceFits src
  | .modeCmdCalibrate _ src => sourceFits src
  | .modeCmdTrack _ src => sourceFits src
  | .modeCmdServo _ src => sourceFits src
  | .modeCmdBuild _ src => sourceFits src
  | .modeCmdHold _ src => sourceFits src
  | .modeCmdTest _ src => sourceFits src
  | .park _ src cls unit => sourceFits src && decide (cls < 256) && decide (unit < 65536)
  | .returnUnit _ src cls unit => sourceFits src && decide (cls < 256) && decide (unit < 65536)
  | .resume _ src laser segment => sourceFits src && decide (laser < 16) && decide (segment < 2 ^ 24)
  | .stop _ src laser => sourceFits src && decide (laser < 16)
  | .abandon _ src laser => sourceFits src && decide (laser < 16)
  | .faultClear _ src => sourceFits src
  | .lmoClearFault _ src lmo => sourceFits src && decide (lmo < 16)
  | .bankSwapConfigure _ src axis length => sourceFits src && decide (axis < 48) && decide (length < 65536)
  | .profileWrData _ src data => sourceFits src && isBytes data
  | .schedEntry _ src entry => sourceFits src && isBytes entry
  | .schedFlush _ src => sourceFits src
  | .save _ src => sourceFits src
  | .storeSaveComplete _ _ => true
  | .erase _ src => sourceFits src
  | .selftestLogic _ src => sourceFits src
  | .selftestMemory _ src => sourceFits src
  | .selftestBoth _ src => sourceFits src
  | .selftestComplete _ _ => true
  | .captureArm _ src triggers => sourceFits src && decide (triggers < 16)
  | .captureFire _ src triggers => sourceFits src && decide (triggers < 16)
  | .captureStop _ src triggers => sourceFits src && decide (triggers < 16)
  | .calPartEnd _ tile part _ _ _ _ => decide (tile < 8) && decide (2 ≤ part) && decide (part ≤ 4)
  | .calDone _ => true
  | .samplePllLocked _ => true
  | .lmoOverTempClear _ lmo => decide (lmo < 16)
  | .ilimitClear _ tile drv => decide (tile < 8) && decide (drv < 6)
  | .lmoIlimClear _ lmo => decide (lmo < 16)
  | .laserSafeComplete => true
  | .rxBadPacket _ rx => decide (rx.lane < 4) && rx.words.all fun c => decide (c ≤ 512)
  | .frameTransmissionEnd _ port => decide (port < 2)
  | .ssiClockEdge _ ssi _ => decide (ssi < 2)

end Sys2Proof
end

