-- ==== Sys2Proof/Safety.lean ====
section
/-! DEFINITION. What claims about a run are stated in: the canonical form of a state, and the state the device keeps in
reset. -/

namespace Sys2Proof.Machine

/-- The objects and the addressed memories are in canonical form. -/
def State.canonical (s : State) : Bool :=
  Store.wf s.regs && Memory.wf zeroByte s.dram && Memory.wf zeroByte s.profiles && Memory.wf zeroByte s.capture &&
    Memory.wf erasedByte s.flash

/-- What the device is while it is held in reset: the reset state, but for the flash, the levels of its pins, the waiting
commands, the count of free values taken, and the log, which holds the record of the pounds that reset emptied (R53, R443,
R444, R447; log entry 89). -/
def State.heldReset (s : State) : State :=
  { State.reset with
    flash := s.flash, freeCount := s.freeCount, pending := s.pending, log := s.log
    mode := { resetPinLow := s.mode.resetPinLow, supplyBad := s.mode.supplyBad, holdLow := s.mode.holdLow,
              clearAxLow := s.mode.clearAxLow, clearLmLow := s.mode.clearLmLow, pfailLow := s.pfailIsLow } }

/-- The reset invariant: the device is in reset while RESET_N is low or a supply is out of range, and only then; and in reset
it holds nothing but what outlasts reset. -/
def State.ResetInv (s : State) : Prop :=
  s.mode.inReset = (s.mode.resetPinLow || s.mode.supplyBad) ∧ (s.mode.inReset = true → s = s.heldReset)

/-- What no command but those of reset and supply changes: the queue, and what holds the device in reset. -/
def State.outside (s : State) : List Instr × Bool × Bool × Bool :=
  (s.pending, s.mode.inReset, s.mode.resetPinLow, s.mode.supplyBad)

/-- A reset, supply or pin command: the commands that are looked at in reset (R443, R444, R493). -/
def actsInReset : Instr → Bool
  | .resetNAssert | .resetNRelease | .supplyTrip | .supplyRecovered => true
  | .holdNFall _ | .holdNRise _ | .clearAxNFall _ | .clearAxNRise _ | .clearLmNFall _ | .clearLmNRise _ => true
  | .pfailNFall _ | .pfailNRecover _ => true
  | _ => false

/-- ENC_k neither starts, stops nor holds by itself, and no word is on its way to it. -/
def State.encRests (s : State) (k : Nat) : Bool :=
  (s.encWanted k == (s.enc k).running) && (s.enc k).words.isEmpty &&
    !((s.enc k).running && !(s.enc k).holding && s.axisParked (s.rd (Reg.encAxis k)))

/-- Nothing waits for the end of a command but the lockages of armed pounds: the device runs and no part of a calibration and
no transition goes on by itself, no monitoring result is on its way, no fault and no record awaits the lock-keeper, and the
emulators rest. -/
def State.calm (s : State) : Bool :=
  !s.mode.inReset && s.modeCode != INIT &&
    (s.modeCode != CALIBRATE || (List.range 8).all fun t => !((s.tile t).cal == .start && (s.tile t).gainDone)) &&
    s.monPending.isEmpty && s.mode.transition.isNone && s.lock.inbox.isEmpty && s.lock.triggerUid.isNone &&
    (List.range 8).all fun k => s.encRests k

/-- A state that is calm, and in which no armed lockage can become DEFERRED. A command's own effect is then all it has. -/
def State.still (s : State) : Bool :=
  s.calm && (List.range 105).all fun p => (s.pound p).armed.isNone || (s.pound p).deferred != 0

/-- No request waits for the memory (R345, R381). -/
def State.unheld (s : State) : Bool := !(s.net.held.any fun (r : Request) => r.won)

/-- A source is heard and registered as MASTER_n, and no request waits for the memory. -/
def State.speaks (s : State) (src : Source) (n : Nat) : Bool := s.heard src && (s.masterOf src == some n) && s.unheld

/-- A message of a source has arrived: LAST_SEEN_LT and REQUEST_COUNT of its master follow (R343, R355). -/
def State.received (s : State) (src : Source) : State := (s.seenFrom src).countMsg src 1

end Sys2Proof.Machine
end

