-- ==== Sys2Proof/Certificates/Slice0/Obligations.lean ====
section
/-! DEFINITION. The statements for the provers. -/

open Sys2Proof Sys2Proof.Machine

/-! ### The queue, reset and the whole machine -/

/-- A step takes the command at the front of the queue and runs it with the queue's rest. On an empty queue a step changes
nothing: the model's own choice (log entry 25). -/
def Obligations.StepTakesFront : Prop :=
  (∀ (c : Instr) (rest : List Instr) (s : State), step { s with pending := c :: rest } = exec c { s with pending := rest }) ∧
  (∀ s : State, s.pending = [] → step s = .next s)

/-- Every command is answered with a next state, and no command changes the queue. Only the commands of RESET_N and of the
supplies, and a die temperature above its trip level (R443, R472; log entry 113), change what holds the device in reset. -/
def Obligations.EveryCommandAnswers : Prop :=
  (∀ (c : Instr) (s : State), ∃ t, exec c s = .next t ∧ t.pending = s.pending) ∧
  (∀ (c : Instr) (s t : State), exec c s = .next t →
     c ≠ .resetNAssert → c ≠ .resetNRelease → c ≠ .supplyTrip → c ≠ .supplyRecovered →
     (∀ die, c = .thermWindow die → dieTrips die = false) → t.outside = s.outside)

/-- While the device is held in reset no command but those of RESET_N, of the supplies and of its input pins does anything
(R443, R444, R493; that every other command does nothing is the model's reading, log entry 26). -/
def Obligations.ResetIsDead : Prop :=
  ∀ (c : Instr) (s : State), s.mode.inReset = true → actsInReset c = false → exec c s = .next s

/-- The reset state is in the reset invariant, in canonical form, in INIT at LT 0, with no waiting command. What it is rests
on the log entries 4 and 26. Every step keeps the canonical form of the objects and of the addressed memories. -/
def Obligations.ResetStateHolds : Prop :=
  State.reset.ResetInv ∧ State.reset.canonical = true ∧ State.reset.modeCode = INIT ∧ State.reset.lt = 0 ∧ State.reset.pending = [] ∧
  ∀ s t : State, s.canonical = true → step s = .next t → t.canonical = true

/-- Every step keeps the reset invariant. What the device holds in reset is the model's choice: external memory empty and the
count of free values kept (log entries 2 and 14), no command but those of reset, supply and pins seen (log entry 26), and in
the log the record of the reset alone (log entry 89). -/
def Obligations.StepKeepsResetInv : Prop := ∀ s t : State, s.ResetInv → step s = .next t → t.ResetInv

/-- RESET_N and a bad supply put the device into reset from every state: what it is then depends on nothing but the flash,
the pins' levels, the waiting commands and the count of free values; the flash outlasts it, but for a save or a power-fail
write that is cut short (R443, R447). The log begins anew, with event 0x2010 where pounds held values (R53; that the record
of a reset is the new log's first is the model's choice, log entry 89; so are the empty external memory, log entry 14, the count
of free values that goes on, log entry 2, and that every other state is the reset state's, log entry 26). The device leaves reset when RESET_N is high and the supplies are in range, whichever
comes last: LT is 0 then, and nothing else changes; before that only the level changes (R292, R443, R444). -/
def Obligations.ResetEnteredAndLeft : Prop :=
  (∀ s : State,
     (∃ t, exec .resetNAssert s = .next t ∧ t = t.heldReset ∧ t.mode.inReset = true ∧ t.mode.resetPinLow = true ∧
       t.mode.supplyBad = s.mode.supplyBad ∧ t.mode.holdLow = s.mode.holdLow ∧ t.mode.clearAxLow = s.mode.clearAxLow ∧
       t.mode.clearLmLow = s.mode.clearLmLow ∧ t.mode.pfailLow = s.pfailIsLow ∧ t.pending = s.pending ∧
       (s.store.save = none → s.rd Reg.persistState ≠ 2 → t.flash = s.flash ∧ t.freeCount = s.freeCount) ∧
       (s.mode.inReset = false → (s.fullPounds = 0 → t.log = {}) ∧
         (0 < s.fullPounds → ∃ e, t.log.intake = [e] ∧ e.code = 0x2010 ∧ e.data = dU 4 s.fullPounds))) ∧
     (∃ t, exec .supplyTrip s = .next t ∧ t = t.heldReset ∧ t.mode.inReset = true ∧ t.mode.supplyBad = true ∧
       t.mode.resetPinLow = s.mode.resetPinLow ∧ t.mode.holdLow = s.mode.holdLow ∧ t.mode.clearAxLow = s.mode.clearAxLow ∧
       t.mode.clearLmLow = s.mode.clearLmLow ∧ t.mode.pfailLow = s.pfailIsLow ∧ t.pending = s.pending ∧
       (s.store.save = none → s.rd Reg.persistState ≠ 2 → t.flash = s.flash ∧ t.freeCount = s.freeCount) ∧
       (s.mode.inReset = false → (s.fullPounds = 0 → t.log = {}) ∧
         (0 < s.fullPounds → ∃ e, t.log.intake = [e] ∧ e.code = 0x2010 ∧ e.data = dU 4 s.fullPounds)))) ∧
  (∀ s : State, s.mode.inReset = true →
     (s.mode.supplyBad = false →
       exec .resetNRelease s = .next { s with lt := 0, mode := { s.mode with resetPinLow := false, inReset := false } }) ∧
     (s.mode.supplyBad = true → exec .resetNRelease s = .next { s with mode := { s.mode with resetPinLow := false } }) ∧
     (s.mode.resetPinLow = false →
       exec .supplyRecovered s = .next { s with lt := 0, mode := { s.mode with supplyBad := false, inReset := false } }) ∧
     (s.mode.resetPinLow = true → exec .supplyRecovered s = .next { s with mode := { s.mode with supplyBad := false } }))

/-! ### Front-end tiles -/

/-- CARRIER_STOP: a frequency change stops the carrier at the next wrap of its accumulator, where the driver takes the
frequency in use, RUNNING clears and its axes settle; a driver that leaves the running state is high impedance from that wrap
on (R73, R90, R108), and starts anew under R63 where its tile is in service and supervision runs (R63, R89). -/
def Obligations.CarrierStops : Prop :=
  ∀ (s : State) (t j : Nat), s.still = true → t < 8 → j < 6 →
    let at_ := nextWrap (s.driver t j).freq (max s.lt (s.driver t j).since)
    ((s.driver t j).phase = .waitStop →
      exec (.carrierStop t j) s =
        .next ((((s.goTo at_).modDriver t j fun d => { d with phase := .gap, since := at_, freq := s.rd (Reg.excFreq t j) }).wrField
          (Reg.excStatus t j) 1 1 0).setSettling t j none 2)) ∧
    ((s.driver t j).phase = .waitOff →
      let r := ((s.goTo at_).modDriver t j fun d => { d with phase := .off, settling := false, amplPending := false }).wrField
        (Reg.excStatus t j) 1 2 0
      exec (.carrierStop t j) s = .next (if s.supervised then r.startDriver t j else r))

/-- CARRIER_START: the carrier starts at the first wrap of the accumulator under the frequency in use, with the amplitude in
use; RUNNING sets, the excited channels are flushed, the reset switches it held closed follow their cycles, and the driver's
axes settle (R63, R73, R80, R108, R122). SETTLING of the
axes of a driver: each is flagged, and where the end of the change is known SETTLE_END_LT takes it (R108). -/
def Obligations.CarrierStarts : Prop :=
  (∀ (s : State) (t j : Nat), s.still = true → t < 8 → j < 6 →
     let f := s.rd (Reg.excFreq t j)
     let at_ := nextWrap f (max s.lt (s.driver t j).since)
     let run (cause : Nat) : State :=
       let r := (s.goTo at_).modDriver t j fun d =>
         { d with phase := .on, freq := f, ampl := s.rd (Reg.excAmpl t j), amplPending := false, fresh := false,
                  settling := !(s.driverAxes t j).isEmpty }
       let r := r.wrField (Reg.excStatus t j) 1 1 1
       (((r.excitedChans t j).foldl (fun r i => r.modChan t i Chan.flush) r).freshSwitches t j).setSettling t j (some at_) cause
     ((s.driver t j).phase = .gap → exec (.carrierStart t j) s = .next (run 2)) ∧
     ((s.driver t j).phase = .waitStart → exec (.carrierStart t j) s = .next (run 1))) ∧
  (∀ (s : State) (t j cause : Nat) (fin : Option Nat) (a : Nat), t < 8 → a < 48 → a ∈ s.driverAxes t j →
     ((s.setSettling t j fin cause).axis a).obs.settling = true ∧
     (∀ t0, fin = some t0 → ((s.setSettling t j fin cause).axis a).obs.settleEnd = some (t0 + ns (s.settleNs a)) ∧
       (s.setSettling t j fin cause).rd (Reg.settleEndLt a) = time80 (t0 + ns (s.settleNs a))))

/-- AMPLITUDE_STEP: the amplitude in use reaches the pins at the next wrap of the running carrier; nothing else changes: no
filter is flushed and no axis settles (R74). The reset switch of an amplifier in CHARGE mode closes at t_c of its next reset
cycle, and opens RESET_WIDTH × 100 ns later (R78); while its driver does not run it is closed, and neither command opens it
(R80). DRIVER_ILIMIT and ILIMIT_CLEAR: ILIMIT in EXC_STATUS reads 1 while the limit acts and 0 after it; nothing else of the
driver changes, so it does not switch off. Event 0x3106 tells a limit that begins in TRACK, SERVO, BUILD or HOLD (R65,
R103). -/
def Obligations.DriversFollow : Prop :=
  (∀ (s : State) (t j : Nat), s.still = true → t < 8 → j < 6 → (s.driver t j).amplPending = true → (s.driver t j).running = true →
     exec (.amplitudeStep t j) s =
       .next ((s.goTo (nextWrap (s.driver t j).freq (max s.lt (s.driver t j).since))).modDriver t j fun d =>
         { d with ampl := s.rd (Reg.excAmpl t j), amplPending := false })) ∧
  (∀ (s : State) (t m : Nat), s.still = true → t < 8 → m < 12 →
     (∀ a, s.ampMode t m = 2 → s.pairUser t m = some a → (s.driver t (s.rd (Reg.excDriver a))).running = true →
       (let tc := nextReset (s.driver t (s.rd (Reg.excDriver a))).freq (s.rd (Reg.ampReset t m)) s.lt
        exec (.resetSwitchClose t m) s = .next ((s.goTo tc).modAmp t m fun x => { x with closed := true, closedAt := some tc })) ∧
       (∀ tc, ((s.tile t).amp m).closed = true → ((s.tile t).amp m).closedAt = some tc →
         exec (.resetSwitchOpen t m) s =
           .next ((s.goTo (tc + ns (100 * resetWidth (s.rd (Reg.ampReset t m))))).modAmp t m fun x => { x with closed := false }))) ∧
     (∀ a, s.ampMode t m = 2 → s.pairUser t m = some a → (s.driver t (s.rd (Reg.excDriver a))).running = false →
       s.switchClosed t m = true ∧ exec (.resetSwitchClose t m) s = .next s ∧ exec (.resetSwitchOpen t m) s = .next s)) ∧
  (∀ (s : State) (dt t j : Nat), s.still = true → t < 8 → j < 6 →
     exec (.driverIlimit dt t j) s =
       .next (((s.advance dt).wrField (Reg.excStatus t j) 2 1 1).raiseIf
         (!bitAt (s.rd (Reg.excStatus t j)) 2 && s.inRunOrHold) 0x3106 cDRIVER (6 * t + j) []) ∧
     exec (.ilimitClear dt t j) s = .next ((s.advance dt).wrField (Reg.excStatus t j) 2 1 0))

/-- SAMPLE_INSTANT: at the next multiple of 100 ns every running tile's active channels take their codes, saturated to 18
bits; a tile that does not run, and every axis and output, stay as they are (R15, R82, R89). The codes and voltages are
operands (log entry 1). THERM_WINDOW: at the next multiple of 1.024 ms every running tile takes its die temperature,
saturated to its type; no driver, channel or axis changes (R86, R88). The ratio of a thermistor's voltage to its bias gives
OPEN above 0.98, SHORT below 0.02, and else its temperature (R86, R87; shown for a channel of a signal amplifier). A die above
115 °C puts the device into reset as a supply out of range does, one up to 110 °C never (R443, R472; log entry 113). -/
def Obligations.SamplesTaken : Prop :=
  (∀ (s : State) (adc pins : List (Nat × Int)) (drops : List Nat), s.still = true →
     ∃ t : State, exec (.sampleInstant adc pins drops) s = .next t ∧ t.lt = max s.lt (nextGrid (ns 100) s.lt s.lastSample) ∧
       t.lastSample = some t.lt ∧
       (∀ i c, i < 8 → c < 18 → (s.tile i).running = true → (12 ≤ c ∨ s.ampMode i c ≠ 0) →
         ((t.tile i).chan c).adc = Num.satI 18 (((adc.find? fun e => e.1 == 18 * i + c).map (·.2)).getD 0)) ∧
       (∀ i, i < 8 → (s.tile i).running = false → t.tile i = s.tile i) ∧ t.axes = s.axes ∧ t.lasers = s.lasers ∧ t.engines = s.engines) ∧
  (∀ (s : State) (die : List Int), s.still = true → dieTrips die = false →
     ∃ r, exec (.thermWindow die) s = .next r ∧ r.lt = max s.lt (nextGrid (ns 1024000) s.lt (s.tile 0).lastTherm) ∧
       (∀ t d, t < 8 → (s.tile t).running = true → die[t]? = some d → r.rdS 16 (Reg.tempDie t) = Num.satI 16 d) ∧
       (∀ t, t < 8 → (r.tile t).drivers = (s.tile t).drivers ∧ (r.tile t).chans = (s.tile t).chans) ∧ r.axes = s.axes ∧
       ∀ t i x, t < 8 → i < 2 → (s.tile t).running = true → (s.tile t).therms[i]? = some x → 0 < x.count →
         let ch := s.rd (Reg.thermChannel t i)
         let vb := s.rd (Reg.biasLevel t (s.rd (Reg.thermBias t i)))
         ch < 12 → s.rd (Reg.thermBias t i) < 4 → vb ≠ 0 →
         let num : Int := (256 * x.sum - x.count * s.sigOffset t ch) * 15625 * 2 ^ 31
         let den : Int := 256 * x.count * (2 ^ (bitsAt (s.rd (Reg.ampMode t ch)) 8 3) : Nat) * (s.sigGain t ch : Int) * vb * 1000000
         (98 * den < 100 * num → r.rd (Reg.thermStatus t i) = 2) ∧
         (100 * num ≤ 98 * den → 100 * num < 2 * den → r.rd (Reg.thermStatus t i) = 4) ∧
         (2 * den ≤ 100 * num → 100 * num ≤ 98 * den →
           r.rd (Reg.thermStatus t i) = 1 ∧
           r.rdS 16 (Reg.thermTemp t i) =
             thermTemp (s.rd (Reg.thermRseries t i)) (s.rd (Reg.thermRnom t i)) (s.rd (Reg.thermBeta t i)) num.toNat den.toNat)) ∧
  (∀ die : List Int, (∀ t d, t < 8 → die[t]? = some d → d ≤ 11000) → dieTrips die = false) ∧
  (∀ (s : State) (die : List Int) (t : Nat) (d : Int), s.still = true → t < 8 → die[t]? = some d → 11500 < d →
     exec (.thermWindow die) s = .next s.supplyTrip)

/-- DEMOD_OUTPUT: at the next multiple of the tile's demodulation period each channel with an axis gives its FIR output under
the response in use, while the tile runs; no other tile changes (R13, R120). The output whose instant equals the engine's latest
boundary is formed under the values before it (R34). What the words of the output raise meets the
lock-keeper as the command ends; where no axis is supervised nothing does. Which axis a sense channel without one follows is
the model's choice (log entry 11). A single-speed axis whose acquisition has completed predicts its state, corrects it by an
output that no fault condition and no settling marks, and goes on from the prediction otherwise (R137); its words are those of
that state after the linearisation, whose correction is the polynomial of its clamped arguments to the nearest unit and, in the
angle, to one unit of 2^-27 turn (R152, R153, R156, R158). How the results are rounded is the model's choice (log entries 6
and 47). -/
def Obligations.FirOutputsFormed : Prop :=
  ∀ (s : State) (t : Nat) (drops : List Nat), s.still = true → t < 8 →
    let td := nextGrid (ns (s.demodNs t)) s.lt (s.tile t).lastDemod
    ∃ r : State, exec (.demodOutput t drops) s = .next (s.keep r.done) ∧ (s.supervised = false → s.keep r.done = r) ∧ r.lt = max s.lt td ∧
      (r.tile t).lastDemod = some td ∧ (r.tile t).running = (s.tile t).running ∧
      ((s.tile t).running = true → (∀ e, (s.engine t).earlier = some e → e.until_ ≠ td) → ∀ i a, i < 18 → s.chanAxis t i = some a →
        ((r.tile t).chan i).firOut = ((s.tile t).chan i).fir (s.rd (Reg.response a))) ∧
      ((s.tile t).running = true → ∀ e, (s.engine t).earlier = some e → e.until_ = td →
        let u := s.under t e.values e.stale
        ∀ i a, i < 18 → u.chanAxis t i = some a →
          ((r.tile t).chan i).firOut = ((s.tile t).chan i).fir (u.rd (Reg.response a))) ∧
      (∀ i, i < 8 → i ≠ t → r.tile i = s.tile i) ∧
      ((s.tile t).running = true → (s.engine t).earlier = none → ∀ a, a ∈ axesOf t → s.kind a = 1 → s.axisObserved t a = true →
        s.carrierOn t a = true → (s.axis a).obs.acq = .done → (s.axis a).obs.lost = false →
        let o := s.feedDev a
        let x := (r.axis a).obs
        let T : Int := s.demodNs t
        let p : Int := s.rd (Reg.elecRatio a)
        let fed := s.feedFor a td
        let u := match fed with | some f => f + o.dev | none => o.acc
        let thetaP := Num.wrapTurn 64 (o.theta + Num.rdiv (o.omega * 2 ^ 16 * T) (10 ^ 9) + Num.rdiv (u * 2 ^ 28 * T * T) (2 * 10 ^ 18))
        let omegaP := Num.satI 64 (o.omega + Num.rdiv (u * 2 ^ 12 * T) (10 ^ 9))
        let k := obsGains (s.obsBw a) (s.demodNs t)
        let e := Num.wrapTurn 48 ((phi32 (x.corr.getD 0 0) (x.corr.getD 1 0) : Int) * 2 ^ 16 - p * thetaP)
        let a3 := Num.rdiv ((k.2.2 : Int) * e * 10 ^ 18) (p * 2 ^ 92 * T * T)
        let st := r.rd (Reg.supStatus a)
        let marked := bitAt st 1 || bitAt st 2 || bitAt st 3 || bitAt st 4 || bitAt st 6
        (marked = false →
          x.theta = Num.wrapTurn 64 (thetaP + Num.rdiv ((k.1 : Int) * e) (p * 2 ^ 64)) ∧
          x.omega = Num.satI 64 (omegaP + Num.rdiv ((k.2.1 : Int) * e * 10 ^ 9) (p * 2 ^ 80 * T)) ∧
          x.acc = Num.satI 64 (u + a3) ∧ x.dev = (if fed.isSome then Num.satI 64 (o.dev + a3) else o.dev)) ∧
        (marked = true → bitAt st 7 = false → x.theta = thetaP ∧ x.omega = omegaP ∧ x.acc = u ∧ x.dev = o.dev) ∧
        (bitAt st 7 = false →
          let sg : Int := if bitAt (s.rd (Reg.angleDir a)) 0 then -1 else 1
          let zero : Int := s.rd (Reg.angleZero a)
          let shows (lin : Int) : Prop :=
            let out := Num.wrapTurn 64 (sg * (lin - zero * 2 ^ 16))
            (x.words.angle : Int) = out % 2 ^ 48 / 2 ^ 24 ∧ x.words.turns = out / 2 ^ 48
          x.words.tag = td ∧ x.words.speed = Num.satI 32 (Num.rshift (sg * x.omega) 20) ∧
          x.words.accel = Num.satI 32 (Num.rshift (sg * x.acc) 16) ∧
          (s.rd (Reg.linEnable a) = 0 → shows x.theta ∧ r.rdS 32 (Reg.linCorrection a) = 0) ∧
          (s.rd (Reg.linEnable a) ≠ 0 → 0 < s.rd (Reg.linHalfspan a) → 0 < s.rd (Reg.linTempHalfspan a) →
            let ud : Int := (s.rd (Reg.linHalfspan a) : Int) * 2 ^ 16
            let vd : Int := s.rd (Reg.linTempHalfspan a)
            let un := Num.clampI (-ud) ud (Num.wrapTurn 48 (x.theta - (s.rd (Reg.linCentre a) : Int) * 2 ^ 16))
            let vn := Num.clampI (-vd) vd (s.rdS 16 (Reg.linTempUsed a) - s.rdS 16 (Reg.linTempCentre a))
            let num := ((List.range 8).map fun i => ((List.range 4).map fun j =>
              s.rdS 32 (Reg.linCoeff a (4 * i + j)) * un ^ i * ud ^ (7 - i) * vn ^ j * vd ^ (3 - j)).sum).sum
            let den := ud ^ 7 * vd ^ 3
            let d := Num.clampI (-(2 ^ 31 * den)) (2 ^ 31 * den) num
            (∃ c : Int, shows (x.theta + c * 2 ^ 16) ∧ ((32 * c * den - d).natAbs : Int) ≤ 32 * den) ∧
            (d < (2 ^ 31 - 1) * den → ((2 * (r.rdS 32 (Reg.linCorrection a)) * den - 2 * d).natAbs : Int) ≤ den))))

/-! ### Loop engines -/

/-- LOOP_BOUNDARY: it falls on the next multiple of the engine's period, and follows the boundary before it (R29), whatever
lockages are due. What it raises meets the lock-keeper as the command ends. -/
def Obligations.BoundariesFall : Prop :=
  ∀ (s : State) (t : Nat), s.calm = true → t < 8 → (t = 0 → s.net.held = []) →
    let b := nextGrid (ns (s.loopNs t)) s.lt (s.engine t).lastLoop
    ∃ r : State, exec (.loopBoundary t [] []) s = .next (s.keep r.done) ∧ r.lt = max s.lt b ∧ (r.engine t).lastLoop = some b ∧
      (r.engine t).before = (s.engine t).lastLoop ∧ ∀ i, i < 8 → i ≠ t → (r.engine i).lastLoop = (s.engine i).lastLoop

/-- COMPUTE_WINDOW: 300 ns after the boundary, a window whose units fit the budget computes them all: each running law leaves
the results of its unit for t_out, a law that does not run leaves none, and CYCLES_USED is the overhead with the cycles of
every unit (R165, R169, R182, R183). The weir of a live law takes the target where no limit forbids it, and says LIMITING
otherwise; its acceleration changes by no more than the jerk limit allows (R203, R204; how v_x is carried is log entry 47). A
fade of more than one period goes one step on, blends both laws' u_c and limits by its weight, and is over at its last step; a
shorter one is over at once (R191, R167). -/
def Obligations.WindowComputes : Prop :=
  ∀ (s : State) (t b : Nat) (stalls : List Nat), s.still = true → t < 8 → (s.engine t).lastLoop = some b → (s.engine t).computed ≠ some b →
    (s.engine t).windowOpen = none → s.engineParked t = false →
    let runs (k : Nat) : Bool := (s.axis (6 * t + k)).law.run != .stopped
    let cost (k : Nat) : Nat := if runs k then (s.axis (6 * t + k)).law.cycles true + stalls.getD k 0 else 4
    let used := 40 + cost 0 + cost 1 + cost 2 + cost 3 + cost 4 + cost 5
    used ≤ s.budget t →
    ∃ r : State, exec (.computeWindow t stalls []) s = .next r ∧ r.lt = max s.lt (b + ns 300) ∧ (r.engine t).windowOpen = some b ∧
      (r.engine t).computed = some b ∧ (r.engine t).missed = [] ∧ r.rd (Reg.cyclesUsed t) = used ∧
      r.rd (Reg.cyclesPeak t) = max (s.rd (Reg.cyclesPeak t)) used ∧
      ∀ k, k < 6 → (r.axis (6 * t + k)).axo = (s.axis (6 * t + k)).axo ∧
        ((r.axis (6 * t + k)).pending = if runs k then some ((s.goTo (b + ns 300)).axisUnit t (6 * t + k) b (stalls.getD k 0))
          else (s.axis (6 * t + k)).pending) ∧
        ∀ p, runs k = true → (r.axis (6 * t + k)).pending = some p →
          let a := 6 * t + k
          let w := (s.axis a).weir
          let l := (s.axis a).law
          (l.run = .live → w.init = true → w.doneAt < b →
            let dt : Int := lateNs w.doneAt b
            let jmax : Int := (s.rd (Reg.weirJerkLimit a) : Int) * 2 ^ 64
            let vmax : Int := (s.rd (Reg.weirVelLimit a) : Int) * 2 ^ 52
            let vx := (s.goTo (b + ns 300)).targetVelocity t a
            let rp := w.pos + Num.rdiv (w.vel * dt) (10 ^ 9) + Num.rdiv (w.acc * dt * dt) (2 * 10 ^ 18)
            let vp := w.vel + Num.rdiv (w.acc * dt) (10 ^ 9)
            let free := (vx.natAbs : Int) ≤ vmax ∧ ((0 - w.acc).natAbs : Int) * 10 ^ 9 ≤ jmax * dt ∧
              ((w.target - rp).natAbs : Int) * (6 * 10 ^ 27) ≤ jmax * dt * dt * dt ∧
              ((vx - vp).natAbs : Int) * (2 * 10 ^ 18) ≤ jmax * dt * dt
            (free → p.weir.pos = w.target ∧ p.weir.vel = vx ∧ p.weir.acc = 0 ∧ bitAt p.weirStatus 0 = false) ∧
            (¬free → bitAt p.weirStatus 0 = true) ∧ ((p.weir.acc - w.acc).natAbs : Int) * 10 ^ 9 ≤ jmax * dt) ∧
          ∀ bank, l.incoming = some bank →
            (l.fadeLen ≤ 1 → p.fadeDone = true) ∧
            (1 < l.fadeLen → p.fadeDone = decide (l.fadeLen ≤ l.fadePos + 1) ∧ p.law.fadePos = l.fadePos + 1 ∧
              (l.preset = false → l.presetIn = false →
                let i := { (s.goTo (b + ns 300)).lawIn t a (s.goTo (b + ns 300)).lt with r := p.weir.pos, v := p.weir.vel, a := p.weir.acc }
                let wt := Num.rdiv (((l.fadePos + 1 : Nat) : Int) * 65536) l.fadeLen
                let mix (x y : Int) : Int := Num.rshift ((65536 - wt) * operand x + wt * operand y) 8
                p.uk = Num.clampI (mix (uMin l.active) (uMin bank)) (mix (uMax l.active) (uMax bank))
                  (Num.satI 40 (mix (lawHalf l.active l.st i false).uc (lawHalf bank l.stIn i false).uc))))

/-- OUTPUT_INSTANT: OUT_OFFSET after the boundary, each completed unit writes its code to its driven output, unless
CLEAR_AX_N, a range change or a start since then holds it; an axis without a unit keeps its code; an abandoned unit keeps its
code too and is counted in DEADLINE_MISS (R168, R184, R236). A fade whose last period
completes ends there: INCOMING becomes ACTIVE; otherwise both stay (R191). -/
def Obligations.OutputsChange : Prop :=
  ∀ (s : State) (t b : Nat) (drops : List Nat), s.still = true → t < 8 → (s.engine t).windowOpen = some b →
    ∃ r : State, exec (.outputInstant t drops) s = .next (s.keep r.done) ∧ ((s.engine t).missed = [] → s.keep r.done = r) ∧
      r.lt = max s.lt (b + ns (s.outNs t)) ∧ (r.engine t).windowOpen = none ∧
      ∀ a, a ∈ axesOf t →
        let x := s.axis a
        ((s.engine t).missed.contains a = true →
          (r.axis a).axo = x.axo ∧ (r.axis a).law = x.law ∧ (r.axis a).pending = none ∧
            r.rd (Reg.deadlineMiss a) = min (s.rd (Reg.deadlineMiss a) + 1) (2 ^ 32 - 1)) ∧
        ((s.engine t).missed.contains a = false →
          (x.pending = none → (r.axis a).axo = x.axo ∧ r.rd (Reg.missRun a) = 0 ∧ r.rd (Reg.cyclesMeas a) = 4) ∧
          ∀ p, x.pending = some p → (r.axis a).pending = none ∧ r.rd (Reg.missRun a) = 0 ∧
            r.rd (Reg.cyclesMeas a) = min p.cycles 65535 ∧
            (∀ bank, x.law.incoming = some bank → p.fadeDone = true → (r.axis a).law.active = bank ∧ (r.axis a).law.incoming = none) ∧
            (x.law.incoming = none ∨ p.fadeDone = false →
              (r.axis a).law.active = x.law.active ∧ (r.axis a).law.incoming = x.law.incoming) ∧
            (r.axis a).axo.code =
              if x.law.run ≠ .stopped ∧ x.law.preset = false ∧ s.mode.clearAxLow = false ∧
                (s.engine t).pinFell = false ∧ x.axo.highZ = false ∧ x.axo.rangePhase = 0 then p.code
              else x.axo.code)

/-! ### Outputs and pins -/

/-- A change of AXO_RANGE: 2 µs after its boundary the switch opens and the amplifier is high impedance in its new range, at
12 µs it closes at CLEAR_CODE, and at 14 µs the change is over, with event 0x3603 (R241). -/
def Obligations.RangeChanges : Prop :=
  ∀ (s : State) (a : Nat), s.still = true → a < 48 →
    let x := (s.axis a).axo
    (x.rangePhase = 1 →
      exec (.rangeSwitchOpen a) s =
        .next ((s.goTo (x.rangeLt + ns 2000)).modAxo a fun y =>
          { y with rangePhase := 2, highZ := true, oldRange := y.range, range := s.rd (Reg.axoRange a) })) ∧
    (x.rangePhase = 2 →
      exec (.rangeSwitchClose a) s =
        .next (((s.goTo (x.rangeLt + ns 12000)).modAxo a fun y => { y with rangePhase := 3, highZ := false }).setCode a
          (s.clearCode a))) ∧
    (x.rangePhase = 3 →
      exec (.rangeChangeDone a) s =
        .next (((s.goTo (x.rangeLt + ns 14000)).modAxo a fun y => { y with rangePhase := 0 }).raise 0x3603 cAXIS a
          (dU 1 x.oldRange ++ dU 1 x.range)))

/-- The driver of LMO_n: its current limit is shown while it acts, with event 0x3620 as it begins; over temperature it
switches off, with event 0x3621, and stays off when it has cooled; a write of LMO_CLEAR_FAULT switches it on again, with
event 0x3622. Where it drives no laser nothing else follows (R256). -/
def Obligations.LmoDriverProtects : Prop :=
  ∀ (s : State) (dt n : Nat), s.still = true → n < 16 →
    exec (.lmoIlim dt n) s =
      .next (((s.advance dt).modLaser n fun x => { x with ilim := true }).raiseIf (!(s.laser n).ilim) 0x3620 cLMO n []) ∧
    exec (.lmoIlimClear dt n) s = .next ((s.advance dt).modLaser n fun x => { x with ilim := false }) ∧
    ((s.laser n).overTemp = false → s.lmoLaser n = none →
      exec (.lmoOverTemp dt n) s =
        .next (((s.advance dt).modLaser n fun x => { x with overTemp := true, off := true }).raiseFull 1 0x3621 cLMO n [0xFF]
          (s.advance dt).lt [])) ∧
    exec (.lmoOverTempClear dt n) s = .next ((s.advance dt).modLaser n fun x => { x with overTemp := false }) ∧
    ∀ src m, (s.advance dt).speaks src m = true → (s.laser n).overTemp = false → (s.laser n).off = true →
      exec (.lmoClearFault dt src n) s =
        .next (((((s.advance dt).received src).modLaser n fun x => { x with off := false }).raise 0x3622 cLMO n []).answer 0 [])

/-- MONITOR_SAMPLE: at the next multiple of 500 ns the converter takes its next slot, and the result reaches its consumers
600 ns later; an axis is judged against its envelope at the sample (R238, R246, R247): that the judgement is made then and not at
the delivery is the model's reading (log entry 57). The first command at or after that instant finds the result delivered (shown
for a clock edge of SSI): RB_VALUE, RB_DEVIATION and RB_RUN of an axis, its mismatch counted, event 0x3601 with the result's
instant where RB_COUNT_LIMIT is reached, and BUS_VALUE of a bus input, with event 0x3630 below its limit (R248, R249, R250). -/
def Obligations.MonitorSamples : Prop :=
  (∀ (s : State) (raw : Int), s.still = true → s.logicTest = false →
    let at_ := nextGrid (ns 500) s.lt s.lastMonitor
    let slot := at_ / ns 500 % 56
    let r := { s.goTo at_ with lastMonitor := some at_ }
    exec (.monitorSample raw) s =
      .next { r with monPending :=
        [if slot < 48 then
          { ready := at_ + ns 600, slot := slot, raw := Num.satI 16 raw, judged := r.readBack slot (Num.satI 16 raw) }
         else { ready := at_ + ns 600, slot := slot, raw := Num.clampI 0 65535 raw }] }) ∧
  ∀ (s : State) (m : MonResult) (dt : Nat), ({ s with monPending := [] } : State).still = true → s.monPending = [m] →
    m.ready ≤ (s.advance dt).lt → s.logicTest = false → (s.ssi 0).frame = none →
    ∃ t : State, exec (.ssiClockEdge dt 0 true) s = .next t ∧ t.lt = (s.advance dt).lt ∧ t.monPending = [] ∧
      (m.slot < 48 →
        t.rdS 16 (Reg.rbValue m.slot) = Num.satI 16 m.raw ∧
        (m.judged = none → t.rd (Reg.rbDeviation m.slot) = s.rd (Reg.rbDeviation m.slot) ∧ t.rd (Reg.rbRun m.slot) = s.rd (Reg.rbRun m.slot)) ∧
        (∀ d, m.judged = some (d, false) → t.rd (Reg.rbDeviation m.slot) = d ∧ t.rd (Reg.rbRun m.slot) = 0) ∧
        ∀ d, m.judged = some (d, true) →
          let run := min (s.rd (Reg.rbRun m.slot) + 1) 255
          t.rd (Reg.rbDeviation m.slot) = d ∧ t.rd (Reg.rbRun m.slot) = run ∧
          t.rd (Reg.rbMismatchCount m.slot) = min (s.rd (Reg.rbMismatchCount m.slot) + 1) (2 ^ 32 - 1) ∧
          (s.rd (Reg.rbCountLimit m.slot) ≤ run → (s.axis m.slot).axo.rbFault = false → s.log.stopped = false →
            s.log.intake.length < 255 →
            ∃ e, e ∈ t.log.intake ∧ e.code = 0x3601 ∧ e.cls = cAXIS ∧ e.inst = m.slot ∧ e.ts = m.ready ∧ e.level = 2)) ∧
      (48 ≤ m.slot → m.slot < 56 →
        let k := m.slot - 48
        let v := min 65535 (Num.rdiv (m.raw * s.rd (Reg.busRatio k)) 4096).toNat
        t.rd (Reg.busValue k) = v ∧
        (s.busLow.contains k = false → v < s.rd (Reg.busLowLimit k) → s.log.stopped = false → s.log.intake.length < 256 →
          ∃ e, e ∈ t.log.intake ∧ e.code = 0x3630 ∧ e.cls = cBUS ∧ e.inst = k ∧ e.ts = m.ready))

/-- CLEAR_AX_N: at its falling edge every driven output goes to CLEAR_CODE at once and reads it, CLEAR_AX_COUNT counts and
event 0x3610 is raised; outside BUILD nothing else happens, in BUILD it starts DEVICE_HOLD with cause 1 (shown where no reaction
runs and no stream has a record to deliver; R410). At its rising edge event 0x3611 tells how long it was low, and no
output changes by that (R243, R244; that a duration is cut to whole microseconds is log entry 47). CLEAR_LM_N: at its falling edge every gate goes inactive and every laser output to its
clear code, until its next open edge; CLEAR_LM_COUNT counts and event 0x3612 is raised. At its rising edge event 0x3613 tells
how long it was low, and no gate opens by that (R245). -/
def Obligations.ClearPins : Prop :=
  (∀ (s : State) (dt : Nat), s.still = true →
     (s.mode.clearAxLow = false → s.modeCode ≠ BUILD →
       ∃ t, exec (.clearAxNFall dt) s = .next t ∧ t.lt = (s.advance dt).lt ∧ t.mode = { s.mode with clearAxLow := true } ∧
         bitAt (t.rd Reg.clearPins) 0 = true ∧ t.rd Reg.clearAxCount = (s.rd Reg.clearAxCount + 1) % 2 ^ 32 ∧
         (∀ a, a < 48 → t.axoCodeNow a = s.clearCode a ∧ (t.axis a).law = (s.axis a).law ∧ (t.axis a).obs = (s.axis a).obs ∧
           (t.axis a).axo.code = if (s.axis a).axo.highZ then (s.axis a).axo.code else s.clearCode a) ∧
         (∀ k, k ≠ Reg.clearPins → k ≠ Reg.clearAxCount → k ≠ Reg.lostCount → t.rd k = s.rd k) ∧ t.lasers = s.lasers ∧ t.tiles = s.tiles ∧
         t.lock = s.lock ∧ t.dram = s.dram ∧ t.profiles = s.profiles ∧ t.flash = s.flash ∧
         (s.log.stopped = false → s.log.intake.length < 256 →
           ∃ e, t.log.intake = s.log.intake ++ [e] ∧ e.code = 0x3610 ∧ e.cls = cDEVICE ∧ e.ts = t.lt)) ∧
     (s.mode.clearAxLow = false → s.modeCode = BUILD → s.lock.running = none →
       (∀ l, l < 16 → (s.advance dt).streamRests l = true) →
       ∃ t q, exec (.clearAxNFall dt) s = .next t ∧ t.lt = (s.advance dt).lt ∧ t.mode.clearAxLow = true ∧ t.modeCode = HOLD ∧
         bitAt (t.rd Reg.clearPins) 0 = true ∧ t.lock.running = some q ∧ q.kind = .deviceHold ∧ q.cause = 1 ∧ q.t0 = t.lt ∧
         q.trigger = s.log.nextUid ∧ (∀ l, l < 16 → (t.laser l).hold = true) ∧
         (∀ a, a < 48 → (s.axis a).axo.highZ = false → (t.axis a).axo.code = s.clearCode a) ∧
         (s.log.stopped = false → s.log.intake.length < 255 →
           (∃ e, e ∈ t.log.intake ∧ e.code = 0x3610 ∧ e.uid = s.log.nextUid ∧ e.ts = t.lt) ∧
           ∃ e, e ∈ t.log.intake ∧ e.code = 0x2020 ∧ e.uid = s.log.nextUid + 1)) ∧
     (s.mode.clearAxLow = true →
       exec (.clearAxNRise dt) s =
         .next (((({ s.advance dt with clearAxRise := (s.advance dt).lt, mode := { s.mode with clearAxLow := false } } : State).noteTest).wrField
           Reg.clearPins 0 1 0).raise 0x3611 cDEVICE 0 (dU 4 (lateNs s.clearAxFall (s.advance dt).lt / 1000))))) ∧
  (∀ (s : State) (dt : Nat), s.still = true →
     (s.mode.clearLmLow = false →
       ∃ t, exec (.clearLmNFall dt) s = .next t ∧ t.lt = (s.advance dt).lt ∧ t.mode = { s.mode with clearLmLow := true } ∧
         bitAt (t.rd Reg.clearPins) 1 = true ∧ t.rd Reg.clearLmCount = (s.rd Reg.clearLmCount + 1) % 2 ^ 32 ∧
         (∀ l, l < 16 → t.laser l = { s.laser l with hold := true }) ∧
         (∀ k, k ≠ Reg.clearPins → k ≠ Reg.clearLmCount → k ≠ Reg.lostCount → t.rd k = s.rd k) ∧ t.axes = s.axes ∧ t.tiles = s.tiles ∧
         t.lock = s.lock ∧ t.dram = s.dram ∧ t.profiles = s.profiles ∧ t.flash = s.flash ∧
         (s.log.stopped = false → s.log.intake.length < 256 →
           ∃ e, t.log.intake = s.log.intake ++ [e] ∧ e.code = 0x3612 ∧ e.cls = cDEVICE ∧ e.ts = t.lt)) ∧
     (s.mode.clearLmLow = true →
       exec (.clearLmNRise dt) s =
         .next (({ s.advance dt with mode := { s.mode with clearLmLow := false } }.wrField Reg.clearPins 1 1 0).raise 0x3613 cDEVICE 0
           (dU 4 (lateNs s.clearLmFall (s.advance dt).lt / 1000)))))

/-- HOLD_N: low for 50 ns it starts DEVICE_HOLD with cause 2: every laser is DARK, a device in TRACK, SERVO or BUILD is in
HOLD, and events 0x2027 and 0x2020 are raised. Where a reaction of lower order runs it takes over, with event 0x2022; where a
DEVICE_HOLD runs it is queued, with event 0x2023 (R415, R416; shown where no stream has a record to deliver). At its rising edge event 0x2029 tells how long it was low; nothing
else changes (R410, R411; that a duration is cut to whole microseconds is log entry 47). That step 1 acts at the detection is the
model's reading (log entry 36). -/
def Obligations.HoldPin : Prop :=
  ∀ (s : State) (dt : Nat), s.still = true → (∀ l, l < 16 → (s.advance dt).streamRests l = true) →
    (s.mode.holdLow = false → s.lock.running = none →
      ∃ t q, exec (.holdNFall dt) s = .next t ∧ t.lt = (s.advance dt).lt ∧ t.mode.holdLow = true ∧ t.lock.running = some q ∧
        q.kind = .deviceHold ∧ q.cause = 2 ∧ q.t0 = (s.advance dt).lt ∧ q.engines = List.range 8 ∧ q.trigger = s.log.nextUid ∧
        (∀ l, l < 16 → (t.laser l).hold = true) ∧ t.modeCode = (if s.inRun then HOLD else s.modeCode) ∧
        (s.log.stopped = false → s.log.intake.length < 255 →
          (∃ e, e ∈ t.log.intake ∧ e.code = 0x2027 ∧ e.uid = s.log.nextUid ∧ e.ts = t.lt) ∧
          ∃ e, e ∈ t.log.intake ∧ e.code = 0x2020 ∧ e.uid = s.log.nextUid + 1 ∧ e.ts = t.lt + ns 20)) ∧
    (s.mode.holdLow = false → ∀ r, s.lock.running = some r → r.kind ≠ .deviceHold →
      ∃ t q, exec (.holdNFall dt) s = .next t ∧ t.lt = (s.advance dt).lt ∧ t.mode.holdLow = true ∧ t.lock.running = some q ∧
        q.kind = .deviceHold ∧ q.cause = 2 ∧ q.t0 = (s.advance dt).lt ∧ q.engines = List.range 8 ∧ q.trigger = s.log.nextUid ∧
        q.faulted = r.faulted ∧ (∀ l, l < 16 → (t.laser l).hold = true) ∧ t.modeCode = (if s.inRun then HOLD else s.modeCode) ∧
        (s.log.stopped = false → s.log.intake.length < 255 →
          (∃ e, e ∈ t.log.intake ∧ e.code = 0x2027 ∧ e.uid = s.log.nextUid ∧ e.takenOver = true) ∧
          ∃ e, e ∈ t.log.intake ∧ e.code = 0x2022 ∧ e.uid = s.log.nextUid + 1)) ∧
    (s.mode.holdLow = false → ∀ r, s.lock.running = some r → r.kind = .deviceHold →
      (∀ q, q ∈ s.lock.queue → ¬(q.cls = cDEVICE ∧ q.inst = 0)) →
      ∃ t q, exec (.holdNFall dt) s = .next t ∧ t.lt = (s.advance dt).lt ∧ t.mode.holdLow = true ∧ t.lock.running = some r ∧
        t.modeCode = s.modeCode ∧ t.lock.queue = s.lock.queue ++ [q] ∧ q.kind = .deviceHold ∧ q.cause = 2 ∧ q.trigger = s.log.nextUid ∧
        (s.log.stopped = false → s.log.intake.length < 255 →
          (∃ e, e ∈ t.log.intake ∧ e.code = 0x2027 ∧ e.uid = s.log.nextUid ∧ e.queued = true) ∧
          ∃ e, e ∈ t.log.intake ∧ e.code = 0x2023 ∧ e.uid = s.log.nextUid + 1)) ∧
    (s.mode.holdLow = true →
      exec (.holdNRise dt) s =
        .next ({ s.advance dt with mode := { s.mode with holdLow := false } }.raise 0x2029 cDEVICE 0
          (dU 4 (lateNs s.mode.holdSince (s.advance dt).lt / 1000))))

/-- PFAIL_N: low for 1 µs with persistence armed, event 0x2028 is raised and latched, every record so far is numbered with 0x2028
the last, numbering stops and the power-fail write begins; the flash does not change before it completes (R431). In TRACK, SERVO,
BUILD and HOLD it starts DEVICE_HOLD (R410); where persistence is not armed the event alone is raised; a save in progress is
abandoned, with event 0x2005 of cause 3 (R451). Shown where no stream has a record
to deliver. How long the pin stays low is an operand (log entry 67). PERSIST_WRITE_COMPLETE
stores the block of the fall in the erased sector (R431; its layout is log entry 16; a write that outlasts the recovery is log
entry 103). PFAIL_N_RECOVER lets logging resume with event 0x200A (R452).
The end of the older sector's erase: it reads erased, and PERSIST_STATE reads ARMED (R431). -/
def Obligations.PowerFailPersists : Prop :=
  (∀ (s : State) (dt : Nat) (up : Option Nat), s.still = true → (s.advance dt).pfailIsLow = false → s.log.stopped = false →
     (∀ l, l < 16 → (s.advance dt).streamRests l = true) →
     let now := (s.advance dt).lt
     let low : ModeSt := { s.mode with pfailLow := true, pfailUp := up.map fun n => now + ns n }
     (s.rd Reg.persistState = 0 → s.store.save = none → s.inRunOrHold = false →
       ∃ t, exec (.pfailNFall ⟨dt, up⟩) s = .next t ∧ t.lt = now ∧ t.mode = low ∧
         t.rd Reg.persistState = 2 ∧ t.log.stopped = true ∧ bitAt (t.rd Reg.faultSummary) 16 = true ∧ t.flash = s.flash ∧
         t.store.block = t.sectorImage ∧ t.modeCode = s.modeCode ∧ t.log.intake = [] ∧
         ((∀ e ∈ s.log.intake, e.ts < now) → s.log.intake.length ≤ 256 →
           (∃ h, t.log.ring.head? = some h ∧ h.code = 0x2028 ∧ h.ts = now ∧ h.level = 4) ∧
           ∀ e ∈ s.log.intake, ∃ h ∈ t.log.ring, h.uid = e.uid)) ∧
     (s.rd Reg.persistState = 0 → s.store.save = none → s.inRunOrHold = true → s.lock.running = none → s.lock.queue = [] →
       (∀ e ∈ s.log.intake, e.ts < now) → s.log.intake.length ≤ 256 →
       ∃ t q h, exec (.pfailNFall ⟨dt, up⟩) s = .next t ∧ t.lt = now ∧ t.rd Reg.persistState = 2 ∧ t.log.stopped = true ∧
         bitAt (t.rd Reg.faultSummary) 16 = true ∧ t.flash = s.flash ∧ t.store.block = t.sectorImage ∧ t.modeCode = HOLD ∧
         t.log.ring.head? = some h ∧ h.code = 0x2028 ∧ h.ts = now ∧ t.lock.running = some q ∧ q.kind = .deviceHold ∧ q.cause = 1 ∧
         q.trigger = h.uid ∧ q.t0 = now ∧ ∀ l, l < 16 → (t.laser l).hold = true) ∧
     (s.rd Reg.persistState ≠ 0 → s.store.save = none → s.inRunOrHold = false →
       ∃ t, exec (.pfailNFall ⟨dt, up⟩) s = .next t ∧ t.lt = now ∧ t.mode = low ∧ t.rd Reg.persistState = s.rd Reg.persistState ∧
         t.log.stopped = false ∧ t.store.pfailRun = false ∧ bitAt (t.rd Reg.faultSummary) 16 = true ∧ t.flash = s.flash ∧
         t.store.block = s.store.block ∧ t.modeCode = s.modeCode ∧
         (s.log.intake.length < 256 → ∃ e ∈ t.log.intake, e.code = 0x2028 ∧ e.ts = now ∧ e.level = 4)) ∧
     (∀ x, s.store.save = some x → s.rd Reg.persistState ≠ 0 → s.inRunOrHold = false →
       ∃ t, exec (.pfailNFall ⟨dt, up⟩) s = .next t ∧ t.lt = now ∧ t.store.save = none ∧ t.rd Reg.storeState = 0 ∧
         t.modeCode = s.modeCode ∧
         (s.log.intake.length < 255 →
           (∃ e ∈ t.log.intake, e.code = 0x2005 ∧ e.ts = now ∧ e.data = dU 1 x.slot ++ dU 1 3) ∧
           ∃ e ∈ t.log.intake, e.code = 0x2028 ∧ e.ts = now))) ∧
  (∀ (s : State) (dt : Nat), s.still = true →
     (s.rd Reg.persistState = 2 →
       let r := s.advance dt
       exec (.persistWriteComplete dt) s =
         .next (({ r with flash := memWriteBytes erasedByte s.flash (eventSector s.erasedSector) s.store.block,
                          store := { s.store with newest := some s.erasedSector } } : State).wr Reg.persistState
                  (if s.log.stopped then 3 else 1))) ∧
     (s.mode.pfailLow = true → s.store.pfailRun = false →
       exec (.pfailNRecover dt) s =
         .next ({ s.advance dt with mode := { s.mode with pfailLow := false, pfailUp := none } }.raise 0x200A cDEVICE 0 (dU 4 0))) ∧
     (s.mode.pfailLow = true → s.store.pfailRun = true →
       ∃ t, exec (.pfailNRecover dt) s = .next t ∧ t.mode = { s.mode with pfailLow := false, pfailUp := none } ∧
         t.rd Reg.persistState = (if s.rd Reg.persistState = 2 then 2 else 1) ∧ t.log.stopped = false ∧ t.log.stoppedLost = 0 ∧ t.flash = s.flash)) ∧
  (∀ (s : State) (dt : Nat), s.still = true → s.rd Reg.persistState = 1 → s.rd Reg.storeState ≠ 2 → s.log.stopped = false →
     exec (.sectorEraseComplete dt) s =
       .next (({ s.advance dt with flash := memClear s.flash (eventSector s.erasedSector) 0x10000 } : State).wr Reg.persistState 0))

/-! ### Clock, power-up and calibration -/

/-- The sample PLL: a loss of lock outside realignment clears LOCKED and latches 0x380D; in CONFIGURE, CALIBRATE and TEST
nothing else follows (R295, R408). LOCKED is set again as the loop regains its phase, and at the end of a realignment, which
ends REALIGNING (R295). A device fault in TRACK, SERVO, BUILD or HOLD starts DEVICE_HOLD at its detection with the fault as
its trigger: every laser is DARK and MODE reads HOLD (R408, R411; shown for a loss of lock of the sample PLL while no stream has a record to deliver). That step 1 acts at
the detection is the model's reading (log entry 36). -/
def Obligations.SamplePllShown : Prop :=
  (∀ (s : State) (dt : Nat), s.still = true →
     (∀ ps : Int, s.rd Reg.samplePll = 1 → 1000 < ps.natAbs → s.inRunOrHold = false →
       (∀ l, l < 16 → (s.advance dt).streamRests l = true) →
       ∃ t, exec (.samplePllLockLoss dt ps) s = .next t ∧ t.lt = (s.advance dt).lt ∧ t.rd Reg.samplePll = 0 ∧
         bitAt (t.rd Reg.faultSummary) 16 = true ∧ t.lock.deviceLatched = s.lock.deviceLatched ++ [0x380D] ∧
         t.modeCode = s.modeCode ∧ t.axes = s.axes ∧ t.tiles = s.tiles ∧ t.lasers = s.lasers) ∧
     exec (.samplePllLocked dt) s = .next ((s.advance dt).wrField Reg.samplePll 0 1 1) ∧
     (∀ e, s.time.realignEnd = some e → s.time.stepRealign = false →
       exec (.realignComplete dt) s =
         .next ((({ s with lt := if s.lt ≤ e then min (s.advance dt).lt e else (s.advance dt).lt } : State).wr Reg.samplePll 1).modTime
           fun x => { x with realignEnd := none }))) ∧
  (∀ (s : State) (dt : Nat) (ps : Int), s.still = true → s.inRunOrHold = true → s.lock.running = none → s.rd Reg.samplePll = 1 →
     1000 < ps.natAbs → (∀ l, l < 16 → (s.advance dt).streamRests l = true) →
     ∃ t q, exec (.samplePllLockLoss dt ps) s = .next t ∧ t.lock.running = some q ∧ q.kind = .deviceHold ∧ q.cause = 1 ∧
       q.trigger = s.log.nextUid ∧ q.t0 = (s.advance dt).lt ∧ q.engines = List.range 8 ∧ t.modeCode = HOLD ∧
       (∀ l, l < 16 → (t.laser l).hold = true) ∧ t.rd Reg.samplePll = 0)

/-- LT_STEP: once every driver is off, LT takes the time of the domain, STEP_FROM and STEP_TO tell the step, every host entry
is cancelled, and the sample PLL realigns; before that only time passes (R295, R300 to R302). -/
def Obligations.TimeSteps : Prop :=
  ∀ (s : State) (dt d : Nat), s.still = true → s.time.stepWait = some d →
    let now := (s.advance dt).lt
    ((∃ t j, t < 8 ∧ j < 6 ∧ (s.driver t j).phase ≠ .off) → exec (.ltStep dt) s = .next (s.advance dt)) ∧
    ((∀ t j, t < 8 → j < 6 → (s.driver t j).phase = .off) →
      ∃ r, exec (.ltStep dt) s = .next r ∧ r.hostEntries = [] ∧ r.time.stepWait = none ∧ r.rd Reg.stepState = 1 ∧
        r.rd Reg.stepFrom = time80 now ∧ r.rd Reg.stepTo = time80 r.lt ∧ bitAt (r.rd Reg.samplePll) 1 = true ∧
        ∀ t0 o l, (s.domain d).syncs = (t0, o) :: l →
          r.lt = ((now : Int) - (o + Num.rshift (slope32 (s.domain d).syncs * ((now : Int) - t0)) 32)).toNat)

/-- INIT_COMPLETE without a flash: MODE reads CONFIGURE, every output drives its CLEAR_CODE in its range, every tile runs,
and the sample PLL realigns; BOOT_TARGET CONFIGURE stays there (R89, R237, R295, R444, R445). -/
def Obligations.InitCompletes : Prop :=
  ∀ (s : State) (dt found loaded : Nat), s.modeCode = INIT → (s.wr Reg.mode CONFIGURE).still = true → s.rd Reg.bootTarget ≠ 1 →
    s.mode.holdLow = false → s.mode.clearAxLow = false → s.mode.clearLmLow = false → s.mode.pfailLow = false →
    ∃ t, exec (.initComplete dt 0 found loaded) s = .next t ∧ t.lt = (s.advance dt).lt ∧ t.modeCode = CONFIGURE ∧
      t.rd Reg.flashSize = 0 ∧ t.rd Reg.storeState = 2 ∧ bitAt (t.rd Reg.samplePll) 1 = true ∧
      (∀ a, a < 48 → (t.axis a).axo.code = s.clearCode a ∧ (t.axis a).axo.highZ = false ∧ (t.axis a).axo.range = s.rd (Reg.axoRange a)) ∧
      (∀ i, i < 8 → (t.tile i).running = true) ∧ t.lasers = s.lasers ∧ t.flash = s.flash

/-- CAL_PART_END: part 2 gives the amplifiers in use their measured corrections, part 3 ends with part 4 to come, and part 4
judges every driven output against a quarter of RB_LIMIT and ends the tile's calibration, CAL_VALID = 1 unless a fault
condition held (R83, R91, R441). CAL_DONE: CAL_STATE reads DONE, with event 0x2008 (R441). What the parts measure are
operands (log entry 58). -/
def Obligations.CalibrationEnds : Prop :=
  ∀ (s : State) (dt t : Nat) (gains : List Nat) (offsets : List Int) (sns devs : List Nat), s.still = true → s.modeCode = CALIBRATE →
    t < 8 →
    ((s.tile t).cal = .start → (s.tile t).gainDone = false →
      ∃ r, exec (.calPartEnd dt t 2 gains offsets sns devs) s = .next r ∧ (r.tile t).gainDone = true ∧
        (∀ m, m < 12 → s.ampInUse t m = true → ((r.tile t).amp m).gain = gains[m]? ∧ ((r.tile t).amp m).offset = offsets[m]?) ∧
        ∀ m, m < 12 → s.ampInUse t m = false → (r.tile t).amp m = (s.tile t).amp m) ∧
    ((s.tile t).cal = .phases → 4096 ≤ (s.tile t).calCount →
      ∃ r, exec (.calPartEnd dt t 3 gains offsets sns devs) s = .next r ∧ (r.tile t).cal = .dac) ∧
    ((s.tile t).cal = .dac →
      ∃ r, exec (.calPartEnd dt t 4 gains offsets sns devs) s = .next r ∧ (r.tile t).cal = .done ∧
        ((s.tile t).calBad = false → r.rd (Reg.calValid t) = 1) ∧ ((s.tile t).calBad = true → r.rd (Reg.calValid t) = s.rd (Reg.calValid t)) ∧
        ∀ k, k < 6 → (s.axis (6 * t + k)).axo.highZ = false →
          r.rd (Reg.axoCheck (6 * t + k)) = bit (decide (s.rd (Reg.rbLimit (6 * t + k)) * 1000 < 4 * devs.getD k 0))) ∧
    ((∀ i, i < 8 → (s.tile i).cal = .done) → s.rd Reg.calState = 1 → s.memState ≠ memTRAINING →
      exec (.calDone dt) s =
        .next (((s.advance dt).wr Reg.calState 2).raise 0x2008 cDEVICE 0 (dU 4 (lateNs s.mode.calStart (s.advance dt).lt / 1000))))

/-! ### Modes -/

/-- A mode command whose checks pass is answered with abort code 0 and MODE reads its target at once, in every mode from
which it is permitted; TOKEN_HOLDER alone may send it, but for HOLD (R437, R438, R440, R442). The checks pass for a command into
HOLD from TRACK, SERVO and BUILD, and for one into CONFIGURE from every other mode while HOLD_N is high, no reaction runs or waits
and no transition is in progress (R438, R442). AUTO_TRACK: after a calibration
that BOOT_TARGET began, the device commands TRACK itself, where its checks pass (R445). -/
def Obligations.ModeCommandsAccepted : Prop :=
  (∀ (s : State) (dt n : Nat) (src : Source) (c : Instr) (target : Nat), s.still = true → (s.advance dt).speaks src n = true →
     (c, target) ∈ [(Instr.modeCmdConfigure dt src, CONFIGURE), (.modeCmdCalibrate dt src, CALIBRATE), (.modeCmdTrack dt src, TRACK),
       (.modeCmdServo dt src, SERVO), (.modeCmdBuild dt src, BUILD), (.modeCmdHold dt src, HOLD), (.modeCmdTest dt src, TEST)] →
     (s.rd Reg.tokenHolder = n ∨ target = HOLD) → (s.pound pTransition).staged = [] →
     ((((s.advance dt).received src).modeChecks target).2.1 = 0 ∨ target = HOLD ∧ s.inRun = true ∨
       target = CONFIGURE ∧ CALIBRATE ≤ s.modeCode ∧ s.modeCode ≤ TEST ∧ s.mode.holdLow = false ∧ s.lock.running = none ∧
         s.lock.queue = [] ∧ s.rd Reg.modeStatus ≠ 1) →
     ∃ t, exec c s = .next t ∧ t.modeCode = target ∧ t.net.reply.abort = 0 ∧ t.rd Reg.modeRefuse = 0 ∧ t.lt = (s.advance dt).lt) ∧
  (∀ (s : State) (dt : Nat), s.still = true → s.mode.bootSeq = true → s.modeCode = CALIBRATE → s.rd Reg.calState = 2 →
     (s.pound pTransition).staged = [] →
     (((s.advance dt).modMode fun m => { m with bootSeq := false }).modeChecks TRACK).2.1 = 0 →
     ∃ t, exec (.autoTrack dt) s = .next t ∧ t.modeCode = TRACK ∧ t.mode.bootSeq = false ∧ t.rd Reg.modeRefuse = 0)

/-- A mode command whose checks fail leaves MODE as it is; its answer is the abort code of the first check that fails, and
MODE_REFUSE tells the reason and the item; a source that does not hold the token is refused with 0xA021 before them (R344,
R437, R442). A transition that the table of R438 does not list is refused with 0xA011 and reason 1, any but into HOLD while HOLD_N
is low with 0xA011 and reason 0x0B, while a reaction runs or waits with 0xA030 and reason 0x0D, and during a transition with 0xA030
and reason 0x0E; SERVO and BUILD are refused while the device fault is latched, AXO_CHECK of a live axis holds FAIL, or a range
changes, and BUILD while a laser fault is latched (R442). -/
def Obligations.ModeCommandsRefused : Prop :=
  ∀ (s : State) (dt n : Nat) (src : Source) (c : Instr) (target : Nat), s.still = true → (s.advance dt).speaks src n = true →
    (c, target) ∈ [(Instr.modeCmdConfigure dt src, CONFIGURE), (.modeCmdCalibrate dt src, CALIBRATE), (.modeCmdTrack dt src, TRACK),
      (.modeCmdServo dt src, SERVO), (.modeCmdBuild dt src, BUILD), (.modeCmdHold dt src, HOLD), (.modeCmdTest dt src, TEST)] →
    let r := ((s.advance dt).received src).modeChecks target
    (s.rd Reg.tokenHolder ≠ n → target ≠ HOLD → exec c s = .next (((s.advance dt).received src).answer 0xA021 [])) ∧
    ((s.rd Reg.tokenHolder = n ∨ target = HOLD) → r.2.1 ≠ 0 →
      exec c s = .next ((r.1.wr Reg.modeRefuse (256 * r.2.2.1 + r.2.2.2)).answer r.2.1 []) ∧ r.1.modeCode = s.modeCode) ∧
    let table := [(CONFIGURE, CALIBRATE), (CONFIGURE, TRACK), (CONFIGURE, TEST), (CALIBRATE, TRACK), (TRACK, SERVO), (SERVO, BUILD),
      (BUILD, SERVO), (SERVO, TRACK), (BUILD, TRACK), (TRACK, HOLD), (SERVO, HOLD), (BUILD, HOLD), (HOLD, TRACK), (HOLD, SERVO),
      (CALIBRATE, CONFIGURE), (TRACK, CONFIGURE), (SERVO, CONFIGURE), (BUILD, CONFIGURE), (HOLD, CONFIGURE), (TEST, CONFIGURE)]
    let refused (code item : Nat) : State := (((s.advance dt).received src).wr Reg.modeRefuse item).answer code []
    (s.rd Reg.tokenHolder = n ∨ target = HOLD) → s.modeCode ≤ TEST →
    ((s.modeCode, target) ∉ table → exec c s = .next (refused 0xA011 (0x100 + target))) ∧
    ((s.modeCode, target) ∈ table → target ≠ HOLD →
      (s.mode.holdLow = true → exec c s = .next (refused 0xA011 0x0B00)) ∧
      (s.mode.holdLow = false → s.lock.running.isSome = true ∨ s.lock.queue ≠ [] → exec c s = .next (refused 0xA030 0x0D00)) ∧
      (s.mode.holdLow = false → s.lock.running = none → s.lock.queue = [] → s.rd Reg.modeStatus = 1 →
        exec c s = .next (refused 0xA030 0x0E00))) ∧
    (target = SERVO ∨ target = BUILD →
      bitAt (s.rd Reg.faultSummary) 16 = true ∨
        (∃ a, a < 48 ∧ (s.rangeBusy a = true ∨ s.axisParked a = false ∧ s.kind a ≠ 0 ∧ bitAt (s.rd (Reg.axoCheck a)) 0 = true)) ∨
        (target = BUILD ∧ ∃ l, l < 16 ∧ s.laserLatched l = true) →
      r.2.1 ≠ 0)

/-! ### Scheduler -/

/-- The next action of a laser executes at its LT: a gate opens with its value, closes with the value 0, a value is written
unless a close falls at the same LT, a playback starts. A playback writes its next sample, scaled, at its instant. A value
less than 100 ns before the output's next write is not seen (R225, R251 to R254, R313). -/
def Obligations.LaserActions : Prop :=
  ∀ (s : State) (l : Nat), s.still = true → l < 16 →
    (∀ x rest, (s.laser l).acts = x :: rest →
      let r := s.goTo x.lt
      let later := r.writesSoon rest (r.laser l).play x.lt
      (x.kind = .gateOpen →
        exec (.gateOpen l) s = .next (r.modLaser l fun y =>
          { y with acts := rest, gate := true, value := if later then y.value else x.value.getD y.value,
                   hold := y.hold && (s.mode.clearLmLow || s.laserLatched l) })) ∧
      (x.kind = .gateClose →
        exec (.gateClose l) s = .next (r.modLaser l fun y =>
          { y with acts := rest, gate := false, value := if r.writesSoon rest none x.lt then y.value else 0, play := none, closeLt := some x.lt })) ∧
      (x.kind = .lmoWrite →
        exec (.lmoWrite l) s = .next (r.modLaser l fun y =>
          { y with acts := rest, value := if later ∨ y.closeLt = some x.lt then y.value else x.value.getD y.value })) ∧
      (x.kind = .profileStart →
        exec (.profileStart l) s = .next (r.modLaser l fun y =>
          { y with acts := rest, play := some { profile := x.profile, scale := x.scale, start := x.lt, next := 0 } }))) ∧
    ∀ p, (s.laser l).play = some p → p.next < s.rd (Reg.profileLen p.profile) →
      let at_ := s.sampleAt p
      let r := s.goTo at_
      let v := (Num.rdiv ((s.profileSample (s.rd (Reg.profileStart p.profile) + p.next) : Int) * p.scale) 65536).toNat
      exec (.profileSample l) s = .next (r.modLaser l fun y =>
        { y with value := if r.writesSoon (r.laser l).acts none at_ ∨ y.closeLt = some at_ then y.value else min v 65535,
                 play := if p.next + 1 < s.rd (Reg.profileLen p.profile) then some { p with next := p.next + 1 } else none })

/-- Host entries execute in LT order, each at its LT: LATCH as an edge of SAMPLE_N, CAPTURE as a fire of its trigger where
that takes its source TIME, with the entry's LT, MARK_EVENT as event 0x3815 with its tag and the entry's LT. An entry that is written in time joins the host share; a
flush cancels every entry with event 0x3814 (R312, R313, R319 to R321). -/
def Obligations.HostEntries : Prop :=
  ∀ (s : State) (dt n : Nat) (src : Source), s.still = true →
    (∀ e l, s.hostEntries = e :: l → e.arg < 4 →
      let r := ({ s with hostEntries := l } : State).goTo e.lt
      (e.kind = 1 → exec .latch s = .next r.sampleEdgeNow) ∧
      (e.kind = 2 → exec .capture s = .next (if s.trigSource e.arg = 1 then r.fireTrigger e.arg 1 e.lt else r)) ∧
      (e.kind = 3 → exec .markEvent s = .next (r.raiseFull (levelOf 0x3815) 0x3815 cDEVICE 0 (dU 2 e.tag) e.lt []))) ∧
    ((s.advance dt).speaks src n = true →
      (∀ b e, b.length = 16 → hostEntryOf b = some e → s.hostEntries.length < 32 → (s.advance dt).lt + ns 200 ≤ e.lt →
        ∃ t : State, exec (.schedEntry dt src b) s = .next t ∧ t.hostEntries = insertHost e s.hostEntries ∧ t.net.reply.abort = 0 ∧
          t.log = s.log ∧ t.axes = s.axes ∧ t.lasers = s.lasers) ∧
      exec (.schedFlush dt src) s =
        .next ((({ (s.advance dt).received src with hostEntries := [] } : State).raise 0x3814 cDEVICE 0
          (dU 4 s.hostEntries.length ++ dU 1 0)).answer 0 []))

/-- The trigger of a lead camera rises at its instant: the frame number and TAG_COUNT count, and a tag of the frame opens
with the snapshot of the laser's axes; at its fall the tag takes the end of the pulse and the second snapshot; the oldest tag
whose trigger has fallen completes, and goes out where the transmit lane is enabled (R363 to R367). -/
def Obligations.CamerasTriggered : Prop :=
  ∀ (s : State) (c : Nat), s.still = true → c < 32 →
    (∀ x, (s.cam c).next = some x → s.camRuns c = true → s.lt ≤ x.rise →
      ∃ t g, exec (.ctAssert c) s = .next t ∧ t.lt = x.rise ∧ (t.cam c).next = (s.cam c).later.head? ∧ (t.cam c).later = (s.cam c).later.tail ∧ (t.cam c).high = some { x with missed := false } ∧
        t.rd (Reg.camFrameNext c) = (s.rd (Reg.camFrameNext c) + 1) % 2 ^ 32 ∧ t.rd Reg.tagCount = (s.rd Reg.tagCount + 1) % 2 ^ 32 ∧
        t.vision.tags = (g :: s.vision.tags).take 4096 ∧ g.frame = s.rd (Reg.camFrameNext c) ∧ g.camera = c ∧
        g.laser = s.rd (Reg.camLaser c) ∧ g.rise = x.rise ∧ g.period = s.rd (Reg.camPeriod c) ∧ g.complete = false ∧
        (g.laser < 16 → (g.start, g.startValid) = s.snapWords g.laser)) ∧
    (∀ x, (s.cam c).high = some x → s.lt ≤ x.fall →
      let f := (s.rd (Reg.camFrameNext c) + 2 ^ 32 - 1) % 2 ^ 32
      ∃ t : State, exec (.ctRelease c) s = .next t ∧ t.lt = x.fall ∧ (t.cam c).high = none ∧ (t.cam c).lastFall = some x.fall ∧
        t.vision.tags.length = s.vision.tags.length ∧
        ∀ g, g ∈ s.vision.tags → g.camera = c → g.frame = f → g.laser < 16 → x.missed = false →
          ∃ g', g' ∈ t.vision.tags ∧ g'.camera = c ∧ g'.frame = f ∧ g'.rise = g.rise ∧ g'.fall = x.fall ∧ g'.start = g.start ∧
            (g'.stop, g'.stopValid) = s.snapWords g.laser) ∧
    (∀ g, (s.vision.tags.filter fun g => decide (g.camera = c) && !g.complete && !g.stopDue.isEmpty).getLast? = some g →
      ∃ t : State, exec (.frameTagComplete c) s = .next t ∧ (∀ h, h ∈ t.vision.tags → h.camera = c → h.frame = g.frame → h.complete = true) ∧
        t.vision.tags.length = s.vision.tags.length ∧
        t.rd Reg.txTags = (if bitAt (s.rd Reg.laneEnable) 4 then (s.rd Reg.txTags + 1) % 2 ^ 32 else s.rd Reg.txTags) ∧
        (bitAt (s.rd Reg.laneEnable) 4 = true → t.vision.lastTx = t.lt))

/-! ### Legacy interfaces -/

/-- SSI: the first falling edge after idle latches the words of the port's axis as one frame and counts it; each rising edge
drives the next bit, 0 after the last, each edge restarts the timeout, and at its end the port idles with SSI_DATA high
(R274, R275). -/
def Obligations.SsiShifts : Prop :=
  ∀ (s : State) (dt i : Nat), s.still = true → i < 2 →
    let r := s.advance dt
    let a := s.rd (Reg.ssiAxis i)
    let first : State := (r.modSsi i fun x =>
      { x with frame := some (ssiFrame (s.rd (Reg.ssiFormat i)) (if a < 48 ∧ s.kind a ≠ 0 then some (r.wordsAt a r.lt) else none)),
               last := r.lt }).bumpWrap 32 (Reg.ssiFrameCount i)
    ((s.ssi i).frame = none → exec (.ssiLatch dt i) s = .next first ∧ exec (.ssiClockEdge dt i false) s = .next first ∧
      exec (.ssiClockEdge dt i true) s = .next r) ∧
    (∀ f, (s.ssi i).frame = some f → r.lt < s.ssiEnd i →
      exec (.ssiClockEdge dt i true) s = .next (r.modSsi i fun x => { x with frame := some f.tail, data := f.headD false, last := r.lt }) ∧
      exec (.ssiClockEdge dt i false) s = .next (r.modSsi i fun x => { x with last := r.lt })) ∧
    (∀ f, (s.ssi i).frame = some f →
      exec (.ssiTimeout i) s = .next ((s.goTo (s.ssiEnd i)).modSsi i fun x => { x with frame := none, data := true }))

/-- SAMPLE_N: an edge 500 ns or more after the last accepted one copies the words of all axes into a latch buffer and numbers it,
into the other buffer than the one a transaction in progress reads; an earlier one is ignored and counted (R277, R278). SPI:
SPI_CS_N falls once the transaction before has ended, and the transaction reads the latest latch of that instant; READ_RECORDS
sends the records asked for, then zeros, and READ_LATCH the latch's time and number with their CRC; a wrong argument or a rise
of SPI_CS_N inside a byte is counted and tells event 0x3712 (R278 to R280). -/
def Obligations.SamplePortAnswers : Prop :=
  (∀ (s : State) (dt : Nat), s.still = true →
     let r := s.advance dt
     ((∀ t, s.legacy.lastSample = some t → t + ns 500 ≤ r.lt) →
       ∃ t, exec (.sampleNFall dt) s = .next t ∧ t.rd Reg.latchSeq = (s.rd Reg.latchSeq + 1) % 2 ^ 32 ∧ t.rd Reg.latchLt = time80 r.lt ∧
         t.legacy.latch.lt = r.lt ∧ t.legacy.latch.seq = t.rd Reg.latchSeq ∧ t.legacy.lastSample = some r.lt ∧
         (∀ a, a < 48 → t.legacy.latch.words[a]? = some (s.wordsAt a r.lt)) ∧ t.axes = s.axes ∧
         (∀ b e, s.legacy.spi = some (b, e) → r.lt < e → t.legacy.latest = !b ∧
           (b = false → t.legacy.latch0 = s.legacy.latch0) ∧ (b = true → t.legacy.latch1 = s.legacy.latch1))) ∧
     (∀ t0, s.legacy.lastSample = some t0 → r.lt < t0 + ns 500 →
       ∃ t, exec (.sampleNFall dt) s = .next t ∧ t.legacy.latch = s.legacy.latch ∧ t.legacy.lastSample = s.legacy.lastSample ∧
         t.rd Reg.sampleIgnored = min (s.rd Reg.sampleIgnored + 1) (2 ^ 32 - 1) ∧ t.rd Reg.latchSeq = s.rd Reg.latchSeq)) ∧
  (∀ (s : State) (dt low first count cmd a1 a2 n : Nat) (cut : Bool), s.still = true →
     let r0 := match s.legacy.spi with | some (_, e) => (s.advance dt).goTo e | none => s.advance dt
     let r := r0.modLegacy fun x => { x with spi := some (x.latest, r0.lt + ns low) }
     let l := s.legacy.latch
     let records := (List.range count).flatMap fun i => spiRecord (l.words.getD (first + i) {}) (s.rd Reg.spiSpeedShift)
     let latch := beBytes 10 (time80 l.lt) ++ beBytes 4 l.seq
     let out (b : List Nat) (bad : Bool) (c : Nat) : State :=
       let t := r.modLegacy fun x => { x with spiOut := padTo n b }
       if bad then (t.bump 32 Reg.spiErrCount).raise 0x3712 cDEVICE 0 (dU 1 c) else t
     (1 ≤ count → first + count ≤ 48 → exec (.readRecords dt low first count ⟨n, cut⟩) s = .next (out records cut 1)) ∧
     (count = 0 ∨ 48 < first + count → exec (.readRecords dt low first count ⟨n, cut⟩) s = .next (out [] true 1)) ∧
     exec (.readLatch dt low 2 0 0 ⟨n, cut⟩) s = .next (out (latch ++ [crc8 latch]) cut 2) ∧
     (cmd ≠ 1 → ¬(cmd = 2 ∧ a1 = 0 ∧ a2 = 0) → exec (.readLatch dt low cmd a1 a2 ⟨n, cut⟩) s = .next (out [] true cmd)))

/-- PULSE_EDGE in quadrature mode: a forward transition counts one up, a backward one one down, and a change of both levels
is counted as an error and moves nothing; in step mode an active edge of A counts by the level of B at least 10 ns before it;
while the input is off nothing counts. A pin's level is accepted once it has stood for PLS_FILTER, and the accepted levels are
kept (R282). -/
def Obligations.PulsesCount : Prop :=
  ∀ (s : State) (dt k : Nat) (pa pb : PinSeen), s.still = true → k < 8 →
    let a := if 10 * s.rd (Reg.plsFilter k) ≤ pa.held then pa.level else (s.pulse k).a
    let b := if 10 * s.rd (Reg.plsFilter k) ≤ pb.held then pb.level else (s.pulse k).b
    (bitsAt (s.rd (Reg.plsMode k)) 0 2 = 2 →
      ∃ t, exec (.pulseEdge dt k pa pb) s = .next t ∧ (t.pulse k).a = a ∧ (t.pulse k).b = b ∧
        t.rd (Reg.plsCount k) =
          (match (quadState a b + 4 - quadState (s.pulse k).a (s.pulse k).b) % 4 with
           | 1 => ofSigned 32 (s.rdS 32 (Reg.plsCount k) + 1)
           | 3 => ofSigned 32 (s.rdS 32 (Reg.plsCount k) - 1)
           | _ => s.rd (Reg.plsCount k)) ∧
        t.rd (Reg.plsErrCount k) =
          (if (quadState a b + 4 - quadState (s.pulse k).a (s.pulse k).b) % 4 = 2 then min (s.rd (Reg.plsErrCount k) + 1) (2 ^ 32 - 1)
           else s.rd (Reg.plsErrCount k))) ∧
    (bitsAt (s.rd (Reg.plsMode k)) 0 2 = 1 →
      let x := s.pulse k
      let level := match x.lastB with | some t0 => if (s.advance dt).lt < t0 + ns 10 then x.prevB else x.b | none => x.b
      let d : Int := if level != bitAt (s.rd (Reg.plsMode k)) 3 then 1 else -1
      ∃ t, exec (.pulseEdge dt k pa pb) s = .next t ∧ (t.pulse k).a = a ∧ (t.pulse k).b = b ∧
        t.rd (Reg.plsCount k) =
          (if a ≠ x.a ∧ a = !bitAt (s.rd (Reg.plsMode k)) 2 then ofSigned 32 (s.rdS 32 (Reg.plsCount k) + d) else s.rd (Reg.plsCount k)) ∧
        t.rd (Reg.plsErrCount k) = s.rd (Reg.plsErrCount k)) ∧
    (bitsAt (s.rd (Reg.plsMode k)) 0 2 = 0 →
      ∃ t, exec (.pulseEdge dt k pa pb) s = .next t ∧ (t.pulse k).a = a ∧ (t.pulse k).b = b ∧ ∀ r, t.rd r = s.rd r)

/-- A write to PLS_PRESET sets the count to the value written, and nothing else but the sender's own records changes; while
the input is the set-point source of an axis whose law runs it is refused with 0xA011 and the count stays (R283). -/
def Obligations.PresetSetsCount : Prop :=
  ∀ (s : State) (dt k n : Nat) (src : Source) (v : Int), s.still = true → k < 8 → (s.advance dt).speaks src n = true →
    -(2 ^ 31) ≤ v → v < 2 ^ 31 →
    let r := (s.advance dt).received src
    let busy := ∃ a, a < 48 ∧ (s.axis a).law.run ≠ .stopped ∧ s.rd (Reg.spSource a) = 2 ∧ s.rd (Reg.spPulseInput a) = k
    (busy → exec (.plsPreset dt src k v) s = .next (r.answer 0xA011 []) ∧ (r.answer 0xA011 []).rd (Reg.plsCount k) = s.rd (Reg.plsCount k)) ∧
    (¬busy → ∃ t : State, exec (.plsPreset dt src k v) s = .next t ∧ t.rdS 32 (Reg.plsCount k) = v ∧ t.net.reply.abort = 0 ∧
      (∀ x, x ≠ Reg.plsCount k → t.rd x = r.rd x) ∧ t.axes = s.axes ∧ t.legacy = s.legacy)

/-- ENC_EDGE: the next planned edge is issued at its instant: the count moves by one in the direction of the backlog, and the
pins take the quadrature state of the count (R266, R267). ENC_ENABLE: an emulator with an axis runs while ENABLE is 1 in
TRACK, SERVO, BUILD or HOLD, from the command on; a value above 1 is refused (R263, R269, R273). -/
def Obligations.EncoderEdges : Prop :=
  (∀ (s : State) (k : Nat) (at_ : Lt), s.still = true → k < 8 → (s.enc k).next = some at_ →
     let d : Int := if (s.enc k).backlog < 0 then -1 else 1
     let c := (s.enc k).count + d
     let q := quadLevels ((c - (s.enc k).offset) % 4).toNat
     ∃ t, exec (.encEdge k) s = .next t ∧ t.lt = max s.lt at_ ∧ (t.enc k).count = c ∧ (t.enc k).backlog = (s.enc k).backlog - d ∧
       (t.enc k).lastEdge = some at_ ∧ (t.enc k).pinA = (if s.encInvert k then q.2 else q.1) ∧
       (t.enc k).pinB = (if s.encInvert k then q.1 else q.2) ∧ t.rd (Reg.encCount k) = ofSigned 32 c ∧
       (∀ i, i < 8 → i ≠ k → t.enc i = s.enc i) ∧ t.axes = s.axes ∧ t.tiles = s.tiles) ∧
  (∀ (s : State) (dt k v n : Nat) (src : Source), s.still = true → k < 8 → (s.advance dt).speaks src n = true → v < 256 →
     (v = 0 ∨ (v = 1 ∧ encSpanFits (s.rd (Reg.encCfg k)) (s.rd (Reg.encSpan k)) = true) →
       ∃ t, exec (.encEnable dt src k v) s = .next t ∧ t.rd (Reg.encEnable k) = v ∧ t.net.reply.abort = 0 ∧
         (t.enc k).running = (v == 1 && decide (s.rd (Reg.encAxis k) < 48) && s.inRunOrHold)) ∧
     (2 ≤ v → exec (.encEnable dt src k v) s = .next (((s.advance dt).received src).answer 0xA012 [])))

/-- CAN_BUS_ERROR: the error counters rise and are shown, with error-passive and bus-off; CAN_BUS_OFF_RECOVERY, where it is
configured, clears them and the port is active again (R285; the limits of 128 and 256 are the model's, log entry 40, as is by how
much a counter rises, log entry 109). -/
def Obligations.CanStates : Prop :=
  ∀ (s : State) (dt tec rec : Nat), s.still = true →
    let T := bitsAt (s.rd Reg.canErrCounters) 0 8 + tec
    let R := bitsAt (s.rd Reg.canErrCounters) 8 8 + rec
    (bitAt (s.rd Reg.canCfg) 0 = true → bitAt (s.rd Reg.canStatus) 2 = false →
      ∃ t, exec (.canBusError dt tec rec) s = .next t ∧ t.rd Reg.canErrCounters = min R 255 * 256 + min T 255 ∧
        bitAt (t.rd Reg.canStatus) 1 = (decide (128 ≤ T) || decide (128 ≤ R)) ∧ bitAt (t.rd Reg.canStatus) 2 = decide (256 ≤ T) ∧
        bitAt (t.rd Reg.canStatus) 0 = !decide (256 ≤ T)) ∧
    (bitAt (s.rd Reg.canStatus) 2 = true → bitAt (s.rd Reg.canCfg) 1 = true →
      ∃ t, exec (.canBusOffRecovery dt) s = .next t ∧ t.rd Reg.canErrCounters = 0 ∧ bitAt (t.rd Reg.canStatus) 1 = false ∧
        bitAt (t.rd Reg.canStatus) 2 = false ∧ bitAt (t.rd Reg.canStatus) 0 = bitAt (s.rd Reg.canCfg) 0)

/-! ### Raore link -/

/-- A well-formed message of an ACCESS frame, or of a CAN frame with CAN_REQ_ID, is held for its window with the timestamp of its
frame; nothing is answered yet (R286, R309, R347; that the command stands at that timestamp is log entry 68). Every other CAN frame
is ignored, but that a good one lowers the receive error counter (R285, R286; log entry 109). The number of its frame is a name of
the model's own (log entry 27). As the window closes, of two writes by different masters with different values to one object of one
class the one of the higher rank takes effect, at equal ranks the earlier; the other is answered with 0xA020 and counted (R345,
R346; shown for SP_HOST). -/
def Obligations.RequestsHeld : Prop :=
  (∀ (s : State) (dt mac p : Nat) (b : List Nat) (m : Msg), s.still = true →
    let r := s.advance dt
    let on := bitAt (s.rd Reg.canStatus) 0 = true ∧ bitAt (s.rd Reg.canStatus) 2 = false ∧ bitAt (s.rd Reg.canCfg) 0 = true
    (p < 2 → s.portParked p = false → parseMsgs (b.length + 1) b = [m] → (r.received (.eth mac p)).admitCode (.eth mac p) m 0 = 0 →
      ∃ t, exec (.access dt mac p b) s = .next t ∧
        t.net.held = s.net.held ++ [{ ts := r.lt, src := .eth mac p, frame := s.net.frameNo, pos := 0, msg := m }] ∧
        t.net.answers = s.net.answers ∧ t.net.frameNo = s.net.frameNo + 1 ∧ t.axes = s.axes ∧ t.pounds = s.pounds) ∧
    (on → b.length ≤ 8 → parseMsgs 1 b = [m] → b.length = 6 + m.data.length →
      (r.received .can).admitCode .can m 0 = 0 →
      ∃ t, exec (.canRequest dt { id := s.rd Reg.canReqId, fd := false } b) s = .next t ∧
        t.net.held = s.net.held ++
          [{ ts := r.lt, src := .can, frame := s.net.frameNo, pos := 0, msg := { m with classical := true, brs := false } }] ∧
        t.net.answers = s.net.answers ∧ t.axes = s.axes ∧ t.pounds = s.pounds) ∧
    (∀ brs, on → (brs = true → s.rd Reg.canDataRate ≠ 0) → 0 < b.length → b.length ≤ 64 →
      parseMsgs 1 b = [m] → (r.received .can).admitCode .can m 0 = 0 →
      ∃ t, exec (.canRequest dt { id := s.rd Reg.canReqId, fd := true, brs := brs } b) s = .next t ∧
        t.net.held = s.net.held ++
          [{ ts := r.lt, src := .can, frame := s.net.frameNo, pos := 0, msg := { m with classical := false, brs := brs } }] ∧
        t.net.answers = s.net.answers ∧ t.axes = s.axes ∧ t.pounds = s.pounds) ∧
    ∀ h : CanHead, h.id ≠ s.rd Reg.canReqId ∨ h.plain = false → exec (.canRequest dt h b) s = .next r.canReceived) ∧
  ∀ (s : State) (a n n' : Nat) (w z : Request), s.still = true → a < 48 →
    (s.net.held = [w, z] ∨ s.net.held = [z, w]) → s.masterOf w.src = some n → s.masterOf z.src = some n' → n ≠ n' →
    (∀ q, q = w ∨ q = z → q.won = false ∧ q.pd = false ∧ q.ts < nextGrid (ns (s.loopNs 0)) s.lt (s.engine 0).lastLoop ∧
      q.msg.service = svcWRITE ∧ q.msg.bad = false ∧ q.msg.index = keyIndex (Reg.spHost a) ∧ q.msg.sub = keySub (Reg.spHost a) ∧
      q.msg.data.length = 4) →
    w.msg.data ≠ z.msg.data →
    (s.rd (Reg.masterRank n') < s.rd (Reg.masterRank n) ∨ s.rd (Reg.masterRank n') = s.rd (Reg.masterRank n) ∧ w.ts < z.ts) →
    ∃ t : State, exec (.loopBoundary 0 [] []) s = .next t ∧ t.net.held = [] ∧ t.rd (Reg.spHost a) = ofLeBytes w.msg.data ∧
      t.rd (Reg.arbLostCount n') = min (s.rd (Reg.arbLostCount n') + 1) (2 ^ 32 - 1) ∧
      t.rd (Reg.arbLostCount n) = s.rd (Reg.arbLostCount n) ∧
      ∀ mac mac' p, z.src = .eth mac p → w.src = .eth mac' (1 - p) → p < 2 → z.frame ≠ w.frame → s.net.answers = [] →
        s.portParked p = false → bitAt (s.rd (Reg.linkStatus p)) 0 = true → (s.egress p).sending = none →
        ∃ f, (t.egress p).sending = some f ∧ f.ty = 4 ∧ f.dest = mac ∧
          f.payload = [Nat.lor svcWRITE 0xC0, z.msg.tag] ++ leBytes 2 z.msg.index ++ [z.msg.sub, 2] ++ leBytes 2 0xA020

/-- Reads are answered from the state at the read, from every source that is heard: READ with the value where the reply holds
it, READ_PART with the part asked for behind its offset, READ_DESC with the descriptor; an index or subindex that the
dictionary does not have is answered with 0xA001 or 0xA002 (R38, R333, R338). Nothing but the answer changes. That a value too
long for a CAN FD frame, of 58 bytes of data, is answered with 0xA013 is the model's reading (log entry 70). -/
def Obligations.ReadsAnswered : Prop :=
  ∀ (s : State) (dt i b o n : Nat) (src : Source), s.still = true → (s.advance dt).heard src = true → s.unheld = true →
    ¬(0x5000 ≤ i ∧ i < 0x6000) →
    let r := (s.advance dt).received src
    let room := if src = .can then 58 else 255
    (∀ row, Dict.hasIndex i = true → b < 256 → Dict.row? (regKey i b) = some row →
      (regKey i b ≠ Reg.memData →
        exec (.read dt src i b) s =
          .next (if (r.valueBytes (regKey i b)).length ≤ room then r.answer 0 (r.valueBytes (regKey i b)) else r.answer 0xA013 []) ∧
        (o < 2 ^ 32 → n < 2 ^ 16 →
          exec (.readPart dt src i b o n) s =
            .next (r.answer 0 (leBytes 4 o ++ ((r.valueBytes (regKey i b)).drop o).take (min n (room - 4)))))) ∧
      exec (.readDesc dt src i b) s = .next (r.answer 0 (descBytes row))) ∧
    (Dict.hasIndex i = false →
      exec (.read dt src i b) s = .next (r.answer 0xA001 []) ∧ exec (.readDesc dt src i b) s = .next (r.answer 0xA001 [])) ∧
    (Dict.hasIndex i = true → b < 256 → Dict.row? (regKey i b) = none →
      exec (.read dt src i b) s = .next (r.answer 0xA002 []) ∧ exec (.readDesc dt src i b) s = .next (r.answer 0xA002 []))

/-- A WRITE of a registered master: a read-only object is answered with 0xA010 and does not change; in CONFIGURE a value in
range comes into use at once, and that of an RW object in every mode; in TRACK, SERVO, BUILD and HOLD an RWS value is staged in the
pound of its scope while that accepts (R37, R38, R44). A value of another length is answered with 0xA013, an RWS object in CALIBRATE
and TEST and an RWC object outside CONFIGURE, while its unit is in service, with 0xA011, an armed pound with 0xA030, and a value out
of range with 0xA012 (R37, R38, R39, R44, R49). -/
def Obligations.WritesTakeEffect : Prop :=
  ∀ (s : State) (dt n i b : Nat) (src : Source) (v : List Nat) (row : Row), s.still = true → (s.advance dt).speaks src n = true →
    ¬(0x5000 ≤ i ∧ i < 0x6000) → Dict.hasIndex i = true → b < 256 → Dict.row? (regKey i b) = some row → v.length < 256 →
    let r := (s.advance dt).received src
    let k := regKey i b
    let x := ofLeBytes v
    (row.access = .ro → exec (.write dt src i b v) s = .next (r.answer 0xA010 [])) ∧
    (row.access = .rw ∨ (row.access = .rwc ∨ row.access = .rws) ∧ s.modeCode = CONFIGURE → tySize row.ty = some v.length →
      bankKey k = none → r.stateCode k true = 0 → r.inRange row k x true = true → r.tooLate k x = false →
      ∃ t, exec (.write dt src i b v) s = .next t ∧ t.rd k = x ∧ t.net.reply.abort = 0 ∧ t.modeCode = s.modeCode) ∧
    (row.access = .rws → tySize row.ty = some v.length → s.inRunOrHold = true → (s.pound (scopeOf k)).armed = none →
      r.stateCode k false = 0 → r.inRange row k x false = true → r.tooLate k x = false →
      exec (.write dt src i b v) s = .next ((r.modPound (scopeOf k) fun y => y.stage k x).answer 0 [])) ∧
    (row.access ≠ .ro → row.access ≠ .wo →
      (∀ m, tySize row.ty = some m → v.length ≠ m → exec (.write dt src i b v) s = .next (r.answer 0xA013 [])) ∧
      (tySize row.ty = some v.length →
        (row.access = .rws → s.modeCode ≠ CONFIGURE → s.inRunOrHold = false → exec (.write dt src i b v) s = .next (r.answer 0xA011 [])) ∧
        (row.access = .rwc → s.modeCode ≠ CONFIGURE → r.unitParked k = false →
          exec (.write dt src i b v) s = .next (r.answer 0xA011 [])) ∧
        (row.access = .rws → s.inRunOrHold = true → (s.pound (scopeOf k)).armed.isSome = true →
          exec (.write dt src i b v) s = .next (r.answer 0xA030 [])) ∧
        (row.access = .rw ∨ (row.access = .rwc ∨ row.access = .rws) ∧ s.modeCode = CONFIGURE →
          (r.stateCode k true ≠ 0 → exec (.write dt src i b v) s = .next (r.answer (r.stateCode k true) [])) ∧
          (r.stateCode k true = 0 → r.inRange row k x true = false → exec (.write dt src i b v) s = .next (r.answer 0xA012 []))) ∧
        (row.access = .rws → s.inRunOrHold = true → (s.pound (scopeOf k)).armed = none → r.stateCode k false = 0 →
          r.inRange row k x false = false → exec (.write dt src i b v) s = .next (r.answer 0xA012 []))))

/-- WRITE_PART keeps its bytes behind those it follows; a part that does not follow is answered with 0xA013 and empties the
buffer. WRITE_LAST submits the value as one write: of a read-only object it is answered with 0xA010, in CONFIGURE a value in
range comes into use at once, and in TRACK, SERVO, BUILD and HOLD an RWS value is staged in the pound of its scope (R37, R38,
R44, R334). -/
def Obligations.PartsAssemble : Prop :=
  ∀ (s : State) (dt n i b o : Nat) (src : Source) (v : List Nat) (row : Row), s.still = true → (s.advance dt).speaks src n = true →
    ¬(0x5000 ≤ i ∧ i < 0x6000) → Dict.hasIndex i = true → b < 256 → Dict.row? (regKey i b) = some row → v.length < 252 → o < 2 ^ 32 →
    let r := (s.advance dt).received src
    let k := regKey i b
    let kept := if (s.master n).asmKey = k ∧ r.lt ≤ (s.master n).asmLt + ns 100000000 then (s.master n).asm else []
    (o = kept.length → kept.length + v.length ≤ (tySize row.ty).getD 4096 →
      exec (.writePart dt src i b o v) s =
        .next (((r.dropAsm n).modMaster n fun x => { x with asmKey := k, asm := kept ++ v, asmLt := r.lt }).answer 0 []) ∧
      (row.access = .ro → exec (.writeLast dt src i b o v) s = .next ((r.dropAsm n).answer 0xA010 [])) ∧
      (row.access = .rwc ∨ row.access = .rws → tySize row.ty = some (kept.length + v.length) → s.modeCode = CONFIGURE →
        bankKey k = none → r.stateCode k true = 0 → r.inRange row k (ofLeBytes (kept ++ v)) true = true →
        r.tooLate k (ofLeBytes (kept ++ v)) = false →
        ∃ t, exec (.writeLast dt src i b o v) s = .next t ∧ t.rd k = ofLeBytes (kept ++ v) ∧ t.net.reply.abort = 0 ∧
          (t.master n).asm = []) ∧
      (row.access = .rws → tySize row.ty = some (kept.length + v.length) → s.inRunOrHold = true →
        (s.pound (scopeOf k)).armed = none → r.stateCode k false = 0 → r.inRange row k (ofLeBytes (kept ++ v)) false = true →
        r.tooLate k (ofLeBytes (kept ++ v)) = false →
        exec (.writeLast dt src i b o v) s =
          .next (((r.dropAsm n).modPound (scopeOf k) fun y => y.stage k (ofLeBytes (kept ++ v))).answer 0 []))) ∧
    (o ≠ kept.length ∨ (tySize row.ty).getD 4096 < kept.length + v.length →
      exec (.writePart dt src i b o v) s = .next ((r.dropAsm n).answer 0xA013 []) ∧
      exec (.writeLast dt src i b o v) s = .next ((r.dropAsm n).answer 0xA013 []))

/-- An object of 0x5000 to 0x5FFF may be read, with whatever content, and its descriptor says that it is read-only; every write to
it, at once or assembled from parts, is refused with 0xA010, a part that does not follow those before it with 0xA013 (R37, R38,
R334, R340). Its type is open, and the values read are free ones, one or two of the state's, and that its range takes up to 4,096
bytes of parts is the model's choice (log entry 24). -/
def Obligations.VendorObjectsReadOnly : Prop :=
  ∀ (s : State) (dt n i b : Nat) (src : Source), s.still = true → 0x5000 ≤ i → i < 0x6000 → b < 256 →
    let r := (s.advance dt).received src
    ((s.advance dt).heard src = true → s.unheld = true →
      (∃ m a d, (m = 1 ∨ m = 2) ∧ (a = 0 ∨ a = 0xA013 ∧ d = []) ∧
        exec (.read dt src i b) s = .next (({ r with freeCount := s.freeCount + m } : State).answer a d)) ∧
      (∃ d, exec (.readDesc dt src i b) s = .next (r.answer 0 d) ∧ d[1]? = some (Access.code .ro)) ∧
      ∀ o c, o < 2 ^ 32 → c < 2 ^ 16 →
        ∃ m d, (m = 1 ∨ m = 2) ∧
          exec (.readPart dt src i b o c) s = .next (({ r with freeCount := s.freeCount + m } : State).answer 0 (leBytes 4 o ++ d))) ∧
    ((s.advance dt).speaks src n = true →
      (∀ v : List Nat, v.length < 256 → exec (.write dt src i b v) s = .next (r.answer 0xA010 [])) ∧
      ∀ (v : List Nat) (o : Nat), v.length < 252 → o < 2 ^ 32 →
        let kept := if (s.master n).asmKey = regKey i b ∧ r.lt ≤ (s.master n).asmLt + ns 100000000 then (s.master n).asm else []
        (o = kept.length → kept.length + v.length ≤ 4096 →
          exec (.writeLast dt src i b o v) s = .next ((r.dropAsm n).answer 0xA010 [])) ∧
        (o ≠ kept.length ∨ 4096 < kept.length + v.length →
          exec (.writeLast dt src i b o v) s = .next ((r.dropAsm n).answer 0xA013 [])))

/-- PD_OUT of a registered master, of the length of its map: its values are held in map order for their window, with the end
of the frame behind them; from any other source it is counted in PD_OUT_DROPPED and dropped (R351). The end of the frame as a
message of service 0 is the model's encoding (log entry 72), that the command stands at the frame's timestamp log entry 68. PD_IN_SNAPSHOT: 300 ns after a boundary of ENGINE_0 that its
cycle names, in TRACK, SERVO, BUILD and HOLD while PD_IN is enabled, the process data are copied once, numbered, and sent on
every port that can send (R349, R350). -/
def Obligations.ProcessDataHeld : Prop :=
  (∀ (s : State) (dt mac p seq : Nat) (b : List Nat), s.still = true → p < 2 → s.portParked p = false →
     let r := s.advance dt
     let map := s.pdMap Reg.pdOutMap
     let vs := pdValues map b
     (s.ethMaster mac = none → exec (.pdOut dt mac p seq b) s = .next (r.bump 32 Reg.pdOutDropped)) ∧
     (∀ n, s.ethMaster mac = some n → b.length = pdMapBytes map → s.heldCount + vs.length ≤ 64 →
       ∃ t, exec (.pdOut dt mac p seq b) s = .next t ∧ t.axes = s.axes ∧ t.pounds = s.pounds ∧ t.net.held.length = s.net.held.length + vs.length + 1 ∧
         t.net.held.take s.net.held.length = s.net.held ∧
         (t.net.held.drop s.net.held.length).map (fun q => q.msg) = vs ++ [{ service := 0, tag := 0, index := 0, sub := 0, data := [] }] ∧
         ∀ q ∈ t.net.held.drop s.net.held.length, q.pd = true ∧ q.pdSeq = seq ∧ q.src = .eth mac p ∧ q.ts = r.lt)) ∧
  (∀ (s : State) (b : Nat), s.still = true → (s.engine 0).lastLoop = some b → bitAt (s.rd Reg.pdInEnable) 0 = true → s.inRunOrHold = true →
     b % ns (s.rd Reg.pdInPeriod * s.loopNs 0) = 0 → s.net.pdTaken ≠ some b →
     ∃ t : State, exec .pdInSnapshot s = .next t ∧ t.lt = max s.lt (b + ns 300) ∧ t.rd Reg.pdInSeq = s.net.pdSeqSent ∧
       t.net.pdSeqSent = (s.net.pdSeqSent + 1) % 2 ^ 32 ∧ t.net.pdTaken = some b ∧ t.axes = s.axes ∧
       ∀ q, q < 2 → s.portParked q = false → bitAt (s.rd (Reg.linkStatus q)) 0 = true → (s.egress q).sending = none →
         ∃ f, (t.egress q).sending = some f ∧ f.payload = (s.goTo (b + ns 300)).pdInPayload ∧ f.ty = 2 ∧ f.dest = s.rd Reg.pdInDest)

/-- FRAME_RECEIVE: every frame of a port in service is counted, a bad or short one in RX_ERRORS too, and one that is neither for
the device nor of PTP or Raore link leaves on the other port as it came, where that port is free, and is counted as forwarded; where
the other port's link is down it is not (R329, R330, R354). A PARKED port takes none. FRAME_TRANSMISSION_END: the next stored frame
follows, the high queue first (R330). -/
def Obligations.FramesForwarded : Prop :=
  ∀ (s : State) (dt p lat : Nat) (f : Frame), s.still = true → p < 2 →
    (s.portParked p = false →
      ∃ t, exec (.frameReceive dt p f lat) s = .next t ∧ t.rd (Reg.rxFrames p) = (s.rd (Reg.rxFrames p) + 1) % 2 ^ 32 ∧
        t.rd (Reg.rxErrors p) =
          (if f.bad = true ∨ f.len < 64 then min (s.rd (Reg.rxErrors p) + 1) (2 ^ 32 - 1) else s.rd (Reg.rxErrors p)) ∧
        (bitAt (s.rd (Reg.linkStatus (1 - p))) 0 = false → t.rd (Reg.fwdFrames p) = s.rd (Reg.fwdFrames p) ∧
          t.egress (1 - p) = s.egress (1 - p))) ∧
    (s.portParked p = true → exec (.frameReceive dt p f lat) s = .next (s.advance dt)) ∧
    (s.portParked p = false → s.portParked (1 - p) = false → bitAt (s.rd (Reg.linkStatus (1 - p))) 0 = true →
      (s.egress (1 - p)).sending = none → f.dest ≠ s.rd Reg.deviceMac % 2 ^ 48 → f.dest ≠ pdelayGroup → f.ether ≠ etherPtp →
      f.ether ≠ etherRaore → f.ptp = none → 64 ≤ f.len → f.bad = false →
      ∃ t, exec (.frameReceive dt p f lat) s = .next t ∧
        t.rd (Reg.fwdFrames p) = (s.rd (Reg.fwdFrames p) + 1) % 2 ^ 32 ∧ (t.egress (1 - p)).sending = some { f with rx := none } ∧
        t.egress p = s.egress p ∧ t.axes = s.axes ∧ t.time = s.time) ∧
    (∀ g, (s.egress p).sending = some g → s.portParked p = false → bitAt (s.rd (Reg.linkStatus p)) 0 = true →
      let r := (s.advance dt).modEgress p fun x => { x with sending := none }
      (∀ h l, (s.egress p).high = h :: l →
        exec (.frameTransmissionEnd dt p) s = .next ((r.modEgress p fun x => { x with high := l }).startFrame p h r.lt)) ∧
      (∀ h l, (s.egress p).high = [] → (s.egress p).low = h :: l →
        exec (.frameTransmissionEnd dt p) s =
          .next ((r.modEgress p fun x => { x with low := l, lowAt := x.lowAt.tail }).startFrame p h r.lt)) ∧
      ((s.egress p).high = [] → (s.egress p).low = [] → exec (.frameTransmissionEnd dt p) s = .next r))

/-! ### Masters -/

/-- REGISTER: an unregistered source that may register takes the lowest free slot with the lower of its rank and its limit;
one that may not, or that finds no slot, is answered with 0xA023. A registered source changes its rank only (R342). -/
def Obligations.MastersRegister : Prop :=
  ∀ (s : State) (dt mac p rank : Nat), s.still = true → (s.advance dt).heard (.eth mac p) = true →
    let r := s.advance dt
    let q := r.received (.eth mac p)
    (s.rankCap mac = none → s.ethMaster mac = none → exec (.register dt (.eth mac p) rank) s = .next (r.answer 0xA023 [])) ∧
    (∀ cap, s.rankCap mac = some cap → s.ethMaster mac = none → s.freeSlot = none →
      exec (.register dt (.eth mac p) rank) s = .next (r.answer 0xA023 [])) ∧
    (∀ cap n, s.rankCap mac = some cap → s.ethMaster mac = none → s.freeSlot = some n →
      exec (.register dt (.eth mac p) rank) s = .next ((r.takeSlot n 1 mac (min rank cap) p r.lt).answer 0 [n, min rank cap])) ∧
    (∀ cap n, s.rankCap mac = some cap → s.ethMaster mac = some n →
      exec (.register dt (.eth mac p) rank) s =
        .next (((q.wr (Reg.masterRank n) (min rank cap)).raise 0x3901 cMASTER n (dU 1 (min rank cap) ++ leBytes 4 (mac % 2 ^ 32))).answer 0
          [n, min rank cap]))

/-- DEREGISTER and MASTER_TIMEOUT free a master's slot, with event 0x3902 of cause 0 and 1; where it held the token, the token is
free. In SERVO and BUILD that loss raises event 0x3904, and starts DEVICE_HOLD where TOKEN_LOSS_ACTION is 1 (R343, R344). An enabled
CAN port that waits for a slot takes the one that is left (R287). -/
def Obligations.MastersLeave : Prop :=
  ∀ (s : State) (dt n mac p : Nat), s.still = true → n < 4 → s.rd (Reg.masterState n) = 1 →
    let left (t : State) (cause : Nat) : Prop :=
      (bitAt (s.rd Reg.canCfg) 0 = false ∨ (s.masterOf .can).isSome = true → t.rd (Reg.masterState n) = 0 ∧ t.rd (Reg.masterMac n) = 0) ∧
      (bitAt (s.rd Reg.canCfg) 0 = true → s.masterOf .can = none → (∀ m, m < n → s.rd (Reg.masterState m) ≠ 0) →
        t.rd (Reg.masterState n) = 2 ∧ t.rd (Reg.masterRank n) = s.rd Reg.canRank) ∧
      t.rd Reg.tokenHolder = (if s.rd Reg.tokenHolder = n then 0xFF else s.rd Reg.tokenHolder) ∧
      (s.log.stopped = false → s.log.intake.length < 256 →
        ∃ e, e ∈ t.log.intake ∧ e.code = 0x3902 ∧ e.cls = cMASTER ∧ e.inst = n ∧ e.data = dU 1 cause ∧ e.ts = t.lt) ∧
      (s.rd Reg.tokenHolder ≠ n ∨ (s.modeCode ≠ SERVO ∧ s.modeCode ≠ BUILD) ∨ s.rd Reg.tokenLossAction ≠ 1 → t.modeCode = s.modeCode) ∧
      (s.rd Reg.tokenHolder = n → s.modeCode = SERVO ∨ s.modeCode = BUILD →
        (s.log.stopped = false → s.log.intake.length < 255 →
          ∃ e, e ∈ t.log.intake ∧ e.code = 0x3904 ∧ e.data = dU 1 (s.rd Reg.tokenLossAction) ∧ e.uid = s.log.nextUid + 1) ∧
        (s.rd Reg.tokenLossAction = 1 → s.lock.running = none → (∀ l, l < 16 → (s.goTo t.lt).streamRests l = true) →
          t.modeCode = HOLD ∧ ∃ q, t.lock.running = some q ∧ q.kind = .deviceHold ∧ q.cause = 1 ∧ q.trigger = s.log.nextUid + 1))
    ((s.advance dt).speaks (.eth mac p) n = true →
      ∃ t, exec (.deregister dt (.eth mac p)) s = .next t ∧ t.net.reply.abort = 0 ∧ t.lt = (s.advance dt).lt ∧ left t 0) ∧
    ∃ t, exec (.masterTimeout n) s = .next t ∧ t.lt = max s.lt ((s.master n).lastSeen + ns (s.rd Reg.masterTimeout * 1000000)) ∧ left t 1

/-- TOKEN_TAKE: a free token is taken, a master that holds it keeps it, and FORCE takes it from a master of lower rank;
otherwise the answer is 0xA021. TOKEN_RELEASE frees it for its holder alone (R344). -/
def Obligations.TokenMoves : Prop :=
  ∀ (s : State) (dt n : Nat) (src : Source), s.still = true → (s.advance dt).speaks src n = true →
    let r := (s.advance dt).received src
    let h := s.rd Reg.tokenHolder
    let taken := ((r.setToken n).raise 0x3903 cMASTER n (dU 1 n ++ dU 1 h)).answer 0 []
    (∀ force, force ≤ 1 →
      exec (.tokenTake dt src force) s =
        .next (if h = n then r.answer 0 []
               else if h = 0xFF ∨ (force = 1 ∧ s.rd (Reg.masterRank h) < s.rd (Reg.masterRank n)) then taken
               else r.answer 0xA021 [])) ∧
    exec (.tokenRelease dt src) s =
      .next (if h = n then ((r.setToken 0xFF).raise 0x3903 cMASTER n (dU 1 0xFF ++ dU 1 n)).answer 0 [] else r.answer 0xA021 [])

/-- EVENT_ACK: PUSH_ACK_SEQ takes a number that lies ahead of it and does not exceed NEXT_SEQ, and the retry starts afresh;
after PUSH_RETRY without that, EVENT_PUSH_RETRY pushes again from PUSH_ACK_SEQ on. An assembly that no part reaches for 100
ms is dropped (R334, R353). -/
def Obligations.PushesAcknowledged : Prop :=
  ∀ (s : State) (dt n mac p ack : Nat), s.still = true → n < 4 →
    ((s.advance dt).heard (.eth mac p) = true → s.ethMaster mac = some n →
      0 < seqDist (s.rd (Reg.pushAckSeq n)) (ack % 2 ^ 32) →
      seqDist (s.rd (Reg.pushAckSeq n)) (ack % 2 ^ 32) ≤ seqDist (s.rd (Reg.pushAckSeq n)) (s.rd Reg.nextSeq) →
      ∃ t, exec (.eventAck dt mac p ack) s = .next t ∧ t.rd (Reg.pushAckSeq n) = ack % 2 ^ 32 ∧
        (t.master n).pushLt = (s.advance dt).lt ∧ (t.master n).gapLogged = false ∧ t.axes = s.axes ∧ t.log = s.log) ∧
    (s.rd (Reg.masterState n) = 1 → bitAt (s.rd (Reg.pushEnable n)) 0 = true → s.rd (Reg.pushAckSeq n) ≠ s.rd Reg.nextSeq →
      let r := s.goTo ((s.master n).pushLt + ns (s.rd Reg.pushRetry * 1000000))
      exec (.eventPushRetry n) s =
        .next ((r.modMaster n fun m => { m with pushNext := s.rd (Reg.pushAckSeq n), pushLt := r.lt }).pushAll n)) ∧
    ((s.master n).asm ≠ [] →
      exec (.assemblyTimeout n) s =
        .next ((s.goTo ((s.master n).asmLt + ns 100000000)).modMaster n fun m => { m with asm := [], asmKey := 0 }))

/-! ### Network time -/

/-- The offset of a Sync of the selected grandmaster is its ingress timestamp less the domain's time there, corrected for the
link; a two-step Sync waits for its Follow_Up, and each Sync used is counted and shown (R296, R298). The premise sets aside a
Sync that brings on the initial step of LT. The slope of a single Sync is open (log entry 10). Grandmasters: an Announce is
kept with its arrival; once the selected clock has been silent for ANNOUNCE_TIMEOUT intervals the domain has none and no Sync
port; once no Sync has been used for three intervals the domain leaves VALID; either way the Syncs last used stay those of its
slope (R296). The preferred domain becomes active again when it has been VALID for 60 s (R297). -/
def Obligations.SyncsUsed : Prop :=
  (∀ (s : State) (dt p d dn src seq gm origin : Nat) (log corr : Int), s.still = true → p < 2 → d < 2 →
     let r := s.advance dt
     s.domainOf dn = some d → (s.domain d).selected = some (gm, src) → s.portParked p = false → s.rd (Reg.pdelayState p) = 2 →
     s.rd (Reg.syncPort d) = p →
     (s.active ≠ 0xFF ∧ s.time.firstAt ≠ some r.lt ∨ s.rd Reg.stepState ≠ 0 ∨ s.rd (Reg.domainState d) = 1 ∧ (s.domain d).used < 7) →
     (-7 ≤ log → log ≤ 1 →
       (∃ t : State, exec (.sync dt p dn src seq log true origin corr) s = .next t ∧
         (t.domain d).twoStep = some { port := p, seq := seq, ingress := r.rxStamp p r.lt, correction := corr * 2 ^ 16 } ∧
         (t.domain d).syncNs = syncInterval log ∧ t.lt = r.lt ∧ ∀ k, t.rd k = s.rd k) ∧
       ∃ t : State, exec (.sync dt p dn src seq log false origin corr) s = .next t ∧ t.lt = r.lt ∧
         (∃ l, (t.domain d).syncs = (r.rxStamp p r.lt, r.offsetOf p (r.rxStamp p r.lt) origin corr) :: l) ∧ (t.domain d).lastUsed = r.lt ∧
         t.rd (Reg.syncUsed d) = (s.rd (Reg.syncUsed d) + 1) % 2 ^ 32 ∧
         t.rdS 64 (Reg.domainOffset d) = Num.fitI 64 (toNsI (r.offsetOf p (r.rxStamp p r.lt) origin corr))) ∧
     ∀ w, (s.domain d).twoStep = some w → w.port = p → w.seq = seq →
       ∃ t : State, exec (.followUp dt p dn src seq origin corr) s = .next t ∧ t.lt = r.lt ∧ (t.domain d).twoStep = none ∧
         (∃ l, (t.domain d).syncs = (w.ingress, r.offsetOf p w.ingress origin corr - w.correction) :: l) ∧
         t.rd (Reg.syncUsed d) = (s.rd (Reg.syncUsed d) + 1) % 2 ^ 32) ∧
  (∀ (s : State) (d : Nat), s.still = true → d < 2 →
     (∀ dt p dn src log quality utc, p < 2 → s.portParked p = false → -3 ≤ log → log ≤ 3 → s.domainOf dn = some d →
       ∃ t f l, exec (.announce dt p dn src log quality utc) s = .next t ∧ t.lt = (s.advance dt).lt ∧ (t.domain d).foreign = f :: l ∧
         f.source = src ∧ f.port = p ∧ f.quality = quality ∧ f.utc = utc ∧ f.interval = 125000000 * 2 ^ (log + 3).toNat ∧
         f.times.head? = some t.lt) ∧
     (∀ x, (s.domain d).selected = some x →
       ∃ t : State, exec (.announceTimeout d) s = .next t ∧ (t.domain d).selected = none ∧ (t.domain d).syncs = (s.domain d).syncs ∧
         (t.domain d).used = 0 ∧ t.rd (Reg.gmIdentity d) = 0 ∧ t.rd (Reg.syncPort d) = 0xFF ∧ t.rd (Reg.domainState d) = 0) ∧
     (∀ x, (s.domain d).selected = some x → (s.domain d).syncNs ≠ 0 →
       s.rd (Reg.pdelayState (1 - s.rd (Reg.syncPort d))) ≠ 2 → s.domainValid d = true →
       ∃ t : State, exec (.syncTimeout d) s = .next t ∧ t.lt = max s.lt ((s.domain d).lastUsed + ns (3 * (s.domain d).syncNs)) ∧
         (t.domain d).syncs = (s.domain d).syncs ∧ (t.domain d).used = 0 ∧ t.rd (Reg.domainState d) = 1) ∧
     (s.rd Reg.preferredDomain = d → bitAt (s.rd Reg.timeFlags) 1 = true → s.active ≠ d → s.active ≠ 0xFF → s.domainValid d = true →
       s.rd Reg.timeMode = 0 →
       ∃ t : State, exec .revertiveSwitch s = .next t ∧ t.lt = max s.lt ((s.domain d).validSince + ns 60000000000) ∧ t.active = d ∧
         t.rd Reg.timeState = 1))

/-- Peer delay: a Pdelay_Req in service is answered with its turnaround; a request leaves no sooner than the port's interval
after the one before, takes the next sequence number and keeps its egress timestamp, with ASYMMETRY off its correction; a
response to it gives the mean of the consistent measurements, and the sixteenth makes the port VALID.
A link that goes down makes it INVALID and empties its queues, as LINK_STATUS shows with whether the SGMII stays synchronised; a link
that comes up measures again (R307, R308, R309, R324, R354, R357). A measurement outside its word is open (log entry 9); that the
queues are emptied is taken from outside the spec (log entry 29), and that a link that comes up gives MEASURING is the model's
reading (log entry 77). -/
def Obligations.PeerDelayMeasured : Prop :=
  ∀ (s : State) (dt p : Nat), s.still = true → p < 2 →
    let r := s.advance dt
    (s.portParked p = false → bitAt (s.rd (Reg.linkStatus p)) 0 = true → (s.egress p).sending = none →
      (∀ seq src corr, ∃ t f m, exec (.pdelayReq dt p seq src corr) s = .next t ∧ (t.egress p).sending = some f ∧ f.ty = 3 ∧
        f.ether = etherPtp ∧ f.payload = [src] ∧ f.ptp = some m ∧ m.seq = seq ∧
        m.correction = corr + Num.rshift (r.txStamp p r.lt - r.rxStamp p r.lt) 16 ∧ t.axes = s.axes) ∧
      ((s.portTime p).missed < 2 →
        ∃ t f m, exec (.pdelayReqSend dt p) s = .next t ∧ (t.egress p).sending = some f ∧ f.ty = 2 ∧ f.ether = etherPtp ∧
          t.lt = (match (s.portTime p).lastReq with | some t0 => max r.lt (t0 + ns (s.pdelayInterval p)) | none => r.lt) ∧
          f.ptp = some m ∧ m.correction = -(Num.rshift (psLt (s.rdS 32 (Reg.asymmetry p))) 16) ∧
          (t.portTime p).req = some ((s.portTime p).nextSeq, t.txStamp p t.lt) ∧
          (t.portTime p).nextSeq = ((s.portTime p).nextSeq + 1) % 65536 ∧ ∀ k, t.rd k = s.rd k)) ∧
    (∀ seq t1 turn, s.portParked p = false → (s.portTime p).req = some (seq, t1) →
      (s.active ≠ 0xFF ∧ s.time.firstAt ≠ some r.lt ∨ s.rd Reg.stepState ≠ 0 ∨ ∀ d, d < 2 → s.rd (Reg.domainState d) ≠ 3) →
      let ratio := 2 ^ 32 + s.rdS 32 (Reg.neighborRatio p)
      let m := Num.fitU 32 (Num.rdiv ((Num.rshift ((r.rxStamp p r.lt - t1) * ratio) 32 -
        (turn * 2 ^ 16 + psLt (s.rdS 32 (Reg.asymmetry p)))) * 1000) (2 ^ 33))
      let c := consistent (1000 * s.rd Reg.pdelayTol) (s.portTime p).count (s.portTime p).sum m
      ∃ t : State, exec (.pdelayResp dt p seq turn none) s = .next t ∧ t.lt = r.lt ∧ (t.portTime p).req = none ∧ (t.portTime p).missed = 0 ∧
        t.rd (Reg.pdelayRun p) = min c.1 255 ∧ t.rd (Reg.meanLinkDelay p) = (Num.rdiv c.2 c.1).toNat ∧
        (s.rd (Reg.pdelayState p) < 2 → t.rd (Reg.pdelayState p) = if 16 ≤ c.1 then 2 else 1)) ∧
    (∀ sync, bitAt (s.rd (Reg.linkStatus p)) 0 = true →
      ∃ t : State, exec (.linkDown dt ⟨p, sync⟩) s = .next t ∧ t.rd (Reg.linkStatus p) = 2 * bit sync ∧ t.rd (Reg.pdelayState p) = 0 ∧
        t.rd (Reg.pdelayRun p) = 0 ∧ t.egress p = {} ∧ (t.portTime p).req = none ∧ t.egress (1 - p) = s.egress (1 - p)) ∧
    (bitAt (s.rd (Reg.linkStatus p)) 0 = false → s.portParked p = false →
      ∃ t : State, exec (.linkUp dt p) s = .next t ∧ t.rd (Reg.linkStatus p) = 3 ∧
        t.rd (Reg.pdelayState p) = if s.rd (Reg.pdelayState p) = 0 then 1 else s.rd (Reg.pdelayState p))

/-! ### Memory port -/

/-- The memory port while it is READY: a refresh falls due every t_REFI, and is issued at once where no trajectory read
waits; the patrol reads each channel's bursts in order; mode register 4 is read every 125 µs; a tracking step lasts at most 1
µs. Training ends READY, or FAILED with its step; a frequency switch ends READY at the new rate (R384 to R388, R393). A
trajectory read that arrives without an error, from bursts that hold none, puts its records behind those that are staged, each
under its segment number (R383). -/
def Obligations.MemoryServed : Prop :=
  (∀ (s : State) (dt ch : Nat), s.still = true → ch < s.memChans →
     (s.memState = memREADY →
       (∀ rank, rank < s.memRanks → s.memPort.owed.length = 4 → s.memPort.tickFrom.length = 4 → s.memPort.owed.getD (2 * ch + rank) 0 < 5 →
         ∃ t : State, exec (.refreshTick ch rank false) s = .next t ∧
           t.lt = max s.lt (s.memPort.tickFrom.getD (2 * ch + rank) 0 + ns (s.refi ch rank)) ∧ t.memPort.owed.getD (2 * ch + rank) 0 = 0 ∧
           t.memPort.tickFrom.getD (2 * ch + rank) 0 = s.memPort.tickFrom.getD (2 * ch + rank) 0 + ns (s.refi ch rank)) ∧
       (∀ high waits, s.memPort.owed.length = 4 → s.memPort.tickFrom.length = 4 →
         ∃ t : State, exec (.mr4Read high waits) s = .next t ∧ t.lt = max s.lt (s.memPort.lastMr4 + ns 125000) ∧ t.memPort.lastMr4 = t.lt ∧
           ∀ i, i < 4 → s.rankFitted (i / 2) (i % 2) = true → bitAt (t.rd Reg.tempHigh) i = high.getD i false) ∧
       (∀ dur, exec (.trackingStep dt ch dur) s =
         .next ((s.advance dt).modMem fun m => { m with tracking := some ((s.advance dt).lt + ns (min dur 1000)) })) ∧
       (s.memPort.bad = [] → s.memPort.patrol.getD ch 0 + 64 < memCapacity (s.rd Reg.memDevice) - 65536 →
         let next := s.memPort.patrol.getD ch 0 + 64
         exec (.patrolRead dt ch {}) s =
           .next (((s.advance dt).modMem fun m => { m with patrol := m.patrol.set ch next }).wr Reg.scrubPos (s.hostAddr ch next)))) ∧
     (s.memState = memTRAINING →
       (s.unheld = true → ∃ t : State, exec (.trainingComplete dt 0 ch) s = .next t ∧ t.memState = memREADY ∧ t.memPort.owed = [0, 0, 0, 0] ∧
         t.memPort.lastMr4 = (s.advance dt).lt ∧ t.dram = s.dram) ∧
       ∀ step, 1 ≤ step → step ≤ 8 → s.inRunOrHold = false →
         ∃ t : State, exec (.trainingComplete dt step ch) s = .next t ∧ t.memState = memFAILED ∧ t.rd Reg.trainFail = 256 * step + ch ∧
           bitAt (t.rd Reg.faultSummary) 16 = true ∧ t.dram = s.dram) ∧
     (s.memState = memSWITCHING → s.unheld = true → s.memPort.target = s.rateChosen →
       ∃ t : State, exec (.freqSwitchComplete dt 0 ch) s = .next t ∧ t.memState = memREADY ∧ t.rd Reg.memFreqInUse = s.memPort.target ∧
         t.memPort.owed = [0, 0, 0, 0] ∧ t.memPort.lastMr4 = (s.advance dt).lt ∧ t.dram = s.dram)) ∧
  (∀ (s : State) (dt l first count at_ : Nat), s.still = true → l < 16 → s.memPort.bad = [] →
     (s.laser l).stream.fetching = some (first, count, at_) →
     ∃ t more, exec (.trajReadComplete dt l []) s = .next t ∧
       (t.laser l).stream.staging = (s.laser l).stream.staging ++ more ∧ more.map (·.1) = (List.range count).map (first + ·) ∧
       t.dram = s.dram ∧ t.axes = s.axes)

/-- MEM_DATA and PROFILE_WR_DATA: a write of a registered master puts its bytes at the address, which moves behind them; a
read gives the bytes at the address to the end of the window, and changes no byte. Every other byte stays as it was. No burst
of external memory holds an uncorrectable pair (R255, R381). -/
def Obligations.WindowsAccessed : Prop :=
  ∀ (s : State) (dt n : Nat) (src : Source) (b : List Nat), s.still = true → (s.advance dt).speaks src n = true →
    let a := s.rd Reg.memAddr
    (s.memState = memREADY → s.memPort.bad = [] → s.memPort.spoiled = false → b.length ≤ 4096 → a + b.length ≤ s.hostSpaceNow →
      ∃ t : State, exec (.memDataWrite dt src b []) s = .next t ∧ t.rd Reg.memAddr = a + b.length ∧ t.net.reply.abort = 0 ∧
        memReadBytes zeroByte t.dram a b.length = b.map (· % 256) ∧ t.profiles = s.profiles ∧ t.capture = s.capture ∧ t.flash = s.flash ∧
        ∀ x, x < a ∨ a + b.length ≤ x → memRead zeroByte t.dram x = memRead zeroByte s.dram x) ∧
    (s.memState = memREADY → s.memPort.bad = [] → s.memPort.spoiled = false → a < s.hostSpaceNow →
      ∃ t : State, exec (.memDataRead dt src []) s = .next t ∧ t.net.reply.abort = 0 ∧
        t.net.reply.data = memReadBytes zeroByte s.dram a (min 4096 (s.hostSpaceNow - a)) ∧ t.dram = s.dram ∧ t.rd Reg.memAddr = a) ∧
    let i := s.rd Reg.profileWrAddr
    (b.length ≤ 4096 → b.length % 2 = 0 → i + b.length / 2 ≤ 2 ^ 20 →
      ∃ t : State, exec (.profileWrData dt src b) s = .next t ∧ t.rd Reg.profileWrAddr = i + b.length / 2 ∧ t.net.reply.abort = 0 ∧
        memReadBytes zeroByte t.profiles (2 * i) b.length = b.map (· % 256) ∧ t.dram = s.dram ∧
        ∀ x, x < 2 * i ∨ 2 * i + b.length ≤ x → memRead zeroByte t.profiles x = memRead zeroByte s.profiles x)

/-! ### Vision -/

/-- A packet on a synchronised lane keeps the port ALIVE; one of which R361 tells a fault is counted and dropped; without a packet for
VIS_TIMEOUT the port is not ALIVE, with event 0x3A03. A lane gains its synchronisation by three commas and loses it by four
code violations within 256 characters, with events 0x3A02 and 0x3A01 (the code itself is log entry 112). The transmit lane sends a packet at least every 100 µs (R358, R361, R362). A CORRECTION in BUILD for a frame whose
tag is held and young enough becomes a candidate of the lead's laser at the first boundary 200 ns after its acceptance; one
without a tag is discarded and counted. STATS of such a frame are shown (R368, R369, R371). -/
def Obligations.LanesServed : Prop :=
  (∀ (s : State) (dt i : Nat), s.still = true →
     let r := s.advance dt
     (s.laneUp i = true →
       (∃ t : State, exec (.heartbeat dt i) s = .next t ∧ t.vision.lastRx = r.lt ∧ bitAt (t.rd Reg.visStatus) 4 = true ∧
         t.rd Reg.rxPackets = (s.rd Reg.rxPackets + 1) % 2 ^ 32 ∧ t.lasers = s.lasers ∧ t.axes = s.axes) ∧
       ∀ chars, rxParse chars = none → exec (.rxBadPacket dt ⟨i, chars⟩) s = .next (r.bump 32 Reg.rxBad)) ∧
     (s.laneUp i = false → exec (.heartbeat dt i) s = .next r ∧ ∀ chars, exec (.rxBadPacket dt ⟨i, chars⟩) s = .next r) ∧
     (i < 4 → bitAt (s.rd Reg.laneEnable) i = true → ∀ (bits : List Bool) (groups : List Nat),
       exec (.laneSync dt ⟨i, bits⟩) s =
         .next (if gainsSync bits = false ∨ bitAt (s.rd Reg.visStatus) i = true then r
           else (r.wrField Reg.visStatus i 1 1).raise 0x3A02 cLANE i []) ∧
       exec (.laneSyncLoss dt ⟨i, groups⟩) s =
         .next (if losesSync groups = true ∧ bitAt (s.rd Reg.visStatus) i = true
           then (r.wrField Reg.visStatus i 1 0).raise 0x3A01 cLANE i [] else r)) ∧
     (bitAt (s.rd Reg.visStatus) 4 = true →
       exec .aliveTimeout s =
         .next (((s.goTo (s.vision.lastRx + ns (1000 * s.rd Reg.visTimeout))).wrField Reg.visStatus 4 1 0).raise 0x3A03 cDEVICE 0 [])) ∧
     (bitAt (s.rd Reg.laneEnable) 4 = true →
       ∃ t : State, exec .vtxHeartbeat s = .next t ∧ t.lt = max s.lt (s.vision.lastTx + ns 100000) ∧ t.vision.lastTx = t.lt ∧
         t.lasers = s.lasers ∧ ∀ k, t.rd k = s.rd k)) ∧
  (∀ (s : State) (dt i c k f : Nat) (dx dy : Int) (g : Tag), s.still = true → s.laneUp i = true → c < 32 → f < 2 ^ 32 →
     -(2 ^ 31) ≤ dx → dx < 2 ^ 31 → -(2 ^ 31) ≤ dy → dy < 2 ^ 31 →
     let r := s.advance dt
     (s.rxTag c f = some (k, g) → s.frameAge k f ≤ s.rd (Reg.maxAge c) →
       (bitAt (s.rd (Reg.camCfg c)) 2 = true → s.modeCode = BUILD → s.rd (Reg.camLaser k) < 16 → (s.cam c).supplied = none →
         let l := s.rd (Reg.camLaser k)
         let p := ns (s.loopNs (l / 2))
         ∃ t : State, exec (.correction dt i c f dx dy) s = .next t ∧ (t.cam c).supplied = some f ∧
           (t.laser l).cands = (s.laser l).cands ++
             [{ use := Num.cdiv (r.lt + ns 200) p * p, camera := c, frame := f, dx := dx, dy := dy, baseX := g.dx, baseY := g.dy }] ∧
           t.axes = s.axes) ∧
       ∀ sharp int area, sharp < 2 ^ 32 → int < 2 ^ 32 → area < 2 ^ 32 →
         ∃ t : State, exec (.stats dt i c f sharp int area) s = .next t ∧ t.rd (Reg.camSharpness c) = sharp ∧
         t.rd (Reg.camStatsFrame c) = f ∧ (t.cam c).intensity = int ∧ (t.cam c).area = area ∧ t.axes = s.axes) ∧
     (s.rxTag c f = none →
       (∃ t : State, exec (.correction dt i c f dx dy) s = .next t ∧ t.lasers = s.lasers ∧
         t.rd (Reg.camCorrAged c) = min (s.rd (Reg.camCorrAged c) + 1) (2 ^ 32 - 1)) ∧
       ∀ sharp int area, sharp < 2 ^ 32 → int < 2 ^ 32 → area < 2 ^ 32 →
         ∃ t : State, exec (.stats dt i c f sharp int area) s = .next t ∧ t.lasers = s.lasers ∧
         t.rd (Reg.camCorrAged c) = min (s.rd (Reg.camCorrAged c) + 1) (2 ^ 32 - 1)))

/-! ### Pounds -/

/-- A commit whose checks pass arms its pound at its instant, which LAST_COMMIT_LT tells; a discard empties it and counts; a
pound that is armed answers 0xA030 to both; a staged BANK_SWAP whose budget check passes becomes the armed request of its
axis. A bundled command does so for every scope it selects (R41, R42, R44, R51, R52, R188). BANK_SWAP in CONFIGURE copies
POUND into ACTIVE at once; in TRACK, SERVO, BUILD and HOLD it is staged in the pound of its axis (R188). -/
def Obligations.PoundsCommitted : Prop :=
  (∀ (s : State) (dt n p : Nat) (src : Source), s.still = true → (s.advance dt).speaks src n = true →
     let r := (s.advance dt).received src
     (p < 105 → (s.pound p).closed = true →
       exec (.poundCommit dt src p) s = .next (r.answer 0xA030 []) ∧ exec (.poundDiscard dt src p) s = .next (r.answer 0xA030 [])) ∧
     (p < 106 → (s.pound p).closed = false → (s.pound p).staged ≠ [] →
       exec (.poundDiscard dt src p) s =
         .next (((r.modPound p fun x => { x with staged := [] }).bump 32 (poundKey p 7)).answer 0 [])) ∧
     (p < 105 → (s.pound p).closed = false → (s.pound p).staged ≠ [] → (p < 48 → (s.pound p).has (Reg.bankSwap p) = false) →
       (p = 104 → (s.pound 104).has Reg.layerNumber = false ∨ s.memState ≠ memSWITCHING) → r.commitFail p = none →
       ∃ t : State, exec (.poundCommit dt src p) s = .next t ∧ t.net.reply.abort = 0 ∧ (t.pound p).armed = some r.lt ∧
         (t.pound p).staged = (s.pound p).staged ∧ t.rd (poundKey p 4) = time80 r.lt ∧ t.rd (poundKey p 8) = 0 ∧ t.axes = s.axes) ∧
     (∀ len, p < 48 → (s.pound p).closed = false → (s.pound p).value (Reg.bankSwap p) = some len → r.commitFail p = none →
       (r.budgetCheck (p / 6) (fun a => if a = p then some len else none) true []).2 = true →
       ∃ t : State, exec (.poundCommit dt src p) s = .next t ∧ t.net.reply.abort = 0 ∧ (t.pound p).armed = some r.lt ∧
         (t.axis p).law.armed = some { len := len, crc := bankCrc (s.axis p).law.pound }) ∧
     ∀ e m, e < 8 → 0 < m → m < 128 →
       let ps := ((List.range 6).filter fun k => bitAt m (1 + k)).map (fun k => 6 * e + k) ++ (if bitAt m 0 then [48 + e] else [])
       ((ps.any fun q => (s.pound q).closed) = true →
         exec (.bundledCommit dt src e m) s = .next (r.answer 0xA030 []) ∧ exec (.bundledDiscard dt src e m) s = .next (r.answer 0xA030 [])) ∧
       ((ps.any fun q => (s.pound q).closed) = false →
         (∃ t : State, exec (.bundledDiscard dt src e m) s = .next t ∧ t.net.reply.abort = 0 ∧ ∀ q, q ∈ ps → (t.pound q).staged = []) ∧
         ((∀ q, q ∈ ps → r.commitFail q = none ∧ (q < 48 → (s.pound q).has (Reg.bankSwap q) = false)) →
           ∃ t : State, exec (.bundledCommit dt src e m) s = .next t ∧ t.net.reply.abort = 0 ∧
             ∀ q, q ∈ ps → t.rd (poundKey q 4) = time80 r.lt ∧
               ((s.pound q).staged ≠ [] → (t.pound q).armed = some r.lt ∧
                 ∀ q', q' ∈ (t.pound q).bundle ↔ q' ∈ ps ∧ q' ≠ q ∧ (s.pound q').staged ≠ [])))) ∧
  (∀ (s : State) (dt n a len : Nat) (src : Source), s.still = true → (s.advance dt).speaks src n = true → a < 48 → len < 65536 →
     let r := (s.advance dt).received src
     (s.modeCode = CONFIGURE → (∀ row, Dict.row? (Reg.bankSwap a) = some row → r.inRange row (Reg.bankSwap a) len true = true) →
       exec (.bankSwapConfigure dt src a len) s =
         .next (((r.wr (Reg.bankSwap a) len).modLaw a fun l => { l with active := l.pound }).answer 0 [])) ∧
     (s.inRunOrHold = true → (s.pound a).armed = none → (∀ row, Dict.row? (Reg.bankSwap a) = some row → r.inRange row (Reg.bankSwap a) len false = true) →
       exec (.bankSwapConfigure dt src a len) s = .next ((r.modPound a fun y => y.stage (Reg.bankSwap a) len).answer 0 [])))

/-- A commit of an empty pound is accepted and arms nothing; LOCKAGE_COUNT does not change, and the pound stays EMPTY and
open to writes. So does an EMPTY pound that a bundled commit selects, whatever becomes of the others (R45). -/
def Obligations.EmptyCommitArmsNothing : Prop :=
  ∀ (s : State) (dt n : Nat) (src : Source), s.still = true → (s.advance dt).speaks src n = true →
    (∀ p, p < 105 → (s.pound p).staged = [] → (s.pound p).armed = none →
      ∃ t : State, exec (.poundCommit dt src p) s = .next t ∧ t.net.reply.abort = 0 ∧ (∀ q, (t.pound q).armed = (s.pound q).armed) ∧
        (t.pound p).staged = [] ∧ t.readValue (poundKey p 2) = 0 ∧ t.rd (poundKey p 6) = s.rd (poundKey p 6)) ∧
    ∀ e m, e < 8 → 0 < m → m < 128 →
      let ps := ((List.range 6).filter fun k => bitAt m (1 + k)).map (fun k => 6 * e + k) ++ (if bitAt m 0 then [48 + e] else [])
      ∀ p, p ∈ ps → (s.pound p).staged = [] → (s.pound p).armed = none →
        ∃ t : State, exec (.bundledCommit dt src e m) s = .next t ∧ (t.pound p).armed = none ∧ (t.pound p).staged = [] ∧
          t.readValue (poundKey p 2) = 0 ∧ t.rd (poundKey p 6) = s.rd (poundKey p 6) ∧
          ((∀ q, q ∈ ps → (s.pound q).staged = [] ∧ (s.pound q).armed = none) →
            t.net.reply.abort = 0 ∧ ∀ q, (t.pound q).armed = (s.pound q).armed)

/-- LOOP_BOUNDARY gives the lockages: the pounds armed by one commit that are due at a boundary of their kind, at least 1 µs after
it, and that no case of R47 holds, become EMPTY together, with every staged value in use, LOCKAGE_COUNT one more and
LAST_LOCKAGE_LT the instant of the boundary; before that they do not change (R30 to R32, R41, R43, R46, R52). A BANK_SWAP among
them whose CRC still holds copies POUND into ACTIVE where the law does not run, and begins a fade of its length into INCOMING
where it does and runs on; one whose CRC differs is lost, and counted (R189, R190, R193). -/
def Obligations.LockagesApply : Prop :=
  ∀ (s : State) (t t0 : Nat) (ps : List Nat), s.calm = true → s.inRunOrHold = true → t < 8 →
    let b := nextGrid (ns (s.loopNs t)) s.lt (s.engine t).lastLoop
    let u := s.goTo b
    let next := b + ns (s.loopNs t)
    s.lock.holdRun = none → s.lock.leftover = [] → (∀ e, e ∈ (s.engine t).due → b < e.1) → (s.engine t).returnCls = none →
    (t = 0 → s.net.held = []) →
    (∀ l, l < 16 → u.streamRests l = true ∧ ∀ c, c ∈ (s.laser l).cands → c.camera < 32) →
    (∀ r e, r < 106 → e ∈ (s.pound r).staged → scopeOf e.1 = r ∧ ∃ row, Dict.row? e.1 = some row ∧ row.access = .rws) →
    (∀ r q, r < 105 → r ∉ ps → (s.pound r).armed ≠ none → q ∈ (s.pound r).bundle → q ∉ ps ∧ q < 105) →
    ps.Nodup →
    ((∀ q, q ∈ ps → q ∈ axesOf t ∨ q = 48 + t) ∨
     (∃ l, ps = [56 + l] ∧ l < 16 ∧ l / 2 = t ∧ (s.laser l).stream.startAt ≠ some b ∧
       (s.rd (Reg.streamState l) ≠ 1 ∨ ∃ y, (s.laser l).stream.segs = [y] ∧ y.t0 ≤ next ∧ next < y.t2 ∧ y.t2 ≤ (s.laser l).stream.lastTime ∧
         y.s ≠ (s.laser l).stream.segUsed ∧ y.s < (s.laser l).stream.decodeNext ∧ y.s < (s.laser l).stream.len ∧
         (s.laser l).stream.resumeSeg = none)) ∨
     (∃ c, ps = [72 + c] ∧ c < 32 ∧ s.camEngine c = t ∧ s.frameBoundary c b = true) ∨
     ps = [104] ∧ t = 0 ∧ s.layerBoundary = true ∧ ∀ l, l < 16 → (s.laser l).stream.startAt ≠ some b) →
    (∀ q, q ∈ ps → (s.pound q).armed = some t0 ∧ (s.pound q).bundle = ps.filter (fun r => r != q) ∧
      ((s.pound q).staged.map fun e => e.1).Nodup ∧ u.deferCaseOf q u.memStepRuns = 0) →
    ∃ x : State, exec (.loopBoundary t [] []) s = .next x ∧
      (∀ q, q ∈ ps →
        (t0 + ns 1000 ≤ u.lt →
          x.pound q = {} ∧ x.rd (poundKey q 5) = time80 u.lt ∧ x.rd (poundKey q 6) = min (s.rd (poundKey q 6) + 1) (2 ^ 32 - 1) ∧
            ∀ e, e ∈ (s.pound q).staged → x.rd e.1 = e.2) ∧
        (u.lt < t0 + ns 1000 →
          (x.pound q).armed = some t0 ∧ (x.pound q).staged = (s.pound q).staged ∧ x.rd (poundKey q 5) = s.rd (poundKey q 5) ∧
            x.rd (poundKey q 6) = s.rd (poundKey q 6) ∧ ∀ e, e ∈ (s.pound q).staged → x.rd e.1 = s.rd e.1)) ∧
      ∀ a w, ps = [a] → a < 48 → t0 + ns 1000 ≤ u.lt → (s.pound a).staged = [(Reg.bankSwap a, w.len)] →
        let l := (s.axis a).law
        let l' := (x.axis a).law
        l.armed = some w → l.held = none → l.incoming = none →
        (bankCrc l.pound = w.crc → x.rd (Reg.swapCount a) = min (s.rd (Reg.swapCount a) + 1) (2 ^ 32 - 1) ∧
          (l.run = .stopped → l'.active = l.pound ∧ l'.incoming = none) ∧
          (l.run ≠ .stopped → s.pinStops t = false →
            if l'.run = .stopped then l'.active = l.pound ∧ l'.incoming = none
            else l'.incoming = some l.pound ∧ l'.fadeLen = w.len ∧ l'.fadePos = 0 ∧ l'.active = l.active)) ∧
        (bankCrc l.pound ≠ w.crc → x.rd (Reg.swapLostCount a) = min (s.rd (Reg.swapLostCount a) + 1) (2 ^ 32 - 1) ∧
          l'.active = l.active ∧ l'.incoming = none)

/-! ### Recovery, streams, store and test -/

/-- PARK and RETURN of TOKEN_HOLDER are taken for the first LOOP boundary at least 1 µs later, those of a port at once; a
unit that is not PARKED, or whose engine or tile is, has no RETURN. One that is taken ends the automatic sequence after INIT
(R437, R445; what ends it is log entry 62). FAULT_CLEAR clears the latches whose conditions have
ended, and darkens a laser whose latch clears (R418, R426, R428, R430). Which conditions hold a latch is the model's reading
(log entry 63). -/
def Obligations.UnitsParked : Prop :=
  ∀ (s : State) (dt n u : Nat) (src : Source), s.still = true → (s.advance dt).speaks src n = true →
    s.lock.running = none → s.lock.queue = [] →
    let r := (s.advance dt).received src
    (s.rd Reg.tokenHolder = n → ∀ cls t axes,
      (cls = cTILE ∨ cls = cENGINE) ∧ u < 8 ∧ t = u ∧ axes = axesOf u ∨ cls = cAXIS ∧ u < 48 ∧ t = u / 6 ∧ axes = [u] →
      r.servesStream axes = false →
      let parked := if cls = cAXIS then s.axisParked u else if cls = cENGINE then s.engineParked u else s.tileParked u
      let above := if cls = cAXIS then s.engineParked t || s.tileParked t else if cls = cENGINE then s.tileParked t else false
      exec (.park dt src cls u) s =
        .next (((r.modEngine t fun e => { e with due := e.due ++ [(r.lt + ns 1000, .park cls u 1)] }).modMode fun m =>
          { m with bootSeq := false }).answer 0 []) ∧
      (parked = false ∨ above = true → exec (.returnUnit dt src cls u) s = .next (r.answer 0xA012 [])) ∧
      (parked = true → above = false → (r.returnChecks cls t axes).2 = true →
        ∃ x : State, exec (.returnUnit dt src cls u) s = .next x ∧ x.net.reply.abort = 0 ∧ x.mode.bootSeq = false ∧
          (x.engine t).due = (s.engine t).due ++ [(r.lt + ns 1000, .ret cls u)])) ∧
    (s.rd Reg.tokenHolder = n → u < 2 →
      (s.portParked u = false → src.portNo ≠ some u → s.portParked (1 - u) = false →
        ∃ x : State, exec (.park dt src cPORT u) s = .next x ∧ x.net.reply.abort = 0 ∧ x.portParked u = true ∧
          x.rd (Reg.pdelayState u) = 0 ∧ (x.egress u).high = [] ∧ (x.egress u).low = []) ∧
      (s.portParked u = true →
        ∃ x : State, exec (.returnUnit dt src cPORT u) s = .next x ∧ x.net.reply.abort = 0 ∧ x.portParked u = false ∧
          x.rd (Reg.pdelayState u) = if s.rd (Reg.pdelayState u) = 0 then 1 else s.rd (Reg.pdelayState u))) ∧
    (s.rd Reg.tokenHolder ≠ n → ∀ cls, exec (.park dt src cls u) s = .next (r.answer 0xA021 []) ∧
      exec (.returnUnit dt src cls u) s = .next (r.answer 0xA021 [])) ∧
    exec (.faultClear dt src) s = .next (r.faultClear.answer 0 []) ∧
    ∀ l, l < 16 → s.laserLatched l = true → r.faultClear.laserLatched l = false ∧ (r.faultClear.laser l).hold = true

/-- STREAM_CMD: RESUME from STOP_SEG of a STOPPED stream in BUILD is taken for the first LOOP boundary at least 1 µs later;
STOP marks a running stream, but for one that a fault already stops; ABANDON closes the gate, cancels the laser's actions and
ends its stream, and counts as its LAYER_END (R230, R231). So where nothing of the stream has fallen due before the command. A
LOOP boundary of a running stream inside a segment puts the set-point formed before in use, and forms that of the next boundary:
the point of the segment there, in equal parts of its time, with the offset of the correction, the curvature, the focus and the
scale and offset of each axis; inside the segment the velocity is the change over the period (R220, R221). Their roundings are log
entry 47. -/
def Obligations.StreamsCommanded : Prop :=
  (∀ (s : State) (dt n l : Nat) (src : Source), s.still = true → (s.advance dt).speaks src n = true → l < 16 →
    (s.advance dt).streamRests l = true →
    let r := (s.advance dt).received src
    (s.modeCode = BUILD → s.lock.running = none → s.lock.queue = [] → s.rd (Reg.streamState l) = 2 → s.rd (Reg.stopSeg l) < 2 ^ 24 →
      s.laserLatched l = false →
      exec (.resume dt src l (s.rd (Reg.stopSeg l))) s =
        .next ((r.modEngine (l / 2) fun e => { e with due := e.due ++ [(r.lt + ns 1000, .resume l)] }).answer 0 [])) ∧
    exec (.stop dt src l) s =
      .next (if s.rd (Reg.streamState l) = 1 then
          (if (s.laser l).stream.stops.isEmpty then r.modStream l fun m => { m with hostStop := true } else r).answer 0 []
        else r.answer 0xA012 []) ∧
    ∃ t : State, exec (.abandon dt src l) s = .next t ∧ t.net.reply.abort = 0 ∧ t.rd (Reg.streamState l) = 0 ∧ (t.laser l).gate = false ∧
      (t.laser l).value = 0 ∧ (t.laser l).acts = [] ∧ (t.laser l).play = none ∧ (t.laser l).stream.finished = true ∧
      (t.laser l).stream.segs = [] ∧ (t.laser l).stream.frozen = true ∧ t.axes = s.axes ∧ t.modeCode = s.modeCode) ∧
  ∀ (s : State) (l : Nat) (x : Seg), s.calm = true → s.modeCode = BUILD → l < 16 →
    let t := l / 2
    let b := nextGrid (ns (s.loopNs t)) s.lt (s.engine t).lastLoop
    let next := b + ns (s.loopNs t)
    let m := (s.laser l).stream
    s.lock.running = none → s.lock.holdRun = none → s.lock.leftover = [] → (∀ e, e ∈ (s.engine t).due → b < e.1) →
    (s.engine t).returnCls = none → (t = 0 → s.net.held = []) → (∀ p, p < 105 → (s.pound p).armed = none) →
    (∀ i, i < 16 → (s.goTo b).streamRests i = true) →
    s.rd (Reg.streamState l) = 1 → m.segs = [x] → x.t0 ≤ next → next < x.t2 → x.t2 ≤ m.lastTime → x.s < m.decodeNext → x.s < m.len →
    m.frozen = false → m.hostStop = false → m.finished = false → m.resumeSeg = none → m.startAt = none →
    bitAt (s.rd (Reg.gridEnable l)) 0 = false →
    ∃ r : State, exec (.loopBoundary t [] []) s = .next (s.keep r.done) ∧ (r.laser l).stream.now = m.cur ∧
      (r.laser l).stream.point = x.at next ∧
      (x.t1 ≤ next → x.at next = x.p1) ∧
      (x.t0 < next → next < x.t1 →
        let part (v w : Int) : Int := v + Num.rdiv ((w - v) * ((next - x.t0 : Nat) : Int)) ((x.t1 - x.t0 : Nat) : Int)
        x.at next = { x := part x.p0.x x.p1.x, y := part x.p0.y x.p1.y, z := part x.p0.z x.p1.z }) ∧
      let set (at_ : Lt) (i : Nat) : Int :=
        let p := x.at at_
        let xc := Num.satI 32 (p.x + (r.laser l).corr.1)
        let yc := Num.satI 32 (p.y + (r.laser l).corr.2)
        let zc := Num.satI 32 (p.z + Num.rshift (s.rdS 32 (Reg.focusCurv l) * (xc * xc + yc * yc)) 62 + r.rdS 32 (Reg.afOffset l))
        let v := if i = 0 then xc else if i = 1 then yc else zc
        Num.satI 32 (s.rdS 32 (Reg.fieldOffset l i) + Num.rshift (s.rdS 32 (Reg.fieldScale l i) * v) 31)
      ∀ i, i < 3 → (r.laser l).stream.cur.getD (2 * i) 0 = set next i ∧
        (next + ns (s.loopNs t) < x.t2 → (r.laser l).stream.cur.getD (2 * i + 1) 0 =
          Num.satI 32 (Num.rdiv ((set (next + ns (s.loopNs t)) i - set next i) * 10 ^ 9) (2 ^ 20 * (s.loopNs t : Int))))

/-- SAVE erases the slot that does not hold the newest image and puts it in progress; at its end the slot holds its image
with its commit word, and is the slot in use; a save that fails leaves STORE_SLOT and STORE_GENERATION. ERASE in CONFIGURE
erases both slots (R447, R448, R451). That an erase takes effect at its command is the model's reading (log entry 41). -/
def Obligations.StoreSaves : Prop :=
  ∀ (s : State) (dt n : Nat) (src : Source), s.still = true →
    ((s.advance dt).speaks src n = true → s.rd Reg.storeState = 0 →
      let r := (s.advance dt).received src
      let i := match s.newestSlot with | some i => 1 - i | none => 0
      let g := match s.newestSlot with | some i => s.slotGen i + 1 | none => 1
      let save : Save := { slot := i, generation := g, image := r.slotImage g }
      (s.modeCode ≠ CALIBRATE → s.modeCode ≠ TEST → g ≤ 0xFFFFFFFE → (r.slotImage g).length ≤ 1048572 →
        exec (.save dt src) s =
          .next (((({ r with flash := memClear s.flash (slotBase i) 0x100000, store := { s.store with save := some save } } : State).wr
            Reg.storeState 1).wr Reg.storeBytes ((r.slotImage g).length - 0x44)).answer 0 [])) ∧
      (s.modeCode = CONFIGURE →
        exec (.erase dt src) s =
          .next (({ r with flash := memClear (memClear s.flash (slotBase 0) 0x100000) (slotBase 1) 0x100000 } : State).answer 0 [])) ∧
      (s.modeCode ≠ CONFIGURE → exec (.erase dt src) s = .next (r.answer 0xA011 []))) ∧
    (∀ x, s.store.save = some x →
      (∃ t : State, exec (.storeSaveComplete dt 0) s = .next t ∧ t.store.save = none ∧ t.rd Reg.storeState = 0 ∧ t.rd Reg.storeSlot = x.slot ∧
        t.rd Reg.storeGeneration = x.generation ∧
        t.flash = memWriteBytes erasedByte (memWriteBytes erasedByte s.flash (slotBase x.slot) x.image) (slotBase x.slot + 0x0FFFFC)
          (leBytes 4 commitWord)) ∧
      ∀ cause, cause = 1 ∨ cause = 2 →
        ∃ t : State, exec (.storeSaveComplete dt cause) s = .next t ∧ t.store.save = none ∧ t.rd Reg.storeState = 0 ∧
          t.rd Reg.storeSlot = s.rd Reg.storeSlot ∧ t.rd Reg.storeGeneration = s.rd Reg.storeGeneration)

/-- Self-tests run in TEST alone, one at a time, with their signatures 0 until they end; the logic part of both is followed
by the memory part; a test that ends with every expected signature has passed, and its state is left (R457 to R459).
CAPTURE_CMD for one trigger: an arm that is not refused makes it ARMED with its taps writing from an empty ring; a fire of an
armed trigger with source HOST makes it TRIGGERED at its instant; a stop of an armed or triggered trigger ends it with reason
4 (R464, R465, R467). -/
def Obligations.TestsRun : Prop :=
  (∀ (s : State) (dt n : Nat) (src : Source), s.still = true →
     ((s.advance dt).speaks src n = true →
       let r := (s.advance dt).received src
       ∀ c cmd, (c, cmd) ∈ [(Instr.selftestLogic dt src, 1), (.selftestMemory dt src, 2), (.selftestBoth dt src, 3)] →
         (s.modeCode ≠ TEST → exec c s = .next (r.answer 0xA011 [])) ∧
         (s.modeCode = TEST → s.test.running.isSome = true → exec c s = .next (r.answer 0xA030 [])) ∧
         (s.modeCode = TEST → s.test.running = none →
           ∃ t : State, exec c s = .next t ∧ t.net.reply.abort = 0 ∧
             t.test.running = some { cmd := cmd, logic := cmd != 2, start := r.lt } ∧ t.rd Reg.selftestState = 1 ∧ t.rd Reg.selftestFail = 0 ∧
             (∀ k, k < 18 → t.rd (Reg.selftestSig k) = 0) ∧ t.modeCode = TEST ∧ t.dram = s.dram)) ∧
     ∀ x, s.modeCode = TEST → s.test.running = some x → x.fail = 0 →
       (x.logic = true → x.cmd = 3 →
         ∃ t : State, exec (.selftestComplete dt []) s = .next t ∧ t.test.running = some { x with logic := false } ∧
           ∀ k, k < 12 → t.rd (Reg.selftestSig k) = expectedSig k) ∧
       (x.logic = false →
         ∃ t : State, exec (.selftestComplete dt []) s = .next t ∧ t.test.running = none ∧ t.rd Reg.selftestState = 2 ∧
           t.rd Reg.selftestFail = 0 ∧ ∀ k, 12 ≤ k → k < 18 → t.rd (Reg.selftestSig k) = expectedSig k)) ∧
  (∀ (s : State) (dt n k : Nat) (src : Source), s.still = true → (s.advance dt).speaks src n = true → k < 4 →
     let r := (s.advance dt).received src
     (s.armRefused k [k] = true → exec (.captureArm dt src (2 ^ k)) s = .next (r.answer 0xA012 [])) ∧
     (s.armRefused k [k] = false →
       ∃ t : State, exec (.captureArm dt src (2 ^ k)) s = .next t ∧ t.net.reply.abort = 0 ∧ t.trigNow k = 1 ∧ t.axes = s.axes ∧
         ∀ i, i ∈ s.tapsOf k → (t.tap i).active = true ∧ (t.tap i).written = 0 ∧ (t.tap i).seq = 0 ∧ t.rd (Reg.tapDropped i) = 0) ∧
     (s.trigSource k = 3 → s.trigNow k = 1 → (∃ i, i ∈ s.tapsOf k ∧ (s.tap i).active = true ∧ (s.tap i).written = 0 ∧ (s.tap i).recent = [] ∧
         0 < s.rd (Reg.tapPost i)) →
       ∃ t : State, exec (.captureFire dt src (2 ^ k)) s = .next t ∧ t.net.reply.abort = 0 ∧ t.trigNow k = 2 ∧
         t.rd (Reg.trigLt k) = time80 r.lt ∧ t.axes = s.axes) ∧
     (s.trigNow k = 1 ∨ s.trigNow k = 2 → (∃ i, i ∈ s.tapsOf k ∧ (s.tap i).active = true) →
       ∃ t : State, exec (.captureStop dt src (2 ^ k)) s = .next t ∧ t.net.reply.abort = 0 ∧ t.rd (Reg.trigState k) = 16 * 4 + 3 ∧
         (∀ i, i ∈ s.tapsOf k → (t.tap i).active = false) ∧ t.axes = s.axes))

/-! ### Events and reactions -/

/-- EVENT_ADMIT: the first record of the intake in detection order is numbered 2 µs after its time: it takes NEXT_SEQ, which
counts on, and heads the ring, as long as no loss is reported before it and no stream has a record to deliver by then (R404,
R405). A record is delivered behind those of
the intake, with its code, its level, the mode and the layer, while there is room for it and numbering has not stopped, and no
logic self-test has its block under test (R458);
nothing else changes for a record below a fault (R399, R404, R405). -/
def Obligations.EventsAdmitted : Prop :=
  (∀ (s : State) (e : Event), s.still = true → firstEvent s.log.intake = some e → s.log.lossCount = 0 →
     (∀ l, l < 16 → s.streamRests l = true ∧ (s.goTo (e.ts + ns 2000)).streamRests l = true) →
     (∀ k, k < 4 → s.trigSource k ≠ 2) → (∀ m, m < 4 → s.rd (Reg.masterState m) = 1 → bitAt (s.rd (Reg.pushEnable m)) 0 = false) →
     ∃ t h, exec .eventAdmit s = .next t ∧ t.lt = max s.lt (e.ts + ns 2000) ∧ t.rd Reg.nextSeq = (s.rd Reg.nextSeq + 1) % 2 ^ 32 ∧
       t.log.ring = (h :: s.log.ring).take 4096 ∧ h.seq = s.rd Reg.nextSeq ∧ h.code = e.code ∧ h.ts = e.ts ∧ h.cls = e.cls ∧
       h.inst = e.inst ∧ h.level = e.level ∧ t.log.intake = (s.log.intake.filter fun x => x.uid != e.uid) ∧ t.axes = s.axes ∧
       t.lock = s.lock) ∧
  (∀ (s : State) (code cls inst : Nat) (data : List Nat), levelOf code < 2 → s.log.stopped = false → s.log.intake.length < 256 →
     s.silenced code = false →
     ∃ e, s.raise code cls inst data = { s with log := { s.log with nextUid := s.log.nextUid + 1, intake := s.log.intake ++ [e] } } ∧
       e.uid = s.log.nextUid ∧ e.code = code ∧ e.cls = cls ∧ e.inst = inst ∧ e.level = levelOf code ∧ e.ts = s.lt ∧
       e.mode = s.modeCode ∧ e.layer = s.rd Reg.layerInUse ∧ e.data = data)

/-- LASER_SAFE ends 1 µs after its start, with LAST_REACTION_TIME; where no reaction waits the lock-keeper is idle then
(R404, R412). A time outside its word is open (log entry 9). -/
def Obligations.LaserSafeEnds : Prop :=
  ∀ (s : State) (q : Sequence) (l : Nat), (s.modLock fun x => { x with triggerUid := none }).still = true → s.lock.running = some q →
    q.kind = .laserSafe l → q.fromMode = none → s.lock.queue = [] →
    ∃ t : State, exec .laserSafeComplete s = .next t ∧ t.lt = max s.lt (q.t0 + ns 1000) ∧ t.lock.running = none ∧ t.lock.doneLt = some t.lt ∧
      t.rd Reg.lastReactionTime = Num.fitU 32 (lateNs q.t0 t.lt) ∧ t.modeCode = s.modeCode ∧ t.axes = s.axes ∧ t.lasers = s.lasers
end

