-- ==== Sys2Proof/Laws/State.lean ====
section
/-! SUPPORT. What each update of the state leaves alone, field by field; all of it is true by `rfl`, behind `id` so that a rewrite
with it does not make the kernel compare whole states. -/

set_option Elab.async false

namespace Sys2Proof.Machine

section
variable (s : State) (k v : Nat)
@[simp] theorem State.wr_lt : (s.wr k v).lt = s.lt := id rfl
@[simp] theorem State.wr_mode : (s.wr k v).mode = s.mode := id rfl
@[simp] theorem State.wr_pounds : (s.wr k v).pounds = s.pounds := id rfl
@[simp] theorem State.wr_axes : (s.wr k v).axes = s.axes := id rfl
@[simp] theorem State.wr_tiles : (s.wr k v).tiles = s.tiles := id rfl
@[simp] theorem State.wr_engines : (s.wr k v).engines = s.engines := id rfl
@[simp] theorem State.wr_lasers : (s.wr k v).lasers = s.lasers := id rfl
@[simp] theorem State.wr_layer : (s.wr k v).layer = s.layer := id rfl
@[simp] theorem State.wr_vision : (s.wr k v).vision = s.vision := id rfl
@[simp] theorem State.wr_memPort : (s.wr k v).memPort = s.memPort := id rfl
@[simp] theorem State.wr_hostEntries : (s.wr k v).hostEntries = s.hostEntries := id rfl
@[simp] theorem State.wr_profiles : (s.wr k v).profiles = s.profiles := id rfl
@[simp] theorem State.wr_dram : (s.wr k v).dram = s.dram := id rfl
@[simp] theorem State.wr_clearAxFall : (s.wr k v).clearAxFall = s.clearAxFall := id rfl
@[simp] theorem State.wr_clearAxRise : (s.wr k v).clearAxRise = s.clearAxRise := id rfl
@[simp] theorem State.wr_clearLmFall : (s.wr k v).clearLmFall = s.clearLmFall := id rfl
@[simp] theorem State.wr_lastMonitor : (s.wr k v).lastMonitor = s.lastMonitor := id rfl
@[simp] theorem State.wr_monPending : (s.wr k v).monPending = s.monPending := id rfl
@[simp] theorem State.wr_busLow : (s.wr k v).busLow = s.busLow := id rfl
@[simp] theorem State.wr_lastSample : (s.wr k v).lastSample = s.lastSample := id rfl
@[simp] theorem State.wr_log : (s.wr k v).log = s.log := id rfl
@[simp] theorem State.wr_lock : (s.wr k v).lock = s.lock := id rfl
@[simp] theorem State.wr_test : (s.wr k v).test = s.test := id rfl
@[simp] theorem State.wr_capture : (s.wr k v).capture = s.capture := id rfl
@[simp] theorem State.wr_legacy : (s.wr k v).legacy = s.legacy := id rfl
@[simp] theorem State.wr_time : (s.wr k v).time = s.time := id rfl
@[simp] theorem State.wr_net : (s.wr k v).net = s.net := id rfl
@[simp] theorem State.wr_flash : (s.wr k v).flash = s.flash := id rfl
@[simp] theorem State.wr_store : (s.wr k v).store = s.store := id rfl
@[simp] theorem State.wr_freeCount : (s.wr k v).freeCount = s.freeCount := id rfl
@[simp] theorem State.wr_pending : (s.wr k v).pending = s.pending := id rfl
end

section
variable (s : State) (t : Lt)
@[simp] theorem State.goTo_regs : (s.goTo t).regs = s.regs := id rfl
@[simp] theorem State.goTo_mode : (s.goTo t).mode = s.mode := id rfl
@[simp] theorem State.goTo_pounds : (s.goTo t).pounds = s.pounds := id rfl
@[simp] theorem State.goTo_axes : (s.goTo t).axes = s.axes := id rfl
@[simp] theorem State.goTo_tiles : (s.goTo t).tiles = s.tiles := id rfl
@[simp] theorem State.goTo_engines : (s.goTo t).engines = s.engines := id rfl
@[simp] theorem State.goTo_lasers : (s.goTo t).lasers = s.lasers := id rfl
@[simp] theorem State.goTo_layer : (s.goTo t).layer = s.layer := id rfl
@[simp] theorem State.goTo_vision : (s.goTo t).vision = s.vision := id rfl
@[simp] theorem State.goTo_memPort : (s.goTo t).memPort = s.memPort := id rfl
@[simp] theorem State.goTo_hostEntries : (s.goTo t).hostEntries = s.hostEntries := id rfl
@[simp] theorem State.goTo_profiles : (s.goTo t).profiles = s.profiles := id rfl
@[simp] theorem State.goTo_dram : (s.goTo t).dram = s.dram := id rfl
@[simp] theorem State.goTo_clearAxFall : (s.goTo t).clearAxFall = s.clearAxFall := id rfl
@[simp] theorem State.goTo_clearAxRise : (s.goTo t).clearAxRise = s.clearAxRise := id rfl
@[simp] theorem State.goTo_clearLmFall : (s.goTo t).clearLmFall = s.clearLmFall := id rfl
@[simp] theorem State.goTo_lastMonitor : (s.goTo t).lastMonitor = s.lastMonitor := id rfl
@[simp] theorem State.goTo_monPending : (s.goTo t).monPending = s.monPending := id rfl
@[simp] theorem State.goTo_busLow : (s.goTo t).busLow = s.busLow := id rfl
@[simp] theorem State.goTo_lastSample : (s.goTo t).lastSample = s.lastSample := id rfl
@[simp] theorem State.goTo_log : (s.goTo t).log = s.log := id rfl
@[simp] theorem State.goTo_lock : (s.goTo t).lock = s.lock := id rfl
@[simp] theorem State.goTo_test : (s.goTo t).test = s.test := id rfl
@[simp] theorem State.goTo_capture : (s.goTo t).capture = s.capture := id rfl
@[simp] theorem State.goTo_legacy : (s.goTo t).legacy = s.legacy := id rfl
@[simp] theorem State.goTo_time : (s.goTo t).time = s.time := id rfl
@[simp] theorem State.goTo_net : (s.goTo t).net = s.net := id rfl
@[simp] theorem State.goTo_flash : (s.goTo t).flash = s.flash := id rfl
@[simp] theorem State.goTo_store : (s.goTo t).store = s.store := id rfl
@[simp] theorem State.goTo_freeCount : (s.goTo t).freeCount = s.freeCount := id rfl
@[simp] theorem State.goTo_pending : (s.goTo t).pending = s.pending := id rfl
@[simp] theorem State.rd_goTo (r : Nat) : (s.goTo t).rd r = s.rd r := id rfl
@[simp] theorem State.modeCode_goTo : (s.goTo t).modeCode = s.modeCode := id rfl
end

section
variable (s : State) (dt : Nat)
@[simp] theorem State.advance_regs : (s.advance dt).regs = s.regs := id rfl
@[simp] theorem State.advance_mode : (s.advance dt).mode = s.mode := id rfl
@[simp] theorem State.advance_pounds : (s.advance dt).pounds = s.pounds := id rfl
@[simp] theorem State.advance_axes : (s.advance dt).axes = s.axes := id rfl
@[simp] theorem State.advance_tiles : (s.advance dt).tiles = s.tiles := id rfl
@[simp] theorem State.advance_engines : (s.advance dt).engines = s.engines := id rfl
@[simp] theorem State.advance_lasers : (s.advance dt).lasers = s.lasers := id rfl
@[simp] theorem State.advance_layer : (s.advance dt).layer = s.layer := id rfl
@[simp] theorem State.advance_vision : (s.advance dt).vision = s.vision := id rfl
@[simp] theorem State.advance_memPort : (s.advance dt).memPort = s.memPort := id rfl
@[simp] theorem State.advance_hostEntries : (s.advance dt).hostEntries = s.hostEntries := id rfl
@[simp] theorem State.advance_profiles : (s.advance dt).profiles = s.profiles := id rfl
@[simp] theorem State.advance_dram : (s.advance dt).dram = s.dram := id rfl
@[simp] theorem State.advance_clearAxFall : (s.advance dt).clearAxFall = s.clearAxFall := id rfl
@[simp] theorem State.advance_clearAxRise : (s.advance dt).clearAxRise = s.clearAxRise := id rfl
@[simp] theorem State.advance_clearLmFall : (s.advance dt).clearLmFall = s.clearLmFall := id rfl
@[simp] theorem State.advance_lastMonitor : (s.advance dt).lastMonitor = s.lastMonitor := id rfl
@[simp] theorem State.advance_monPending : (s.advance dt).monPending = s.monPending := id rfl
@[simp] theorem State.advance_busLow : (s.advance dt).busLow = s.busLow := id rfl
@[simp] theorem State.advance_lastSample : (s.advance dt).lastSample = s.lastSample := id rfl
@[simp] theorem State.advance_log : (s.advance dt).log = s.log := id rfl
@[simp] theorem State.advance_lock : (s.advance dt).lock = s.lock := id rfl
@[simp] theorem State.advance_test : (s.advance dt).test = s.test := id rfl
@[simp] theorem State.advance_capture : (s.advance dt).capture = s.capture := id rfl
@[simp] theorem State.advance_legacy : (s.advance dt).legacy = s.legacy := id rfl
@[simp] theorem State.advance_time : (s.advance dt).time = s.time := id rfl
@[simp] theorem State.advance_net : (s.advance dt).net = s.net := id rfl
@[simp] theorem State.advance_flash : (s.advance dt).flash = s.flash := id rfl
@[simp] theorem State.advance_store : (s.advance dt).store = s.store := id rfl
@[simp] theorem State.advance_freeCount : (s.advance dt).freeCount = s.freeCount := id rfl
@[simp] theorem State.advance_pending : (s.advance dt).pending = s.pending := id rfl
@[simp] theorem State.rd_advance (r : Nat) : (s.advance dt).rd r = s.rd r := id rfl
@[simp] theorem State.modeCode_advance : (s.advance dt).modeCode = s.modeCode := id rfl
end

section
variable (s : State) (a : Nat) (x : Axis)
@[simp] theorem State.setAxis_regs : (s.setAxis a x).regs = s.regs := id rfl
@[simp] theorem State.setAxis_lt : (s.setAxis a x).lt = s.lt := id rfl
@[simp] theorem State.setAxis_mode : (s.setAxis a x).mode = s.mode := id rfl
@[simp] theorem State.setAxis_pounds : (s.setAxis a x).pounds = s.pounds := id rfl
@[simp] theorem State.setAxis_tiles : (s.setAxis a x).tiles = s.tiles := id rfl
@[simp] theorem State.setAxis_engines : (s.setAxis a x).engines = s.engines := id rfl
@[simp] theorem State.setAxis_lasers : (s.setAxis a x).lasers = s.lasers := id rfl
@[simp] theorem State.setAxis_layer : (s.setAxis a x).layer = s.layer := id rfl
@[simp] theorem State.setAxis_vision : (s.setAxis a x).vision = s.vision := id rfl
@[simp] theorem State.setAxis_memPort : (s.setAxis a x).memPort = s.memPort := id rfl
@[simp] theorem State.setAxis_hostEntries : (s.setAxis a x).hostEntries = s.hostEntries := id rfl
@[simp] theorem State.setAxis_profiles : (s.setAxis a x).profiles = s.profiles := id rfl
@[simp] theorem State.setAxis_dram : (s.setAxis a x).dram = s.dram := id rfl
@[simp] theorem State.setAxis_clearAxFall : (s.setAxis a x).clearAxFall = s.clearAxFall := id rfl
@[simp] theorem State.setAxis_clearAxRise : (s.setAxis a x).clearAxRise = s.clearAxRise := id rfl
@[simp] theorem State.setAxis_clearLmFall : (s.setAxis a x).clearLmFall = s.clearLmFall := id rfl
@[simp] theorem State.setAxis_lastMonitor : (s.setAxis a x).lastMonitor = s.lastMonitor := id rfl
@[simp] theorem State.setAxis_monPending : (s.setAxis a x).monPending = s.monPending := id rfl
@[simp] theorem State.setAxis_busLow : (s.setAxis a x).busLow = s.busLow := id rfl
@[simp] theorem State.setAxis_lastSample : (s.setAxis a x).lastSample = s.lastSample := id rfl
@[simp] theorem State.setAxis_log : (s.setAxis a x).log = s.log := id rfl
@[simp] theorem State.setAxis_lock : (s.setAxis a x).lock = s.lock := id rfl
@[simp] theorem State.setAxis_test : (s.setAxis a x).test = s.test := id rfl
@[simp] theorem State.setAxis_capture : (s.setAxis a x).capture = s.capture := id rfl
@[simp] theorem State.setAxis_legacy : (s.setAxis a x).legacy = s.legacy := id rfl
@[simp] theorem State.setAxis_time : (s.setAxis a x).time = s.time := id rfl
@[simp] theorem State.setAxis_net : (s.setAxis a x).net = s.net := id rfl
@[simp] theorem State.setAxis_flash : (s.setAxis a x).flash = s.flash := id rfl
@[simp] theorem State.setAxis_store : (s.setAxis a x).store = s.store := id rfl
@[simp] theorem State.setAxis_freeCount : (s.setAxis a x).freeCount = s.freeCount := id rfl
@[simp] theorem State.setAxis_pending : (s.setAxis a x).pending = s.pending := id rfl
@[simp] theorem State.rd_setAxis (r : Nat) : (s.setAxis a x).rd r = s.rd r := id rfl
@[simp] theorem State.modeCode_setAxis : (s.setAxis a x).modeCode = s.modeCode := id rfl
end

section
variable (s : State) (t : Nat) (x : Tile)
@[simp] theorem State.setTile_regs : (s.setTile t x).regs = s.regs := id rfl
@[simp] theorem State.setTile_lt : (s.setTile t x).lt = s.lt := id rfl
@[simp] theorem State.setTile_mode : (s.setTile t x).mode = s.mode := id rfl
@[simp] theorem State.setTile_pounds : (s.setTile t x).pounds = s.pounds := id rfl
@[simp] theorem State.setTile_axes : (s.setTile t x).axes = s.axes := id rfl
@[simp] theorem State.setTile_engines : (s.setTile t x).engines = s.engines := id rfl
@[simp] theorem State.setTile_lasers : (s.setTile t x).lasers = s.lasers := id rfl
@[simp] theorem State.setTile_layer : (s.setTile t x).layer = s.layer := id rfl
@[simp] theorem State.setTile_vision : (s.setTile t x).vision = s.vision := id rfl
@[simp] theorem State.setTile_memPort : (s.setTile t x).memPort = s.memPort := id rfl
@[simp] theorem State.setTile_hostEntries : (s.setTile t x).hostEntries = s.hostEntries := id rfl
@[simp] theorem State.setTile_profiles : (s.setTile t x).profiles = s.profiles := id rfl
@[simp] theorem State.setTile_dram : (s.setTile t x).dram = s.dram := id rfl
@[simp] theorem State.setTile_clearAxFall : (s.setTile t x).clearAxFall = s.clearAxFall := id rfl
@[simp] theorem State.setTile_clearAxRise : (s.setTile t x).clearAxRise = s.clearAxRise := id rfl
@[simp] theorem State.setTile_clearLmFall : (s.setTile t x).clearLmFall = s.clearLmFall := id rfl
@[simp] theorem State.setTile_lastMonitor : (s.setTile t x).lastMonitor = s.lastMonitor := id rfl
@[simp] theorem State.setTile_monPending : (s.setTile t x).monPending = s.monPending := id rfl
@[simp] theorem State.setTile_busLow : (s.setTile t x).busLow = s.busLow := id rfl
@[simp] theorem State.setTile_lastSample : (s.setTile t x).lastSample = s.lastSample := id rfl
@[simp] theorem State.setTile_log : (s.setTile t x).log = s.log := id rfl
@[simp] theorem State.setTile_lock : (s.setTile t x).lock = s.lock := id rfl
@[simp] theorem State.setTile_test : (s.setTile t x).test = s.test := id rfl
@[simp] theorem State.setTile_capture : (s.setTile t x).capture = s.capture := id rfl
@[simp] theorem State.setTile_legacy : (s.setTile t x).legacy = s.legacy := id rfl
@[simp] theorem State.setTile_time : (s.setTile t x).time = s.time := id rfl
@[simp] theorem State.setTile_net : (s.setTile t x).net = s.net := id rfl
@[simp] theorem State.setTile_flash : (s.setTile t x).flash = s.flash := id rfl
@[simp] theorem State.setTile_store : (s.setTile t x).store = s.store := id rfl
@[simp] theorem State.setTile_freeCount : (s.setTile t x).freeCount = s.freeCount := id rfl
@[simp] theorem State.setTile_pending : (s.setTile t x).pending = s.pending := id rfl
@[simp] theorem State.rd_setTile (r : Nat) : (s.setTile t x).rd r = s.rd r := id rfl
@[simp] theorem State.modeCode_setTile : (s.setTile t x).modeCode = s.modeCode := id rfl
end

section
variable (s : State) (t : Nat) (f : Engine → Engine)
@[simp] theorem State.modEngine_regs : (s.modEngine t f).regs = s.regs := id rfl
@[simp] theorem State.modEngine_lt : (s.modEngine t f).lt = s.lt := id rfl
@[simp] theorem State.modEngine_mode : (s.modEngine t f).mode = s.mode := id rfl
@[simp] theorem State.modEngine_pounds : (s.modEngine t f).pounds = s.pounds := id rfl
@[simp] theorem State.modEngine_axes : (s.modEngine t f).axes = s.axes := id rfl
@[simp] theorem State.modEngine_tiles : (s.modEngine t f).tiles = s.tiles := id rfl
@[simp] theorem State.modEngine_lasers : (s.modEngine t f).lasers = s.lasers := id rfl
@[simp] theorem State.modEngine_layer : (s.modEngine t f).layer = s.layer := id rfl
@[simp] theorem State.modEngine_vision : (s.modEngine t f).vision = s.vision := id rfl
@[simp] theorem State.modEngine_memPort : (s.modEngine t f).memPort = s.memPort := id rfl
@[simp] theorem State.modEngine_hostEntries : (s.modEngine t f).hostEntries = s.hostEntries := id rfl
@[simp] theorem State.modEngine_profiles : (s.modEngine t f).profiles = s.profiles := id rfl
@[simp] theorem State.modEngine_dram : (s.modEngine t f).dram = s.dram := id rfl
@[simp] theorem State.modEngine_clearAxFall : (s.modEngine t f).clearAxFall = s.clearAxFall := id rfl
@[simp] theorem State.modEngine_clearAxRise : (s.modEngine t f).clearAxRise = s.clearAxRise := id rfl
@[simp] theorem State.modEngine_clearLmFall : (s.modEngine t f).clearLmFall = s.clearLmFall := id rfl
@[simp] theorem State.modEngine_lastMonitor : (s.modEngine t f).lastMonitor = s.lastMonitor := id rfl
@[simp] theorem State.modEngine_monPending : (s.modEngine t f).monPending = s.monPending := id rfl
@[simp] theorem State.modEngine_busLow : (s.modEngine t f).busLow = s.busLow := id rfl
@[simp] theorem State.modEngine_lastSample : (s.modEngine t f).lastSample = s.lastSample := id rfl
@[simp] theorem State.modEngine_log : (s.modEngine t f).log = s.log := id rfl
@[simp] theorem State.modEngine_lock : (s.modEngine t f).lock = s.lock := id rfl
@[simp] theorem State.modEngine_test : (s.modEngine t f).test = s.test := id rfl
@[simp] theorem State.modEngine_capture : (s.modEngine t f).capture = s.capture := id rfl
@[simp] theorem State.modEngine_legacy : (s.modEngine t f).legacy = s.legacy := id rfl
@[simp] theorem State.modEngine_time : (s.modEngine t f).time = s.time := id rfl
@[simp] theorem State.modEngine_net : (s.modEngine t f).net = s.net := id rfl
@[simp] theorem State.modEngine_flash : (s.modEngine t f).flash = s.flash := id rfl
@[simp] theorem State.modEngine_store : (s.modEngine t f).store = s.store := id rfl
@[simp] theorem State.modEngine_freeCount : (s.modEngine t f).freeCount = s.freeCount := id rfl
@[simp] theorem State.modEngine_pending : (s.modEngine t f).pending = s.pending := id rfl
@[simp] theorem State.rd_modEngine (r : Nat) : (s.modEngine t f).rd r = s.rd r := id rfl
@[simp] theorem State.modeCode_modEngine : (s.modEngine t f).modeCode = s.modeCode := id rfl
end

section
variable (s : State) (p : Nat) (f : Pound → Pound)
@[simp] theorem State.modPound_regs : (s.modPound p f).regs = s.regs := id rfl
@[simp] theorem State.modPound_lt : (s.modPound p f).lt = s.lt := id rfl
@[simp] theorem State.modPound_mode : (s.modPound p f).mode = s.mode := id rfl
@[simp] theorem State.modPound_axes : (s.modPound p f).axes = s.axes := id rfl
@[simp] theorem State.modPound_tiles : (s.modPound p f).tiles = s.tiles := id rfl
@[simp] theorem State.modPound_engines : (s.modPound p f).engines = s.engines := id rfl
@[simp] theorem State.modPound_lasers : (s.modPound p f).lasers = s.lasers := id rfl
@[simp] theorem State.modPound_layer : (s.modPound p f).layer = s.layer := id rfl
@[simp] theorem State.modPound_vision : (s.modPound p f).vision = s.vision := id rfl
@[simp] theorem State.modPound_memPort : (s.modPound p f).memPort = s.memPort := id rfl
@[simp] theorem State.modPound_hostEntries : (s.modPound p f).hostEntries = s.hostEntries := id rfl
@[simp] theorem State.modPound_profiles : (s.modPound p f).profiles = s.profiles := id rfl
@[simp] theorem State.modPound_dram : (s.modPound p f).dram = s.dram := id rfl
@[simp] theorem State.modPound_clearAxFall : (s.modPound p f).clearAxFall = s.clearAxFall := id rfl
@[simp] theorem State.modPound_clearAxRise : (s.modPound p f).clearAxRise = s.clearAxRise := id rfl
@[simp] theorem State.modPound_clearLmFall : (s.modPound p f).clearLmFall = s.clearLmFall := id rfl
@[simp] theorem State.modPound_lastMonitor : (s.modPound p f).lastMonitor = s.lastMonitor := id rfl
@[simp] theorem State.modPound_monPending : (s.modPound p f).monPending = s.monPending := id rfl
@[simp] theorem State.modPound_busLow : (s.modPound p f).busLow = s.busLow := id rfl
@[simp] theorem State.modPound_lastSample : (s.modPound p f).lastSample = s.lastSample := id rfl
@[simp] theorem State.modPound_log : (s.modPound p f).log = s.log := id rfl
@[simp] theorem State.modPound_lock : (s.modPound p f).lock = s.lock := id rfl
@[simp] theorem State.modPound_test : (s.modPound p f).test = s.test := id rfl
@[simp] theorem State.modPound_capture : (s.modPound p f).capture = s.capture := id rfl
@[simp] theorem State.modPound_legacy : (s.modPound p f).legacy = s.legacy := id rfl
@[simp] theorem State.modPound_time : (s.modPound p f).time = s.time := id rfl
@[simp] theorem State.modPound_net : (s.modPound p f).net = s.net := id rfl
@[simp] theorem State.modPound_flash : (s.modPound p f).flash = s.flash := id rfl
@[simp] theorem State.modPound_store : (s.modPound p f).store = s.store := id rfl
@[simp] theorem State.modPound_freeCount : (s.modPound p f).freeCount = s.freeCount := id rfl
@[simp] theorem State.modPound_pending : (s.modPound p f).pending = s.pending := id rfl
@[simp] theorem State.rd_modPound (r : Nat) : (s.modPound p f).rd r = s.rd r := id rfl
@[simp] theorem State.modeCode_modPound : (s.modPound p f).modeCode = s.modeCode := id rfl
end

section
variable (s : State) (f : Layer → Layer)
@[simp] theorem State.modLayer_regs : (s.modLayer f).regs = s.regs := id rfl
@[simp] theorem State.modLayer_lt : (s.modLayer f).lt = s.lt := id rfl
@[simp] theorem State.modLayer_mode : (s.modLayer f).mode = s.mode := id rfl
@[simp] theorem State.modLayer_pounds : (s.modLayer f).pounds = s.pounds := id rfl
@[simp] theorem State.modLayer_axes : (s.modLayer f).axes = s.axes := id rfl
@[simp] theorem State.modLayer_tiles : (s.modLayer f).tiles = s.tiles := id rfl
@[simp] theorem State.modLayer_engines : (s.modLayer f).engines = s.engines := id rfl
@[simp] theorem State.modLayer_lasers : (s.modLayer f).lasers = s.lasers := id rfl
@[simp] theorem State.modLayer_vision : (s.modLayer f).vision = s.vision := id rfl
@[simp] theorem State.modLayer_memPort : (s.modLayer f).memPort = s.memPort := id rfl
@[simp] theorem State.modLayer_hostEntries : (s.modLayer f).hostEntries = s.hostEntries := id rfl
@[simp] theorem State.modLayer_profiles : (s.modLayer f).profiles = s.profiles := id rfl
@[simp] theorem State.modLayer_dram : (s.modLayer f).dram = s.dram := id rfl
@[simp] theorem State.modLayer_clearAxFall : (s.modLayer f).clearAxFall = s.clearAxFall := id rfl
@[simp] theorem State.modLayer_clearAxRise : (s.modLayer f).clearAxRise = s.clearAxRise := id rfl
@[simp] theorem State.modLayer_clearLmFall : (s.modLayer f).clearLmFall = s.clearLmFall := id rfl
@[simp] theorem State.modLayer_lastMonitor : (s.modLayer f).lastMonitor = s.lastMonitor := id rfl
@[simp] theorem State.modLayer_monPending : (s.modLayer f).monPending = s.monPending := id rfl
@[simp] theorem State.modLayer_busLow : (s.modLayer f).busLow = s.busLow := id rfl
@[simp] theorem State.modLayer_lastSample : (s.modLayer f).lastSample = s.lastSample := id rfl
@[simp] theorem State.modLayer_log : (s.modLayer f).log = s.log := id rfl
@[simp] theorem State.modLayer_lock : (s.modLayer f).lock = s.lock := id rfl
@[simp] theorem State.modLayer_test : (s.modLayer f).test = s.test := id rfl
@[simp] theorem State.modLayer_capture : (s.modLayer f).capture = s.capture := id rfl
@[simp] theorem State.modLayer_legacy : (s.modLayer f).legacy = s.legacy := id rfl
@[simp] theorem State.modLayer_time : (s.modLayer f).time = s.time := id rfl
@[simp] theorem State.modLayer_net : (s.modLayer f).net = s.net := id rfl
@[simp] theorem State.modLayer_flash : (s.modLayer f).flash = s.flash := id rfl
@[simp] theorem State.modLayer_store : (s.modLayer f).store = s.store := id rfl
@[simp] theorem State.modLayer_freeCount : (s.modLayer f).freeCount = s.freeCount := id rfl
@[simp] theorem State.modLayer_pending : (s.modLayer f).pending = s.pending := id rfl
@[simp] theorem State.rd_modLayer (r : Nat) : (s.modLayer f).rd r = s.rd r := id rfl
@[simp] theorem State.modeCode_modLayer : (s.modLayer f).modeCode = s.modeCode := id rfl
end

section
variable (s : State) (f : ModeSt → ModeSt)
@[simp] theorem State.modMode_regs : (s.modMode f).regs = s.regs := id rfl
@[simp] theorem State.modMode_lt : (s.modMode f).lt = s.lt := id rfl
@[simp] theorem State.modMode_pounds : (s.modMode f).pounds = s.pounds := id rfl
@[simp] theorem State.modMode_axes : (s.modMode f).axes = s.axes := id rfl
@[simp] theorem State.modMode_tiles : (s.modMode f).tiles = s.tiles := id rfl
@[simp] theorem State.modMode_engines : (s.modMode f).engines = s.engines := id rfl
@[simp] theorem State.modMode_lasers : (s.modMode f).lasers = s.lasers := id rfl
@[simp] theorem State.modMode_layer : (s.modMode f).layer = s.layer := id rfl
@[simp] theorem State.modMode_vision : (s.modMode f).vision = s.vision := id rfl
@[simp] theorem State.modMode_memPort : (s.modMode f).memPort = s.memPort := id rfl
@[simp] theorem State.modMode_hostEntries : (s.modMode f).hostEntries = s.hostEntries := id rfl
@[simp] theorem State.modMode_profiles : (s.modMode f).profiles = s.profiles := id rfl
@[simp] theorem State.modMode_dram : (s.modMode f).dram = s.dram := id rfl
@[simp] theorem State.modMode_clearAxFall : (s.modMode f).clearAxFall = s.clearAxFall := id rfl
@[simp] theorem State.modMode_clearAxRise : (s.modMode f).clearAxRise = s.clearAxRise := id rfl
@[simp] theorem State.modMode_clearLmFall : (s.modMode f).clearLmFall = s.clearLmFall := id rfl
@[simp] theorem State.modMode_lastMonitor : (s.modMode f).lastMonitor = s.lastMonitor := id rfl
@[simp] theorem State.modMode_monPending : (s.modMode f).monPending = s.monPending := id rfl
@[simp] theorem State.modMode_busLow : (s.modMode f).busLow = s.busLow := id rfl
@[simp] theorem State.modMode_lastSample : (s.modMode f).lastSample = s.lastSample := id rfl
@[simp] theorem State.modMode_log : (s.modMode f).log = s.log := id rfl
@[simp] theorem State.modMode_lock : (s.modMode f).lock = s.lock := id rfl
@[simp] theorem State.modMode_test : (s.modMode f).test = s.test := id rfl
@[simp] theorem State.modMode_capture : (s.modMode f).capture = s.capture := id rfl
@[simp] theorem State.modMode_legacy : (s.modMode f).legacy = s.legacy := id rfl
@[simp] theorem State.modMode_time : (s.modMode f).time = s.time := id rfl
@[simp] theorem State.modMode_net : (s.modMode f).net = s.net := id rfl
@[simp] theorem State.modMode_flash : (s.modMode f).flash = s.flash := id rfl
@[simp] theorem State.modMode_store : (s.modMode f).store = s.store := id rfl
@[simp] theorem State.modMode_freeCount : (s.modMode f).freeCount = s.freeCount := id rfl
@[simp] theorem State.modMode_pending : (s.modMode f).pending = s.pending := id rfl
@[simp] theorem State.rd_modMode (r : Nat) : (s.modMode f).rd r = s.rd r := id rfl
@[simp] theorem State.modeCode_modMode : (s.modMode f).modeCode = s.modeCode := id rfl
end

section
variable (s : State) (f : LockKeeper → LockKeeper)
@[simp] theorem State.modLock_regs : (s.modLock f).regs = s.regs := id rfl
@[simp] theorem State.modLock_lt : (s.modLock f).lt = s.lt := id rfl
@[simp] theorem State.modLock_mode : (s.modLock f).mode = s.mode := id rfl
@[simp] theorem State.modLock_pounds : (s.modLock f).pounds = s.pounds := id rfl
@[simp] theorem State.modLock_axes : (s.modLock f).axes = s.axes := id rfl
@[simp] theorem State.modLock_tiles : (s.modLock f).tiles = s.tiles := id rfl
@[simp] theorem State.modLock_engines : (s.modLock f).engines = s.engines := id rfl
@[simp] theorem State.modLock_lasers : (s.modLock f).lasers = s.lasers := id rfl
@[simp] theorem State.modLock_layer : (s.modLock f).layer = s.layer := id rfl
@[simp] theorem State.modLock_vision : (s.modLock f).vision = s.vision := id rfl
@[simp] theorem State.modLock_memPort : (s.modLock f).memPort = s.memPort := id rfl
@[simp] theorem State.modLock_hostEntries : (s.modLock f).hostEntries = s.hostEntries := id rfl
@[simp] theorem State.modLock_profiles : (s.modLock f).profiles = s.profiles := id rfl
@[simp] theorem State.modLock_dram : (s.modLock f).dram = s.dram := id rfl
@[simp] theorem State.modLock_clearAxFall : (s.modLock f).clearAxFall = s.clearAxFall := id rfl
@[simp] theorem State.modLock_clearAxRise : (s.modLock f).clearAxRise = s.clearAxRise := id rfl
@[simp] theorem State.modLock_clearLmFall : (s.modLock f).clearLmFall = s.clearLmFall := id rfl
@[simp] theorem State.modLock_lastMonitor : (s.modLock f).lastMonitor = s.lastMonitor := id rfl
@[simp] theorem State.modLock_monPending : (s.modLock f).monPending = s.monPending := id rfl
@[simp] theorem State.modLock_busLow : (s.modLock f).busLow = s.busLow := id rfl
@[simp] theorem State.modLock_lastSample : (s.modLock f).lastSample = s.lastSample := id rfl
@[simp] theorem State.modLock_log : (s.modLock f).log = s.log := id rfl
@[simp] theorem State.modLock_test : (s.modLock f).test = s.test := id rfl
@[simp] theorem State.modLock_capture : (s.modLock f).capture = s.capture := id rfl
@[simp] theorem State.modLock_legacy : (s.modLock f).legacy = s.legacy := id rfl
@[simp] theorem State.modLock_time : (s.modLock f).time = s.time := id rfl
@[simp] theorem State.modLock_net : (s.modLock f).net = s.net := id rfl
@[simp] theorem State.modLock_flash : (s.modLock f).flash = s.flash := id rfl
@[simp] theorem State.modLock_store : (s.modLock f).store = s.store := id rfl
@[simp] theorem State.modLock_freeCount : (s.modLock f).freeCount = s.freeCount := id rfl
@[simp] theorem State.modLock_pending : (s.modLock f).pending = s.pending := id rfl
@[simp] theorem State.rd_modLock (r : Nat) : (s.modLock f).rd r = s.rd r := id rfl
@[simp] theorem State.modeCode_modLock : (s.modLock f).modeCode = s.modeCode := id rfl
end

section
variable (s : State) (f : Log → Log)
@[simp] theorem State.modLog_regs : (s.modLog f).regs = s.regs := id rfl
@[simp] theorem State.modLog_lt : (s.modLog f).lt = s.lt := id rfl
@[simp] theorem State.modLog_mode : (s.modLog f).mode = s.mode := id rfl
@[simp] theorem State.modLog_pounds : (s.modLog f).pounds = s.pounds := id rfl
@[simp] theorem State.modLog_axes : (s.modLog f).axes = s.axes := id rfl
@[simp] theorem State.modLog_tiles : (s.modLog f).tiles = s.tiles := id rfl
@[simp] theorem State.modLog_engines : (s.modLog f).engines = s.engines := id rfl
@[simp] theorem State.modLog_lasers : (s.modLog f).lasers = s.lasers := id rfl
@[simp] theorem State.modLog_layer : (s.modLog f).layer = s.layer := id rfl
@[simp] theorem State.modLog_vision : (s.modLog f).vision = s.vision := id rfl
@[simp] theorem State.modLog_memPort : (s.modLog f).memPort = s.memPort := id rfl
@[simp] theorem State.modLog_hostEntries : (s.modLog f).hostEntries = s.hostEntries := id rfl
@[simp] theorem State.modLog_profiles : (s.modLog f).profiles = s.profiles := id rfl
@[simp] theorem State.modLog_dram : (s.modLog f).dram = s.dram := id rfl
@[simp] theorem State.modLog_clearAxFall : (s.modLog f).clearAxFall = s.clearAxFall := id rfl
@[simp] theorem State.modLog_clearAxRise : (s.modLog f).clearAxRise = s.clearAxRise := id rfl
@[simp] theorem State.modLog_clearLmFall : (s.modLog f).clearLmFall = s.clearLmFall := id rfl
@[simp] theorem State.modLog_lastMonitor : (s.modLog f).lastMonitor = s.lastMonitor := id rfl
@[simp] theorem State.modLog_monPending : (s.modLog f).monPending = s.monPending := id rfl
@[simp] theorem State.modLog_busLow : (s.modLog f).busLow = s.busLow := id rfl
@[simp] theorem State.modLog_lastSample : (s.modLog f).lastSample = s.lastSample := id rfl
@[simp] theorem State.modLog_lock : (s.modLog f).lock = s.lock := id rfl
@[simp] theorem State.modLog_test : (s.modLog f).test = s.test := id rfl
@[simp] theorem State.modLog_capture : (s.modLog f).capture = s.capture := id rfl
@[simp] theorem State.modLog_legacy : (s.modLog f).legacy = s.legacy := id rfl
@[simp] theorem State.modLog_time : (s.modLog f).time = s.time := id rfl
@[simp] theorem State.modLog_net : (s.modLog f).net = s.net := id rfl
@[simp] theorem State.modLog_flash : (s.modLog f).flash = s.flash := id rfl
@[simp] theorem State.modLog_store : (s.modLog f).store = s.store := id rfl
@[simp] theorem State.modLog_freeCount : (s.modLog f).freeCount = s.freeCount := id rfl
@[simp] theorem State.modLog_pending : (s.modLog f).pending = s.pending := id rfl
@[simp] theorem State.rd_modLog (r : Nat) : (s.modLog f).rd r = s.rd r := id rfl
@[simp] theorem State.modeCode_modLog : (s.modLog f).modeCode = s.modeCode := id rfl
end

section
variable (s : State) (l : Nat) (f : Laser → Laser)
@[simp] theorem State.modLaser_regs : (s.modLaser l f).regs = s.regs := id rfl
@[simp] theorem State.modLaser_lt : (s.modLaser l f).lt = s.lt := id rfl
@[simp] theorem State.modLaser_mode : (s.modLaser l f).mode = s.mode := id rfl
@[simp] theorem State.modLaser_pounds : (s.modLaser l f).pounds = s.pounds := id rfl
@[simp] theorem State.modLaser_axes : (s.modLaser l f).axes = s.axes := id rfl
@[simp] theorem State.modLaser_tiles : (s.modLaser l f).tiles = s.tiles := id rfl
@[simp] theorem State.modLaser_engines : (s.modLaser l f).engines = s.engines := id rfl
@[simp] theorem State.modLaser_layer : (s.modLaser l f).layer = s.layer := id rfl
@[simp] theorem State.modLaser_vision : (s.modLaser l f).vision = s.vision := id rfl
@[simp] theorem State.modLaser_memPort : (s.modLaser l f).memPort = s.memPort := id rfl
@[simp] theorem State.modLaser_hostEntries : (s.modLaser l f).hostEntries = s.hostEntries := id rfl
@[simp] theorem State.modLaser_profiles : (s.modLaser l f).profiles = s.profiles := id rfl
@[simp] theorem State.modLaser_dram : (s.modLaser l f).dram = s.dram := id rfl
@[simp] theorem State.modLaser_clearAxFall : (s.modLaser l f).clearAxFall = s.clearAxFall := id rfl
@[simp] theorem State.modLaser_clearAxRise : (s.modLaser l f).clearAxRise = s.clearAxRise := id rfl
@[simp] theorem State.modLaser_clearLmFall : (s.modLaser l f).clearLmFall = s.clearLmFall := id rfl
@[simp] theorem State.modLaser_lastMonitor : (s.modLaser l f).lastMonitor = s.lastMonitor := id rfl
@[simp] theorem State.modLaser_monPending : (s.modLaser l f).monPending = s.monPending := id rfl
@[simp] theorem State.modLaser_busLow : (s.modLaser l f).busLow = s.busLow := id rfl
@[simp] theorem State.modLaser_lastSample : (s.modLaser l f).lastSample = s.lastSample := id rfl
@[simp] theorem State.modLaser_log : (s.modLaser l f).log = s.log := id rfl
@[simp] theorem State.modLaser_lock : (s.modLaser l f).lock = s.lock := id rfl
@[simp] theorem State.modLaser_test : (s.modLaser l f).test = s.test := id rfl
@[simp] theorem State.modLaser_capture : (s.modLaser l f).capture = s.capture := id rfl
@[simp] theorem State.modLaser_legacy : (s.modLaser l f).legacy = s.legacy := id rfl
@[simp] theorem State.modLaser_time : (s.modLaser l f).time = s.time := id rfl
@[simp] theorem State.modLaser_net : (s.modLaser l f).net = s.net := id rfl
@[simp] theorem State.modLaser_flash : (s.modLaser l f).flash = s.flash := id rfl
@[simp] theorem State.modLaser_store : (s.modLaser l f).store = s.store := id rfl
@[simp] theorem State.modLaser_freeCount : (s.modLaser l f).freeCount = s.freeCount := id rfl
@[simp] theorem State.modLaser_pending : (s.modLaser l f).pending = s.pending := id rfl
@[simp] theorem State.rd_modLaser (r : Nat) : (s.modLaser l f).rd r = s.rd r := id rfl
@[simp] theorem State.modeCode_modLaser : (s.modLaser l f).modeCode = s.modeCode := id rfl
end

section
variable (s : State) (i : Nat) (f : Tap → Tap)
@[simp] theorem State.modTap_regs : (s.modTap i f).regs = s.regs := id rfl
@[simp] theorem State.modTap_lt : (s.modTap i f).lt = s.lt := id rfl
@[simp] theorem State.modTap_mode : (s.modTap i f).mode = s.mode := id rfl
@[simp] theorem State.modTap_pounds : (s.modTap i f).pounds = s.pounds := id rfl
@[simp] theorem State.modTap_axes : (s.modTap i f).axes = s.axes := id rfl
@[simp] theorem State.modTap_tiles : (s.modTap i f).tiles = s.tiles := id rfl
@[simp] theorem State.modTap_engines : (s.modTap i f).engines = s.engines := id rfl
@[simp] theorem State.modTap_lasers : (s.modTap i f).lasers = s.lasers := id rfl
@[simp] theorem State.modTap_layer : (s.modTap i f).layer = s.layer := id rfl
@[simp] theorem State.modTap_vision : (s.modTap i f).vision = s.vision := id rfl
@[simp] theorem State.modTap_memPort : (s.modTap i f).memPort = s.memPort := id rfl
@[simp] theorem State.modTap_hostEntries : (s.modTap i f).hostEntries = s.hostEntries := id rfl
@[simp] theorem State.modTap_profiles : (s.modTap i f).profiles = s.profiles := id rfl
@[simp] theorem State.modTap_dram : (s.modTap i f).dram = s.dram := id rfl
@[simp] theorem State.modTap_clearAxFall : (s.modTap i f).clearAxFall = s.clearAxFall := id rfl
@[simp] theorem State.modTap_clearAxRise : (s.modTap i f).clearAxRise = s.clearAxRise := id rfl
@[simp] theorem State.modTap_clearLmFall : (s.modTap i f).clearLmFall = s.clearLmFall := id rfl
@[simp] theorem State.modTap_lastMonitor : (s.modTap i f).lastMonitor = s.lastMonitor := id rfl
@[simp] theorem State.modTap_monPending : (s.modTap i f).monPending = s.monPending := id rfl
@[simp] theorem State.modTap_busLow : (s.modTap i f).busLow = s.busLow := id rfl
@[simp] theorem State.modTap_lastSample : (s.modTap i f).lastSample = s.lastSample := id rfl
@[simp] theorem State.modTap_log : (s.modTap i f).log = s.log := id rfl
@[simp] theorem State.modTap_lock : (s.modTap i f).lock = s.lock := id rfl
@[simp] theorem State.modTap_capture : (s.modTap i f).capture = s.capture := id rfl
@[simp] theorem State.modTap_legacy : (s.modTap i f).legacy = s.legacy := id rfl
@[simp] theorem State.modTap_time : (s.modTap i f).time = s.time := id rfl
@[simp] theorem State.modTap_net : (s.modTap i f).net = s.net := id rfl
@[simp] theorem State.modTap_flash : (s.modTap i f).flash = s.flash := id rfl
@[simp] theorem State.modTap_store : (s.modTap i f).store = s.store := id rfl
@[simp] theorem State.modTap_freeCount : (s.modTap i f).freeCount = s.freeCount := id rfl
@[simp] theorem State.modTap_pending : (s.modTap i f).pending = s.pending := id rfl
@[simp] theorem State.rd_modTap (r : Nat) : (s.modTap i f).rd r = s.rd r := id rfl
@[simp] theorem State.modeCode_modTap : (s.modTap i f).modeCode = s.modeCode := id rfl
end

section
variable (s : State) (f : Legacy → Legacy)
@[simp] theorem State.modLegacy_regs : (s.modLegacy f).regs = s.regs := id rfl
@[simp] theorem State.modLegacy_lt : (s.modLegacy f).lt = s.lt := id rfl
@[simp] theorem State.modLegacy_mode : (s.modLegacy f).mode = s.mode := id rfl
@[simp] theorem State.modLegacy_pounds : (s.modLegacy f).pounds = s.pounds := id rfl
@[simp] theorem State.modLegacy_axes : (s.modLegacy f).axes = s.axes := id rfl
@[simp] theorem State.modLegacy_tiles : (s.modLegacy f).tiles = s.tiles := id rfl
@[simp] theorem State.modLegacy_engines : (s.modLegacy f).engines = s.engines := id rfl
@[simp] theorem State.modLegacy_lasers : (s.modLegacy f).lasers = s.lasers := id rfl
@[simp] theorem State.modLegacy_layer : (s.modLegacy f).layer = s.layer := id rfl
@[simp] theorem State.modLegacy_vision : (s.modLegacy f).vision = s.vision := id rfl
@[simp] theorem State.modLegacy_memPort : (s.modLegacy f).memPort = s.memPort := id rfl
@[simp] theorem State.modLegacy_hostEntries : (s.modLegacy f).hostEntries = s.hostEntries := id rfl
@[simp] theorem State.modLegacy_profiles : (s.modLegacy f).profiles = s.profiles := id rfl
@[simp] theorem State.modLegacy_dram : (s.modLegacy f).dram = s.dram := id rfl
@[simp] theorem State.modLegacy_clearAxFall : (s.modLegacy f).clearAxFall = s.clearAxFall := id rfl
@[simp] theorem State.modLegacy_clearAxRise : (s.modLegacy f).clearAxRise = s.clearAxRise := id rfl
@[simp] theorem State.modLegacy_clearLmFall : (s.modLegacy f).clearLmFall = s.clearLmFall := id rfl
@[simp] theorem State.modLegacy_lastMonitor : (s.modLegacy f).lastMonitor = s.lastMonitor := id rfl
@[simp] theorem State.modLegacy_monPending : (s.modLegacy f).monPending = s.monPending := id rfl
@[simp] theorem State.modLegacy_busLow : (s.modLegacy f).busLow = s.busLow := id rfl
@[simp] theorem State.modLegacy_lastSample : (s.modLegacy f).lastSample = s.lastSample := id rfl
@[simp] theorem State.modLegacy_log : (s.modLegacy f).log = s.log := id rfl
@[simp] theorem State.modLegacy_lock : (s.modLegacy f).lock = s.lock := id rfl
@[simp] theorem State.modLegacy_test : (s.modLegacy f).test = s.test := id rfl
@[simp] theorem State.modLegacy_capture : (s.modLegacy f).capture = s.capture := id rfl
@[simp] theorem State.modLegacy_time : (s.modLegacy f).time = s.time := id rfl
@[simp] theorem State.modLegacy_net : (s.modLegacy f).net = s.net := id rfl
@[simp] theorem State.modLegacy_flash : (s.modLegacy f).flash = s.flash := id rfl
@[simp] theorem State.modLegacy_store : (s.modLegacy f).store = s.store := id rfl
@[simp] theorem State.modLegacy_freeCount : (s.modLegacy f).freeCount = s.freeCount := id rfl
@[simp] theorem State.modLegacy_pending : (s.modLegacy f).pending = s.pending := id rfl
@[simp] theorem State.rd_modLegacy (r : Nat) : (s.modLegacy f).rd r = s.rd r := id rfl
@[simp] theorem State.modeCode_modLegacy : (s.modLegacy f).modeCode = s.modeCode := id rfl
end

section
variable (s : State) (f : Net → Net)
@[simp] theorem State.modNet_regs : (s.modNet f).regs = s.regs := id rfl
@[simp] theorem State.modNet_lt : (s.modNet f).lt = s.lt := id rfl
@[simp] theorem State.modNet_mode : (s.modNet f).mode = s.mode := id rfl
@[simp] theorem State.modNet_pounds : (s.modNet f).pounds = s.pounds := id rfl
@[simp] theorem State.modNet_axes : (s.modNet f).axes = s.axes := id rfl
@[simp] theorem State.modNet_tiles : (s.modNet f).tiles = s.tiles := id rfl
@[simp] theorem State.modNet_engines : (s.modNet f).engines = s.engines := id rfl
@[simp] theorem State.modNet_lasers : (s.modNet f).lasers = s.lasers := id rfl
@[simp] theorem State.modNet_layer : (s.modNet f).layer = s.layer := id rfl
@[simp] theorem State.modNet_vision : (s.modNet f).vision = s.vision := id rfl
@[simp] theorem State.modNet_memPort : (s.modNet f).memPort = s.memPort := id rfl
@[simp] theorem State.modNet_hostEntries : (s.modNet f).hostEntries = s.hostEntries := id rfl
@[simp] theorem State.modNet_profiles : (s.modNet f).profiles = s.profiles := id rfl
@[simp] theorem State.modNet_dram : (s.modNet f).dram = s.dram := id rfl
@[simp] theorem State.modNet_clearAxFall : (s.modNet f).clearAxFall = s.clearAxFall := id rfl
@[simp] theorem State.modNet_clearAxRise : (s.modNet f).clearAxRise = s.clearAxRise := id rfl
@[simp] theorem State.modNet_clearLmFall : (s.modNet f).clearLmFall = s.clearLmFall := id rfl
@[simp] theorem State.modNet_lastMonitor : (s.modNet f).lastMonitor = s.lastMonitor := id rfl
@[simp] theorem State.modNet_monPending : (s.modNet f).monPending = s.monPending := id rfl
@[simp] theorem State.modNet_busLow : (s.modNet f).busLow = s.busLow := id rfl
@[simp] theorem State.modNet_lastSample : (s.modNet f).lastSample = s.lastSample := id rfl
@[simp] theorem State.modNet_log : (s.modNet f).log = s.log := id rfl
@[simp] theorem State.modNet_lock : (s.modNet f).lock = s.lock := id rfl
@[simp] theorem State.modNet_test : (s.modNet f).test = s.test := id rfl
@[simp] theorem State.modNet_capture : (s.modNet f).capture = s.capture := id rfl
@[simp] theorem State.modNet_legacy : (s.modNet f).legacy = s.legacy := id rfl
@[simp] theorem State.modNet_time : (s.modNet f).time = s.time := id rfl
@[simp] theorem State.modNet_flash : (s.modNet f).flash = s.flash := id rfl
@[simp] theorem State.modNet_store : (s.modNet f).store = s.store := id rfl
@[simp] theorem State.modNet_freeCount : (s.modNet f).freeCount = s.freeCount := id rfl
@[simp] theorem State.modNet_pending : (s.modNet f).pending = s.pending := id rfl
@[simp] theorem State.rd_modNet (r : Nat) : (s.modNet f).rd r = s.rd r := id rfl
@[simp] theorem State.modeCode_modNet : (s.modNet f).modeCode = s.modeCode := id rfl
end

section
variable (s : State) (f : TimeSt → TimeSt)
@[simp] theorem State.modTime_regs : (s.modTime f).regs = s.regs := id rfl
@[simp] theorem State.modTime_lt : (s.modTime f).lt = s.lt := id rfl
@[simp] theorem State.modTime_mode : (s.modTime f).mode = s.mode := id rfl
@[simp] theorem State.modTime_pounds : (s.modTime f).pounds = s.pounds := id rfl
@[simp] theorem State.modTime_axes : (s.modTime f).axes = s.axes := id rfl
@[simp] theorem State.modTime_tiles : (s.modTime f).tiles = s.tiles := id rfl
@[simp] theorem State.modTime_engines : (s.modTime f).engines = s.engines := id rfl
@[simp] theorem State.modTime_lasers : (s.modTime f).lasers = s.lasers := id rfl
@[simp] theorem State.modTime_layer : (s.modTime f).layer = s.layer := id rfl
@[simp] theorem State.modTime_vision : (s.modTime f).vision = s.vision := id rfl
@[simp] theorem State.modTime_memPort : (s.modTime f).memPort = s.memPort := id rfl
@[simp] theorem State.modTime_hostEntries : (s.modTime f).hostEntries = s.hostEntries := id rfl
@[simp] theorem State.modTime_profiles : (s.modTime f).profiles = s.profiles := id rfl
@[simp] theorem State.modTime_dram : (s.modTime f).dram = s.dram := id rfl
@[simp] theorem State.modTime_clearAxFall : (s.modTime f).clearAxFall = s.clearAxFall := id rfl
@[simp] theorem State.modTime_clearAxRise : (s.modTime f).clearAxRise = s.clearAxRise := id rfl
@[simp] theorem State.modTime_clearLmFall : (s.modTime f).clearLmFall = s.clearLmFall := id rfl
@[simp] theorem State.modTime_lastMonitor : (s.modTime f).lastMonitor = s.lastMonitor := id rfl
@[simp] theorem State.modTime_monPending : (s.modTime f).monPending = s.monPending := id rfl
@[simp] theorem State.modTime_busLow : (s.modTime f).busLow = s.busLow := id rfl
@[simp] theorem State.modTime_lastSample : (s.modTime f).lastSample = s.lastSample := id rfl
@[simp] theorem State.modTime_log : (s.modTime f).log = s.log := id rfl
@[simp] theorem State.modTime_lock : (s.modTime f).lock = s.lock := id rfl
@[simp] theorem State.modTime_test : (s.modTime f).test = s.test := id rfl
@[simp] theorem State.modTime_capture : (s.modTime f).capture = s.capture := id rfl
@[simp] theorem State.modTime_legacy : (s.modTime f).legacy = s.legacy := id rfl
@[simp] theorem State.modTime_net : (s.modTime f).net = s.net := id rfl
@[simp] theorem State.modTime_flash : (s.modTime f).flash = s.flash := id rfl
@[simp] theorem State.modTime_store : (s.modTime f).store = s.store := id rfl
@[simp] theorem State.modTime_freeCount : (s.modTime f).freeCount = s.freeCount := id rfl
@[simp] theorem State.modTime_pending : (s.modTime f).pending = s.pending := id rfl
@[simp] theorem State.rd_modTime (r : Nat) : (s.modTime f).rd r = s.rd r := id rfl
@[simp] theorem State.modeCode_modTime : (s.modTime f).modeCode = s.modeCode := id rfl
end

section
variable (s : State) (c : Nat) (f : Cam → Cam)
@[simp] theorem State.modCam_regs : (s.modCam c f).regs = s.regs := id rfl
@[simp] theorem State.modCam_lt : (s.modCam c f).lt = s.lt := id rfl
@[simp] theorem State.modCam_mode : (s.modCam c f).mode = s.mode := id rfl
@[simp] theorem State.modCam_pounds : (s.modCam c f).pounds = s.pounds := id rfl
@[simp] theorem State.modCam_axes : (s.modCam c f).axes = s.axes := id rfl
@[simp] theorem State.modCam_tiles : (s.modCam c f).tiles = s.tiles := id rfl
@[simp] theorem State.modCam_engines : (s.modCam c f).engines = s.engines := id rfl
@[simp] theorem State.modCam_lasers : (s.modCam c f).lasers = s.lasers := id rfl
@[simp] theorem State.modCam_layer : (s.modCam c f).layer = s.layer := id rfl
@[simp] theorem State.modCam_memPort : (s.modCam c f).memPort = s.memPort := id rfl
@[simp] theorem State.modCam_hostEntries : (s.modCam c f).hostEntries = s.hostEntries := id rfl
@[simp] theorem State.modCam_profiles : (s.modCam c f).profiles = s.profiles := id rfl
@[simp] theorem State.modCam_dram : (s.modCam c f).dram = s.dram := id rfl
@[simp] theorem State.modCam_clearAxFall : (s.modCam c f).clearAxFall = s.clearAxFall := id rfl
@[simp] theorem State.modCam_clearAxRise : (s.modCam c f).clearAxRise = s.clearAxRise := id rfl
@[simp] theorem State.modCam_clearLmFall : (s.modCam c f).clearLmFall = s.clearLmFall := id rfl
@[simp] theorem State.modCam_lastMonitor : (s.modCam c f).lastMonitor = s.lastMonitor := id rfl
@[simp] theorem State.modCam_monPending : (s.modCam c f).monPending = s.monPending := id rfl
@[simp] theorem State.modCam_busLow : (s.modCam c f).busLow = s.busLow := id rfl
@[simp] theorem State.modCam_lastSample : (s.modCam c f).lastSample = s.lastSample := id rfl
@[simp] theorem State.modCam_log : (s.modCam c f).log = s.log := id rfl
@[simp] theorem State.modCam_lock : (s.modCam c f).lock = s.lock := id rfl
@[simp] theorem State.modCam_test : (s.modCam c f).test = s.test := id rfl
@[simp] theorem State.modCam_capture : (s.modCam c f).capture = s.capture := id rfl
@[simp] theorem State.modCam_legacy : (s.modCam c f).legacy = s.legacy := id rfl
@[simp] theorem State.modCam_time : (s.modCam c f).time = s.time := id rfl
@[simp] theorem State.modCam_net : (s.modCam c f).net = s.net := id rfl
@[simp] theorem State.modCam_flash : (s.modCam c f).flash = s.flash := id rfl
@[simp] theorem State.modCam_store : (s.modCam c f).store = s.store := id rfl
@[simp] theorem State.modCam_freeCount : (s.modCam c f).freeCount = s.freeCount := id rfl
@[simp] theorem State.modCam_pending : (s.modCam c f).pending = s.pending := id rfl
@[simp] theorem State.rd_modCam (r : Nat) : (s.modCam c f).rd r = s.rd r := id rfl
@[simp] theorem State.modeCode_modCam : (s.modCam c f).modeCode = s.modeCode := id rfl
end

section
variable (s : State) (f : MemPort → MemPort)
@[simp] theorem State.modMem_regs : (s.modMem f).regs = s.regs := id rfl
@[simp] theorem State.modMem_lt : (s.modMem f).lt = s.lt := id rfl
@[simp] theorem State.modMem_mode : (s.modMem f).mode = s.mode := id rfl
@[simp] theorem State.modMem_pounds : (s.modMem f).pounds = s.pounds := id rfl
@[simp] theorem State.modMem_axes : (s.modMem f).axes = s.axes := id rfl
@[simp] theorem State.modMem_tiles : (s.modMem f).tiles = s.tiles := id rfl
@[simp] theorem State.modMem_engines : (s.modMem f).engines = s.engines := id rfl
@[simp] theorem State.modMem_lasers : (s.modMem f).lasers = s.lasers := id rfl
@[simp] theorem State.modMem_layer : (s.modMem f).layer = s.layer := id rfl
@[simp] theorem State.modMem_vision : (s.modMem f).vision = s.vision := id rfl
@[simp] theorem State.modMem_hostEntries : (s.modMem f).hostEntries = s.hostEntries := id rfl
@[simp] theorem State.modMem_profiles : (s.modMem f).profiles = s.profiles := id rfl
@[simp] theorem State.modMem_dram : (s.modMem f).dram = s.dram := id rfl
@[simp] theorem State.modMem_clearAxFall : (s.modMem f).clearAxFall = s.clearAxFall := id rfl
@[simp] theorem State.modMem_clearAxRise : (s.modMem f).clearAxRise = s.clearAxRise := id rfl
@[simp] theorem State.modMem_clearLmFall : (s.modMem f).clearLmFall = s.clearLmFall := id rfl
@[simp] theorem State.modMem_lastMonitor : (s.modMem f).lastMonitor = s.lastMonitor := id rfl
@[simp] theorem State.modMem_monPending : (s.modMem f).monPending = s.monPending := id rfl
@[simp] theorem State.modMem_busLow : (s.modMem f).busLow = s.busLow := id rfl
@[simp] theorem State.modMem_lastSample : (s.modMem f).lastSample = s.lastSample := id rfl
@[simp] theorem State.modMem_log : (s.modMem f).log = s.log := id rfl
@[simp] theorem State.modMem_lock : (s.modMem f).lock = s.lock := id rfl
@[simp] theorem State.modMem_test : (s.modMem f).test = s.test := id rfl
@[simp] theorem State.modMem_capture : (s.modMem f).capture = s.capture := id rfl
@[simp] theorem State.modMem_legacy : (s.modMem f).legacy = s.legacy := id rfl
@[simp] theorem State.modMem_time : (s.modMem f).time = s.time := id rfl
@[simp] theorem State.modMem_net : (s.modMem f).net = s.net := id rfl
@[simp] theorem State.modMem_flash : (s.modMem f).flash = s.flash := id rfl
@[simp] theorem State.modMem_store : (s.modMem f).store = s.store := id rfl
@[simp] theorem State.modMem_freeCount : (s.modMem f).freeCount = s.freeCount := id rfl
@[simp] theorem State.modMem_pending : (s.modMem f).pending = s.pending := id rfl
@[simp] theorem State.rd_modMem (r : Nat) : (s.modMem f).rd r = s.rd r := id rfl
@[simp] theorem State.modeCode_modMem : (s.modMem f).modeCode = s.modeCode := id rfl
end

section
variable (s : State) (w k : Nat) (v : Int)
@[simp] theorem State.wrS_lt : (s.wrS w k v).lt = s.lt := id rfl
@[simp] theorem State.wrS_mode : (s.wrS w k v).mode = s.mode := id rfl
@[simp] theorem State.wrS_lock : (s.wrS w k v).lock = s.lock := id rfl
@[simp] theorem State.wrS_log : (s.wrS w k v).log = s.log := id rfl
@[simp] theorem State.wrS_monPending : (s.wrS w k v).monPending = s.monPending := id rfl
@[simp] theorem State.wrS_pending : (s.wrS w k v).pending = s.pending := id rfl
end

section
variable (s : State) (k lo w v : Nat)
@[simp] theorem State.wrField_lt : (s.wrField k lo w v).lt = s.lt := id rfl
@[simp] theorem State.wrField_mode : (s.wrField k lo w v).mode = s.mode := id rfl
@[simp] theorem State.wrField_lock : (s.wrField k lo w v).lock = s.lock := id rfl
@[simp] theorem State.wrField_log : (s.wrField k lo w v).log = s.log := id rfl
@[simp] theorem State.wrField_monPending : (s.wrField k lo w v).monPending = s.monPending := id rfl
@[simp] theorem State.wrField_pending : (s.wrField k lo w v).pending = s.pending := id rfl
end

section
variable (s : State) (w k : Nat)
@[simp] theorem State.bump_lt : (s.bump w k).lt = s.lt := id rfl
@[simp] theorem State.bump_mode : (s.bump w k).mode = s.mode := id rfl
@[simp] theorem State.bump_lock : (s.bump w k).lock = s.lock := id rfl
@[simp] theorem State.bump_log : (s.bump w k).log = s.log := id rfl
@[simp] theorem State.bump_monPending : (s.bump w k).monPending = s.monPending := id rfl
@[simp] theorem State.bump_pending : (s.bump w k).pending = s.pending := id rfl
end

section
variable (s : State) (w k : Nat)
@[simp] theorem State.bumpWrap_lt : (s.bumpWrap w k).lt = s.lt := id rfl
@[simp] theorem State.bumpWrap_mode : (s.bumpWrap w k).mode = s.mode := id rfl
@[simp] theorem State.bumpWrap_lock : (s.bumpWrap w k).lock = s.lock := id rfl
@[simp] theorem State.bumpWrap_log : (s.bumpWrap w k).log = s.log := id rfl
@[simp] theorem State.bumpWrap_monPending : (s.bumpWrap w k).monPending = s.monPending := id rfl
@[simp] theorem State.bumpWrap_pending : (s.bumpWrap w k).pending = s.pending := id rfl
end

section
variable (s : State) (a : Nat) (f : Axis → Axis)
@[simp] theorem State.modAxis_regs : (s.modAxis a f).regs = s.regs := id rfl
@[simp] theorem State.modAxis_lt : (s.modAxis a f).lt = s.lt := id rfl
@[simp] theorem State.modAxis_mode : (s.modAxis a f).mode = s.mode := id rfl
@[simp] theorem State.modAxis_lock : (s.modAxis a f).lock = s.lock := id rfl
@[simp] theorem State.modAxis_log : (s.modAxis a f).log = s.log := id rfl
@[simp] theorem State.modAxis_monPending : (s.modAxis a f).monPending = s.monPending := id rfl
@[simp] theorem State.modAxis_pending : (s.modAxis a f).pending = s.pending := id rfl
@[simp] theorem State.rd_modAxis (r : Nat) : (s.modAxis a f).rd r = s.rd r := id rfl
@[simp] theorem State.modeCode_modAxis : (s.modAxis a f).modeCode = s.modeCode := id rfl
end

section
variable (s : State) (a : Nat) (f : Obs → Obs)
@[simp] theorem State.modObs_regs : (s.modObs a f).regs = s.regs := id rfl
@[simp] theorem State.modObs_lt : (s.modObs a f).lt = s.lt := id rfl
@[simp] theorem State.modObs_mode : (s.modObs a f).mode = s.mode := id rfl
@[simp] theorem State.modObs_lock : (s.modObs a f).lock = s.lock := id rfl
@[simp] theorem State.modObs_log : (s.modObs a f).log = s.log := id rfl
@[simp] theorem State.modObs_monPending : (s.modObs a f).monPending = s.monPending := id rfl
@[simp] theorem State.modObs_pending : (s.modObs a f).pending = s.pending := id rfl
@[simp] theorem State.rd_modObs (r : Nat) : (s.modObs a f).rd r = s.rd r := id rfl
@[simp] theorem State.modeCode_modObs : (s.modObs a f).modeCode = s.modeCode := id rfl
end

section
variable (s : State) (a : Nat) (f : Law → Law)
@[simp] theorem State.modLaw_regs : (s.modLaw a f).regs = s.regs := id rfl
@[simp] theorem State.modLaw_lt : (s.modLaw a f).lt = s.lt := id rfl
@[simp] theorem State.modLaw_mode : (s.modLaw a f).mode = s.mode := id rfl
@[simp] theorem State.modLaw_lock : (s.modLaw a f).lock = s.lock := id rfl
@[simp] theorem State.modLaw_log : (s.modLaw a f).log = s.log := id rfl
@[simp] theorem State.modLaw_monPending : (s.modLaw a f).monPending = s.monPending := id rfl
@[simp] theorem State.modLaw_pending : (s.modLaw a f).pending = s.pending := id rfl
@[simp] theorem State.rd_modLaw (r : Nat) : (s.modLaw a f).rd r = s.rd r := id rfl
@[simp] theorem State.modeCode_modLaw : (s.modLaw a f).modeCode = s.modeCode := id rfl
end

section
variable (s : State) (a : Nat) (f : Axo → Axo)
@[simp] theorem State.modAxo_regs : (s.modAxo a f).regs = s.regs := id rfl
@[simp] theorem State.modAxo_lt : (s.modAxo a f).lt = s.lt := id rfl
@[simp] theorem State.modAxo_mode : (s.modAxo a f).mode = s.mode := id rfl
@[simp] theorem State.modAxo_lock : (s.modAxo a f).lock = s.lock := id rfl
@[simp] theorem State.modAxo_log : (s.modAxo a f).log = s.log := id rfl
@[simp] theorem State.modAxo_monPending : (s.modAxo a f).monPending = s.monPending := id rfl
@[simp] theorem State.modAxo_pending : (s.modAxo a f).pending = s.pending := id rfl
@[simp] theorem State.rd_modAxo (r : Nat) : (s.modAxo a f).rd r = s.rd r := id rfl
@[simp] theorem State.modeCode_modAxo : (s.modAxo a f).modeCode = s.modeCode := id rfl
end

section
variable (s : State) (t : Nat) (f : Tile → Tile)
@[simp] theorem State.modTile_regs : (s.modTile t f).regs = s.regs := id rfl
@[simp] theorem State.modTile_lt : (s.modTile t f).lt = s.lt := id rfl
@[simp] theorem State.modTile_mode : (s.modTile t f).mode = s.mode := id rfl
@[simp] theorem State.modTile_lock : (s.modTile t f).lock = s.lock := id rfl
@[simp] theorem State.modTile_log : (s.modTile t f).log = s.log := id rfl
@[simp] theorem State.modTile_monPending : (s.modTile t f).monPending = s.monPending := id rfl
@[simp] theorem State.modTile_pending : (s.modTile t f).pending = s.pending := id rfl
@[simp] theorem State.rd_modTile (r : Nat) : (s.modTile t f).rd r = s.rd r := id rfl
@[simp] theorem State.modeCode_modTile : (s.modTile t f).modeCode = s.modeCode := id rfl
end

section
variable (s : State) (t j : Nat) (f : Driver → Driver)
@[simp] theorem State.modDriver_regs : (s.modDriver t j f).regs = s.regs := id rfl
@[simp] theorem State.modDriver_lt : (s.modDriver t j f).lt = s.lt := id rfl
@[simp] theorem State.modDriver_mode : (s.modDriver t j f).mode = s.mode := id rfl
@[simp] theorem State.modDriver_lock : (s.modDriver t j f).lock = s.lock := id rfl
@[simp] theorem State.modDriver_log : (s.modDriver t j f).log = s.log := id rfl
@[simp] theorem State.modDriver_monPending : (s.modDriver t j f).monPending = s.monPending := id rfl
@[simp] theorem State.modDriver_pending : (s.modDriver t j f).pending = s.pending := id rfl
@[simp] theorem State.rd_modDriver (r : Nat) : (s.modDriver t j f).rd r = s.rd r := id rfl
@[simp] theorem State.modeCode_modDriver : (s.modDriver t j f).modeCode = s.modeCode := id rfl
end

section
variable (s : State) (t i : Nat) (f : Chan → Chan)
@[simp] theorem State.modChan_regs : (s.modChan t i f).regs = s.regs := id rfl
@[simp] theorem State.modChan_lt : (s.modChan t i f).lt = s.lt := id rfl
@[simp] theorem State.modChan_mode : (s.modChan t i f).mode = s.mode := id rfl
@[simp] theorem State.modChan_lock : (s.modChan t i f).lock = s.lock := id rfl
@[simp] theorem State.modChan_log : (s.modChan t i f).log = s.log := id rfl
@[simp] theorem State.modChan_monPending : (s.modChan t i f).monPending = s.monPending := id rfl
@[simp] theorem State.modChan_pending : (s.modChan t i f).pending = s.pending := id rfl
@[simp] theorem State.rd_modChan (r : Nat) : (s.modChan t i f).rd r = s.rd r := id rfl
@[simp] theorem State.modeCode_modChan : (s.modChan t i f).modeCode = s.modeCode := id rfl
end

section
variable (s : State) (t m : Nat) (f : Amp → Amp)
@[simp] theorem State.modAmp_regs : (s.modAmp t m f).regs = s.regs := id rfl
@[simp] theorem State.modAmp_lt : (s.modAmp t m f).lt = s.lt := id rfl
@[simp] theorem State.modAmp_mode : (s.modAmp t m f).mode = s.mode := id rfl
@[simp] theorem State.modAmp_lock : (s.modAmp t m f).lock = s.lock := id rfl
@[simp] theorem State.modAmp_log : (s.modAmp t m f).log = s.log := id rfl
@[simp] theorem State.modAmp_monPending : (s.modAmp t m f).monPending = s.monPending := id rfl
@[simp] theorem State.modAmp_pending : (s.modAmp t m f).pending = s.pending := id rfl
@[simp] theorem State.rd_modAmp (r : Nat) : (s.modAmp t m f).rd r = s.rd r := id rfl
@[simp] theorem State.modeCode_modAmp : (s.modAmp t m f).modeCode = s.modeCode := id rfl
end

section
variable (s : State) (l : Nat) (f : Stream → Stream)
@[simp] theorem State.modStream_regs : (s.modStream l f).regs = s.regs := id rfl
@[simp] theorem State.modStream_lt : (s.modStream l f).lt = s.lt := id rfl
@[simp] theorem State.modStream_mode : (s.modStream l f).mode = s.mode := id rfl
@[simp] theorem State.modStream_lock : (s.modStream l f).lock = s.lock := id rfl
@[simp] theorem State.modStream_log : (s.modStream l f).log = s.log := id rfl
@[simp] theorem State.modStream_monPending : (s.modStream l f).monPending = s.monPending := id rfl
@[simp] theorem State.modStream_pending : (s.modStream l f).pending = s.pending := id rfl
@[simp] theorem State.rd_modStream (r : Nat) : (s.modStream l f).rd r = s.rd r := id rfl
@[simp] theorem State.modeCode_modStream : (s.modStream l f).modeCode = s.modeCode := id rfl
end

section
variable (s : State) (k : Nat) (f : Enc → Enc)
@[simp] theorem State.modEnc_regs : (s.modEnc k f).regs = s.regs := id rfl
@[simp] theorem State.modEnc_lt : (s.modEnc k f).lt = s.lt := id rfl
@[simp] theorem State.modEnc_mode : (s.modEnc k f).mode = s.mode := id rfl
@[simp] theorem State.modEnc_lock : (s.modEnc k f).lock = s.lock := id rfl
@[simp] theorem State.modEnc_log : (s.modEnc k f).log = s.log := id rfl
@[simp] theorem State.modEnc_monPending : (s.modEnc k f).monPending = s.monPending := id rfl
@[simp] theorem State.modEnc_pending : (s.modEnc k f).pending = s.pending := id rfl
@[simp] theorem State.rd_modEnc (r : Nat) : (s.modEnc k f).rd r = s.rd r := id rfl
@[simp] theorem State.modeCode_modEnc : (s.modEnc k f).modeCode = s.modeCode := id rfl
end

section
variable (s : State) (i : Nat) (f : Ssi → Ssi)
@[simp] theorem State.modSsi_regs : (s.modSsi i f).regs = s.regs := id rfl
@[simp] theorem State.modSsi_lt : (s.modSsi i f).lt = s.lt := id rfl
@[simp] theorem State.modSsi_mode : (s.modSsi i f).mode = s.mode := id rfl
@[simp] theorem State.modSsi_lock : (s.modSsi i f).lock = s.lock := id rfl
@[simp] theorem State.modSsi_log : (s.modSsi i f).log = s.log := id rfl
@[simp] theorem State.modSsi_monPending : (s.modSsi i f).monPending = s.monPending := id rfl
@[simp] theorem State.modSsi_pending : (s.modSsi i f).pending = s.pending := id rfl
@[simp] theorem State.rd_modSsi (r : Nat) : (s.modSsi i f).rd r = s.rd r := id rfl
@[simp] theorem State.modeCode_modSsi : (s.modSsi i f).modeCode = s.modeCode := id rfl
end

section
variable (s : State) (k : Nat) (f : Pulse → Pulse)
@[simp] theorem State.modPulse_regs : (s.modPulse k f).regs = s.regs := id rfl
@[simp] theorem State.modPulse_lt : (s.modPulse k f).lt = s.lt := id rfl
@[simp] theorem State.modPulse_mode : (s.modPulse k f).mode = s.mode := id rfl
@[simp] theorem State.modPulse_lock : (s.modPulse k f).lock = s.lock := id rfl
@[simp] theorem State.modPulse_log : (s.modPulse k f).log = s.log := id rfl
@[simp] theorem State.modPulse_monPending : (s.modPulse k f).monPending = s.monPending := id rfl
@[simp] theorem State.modPulse_pending : (s.modPulse k f).pending = s.pending := id rfl
@[simp] theorem State.rd_modPulse (r : Nat) : (s.modPulse k f).rd r = s.rd r := id rfl
@[simp] theorem State.modeCode_modPulse : (s.modPulse k f).modeCode = s.modeCode := id rfl
end

section
variable (s : State) (p : Nat) (f : Egress → Egress)
@[simp] theorem State.modEgress_regs : (s.modEgress p f).regs = s.regs := id rfl
@[simp] theorem State.modEgress_lt : (s.modEgress p f).lt = s.lt := id rfl
@[simp] theorem State.modEgress_mode : (s.modEgress p f).mode = s.mode := id rfl
@[simp] theorem State.modEgress_lock : (s.modEgress p f).lock = s.lock := id rfl
@[simp] theorem State.modEgress_log : (s.modEgress p f).log = s.log := id rfl
@[simp] theorem State.modEgress_monPending : (s.modEgress p f).monPending = s.monPending := id rfl
@[simp] theorem State.modEgress_pending : (s.modEgress p f).pending = s.pending := id rfl
@[simp] theorem State.rd_modEgress (r : Nat) : (s.modEgress p f).rd r = s.rd r := id rfl
@[simp] theorem State.modeCode_modEgress : (s.modEgress p f).modeCode = s.modeCode := id rfl
end

section
variable (s : State) (n : Nat) (f : Master → Master)
@[simp] theorem State.modMaster_regs : (s.modMaster n f).regs = s.regs := id rfl
@[simp] theorem State.modMaster_lt : (s.modMaster n f).lt = s.lt := id rfl
@[simp] theorem State.modMaster_mode : (s.modMaster n f).mode = s.mode := id rfl
@[simp] theorem State.modMaster_lock : (s.modMaster n f).lock = s.lock := id rfl
@[simp] theorem State.modMaster_log : (s.modMaster n f).log = s.log := id rfl
@[simp] theorem State.modMaster_monPending : (s.modMaster n f).monPending = s.monPending := id rfl
@[simp] theorem State.modMaster_pending : (s.modMaster n f).pending = s.pending := id rfl
@[simp] theorem State.rd_modMaster (r : Nat) : (s.modMaster n f).rd r = s.rd r := id rfl
@[simp] theorem State.modeCode_modMaster : (s.modMaster n f).modeCode = s.modeCode := id rfl
end

section
variable (s : State) (p : Nat) (f : PortTime → PortTime)
@[simp] theorem State.modPortTime_regs : (s.modPortTime p f).regs = s.regs := id rfl
@[simp] theorem State.modPortTime_lt : (s.modPortTime p f).lt = s.lt := id rfl
@[simp] theorem State.modPortTime_mode : (s.modPortTime p f).mode = s.mode := id rfl
@[simp] theorem State.modPortTime_lock : (s.modPortTime p f).lock = s.lock := id rfl
@[simp] theorem State.modPortTime_log : (s.modPortTime p f).log = s.log := id rfl
@[simp] theorem State.modPortTime_monPending : (s.modPortTime p f).monPending = s.monPending := id rfl
@[simp] theorem State.modPortTime_pending : (s.modPortTime p f).pending = s.pending := id rfl
@[simp] theorem State.rd_modPortTime (r : Nat) : (s.modPortTime p f).rd r = s.rd r := id rfl
@[simp] theorem State.modeCode_modPortTime : (s.modPortTime p f).modeCode = s.modeCode := id rfl
end

section
variable (s : State) (d : Nat) (f : Domain → Domain)
@[simp] theorem State.modDomain_regs : (s.modDomain d f).regs = s.regs := id rfl
@[simp] theorem State.modDomain_lt : (s.modDomain d f).lt = s.lt := id rfl
@[simp] theorem State.modDomain_mode : (s.modDomain d f).mode = s.mode := id rfl
@[simp] theorem State.modDomain_lock : (s.modDomain d f).lock = s.lock := id rfl
@[simp] theorem State.modDomain_log : (s.modDomain d f).log = s.log := id rfl
@[simp] theorem State.modDomain_monPending : (s.modDomain d f).monPending = s.monPending := id rfl
@[simp] theorem State.modDomain_pending : (s.modDomain d f).pending = s.pending := id rfl
@[simp] theorem State.rd_modDomain (r : Nat) : (s.modDomain d f).rd r = s.rd r := id rfl
@[simp] theorem State.modeCode_modDomain : (s.modDomain d f).modeCode = s.modeCode := id rfl
end

section
variable (s : State) (a : Nat) (c : Int)
@[simp] theorem State.setCode_regs : (s.setCode a c).regs = s.regs := id rfl
@[simp] theorem State.setCode_lt : (s.setCode a c).lt = s.lt := id rfl
@[simp] theorem State.setCode_mode : (s.setCode a c).mode = s.mode := id rfl
@[simp] theorem State.setCode_lock : (s.setCode a c).lock = s.lock := id rfl
@[simp] theorem State.setCode_log : (s.setCode a c).log = s.log := id rfl
@[simp] theorem State.setCode_monPending : (s.setCode a c).monPending = s.monPending := id rfl
@[simp] theorem State.setCode_pending : (s.setCode a c).pending = s.pending := id rfl
@[simp] theorem State.rd_setCode (r : Nat) : (s.setCode a c).rd r = s.rd r := id rfl
@[simp] theorem State.modeCode_setCode : (s.setCode a c).modeCode = s.modeCode := id rfl
end

section
variable (s : State) (code : Nat) (data : List Nat)
@[simp] theorem State.answer_regs : (s.answer code data).regs = s.regs := id rfl
@[simp] theorem State.answer_lt : (s.answer code data).lt = s.lt := id rfl
@[simp] theorem State.answer_mode : (s.answer code data).mode = s.mode := id rfl
@[simp] theorem State.answer_lock : (s.answer code data).lock = s.lock := id rfl
@[simp] theorem State.answer_log : (s.answer code data).log = s.log := id rfl
@[simp] theorem State.answer_monPending : (s.answer code data).monPending = s.monPending := id rfl
@[simp] theorem State.answer_pending : (s.answer code data).pending = s.pending := id rfl
@[simp] theorem State.rd_answer (r : Nat) : (s.answer code data).rd r = s.rd r := id rfl
@[simp] theorem State.modeCode_answer : (s.answer code data).modeCode = s.modeCode := id rfl
end

section
variable (s : State) (l : Nat)
@[simp] theorem State.darken_regs : (s.darken l).regs = s.regs := id rfl
@[simp] theorem State.darken_lt : (s.darken l).lt = s.lt := id rfl
@[simp] theorem State.darken_mode : (s.darken l).mode = s.mode := id rfl
@[simp] theorem State.darken_lock : (s.darken l).lock = s.lock := id rfl
@[simp] theorem State.darken_log : (s.darken l).log = s.log := id rfl
@[simp] theorem State.darken_monPending : (s.darken l).monPending = s.monPending := id rfl
@[simp] theorem State.darken_pending : (s.darken l).pending = s.pending := id rfl
@[simp] theorem State.rd_darken (r : Nat) : (s.darken l).rd r = s.rd r := id rfl
@[simp] theorem State.modeCode_darken : (s.darken l).modeCode = s.modeCode := id rfl
end

end Sys2Proof.Machine
end

