-- ==== Sys2Proof/Laws/Store.lean ====
section
/-! SUPPORT. Laws of the register file: a read after a write, and the canonical form that every write keeps. -/

set_option Elab.async false

namespace Sys2Proof.Machine

theorem Store.find_erase_self (m : Store) (k : Nat) : (m.erase k).find k = none := by
  induction m with
  | nil => rfl
  | cons e m ih =>
    obtain ⟨k', v⟩ := e
    by_cases h : k' = k <;> simp [Store.erase, Store.find, h, ih]

theorem Store.find_erase_ne (m : Store) {k j : Nat} (h : j ≠ k) : (m.erase k).find j = m.find j := by
  induction m with
  | nil => rfl
  | cons e m ih =>
    obtain ⟨k', v⟩ := e
    by_cases hk : k' = k
    · subst hk; simp [Store.erase, Store.find, ih, h.symm]
    · simp [Store.erase, Store.find, hk, ih]

theorem Store.find_insert_self {m : Store} {k : Nat} (v : Nat) (h : m.find k = none) : (m.insert k v).find k = some v := by
  induction m with
  | nil => simp [Store.insert, Store.find]
  | cons e m ih =>
    obtain ⟨k', v'⟩ := e
    have hk : k' ≠ k := by rintro rfl; simp [Store.find] at h
    have hm : Store.find m k = none := by simpa [Store.find, hk] using h
    unfold Store.insert
    split <;> simp [Store.find, hk, ih hm]

theorem Store.find_insert_ne (m : Store) {k j : Nat} (v : Nat) (h : j ≠ k) : (m.insert k v).find j = m.find j := by
  induction m with
  | nil => simp [Store.insert, Store.find, h.symm]
  | cons e m ih =>
    obtain ⟨k', v'⟩ := e
    unfold Store.insert
    split <;> simp [Store.find, h.symm, ih]

/-- A sub-entry reads the value written to it. -/
@[simp] theorem Store.get_set_self (m : Store) (k v : Nat) : (m.set k v).get k = v := by
  unfold Store.set Store.get
  split
  · next h => simp [Store.find_erase_self, h]
  · simp [Store.find_insert_self v (Store.find_erase_self m k)]

/-- A write leaves every other sub-entry alone. -/
theorem Store.get_set_ne (m : Store) {k j : Nat} (v : Nat) (h : j ≠ k) : (m.set k v).get j = m.get j := by
  unfold Store.set Store.get
  split
  · rw [Store.find_erase_ne m h]
  · rw [Store.find_insert_ne _ v h, Store.find_erase_ne m h]

/-- Every key of the file is above a bound. -/
def Store.above (b : Nat) : Store → Prop
  | [] => True
  | (k, _) :: _ => b < k

theorem Store.wf_cons {k v : Nat} {m : Store} :
    Store.wf ((k, v) :: m) = true ↔ v ≠ Dict.dflt k ∧ Store.above k m ∧ m.wf = true := by
  cases m with
  | nil => simp [Store.wf, Store.above]
  | cons e m =>
    obtain ⟨k', v'⟩ := e
    simp [Store.wf, Store.above, and_assoc]

theorem Store.above_erase {b k : Nat} {m : Store} (h : Store.above b m) (hm : m.wf = true) : Store.above b (m.erase k) := by
  induction m generalizing b with
  | nil => trivial
  | cons e m ih =>
    obtain ⟨k', v'⟩ := e
    obtain ⟨-, ha, hw⟩ := Store.wf_cons.1 hm
    have hb : b < k' := h
    unfold Store.erase
    split
    · refine ih ?_ hw
      cases m with
      | nil => trivial
      | cons e' m' => exact Nat.lt_trans hb ha
    · exact hb

theorem Store.wf_erase {m : Store} (k : Nat) (h : m.wf = true) : (m.erase k).wf = true := by
  induction m with
  | nil => rfl
  | cons e m ih =>
    obtain ⟨k', v'⟩ := e
    obtain ⟨hv, ha, hw⟩ := Store.wf_cons.1 h
    unfold Store.erase
    split
    · exact ih hw
    · exact Store.wf_cons.2 ⟨hv, Store.above_erase ha hw, ih hw⟩

theorem Store.wf_insert {m : Store} {k v : Nat} (h : m.wf = true) (hk : m.find k = none) (hv : v ≠ Dict.dflt k) :
    (m.insert k v).wf = true := by
  induction m with
  | nil => simp [Store.insert, Store.wf, hv]
  | cons e m ih =>
    obtain ⟨k', v'⟩ := e
    obtain ⟨hv', ha, hw⟩ := Store.wf_cons.1 h
    have hne : k' ≠ k := by rintro rfl; simp [Store.find] at hk
    have hf : Store.find m k = none := by simpa [Store.find, hne] using hk
    unfold Store.insert
    split
    · next hlt =>
      refine Store.wf_cons.2 ⟨hv', ?_, ih hw hf⟩
      cases m with
      | nil => exact hlt
      | cons e' m' =>
        obtain ⟨k'', v''⟩ := e'
        have : k' < k'' := ha
        unfold Store.insert
        split
        · exact this
        · exact hlt
    · next hge => exact Store.wf_cons.2 ⟨hv, by show k < k'; omega, h⟩

/-- A write keeps the canonical form. -/
theorem Store.wf_set {m : Store} (k v : Nat) (h : m.wf = true) : (m.set k v).wf = true := by
  unfold Store.set
  split
  · exact Store.wf_erase k h
  · next hv => exact Store.wf_insert (Store.wf_erase k h) (Store.find_erase_self m k) hv

end Sys2Proof.Machine
end

