-- ==== Sys2Proof/Laws/Ops.lean ====
section
/-! SUPPORT. What the shared operations do: reads of what was written, the raising of events, and what a command does from a
state in which nothing else waits. -/

set_option Elab.async false

namespace Sys2Proof.Machine

/-! ### Registers -/

@[simp] theorem State.rd_wr_self (s : State) (k v : Nat) : (s.wr k v).rd k = v := Store.get_set_self s.regs k v

theorem State.rd_wr_ne (s : State) {k j : Nat} (v : Nat) (h : j ≠ k) : (s.wr k v).rd j = s.rd j := Store.get_set_ne s.regs v h

theorem State.rd_wr (s : State) (k v j : Nat) : (s.wr k v).rd j = if j = k then v else s.rd j := by
  split
  · next h => subst h; simp
  · next h => exact s.rd_wr_ne v h

/-! ### Units -/

theorem State.axis_setAxis_self (s : State) {a : Nat} (x : Axis) (h : a < 48) : (s.setAxis a x).axis a = x := by
  simp [State.axis, State.setAxis, h]
theorem State.axis_setAxis_ne (s : State) {a b : Nat} (x : Axis) (h : b ≠ a) : (s.setAxis a x).axis b = s.axis b := by
  simp [State.axis, State.setAxis, h.symm]
theorem State.tile_setTile_self (s : State) {t : Nat} (x : Tile) (h : t < 8) : (s.setTile t x).tile t = x := by
  simp [State.tile, State.setTile, h]
theorem State.tile_setTile_ne (s : State) {t b : Nat} (x : Tile) (h : b ≠ t) : (s.setTile t x).tile b = s.tile b := by
  simp [State.tile, State.setTile, h.symm]
theorem State.axis_modAxis_self (s : State) {a : Nat} (f : Axis → Axis) (h : a < 48) : (s.modAxis a f).axis a = f (s.axis a) := by
  simp [State.axis, State.modAxis, State.setAxis, h]
theorem State.axis_modAxis_ne (s : State) {a b : Nat} (f : Axis → Axis) (h : b ≠ a) : (s.modAxis a f).axis b = s.axis b := by
  simp [State.axis, State.modAxis, State.setAxis, h.symm]
theorem State.tile_modTile_self (s : State) {t : Nat} (f : Tile → Tile) (h : t < 8) : (s.modTile t f).tile t = f (s.tile t) := by
  simp [State.tile, State.modTile, State.setTile, h]
theorem State.tile_modTile_ne (s : State) {t b : Nat} (f : Tile → Tile) (h : b ≠ t) : (s.modTile t f).tile b = s.tile b := by
  simp [State.tile, State.modTile, State.setTile, h.symm]
theorem State.engine_modEngine_self (s : State) {t : Nat} (f : Engine → Engine) (h : t < 8) : (s.modEngine t f).engine t = f (s.engine t) := by
  simp [State.engine, State.modEngine, h]
theorem State.engine_modEngine_ne (s : State) {t b : Nat} (f : Engine → Engine) (h : b ≠ t) : (s.modEngine t f).engine b = s.engine b := by
  simp [State.engine, State.modEngine, h.symm]
theorem State.pound_modPound_self (s : State) {p : Nat} (f : Pound → Pound) (h : p < 106) : (s.modPound p f).pound p = f (s.pound p) := by
  simp [State.pound, State.modPound, h]
theorem State.pound_modPound_ne (s : State) {p b : Nat} (f : Pound → Pound) (h : b ≠ p) : (s.modPound p f).pound b = s.pound b := by
  simp [State.pound, State.modPound, h.symm]
theorem State.laser_modLaser_self (s : State) {l : Nat} (f : Laser → Laser) (h : l < 16) : (s.modLaser l f).laser l = f (s.laser l) := by
  simp [State.laser, State.modLaser, h]
theorem State.laser_modLaser_ne (s : State) {l b : Nat} (f : Laser → Laser) (h : b ≠ l) : (s.modLaser l f).laser b = s.laser b := by
  simp [State.laser, State.modLaser, h.symm]
theorem State.tap_modTap_self (s : State) {i : Nat} (f : Tap → Tap) (h : i < 32) : (s.modTap i f).tap i = f (s.tap i) := by
  simp [State.tap, State.modTap, h]
theorem State.tap_modTap_ne (s : State) {i b : Nat} (f : Tap → Tap) (h : b ≠ i) : (s.modTap i f).tap b = s.tap b := by
  simp [State.tap, State.modTap, h.symm]
theorem State.cam_modCam_self (s : State) {c : Nat} (f : Cam → Cam) (h : c < 32) : (s.modCam c f).cam c = f (s.cam c) := by
  simp [State.cam, State.modCam, h]
theorem State.cam_modCam_ne (s : State) {c b : Nat} (f : Cam → Cam) (h : b ≠ c) : (s.modCam c f).cam b = s.cam b := by
  simp [State.cam, State.modCam, h.symm]
theorem State.enc_modEnc_self (s : State) {k : Nat} (f : Enc → Enc) (h : k < 8) : (s.modEnc k f).enc k = f (s.enc k) := by
  simp [State.enc, State.modEnc, State.modLegacy, h]
theorem State.enc_modEnc_ne (s : State) {k b : Nat} (f : Enc → Enc) (h : b ≠ k) : (s.modEnc k f).enc b = s.enc b := by
  simp [State.enc, State.modEnc, State.modLegacy, h.symm]
theorem State.ssi_modSsi_self (s : State) {i : Nat} (f : Ssi → Ssi) (h : i < 2) : (s.modSsi i f).ssi i = f (s.ssi i) := by
  simp [State.ssi, State.modSsi, State.modLegacy, h]
theorem State.ssi_modSsi_ne (s : State) {i b : Nat} (f : Ssi → Ssi) (h : b ≠ i) : (s.modSsi i f).ssi b = s.ssi b := by
  simp [State.ssi, State.modSsi, State.modLegacy, h.symm]
theorem State.pulse_modPulse_self (s : State) {k : Nat} (f : Pulse → Pulse) (h : k < 8) : (s.modPulse k f).pulse k = f (s.pulse k) := by
  simp [State.pulse, State.modPulse, State.modLegacy, h]
theorem State.pulse_modPulse_ne (s : State) {k b : Nat} (f : Pulse → Pulse) (h : b ≠ k) : (s.modPulse k f).pulse b = s.pulse b := by
  simp [State.pulse, State.modPulse, State.modLegacy, h.symm]
theorem State.egress_modEgress_self (s : State) {p : Nat} (f : Egress → Egress) (h : p < 2) : (s.modEgress p f).egress p = f (s.egress p) := by
  simp [State.egress, State.modEgress, State.modNet, h]
theorem State.egress_modEgress_ne (s : State) {p b : Nat} (f : Egress → Egress) (h : b ≠ p) : (s.modEgress p f).egress b = s.egress b := by
  simp [State.egress, State.modEgress, State.modNet, h.symm]
theorem State.master_modMaster_self (s : State) {n : Nat} (f : Master → Master) (h : n < 4) : (s.modMaster n f).master n = f (s.master n) := by
  simp [State.master, State.modMaster, State.modNet, h]
theorem State.master_modMaster_ne (s : State) {n b : Nat} (f : Master → Master) (h : b ≠ n) : (s.modMaster n f).master b = s.master b := by
  simp [State.master, State.modMaster, State.modNet, h.symm]
theorem State.portTime_modPortTime_self (s : State) {p : Nat} (f : PortTime → PortTime) (h : p < 2) : (s.modPortTime p f).portTime p = f (s.portTime p) := by
  simp [State.portTime, State.modPortTime, State.modTime, h]
theorem State.portTime_modPortTime_ne (s : State) {p b : Nat} (f : PortTime → PortTime) (h : b ≠ p) : (s.modPortTime p f).portTime b = s.portTime b := by
  simp [State.portTime, State.modPortTime, State.modTime, h.symm]
theorem State.domain_modDomain_self (s : State) {d : Nat} (f : Domain → Domain) (h : d < 2) : (s.modDomain d f).domain d = f (s.domain d) := by
  simp [State.domain, State.modDomain, State.modTime, h]
theorem State.domain_modDomain_ne (s : State) {d b : Nat} (f : Domain → Domain) (h : b ≠ d) : (s.modDomain d f).domain b = s.domain b := by
  simp [State.domain, State.modDomain, State.modTime, h.symm]

theorem State.driver_modDriver_self (s : State) {t j : Nat} (f : Driver → Driver) (ht : t < 8) (hj : j < 6) :
    (s.modDriver t j f).driver t j = f (s.driver t j) := by
  simp [State.driver, State.modDriver, State.tile_modTile_self _ _ ht, Tile.driver, hj]

/-! ### Events -/

/-- A record of level INFO or WARNING latches nothing. -/
theorem State.latch_low (s : State) {e : Event} (h : e.level < 2) : s.latch e = s := by
  simp [State.latch, show e.level ≠ 2 by omega, show e.level ≠ 3 by omega, show e.level ≠ 4 by omega, show ¬ 2 ≤ e.level by omega]

/-- What a delivery leaves: all but the log and LOST_COUNT. -/
theorem State.deliver_spec (s : State) (e : Event) : ∃ r l, s.deliver e = { s with regs := r, log := l } ∧
    (∀ j, j ≠ Reg.lostCount → Store.get r j = s.rd j) ∧ l.seqOf = s.log.seqOf ∧ l.stopped = s.log.stopped ∧ l.ring = s.log.ring := by
  unfold State.deliver
  split
  · exact ⟨s.regs, _, rfl, fun _ _ => rfl, rfl, rfl, rfl⟩
  · cases hs : s.log.stopped
    · simp only [Bool.false_eq_true, if_false]
      exact ⟨_, _, rfl, fun j hj => Store.get_set_ne s.regs _ hj, rfl, hs, rfl⟩
    · simp only [if_true]
      exact ⟨_, _, rfl, fun _ _ => rfl, rfl, hs, rfl⟩

/-- What a record of level INFO or WARNING leaves: all but the log and LOST_COUNT. -/
theorem State.raiseUnit_spec (s : State) {lv : Nat} (code cls inst unit : Nat) (data : List Nat) (ts : Lt) (trig : List (Nat × Nat))
    (h : lv < 2) : ∃ r l, s.raiseUnit lv code cls inst unit data ts trig = { s with regs := r, log := l } ∧
    (∀ j, j ≠ Reg.lostCount → Store.get r j = s.rd j) ∧ l.seqOf = s.log.seqOf ∧ l.stopped = s.log.stopped ∧ l.ring = s.log.ring := by
  obtain ⟨r, l, he, h1, h2⟩ := (s.modLog fun l => { l with nextUid := l.nextUid + 1 }).deliver_spec
    { uid := s.log.nextUid, ts := ts, cls := cls, inst := inst, code := code, level := lv, unit := unit, mode := s.modeCode,
      layer := s.rd Reg.layerInUse, data := data, trig := trig }
  cases hq : s.silenced code
  · refine ⟨r, l, ?_, h1, h2⟩
    simp only [State.raiseUnit, hq, Bool.false_eq_true, if_false]
    rw [he]
    exact State.latch_low _ h
  · exact ⟨s.regs, s.log, by simp only [State.raiseUnit, hq, if_true], fun _ _ => rfl, rfl, rfl, rfl⟩


section
variable (s : State) (lv code cls inst unit : Nat) (data : List Nat) (ts : Lt) (trig : List (Nat × Nat)) (b : Bool)

/-- What any record leaves, of whatever level: all but the registers, the log and the lock-keeper. -/
theorem State.raiseUnit_any : ∃ r l k, s.raiseUnit lv code cls inst unit data ts trig = { s with regs := r, log := l, lock := k } := by
  have hl (s : State) (e : Event) : ∃ r k, s.latch e = { s with regs := r, lock := k } := by
    unfold State.latch
    split
    · split
      · exact ⟨_, _, rfl⟩
      · exact ⟨_, s.lock, rfl⟩
    · split
      · split
        · split
          · exact ⟨_, _, rfl⟩
          · exact ⟨_, s.lock, rfl⟩
        · split
          · exact ⟨s.regs, _, rfl⟩
          · exact ⟨s.regs, s.lock, rfl⟩
      · split
        · split
          · exact ⟨_, _, rfl⟩
          · exact ⟨_, _, rfl⟩
        · split
          · exact ⟨s.regs, _, rfl⟩
          · exact ⟨s.regs, s.lock, rfl⟩
  obtain ⟨r, l, he, -⟩ := (s.modLog fun l => { l with nextUid := l.nextUid + 1 }).deliver_spec
    { uid := s.log.nextUid, ts := ts, cls := cls, inst := inst, code := code, level := lv, unit := unit, mode := s.modeCode,
      layer := s.rd Reg.layerInUse, data := data, trig := trig }
  obtain ⟨r', k, hk⟩ := hl { s with regs := r, log := l }
    { uid := s.log.nextUid, ts := ts, cls := cls, inst := inst, code := code, level := lv, unit := unit, mode := s.modeCode,
      layer := s.rd Reg.layerInUse, data := data, trig := trig }
  cases hq : s.silenced code
  · refine ⟨r', l, k, ?_⟩
    simp only [State.raiseUnit, hq, Bool.false_eq_true, if_false]
    rw [he]
    exact hk
  · exact ⟨s.regs, s.log, s.lock, by simp only [State.raiseUnit, hq, if_true]⟩

@[simp] theorem State.raiseUnit_lt : (s.raiseUnit lv code cls inst unit data ts trig).lt = s.lt := by
  obtain ⟨r, l, k, h⟩ := s.raiseUnit_any lv code cls inst unit data ts trig; rw [h]
@[simp] theorem State.raiseUnit_mode : (s.raiseUnit lv code cls inst unit data ts trig).mode = s.mode := by
  obtain ⟨r, l, k, h⟩ := s.raiseUnit_any lv code cls inst unit data ts trig; rw [h]
@[simp] theorem State.raiseUnit_pounds : (s.raiseUnit lv code cls inst unit data ts trig).pounds = s.pounds := by
  obtain ⟨r, l, k, h⟩ := s.raiseUnit_any lv code cls inst unit data ts trig; rw [h]
@[simp] theorem State.raiseUnit_axes : (s.raiseUnit lv code cls inst unit data ts trig).axes = s.axes := by
  obtain ⟨r, l, k, h⟩ := s.raiseUnit_any lv code cls inst unit data ts trig; rw [h]
@[simp] theorem State.raiseUnit_tiles : (s.raiseUnit lv code cls inst unit data ts trig).tiles = s.tiles := by
  obtain ⟨r, l, k, h⟩ := s.raiseUnit_any lv code cls inst unit data ts trig; rw [h]
@[simp] theorem State.raiseUnit_engines : (s.raiseUnit lv code cls inst unit data ts trig).engines = s.engines := by
  obtain ⟨r, l, k, h⟩ := s.raiseUnit_any lv code cls inst unit data ts trig; rw [h]
@[simp] theorem State.raiseUnit_lasers : (s.raiseUnit lv code cls inst unit data ts trig).lasers = s.lasers := by
  obtain ⟨r, l, k, h⟩ := s.raiseUnit_any lv code cls inst unit data ts trig; rw [h]
@[simp] theorem State.raiseUnit_layer : (s.raiseUnit lv code cls inst unit data ts trig).layer = s.layer := by
  obtain ⟨r, l, k, h⟩ := s.raiseUnit_any lv code cls inst unit data ts trig; rw [h]
@[simp] theorem State.raiseUnit_vision : (s.raiseUnit lv code cls inst unit data ts trig).vision = s.vision := by
  obtain ⟨r, l, k, h⟩ := s.raiseUnit_any lv code cls inst unit data ts trig; rw [h]
@[simp] theorem State.raiseUnit_memPort : (s.raiseUnit lv code cls inst unit data ts trig).memPort = s.memPort := by
  obtain ⟨r, l, k, h⟩ := s.raiseUnit_any lv code cls inst unit data ts trig; rw [h]
@[simp] theorem State.raiseUnit_hostEntries : (s.raiseUnit lv code cls inst unit data ts trig).hostEntries = s.hostEntries := by
  obtain ⟨r, l, k, h⟩ := s.raiseUnit_any lv code cls inst unit data ts trig; rw [h]
@[simp] theorem State.raiseUnit_profiles : (s.raiseUnit lv code cls inst unit data ts trig).profiles = s.profiles := by
  obtain ⟨r, l, k, h⟩ := s.raiseUnit_any lv code cls inst unit data ts trig; rw [h]
@[simp] theorem State.raiseUnit_dram : (s.raiseUnit lv code cls inst unit data ts trig).dram = s.dram := by
  obtain ⟨r, l, k, h⟩ := s.raiseUnit_any lv code cls inst unit data ts trig; rw [h]
@[simp] theorem State.raiseUnit_clearAxFall : (s.raiseUnit lv code cls inst unit data ts trig).clearAxFall = s.clearAxFall := by
  obtain ⟨r, l, k, h⟩ := s.raiseUnit_any lv code cls inst unit data ts trig; rw [h]
@[simp] theorem State.raiseUnit_clearAxRise : (s.raiseUnit lv code cls inst unit data ts trig).clearAxRise = s.clearAxRise := by
  obtain ⟨r, l, k, h⟩ := s.raiseUnit_any lv code cls inst unit data ts trig; rw [h]
@[simp] theorem State.raiseUnit_clearLmFall : (s.raiseUnit lv code cls inst unit data ts trig).clearLmFall = s.clearLmFall := by
  obtain ⟨r, l, k, h⟩ := s.raiseUnit_any lv code cls inst unit data ts trig; rw [h]
@[simp] theorem State.raiseUnit_lastMonitor : (s.raiseUnit lv code cls inst unit data ts trig).lastMonitor = s.lastMonitor := by
  obtain ⟨r, l, k, h⟩ := s.raiseUnit_any lv code cls inst unit data ts trig; rw [h]
@[simp] theorem State.raiseUnit_monPending : (s.raiseUnit lv code cls inst unit data ts trig).monPending = s.monPending := by
  obtain ⟨r, l, k, h⟩ := s.raiseUnit_any lv code cls inst unit data ts trig; rw [h]
@[simp] theorem State.raiseUnit_busLow : (s.raiseUnit lv code cls inst unit data ts trig).busLow = s.busLow := by
  obtain ⟨r, l, k, h⟩ := s.raiseUnit_any lv code cls inst unit data ts trig; rw [h]
@[simp] theorem State.raiseUnit_lastSample : (s.raiseUnit lv code cls inst unit data ts trig).lastSample = s.lastSample := by
  obtain ⟨r, l, k, h⟩ := s.raiseUnit_any lv code cls inst unit data ts trig; rw [h]
@[simp] theorem State.raiseUnit_test : (s.raiseUnit lv code cls inst unit data ts trig).test = s.test := by
  obtain ⟨r, l, k, h⟩ := s.raiseUnit_any lv code cls inst unit data ts trig; rw [h]
@[simp] theorem State.raiseUnit_capture : (s.raiseUnit lv code cls inst unit data ts trig).capture = s.capture := by
  obtain ⟨r, l, k, h⟩ := s.raiseUnit_any lv code cls inst unit data ts trig; rw [h]
@[simp] theorem State.raiseUnit_legacy : (s.raiseUnit lv code cls inst unit data ts trig).legacy = s.legacy := by
  obtain ⟨r, l, k, h⟩ := s.raiseUnit_any lv code cls inst unit data ts trig; rw [h]
@[simp] theorem State.raiseUnit_time : (s.raiseUnit lv code cls inst unit data ts trig).time = s.time := by
  obtain ⟨r, l, k, h⟩ := s.raiseUnit_any lv code cls inst unit data ts trig; rw [h]
@[simp] theorem State.raiseUnit_net : (s.raiseUnit lv code cls inst unit data ts trig).net = s.net := by
  obtain ⟨r, l, k, h⟩ := s.raiseUnit_any lv code cls inst unit data ts trig; rw [h]
@[simp] theorem State.raiseUnit_flash : (s.raiseUnit lv code cls inst unit data ts trig).flash = s.flash := by
  obtain ⟨r, l, k, h⟩ := s.raiseUnit_any lv code cls inst unit data ts trig; rw [h]
@[simp] theorem State.raiseUnit_store : (s.raiseUnit lv code cls inst unit data ts trig).store = s.store := by
  obtain ⟨r, l, k, h⟩ := s.raiseUnit_any lv code cls inst unit data ts trig; rw [h]
@[simp] theorem State.raiseUnit_freeCount : (s.raiseUnit lv code cls inst unit data ts trig).freeCount = s.freeCount := by
  obtain ⟨r, l, k, h⟩ := s.raiseUnit_any lv code cls inst unit data ts trig; rw [h]
@[simp] theorem State.raiseUnit_pending : (s.raiseUnit lv code cls inst unit data ts trig).pending = s.pending := by
  obtain ⟨r, l, k, h⟩ := s.raiseUnit_any lv code cls inst unit data ts trig; rw [h]
@[simp] theorem State.raiseFull_lt : (s.raiseFull lv code cls inst data ts trig).lt = s.lt := by simp [State.raiseFull]
@[simp] theorem State.raise_lt : (s.raise code cls inst data).lt = s.lt := by simp [State.raise]
@[simp] theorem State.raiseIf_lt : (s.raiseIf b code cls inst data).lt = s.lt := by simp [State.raiseIf]; split <;> simp
@[simp] theorem State.raiseFull_mode : (s.raiseFull lv code cls inst data ts trig).mode = s.mode := by simp [State.raiseFull]
@[simp] theorem State.raise_mode : (s.raise code cls inst data).mode = s.mode := by simp [State.raise]
@[simp] theorem State.raiseIf_mode : (s.raiseIf b code cls inst data).mode = s.mode := by simp [State.raiseIf]; split <;> simp
@[simp] theorem State.raiseFull_pounds : (s.raiseFull lv code cls inst data ts trig).pounds = s.pounds := by simp [State.raiseFull]
@[simp] theorem State.raise_pounds : (s.raise code cls inst data).pounds = s.pounds := by simp [State.raise]
@[simp] theorem State.raiseIf_pounds : (s.raiseIf b code cls inst data).pounds = s.pounds := by simp [State.raiseIf]; split <;> simp
@[simp] theorem State.raiseFull_axes : (s.raiseFull lv code cls inst data ts trig).axes = s.axes := by simp [State.raiseFull]
@[simp] theorem State.raise_axes : (s.raise code cls inst data).axes = s.axes := by simp [State.raise]
@[simp] theorem State.raiseIf_axes : (s.raiseIf b code cls inst data).axes = s.axes := by simp [State.raiseIf]; split <;> simp
@[simp] theorem State.raiseFull_tiles : (s.raiseFull lv code cls inst data ts trig).tiles = s.tiles := by simp [State.raiseFull]
@[simp] theorem State.raise_tiles : (s.raise code cls inst data).tiles = s.tiles := by simp [State.raise]
@[simp] theorem State.raiseIf_tiles : (s.raiseIf b code cls inst data).tiles = s.tiles := by simp [State.raiseIf]; split <;> simp
@[simp] theorem State.raiseFull_engines : (s.raiseFull lv code cls inst data ts trig).engines = s.engines := by simp [State.raiseFull]
@[simp] theorem State.raise_engines : (s.raise code cls inst data).engines = s.engines := by simp [State.raise]
@[simp] theorem State.raiseIf_engines : (s.raiseIf b code cls inst data).engines = s.engines := by simp [State.raiseIf]; split <;> simp
@[simp] theorem State.raiseFull_lasers : (s.raiseFull lv code cls inst data ts trig).lasers = s.lasers := by simp [State.raiseFull]
@[simp] theorem State.raise_lasers : (s.raise code cls inst data).lasers = s.lasers := by simp [State.raise]
@[simp] theorem State.raiseIf_lasers : (s.raiseIf b code cls inst data).lasers = s.lasers := by simp [State.raiseIf]; split <;> simp
@[simp] theorem State.raiseFull_layer : (s.raiseFull lv code cls inst data ts trig).layer = s.layer := by simp [State.raiseFull]
@[simp] theorem State.raise_layer : (s.raise code cls inst data).layer = s.layer := by simp [State.raise]
@[simp] theorem State.raiseIf_layer : (s.raiseIf b code cls inst data).layer = s.layer := by simp [State.raiseIf]; split <;> simp
@[simp] theorem State.raiseFull_vision : (s.raiseFull lv code cls inst data ts trig).vision = s.vision := by simp [State.raiseFull]
@[simp] theorem State.raise_vision : (s.raise code cls inst data).vision = s.vision := by simp [State.raise]
@[simp] theorem State.raiseIf_vision : (s.raiseIf b code cls inst data).vision = s.vision := by simp [State.raiseIf]; split <;> simp
@[simp] theorem State.raiseFull_memPort : (s.raiseFull lv code cls inst data ts trig).memPort = s.memPort := by simp [State.raiseFull]
@[simp] theorem State.raise_memPort : (s.raise code cls inst data).memPort = s.memPort := by simp [State.raise]
@[simp] theorem State.raiseIf_memPort : (s.raiseIf b code cls inst data).memPort = s.memPort := by simp [State.raiseIf]; split <;> simp
@[simp] theorem State.raiseFull_hostEntries : (s.raiseFull lv code cls inst data ts trig).hostEntries = s.hostEntries := by simp [State.raiseFull]
@[simp] theorem State.raise_hostEntries : (s.raise code cls inst data).hostEntries = s.hostEntries := by simp [State.raise]
@[simp] theorem State.raiseIf_hostEntries : (s.raiseIf b code cls inst data).hostEntries = s.hostEntries := by simp [State.raiseIf]; split <;> simp
@[simp] theorem State.raiseFull_profiles : (s.raiseFull lv code cls inst data ts trig).profiles = s.profiles := by simp [State.raiseFull]
@[simp] theorem State.raise_profiles : (s.raise code cls inst data).profiles = s.profiles := by simp [State.raise]
@[simp] theorem State.raiseIf_profiles : (s.raiseIf b code cls inst data).profiles = s.profiles := by simp [State.raiseIf]; split <;> simp
@[simp] theorem State.raiseFull_dram : (s.raiseFull lv code cls inst data ts trig).dram = s.dram := by simp [State.raiseFull]
@[simp] theorem State.raise_dram : (s.raise code cls inst data).dram = s.dram := by simp [State.raise]
@[simp] theorem State.raiseIf_dram : (s.raiseIf b code cls inst data).dram = s.dram := by simp [State.raiseIf]; split <;> simp
@[simp] theorem State.raiseFull_clearAxFall : (s.raiseFull lv code cls inst data ts trig).clearAxFall = s.clearAxFall := by simp [State.raiseFull]
@[simp] theorem State.raise_clearAxFall : (s.raise code cls inst data).clearAxFall = s.clearAxFall := by simp [State.raise]
@[simp] theorem State.raiseIf_clearAxFall : (s.raiseIf b code cls inst data).clearAxFall = s.clearAxFall := by simp [State.raiseIf]; split <;> simp
@[simp] theorem State.raiseFull_clearAxRise : (s.raiseFull lv code cls inst data ts trig).clearAxRise = s.clearAxRise := by simp [State.raiseFull]
@[simp] theorem State.raise_clearAxRise : (s.raise code cls inst data).clearAxRise = s.clearAxRise := by simp [State.raise]
@[simp] theorem State.raiseIf_clearAxRise : (s.raiseIf b code cls inst data).clearAxRise = s.clearAxRise := by simp [State.raiseIf]; split <;> simp
@[simp] theorem State.raiseFull_clearLmFall : (s.raiseFull lv code cls inst data ts trig).clearLmFall = s.clearLmFall := by simp [State.raiseFull]
@[simp] theorem State.raise_clearLmFall : (s.raise code cls inst data).clearLmFall = s.clearLmFall := by simp [State.raise]
@[simp] theorem State.raiseIf_clearLmFall : (s.raiseIf b code cls inst data).clearLmFall = s.clearLmFall := by simp [State.raiseIf]; split <;> simp
@[simp] theorem State.raiseFull_lastMonitor : (s.raiseFull lv code cls inst data ts trig).lastMonitor = s.lastMonitor := by simp [State.raiseFull]
@[simp] theorem State.raise_lastMonitor : (s.raise code cls inst data).lastMonitor = s.lastMonitor := by simp [State.raise]
@[simp] theorem State.raiseIf_lastMonitor : (s.raiseIf b code cls inst data).lastMonitor = s.lastMonitor := by simp [State.raiseIf]; split <;> simp
@[simp] theorem State.raiseFull_monPending : (s.raiseFull lv code cls inst data ts trig).monPending = s.monPending := by simp [State.raiseFull]
@[simp] theorem State.raise_monPending : (s.raise code cls inst data).monPending = s.monPending := by simp [State.raise]
@[simp] theorem State.raiseIf_monPending : (s.raiseIf b code cls inst data).monPending = s.monPending := by simp [State.raiseIf]; split <;> simp
@[simp] theorem State.raiseFull_busLow : (s.raiseFull lv code cls inst data ts trig).busLow = s.busLow := by simp [State.raiseFull]
@[simp] theorem State.raise_busLow : (s.raise code cls inst data).busLow = s.busLow := by simp [State.raise]
@[simp] theorem State.raiseIf_busLow : (s.raiseIf b code cls inst data).busLow = s.busLow := by simp [State.raiseIf]; split <;> simp
@[simp] theorem State.raiseFull_lastSample : (s.raiseFull lv code cls inst data ts trig).lastSample = s.lastSample := by simp [State.raiseFull]
@[simp] theorem State.raise_lastSample : (s.raise code cls inst data).lastSample = s.lastSample := by simp [State.raise]
@[simp] theorem State.raiseIf_lastSample : (s.raiseIf b code cls inst data).lastSample = s.lastSample := by simp [State.raiseIf]; split <;> simp
@[simp] theorem State.raiseFull_test : (s.raiseFull lv code cls inst data ts trig).test = s.test := by simp [State.raiseFull]
@[simp] theorem State.raise_test : (s.raise code cls inst data).test = s.test := by simp [State.raise]
@[simp] theorem State.raiseIf_test : (s.raiseIf b code cls inst data).test = s.test := by simp [State.raiseIf]; split <;> simp
@[simp] theorem State.raiseFull_capture : (s.raiseFull lv code cls inst data ts trig).capture = s.capture := by simp [State.raiseFull]
@[simp] theorem State.raise_capture : (s.raise code cls inst data).capture = s.capture := by simp [State.raise]
@[simp] theorem State.raiseIf_capture : (s.raiseIf b code cls inst data).capture = s.capture := by simp [State.raiseIf]; split <;> simp
@[simp] theorem State.raiseFull_legacy : (s.raiseFull lv code cls inst data ts trig).legacy = s.legacy := by simp [State.raiseFull]
@[simp] theorem State.raise_legacy : (s.raise code cls inst data).legacy = s.legacy := by simp [State.raise]
@[simp] theorem State.raiseIf_legacy : (s.raiseIf b code cls inst data).legacy = s.legacy := by simp [State.raiseIf]; split <;> simp
@[simp] theorem State.raiseFull_time : (s.raiseFull lv code cls inst data ts trig).time = s.time := by simp [State.raiseFull]
@[simp] theorem State.raise_time : (s.raise code cls inst data).time = s.time := by simp [State.raise]
@[simp] theorem State.raiseIf_time : (s.raiseIf b code cls inst data).time = s.time := by simp [State.raiseIf]; split <;> simp
@[simp] theorem State.raiseFull_net : (s.raiseFull lv code cls inst data ts trig).net = s.net := by simp [State.raiseFull]
@[simp] theorem State.raise_net : (s.raise code cls inst data).net = s.net := by simp [State.raise]
@[simp] theorem State.raiseIf_net : (s.raiseIf b code cls inst data).net = s.net := by simp [State.raiseIf]; split <;> simp
@[simp] theorem State.raiseFull_flash : (s.raiseFull lv code cls inst data ts trig).flash = s.flash := by simp [State.raiseFull]
@[simp] theorem State.raise_flash : (s.raise code cls inst data).flash = s.flash := by simp [State.raise]
@[simp] theorem State.raiseIf_flash : (s.raiseIf b code cls inst data).flash = s.flash := by simp [State.raiseIf]; split <;> simp
@[simp] theorem State.raiseFull_store : (s.raiseFull lv code cls inst data ts trig).store = s.store := by simp [State.raiseFull]
@[simp] theorem State.raise_store : (s.raise code cls inst data).store = s.store := by simp [State.raise]
@[simp] theorem State.raiseIf_store : (s.raiseIf b code cls inst data).store = s.store := by simp [State.raiseIf]; split <;> simp
@[simp] theorem State.raiseFull_freeCount : (s.raiseFull lv code cls inst data ts trig).freeCount = s.freeCount := by simp [State.raiseFull]
@[simp] theorem State.raise_freeCount : (s.raise code cls inst data).freeCount = s.freeCount := by simp [State.raise]
@[simp] theorem State.raiseIf_freeCount : (s.raiseIf b code cls inst data).freeCount = s.freeCount := by simp [State.raiseIf]; split <;> simp
@[simp] theorem State.raiseFull_pending : (s.raiseFull lv code cls inst data ts trig).pending = s.pending := by simp [State.raiseFull]
@[simp] theorem State.raise_pending : (s.raise code cls inst data).pending = s.pending := by simp [State.raise]
@[simp] theorem State.raiseIf_pending : (s.raiseIf b code cls inst data).pending = s.pending := by simp [State.raiseIf]; split <;> simp

theorem State.rd_raiseUnit {j : Nat} (h : lv < 2) (hj : j ≠ Reg.lostCount) :
    (s.raiseUnit lv code cls inst unit data ts trig).rd j = s.rd j := by
  obtain ⟨r, l, he, h1, -⟩ := s.raiseUnit_spec code cls inst unit data ts trig h
  rw [he]; exact h1 j hj
theorem State.rd_raiseFull {j : Nat} (h : lv < 2) (hj : j ≠ Reg.lostCount) :
    (s.raiseFull lv code cls inst data ts trig).rd j = s.rd j := s.rd_raiseUnit _ _ _ _ _ _ _ _ h hj
theorem State.rd_raise {j : Nat} (h : levelOf code < 2) (hj : j ≠ Reg.lostCount) : (s.raise code cls inst data).rd j = s.rd j :=
  s.rd_raiseFull _ _ _ _ _ _ _ h hj
theorem State.rd_raiseIf {j : Nat} (h : levelOf code < 2) (hj : j ≠ Reg.lostCount) : (s.raiseIf b code cls inst data).rd j = s.rd j := by
  unfold State.raiseIf; split
  · exact s.rd_raise _ _ _ _ h hj
  · rfl
theorem State.lock_raiseUnit (h : lv < 2) : (s.raiseUnit lv code cls inst unit data ts trig).lock = s.lock := by
  obtain ⟨r, l, he, -⟩ := s.raiseUnit_spec code cls inst unit data ts trig h
  rw [he]
theorem State.lock_raiseFull (h : lv < 2) : (s.raiseFull lv code cls inst data ts trig).lock = s.lock :=
  s.lock_raiseUnit _ _ _ _ _ _ _ _ h
theorem State.lock_raise (h : levelOf code < 2) : (s.raise code cls inst data).lock = s.lock := s.lock_raiseFull _ _ _ _ _ _ _ h
theorem State.lock_raiseIf (h : levelOf code < 2) : (s.raiseIf b code cls inst data).lock = s.lock := by
  unfold State.raiseIf; split
  · exact s.lock_raise _ _ _ _ h
  · rfl
end

/-! ### States in which nothing else waits -/

/-- Keys whose values a still state looks at: MODE, the ENABLE and the axis of each emulator, and PARK_STATE of each axis. -/
def stillKey (k : Nat) : Bool :=
  k == Reg.mode || ((List.range 8).any fun i => k == Reg.encEnable i || k == Reg.encAxis i) ||
    (List.range 48).any fun a => k == Reg.parkState a

/-- Keys of different objects, or of different sub-entries, differ. -/
theorem regKey_ne {i b i' b' : Nat} (hb : b < 256) (hb' : b' < 256) (h : i ≠ i' ∨ b ≠ b') : regKey i b ≠ regKey i' b' := by
  unfold regKey; omega

/-- Sub-entries other than those. -/
theorem stillKey_regKey {i b : Nat} (hb : b < 256)
    (h : (i ≠ 0x2000 ∨ b ≠ 2) ∧ (i < 0x4200 ∨ 0x4280 ≤ i ∨ i % 0x10 ≠ 0 ∨ (b ≠ 1 ∧ b ≠ 5)) ∧ (i % 0x40 ≠ 0x2C ∨ b ≠ 2)) : stillKey (regKey i b) = false := by
  simp only [stillKey, Bool.or_eq_false_iff, beq_eq_false_iff_ne, List.any_eq_false, List.mem_range, beq_iff_eq, Bool.or_eq_true,
    not_or]
  exact ⟨⟨regKey_ne hb (by decide) h.1, fun k hk => ⟨regKey_ne hb (by decide) (by omega), regKey_ne hb (by decide) (by omega)⟩⟩,
    fun k hk => regKey_ne hb (by decide) (by omega)⟩

/-- Stillness looks at no more than these. -/
theorem State.still_of {s t : State} (hs : s.still = true) (hr : ∀ k, stillKey k = true → t.rd k = s.rd k) (hm : t.mode.inReset = s.mode.inReset)
    (hx : t.mode.transition = s.mode.transition) (hp : t.monPending = s.monPending) (hi : t.lock.inbox = s.lock.inbox)
    (hu : t.lock.triggerUid = s.lock.triggerUid)
    (he : ∀ k, (t.enc k).running = (s.enc k).running ∧ (t.enc k).words = (s.enc k).words ∧
      (t.enc k).holding = (s.enc k).holding)
    (ha : ∀ p, (t.pound p).armed = (s.pound p).armed ∧ (t.pound p).deferred = (s.pound p).deferred)
    (hc : ∀ i, (t.tile i).cal = (s.tile i).cal ∧ (t.tile i).gainDone = (s.tile i).gainDone) : t.still = true := by
  have hmode : t.modeCode = s.modeCode := hr _ (by decide)
  have hmode' : t.inRunOrHold = s.inRunOrHold := by simp only [State.inRunOrHold, hmode]
  have he1 : ∀ i, i < 8 → t.rd (Reg.encEnable i) = s.rd (Reg.encEnable i) := fun i hi => hr _ (by
    simp only [stillKey, Bool.or_eq_true, List.any_eq_true, List.mem_range]; exact Or.inl (Or.inr ⟨i, hi, Or.inl (by simp)⟩))
  have he2 : ∀ i, i < 8 → t.rd (Reg.encAxis i) = s.rd (Reg.encAxis i) := fun i hi => hr _ (by
    simp only [stillKey, Bool.or_eq_true, List.any_eq_true, List.mem_range]; exact Or.inl (Or.inr ⟨i, hi, Or.inr (by simp)⟩))
  have hpk : ∀ a, a < 48 → t.rd (Reg.parkState a) = s.rd (Reg.parkState a) := fun a hi => hr _ (by
    simp only [stillKey, Bool.or_eq_true, List.any_eq_true, List.mem_range]; exact Or.inr ⟨a, hi, by simp⟩)
  simp only [State.still, State.calm, Bool.and_eq_true, List.all_eq_true, List.mem_range] at hs ⊢
  obtain ⟨⟨h1, h2⟩, h3⟩ := hs
  refine ⟨⟨?_, fun k hk => ?_⟩, fun p hp' => ?_⟩
  · simp only [hc]; rw [hmode, hm, hx, hp, hi, hu]; exact h1
  · have := h2 k hk
    obtain ⟨e1, e2, e3⟩ := he k
    simp only [State.encRests, State.encWanted, he1 k hk, he2 k hk, hmode', hm, e1, e2, e3, State.axisParked] at this ⊢
    by_cases h48 : s.rd (Reg.encAxis k) < 48
    · rw [hpk _ h48]; exact this
    · have h0 : (s.enc k).running = false := by
        simp only [Bool.and_eq_true, beq_iff_eq] at this
        rw [← this.1.1]; simp [h48]
      rw [h0] at this ⊢
      simpa using this
  · rw [(ha p).1, (ha p).2]; exact h3 p hp'

theorem State.still_wr (s : State) {k : Nat} (v : Nat) (h : stillKey k = false) : (s.wr k v).still = s.still := by
  have hr : ∀ j, stillKey j = true → (s.wr k v).rd j = s.rd j := fun j hj => s.rd_wr_ne v (by rintro rfl; simp [hj] at h)
  cases hs : s.still
  · cases ht : (s.wr k v).still
    · rfl
    · have := State.still_of (t := s) ht (fun j hj => (hr j hj).symm) rfl rfl rfl rfl rfl (fun _ => ⟨rfl, rfl, rfl⟩) (fun _ => ⟨rfl, rfl⟩)
        (fun _ => ⟨rfl, rfl⟩)
      rw [hs] at this; cases this
  · exact State.still_of hs hr rfl rfl rfl rfl rfl (fun _ => ⟨rfl, rfl, rfl⟩) (fun _ => ⟨rfl, rfl⟩)
        (fun _ => ⟨rfl, rfl⟩)

@[simp] theorem State.still_goTo (s : State) (t : Lt) : (s.goTo t).still = s.still := id rfl
@[simp] theorem State.still_advance (s : State) (dt : Nat) : (s.advance dt).still = s.still := id rfl
@[simp] theorem State.still_setAxis (s : State) (a : Nat) (x : Axis) : (s.setAxis a x).still = s.still := id rfl
@[simp] theorem State.still_modEngine (s : State) (t : Nat) (f : Engine → Engine) : (s.modEngine t f).still = s.still := id rfl
@[simp] theorem State.still_modLayer (s : State) (f : Layer → Layer) : (s.modLayer f).still = s.still := id rfl
@[simp] theorem State.still_modLog (s : State) (f : Log → Log) : (s.modLog f).still = s.still := id rfl
@[simp] theorem State.still_modLaser (s : State) (l : Nat) (f : Laser → Laser) : (s.modLaser l f).still = s.still := id rfl
@[simp] theorem State.still_modTap (s : State) (i : Nat) (f : Tap → Tap) : (s.modTap i f).still = s.still := id rfl
@[simp] theorem State.still_modNet (s : State) (f : Net → Net) : (s.modNet f).still = s.still := id rfl
@[simp] theorem State.still_modTime (s : State) (f : TimeSt → TimeSt) : (s.modTime f).still = s.still := id rfl
@[simp] theorem State.still_modCam (s : State) (c : Nat) (f : Cam → Cam) : (s.modCam c f).still = s.still := id rfl
@[simp] theorem State.still_modMem (s : State) (f : MemPort → MemPort) : (s.modMem f).still = s.still := id rfl
@[simp] theorem State.still_modAxis (s : State) (a : Nat) (f : Axis → Axis) : (s.modAxis a f).still = s.still := id rfl
@[simp] theorem State.still_modObs (s : State) (a : Nat) (f : Obs → Obs) : (s.modObs a f).still = s.still := id rfl
@[simp] theorem State.still_modLaw (s : State) (a : Nat) (f : Law → Law) : (s.modLaw a f).still = s.still := id rfl
@[simp] theorem State.still_modAxo (s : State) (a : Nat) (f : Axo → Axo) : (s.modAxo a f).still = s.still := id rfl
@[simp] theorem State.still_modStream (s : State) (l : Nat) (f : Stream → Stream) : (s.modStream l f).still = s.still := id rfl
@[simp] theorem State.still_modSsi (s : State) (i : Nat) (f : Ssi → Ssi) : (s.modSsi i f).still = s.still := id rfl
@[simp] theorem State.still_modPulse (s : State) (k : Nat) (f : Pulse → Pulse) : (s.modPulse k f).still = s.still := id rfl
@[simp] theorem State.still_modEgress (s : State) (p : Nat) (f : Egress → Egress) : (s.modEgress p f).still = s.still := id rfl
@[simp] theorem State.still_modMaster (s : State) (n : Nat) (f : Master → Master) : (s.modMaster n f).still = s.still := id rfl
@[simp] theorem State.still_modPortTime (s : State) (p : Nat) (f : PortTime → PortTime) : (s.modPortTime p f).still = s.still := id rfl
@[simp] theorem State.still_modDomain (s : State) (d : Nat) (f : Domain → Domain) : (s.modDomain d f).still = s.still := id rfl
@[simp] theorem State.still_setCode (s : State) (a : Nat) (c : Int) : (s.setCode a c).still = s.still := id rfl
@[simp] theorem State.still_answer (s : State) (code : Nat) (data : List Nat) : (s.answer code data).still = s.still := id rfl
@[simp] theorem State.still_darken (s : State) (l : Nat) : (s.darken l).still = s.still := id rfl
@[simp] theorem State.outside_wr (s : State) (k v : Nat) : (s.wr k v).outside = s.outside := id rfl
@[simp] theorem State.outside_goTo (s : State) (t : Lt) : (s.goTo t).outside = s.outside := id rfl
@[simp] theorem State.outside_advance (s : State) (dt : Nat) : (s.advance dt).outside = s.outside := id rfl
@[simp] theorem State.outside_setAxis (s : State) (a : Nat) (x : Axis) : (s.setAxis a x).outside = s.outside := id rfl
@[simp] theorem State.outside_setTile (s : State) (t : Nat) (x : Tile) : (s.setTile t x).outside = s.outside := id rfl
@[simp] theorem State.outside_modEngine (s : State) (t : Nat) (f : Engine → Engine) : (s.modEngine t f).outside = s.outside := id rfl
@[simp] theorem State.outside_modPound (s : State) (p : Nat) (f : Pound → Pound) : (s.modPound p f).outside = s.outside := id rfl
@[simp] theorem State.outside_modLayer (s : State) (f : Layer → Layer) : (s.modLayer f).outside = s.outside := id rfl
@[simp] theorem State.outside_modLock (s : State) (f : LockKeeper → LockKeeper) : (s.modLock f).outside = s.outside := id rfl
@[simp] theorem State.outside_modLog (s : State) (f : Log → Log) : (s.modLog f).outside = s.outside := id rfl
@[simp] theorem State.outside_modLaser (s : State) (l : Nat) (f : Laser → Laser) : (s.modLaser l f).outside = s.outside := id rfl
@[simp] theorem State.outside_modTap (s : State) (i : Nat) (f : Tap → Tap) : (s.modTap i f).outside = s.outside := id rfl
@[simp] theorem State.outside_modLegacy (s : State) (f : Legacy → Legacy) : (s.modLegacy f).outside = s.outside := id rfl
@[simp] theorem State.outside_modNet (s : State) (f : Net → Net) : (s.modNet f).outside = s.outside := id rfl
@[simp] theorem State.outside_modTime (s : State) (f : TimeSt → TimeSt) : (s.modTime f).outside = s.outside := id rfl
@[simp] theorem State.outside_modCam (s : State) (c : Nat) (f : Cam → Cam) : (s.modCam c f).outside = s.outside := id rfl
@[simp] theorem State.outside_modMem (s : State) (f : MemPort → MemPort) : (s.modMem f).outside = s.outside := id rfl
@[simp] theorem State.outside_wrS (s : State) (w k : Nat) (v : Int) : (s.wrS w k v).outside = s.outside := id rfl
@[simp] theorem State.outside_wrField (s : State) (k lo w v : Nat) : (s.wrField k lo w v).outside = s.outside := id rfl
@[simp] theorem State.outside_bump (s : State) (w k : Nat) : (s.bump w k).outside = s.outside := id rfl
@[simp] theorem State.outside_bumpWrap (s : State) (w k : Nat) : (s.bumpWrap w k).outside = s.outside := id rfl
@[simp] theorem State.outside_modAxis (s : State) (a : Nat) (f : Axis → Axis) : (s.modAxis a f).outside = s.outside := id rfl
@[simp] theorem State.outside_modObs (s : State) (a : Nat) (f : Obs → Obs) : (s.modObs a f).outside = s.outside := id rfl
@[simp] theorem State.outside_modLaw (s : State) (a : Nat) (f : Law → Law) : (s.modLaw a f).outside = s.outside := id rfl
@[simp] theorem State.outside_modAxo (s : State) (a : Nat) (f : Axo → Axo) : (s.modAxo a f).outside = s.outside := id rfl
@[simp] theorem State.outside_modTile (s : State) (t : Nat) (f : Tile → Tile) : (s.modTile t f).outside = s.outside := id rfl
@[simp] theorem State.outside_modDriver (s : State) (t j : Nat) (f : Driver → Driver) : (s.modDriver t j f).outside = s.outside := id rfl
@[simp] theorem State.outside_modChan (s : State) (t i : Nat) (f : Chan → Chan) : (s.modChan t i f).outside = s.outside := id rfl
@[simp] theorem State.outside_modAmp (s : State) (t m : Nat) (f : Amp → Amp) : (s.modAmp t m f).outside = s.outside := id rfl
@[simp] theorem State.outside_modStream (s : State) (l : Nat) (f : Stream → Stream) : (s.modStream l f).outside = s.outside := id rfl
@[simp] theorem State.outside_modEnc (s : State) (k : Nat) (f : Enc → Enc) : (s.modEnc k f).outside = s.outside := id rfl
@[simp] theorem State.outside_modSsi (s : State) (i : Nat) (f : Ssi → Ssi) : (s.modSsi i f).outside = s.outside := id rfl
@[simp] theorem State.outside_modPulse (s : State) (k : Nat) (f : Pulse → Pulse) : (s.modPulse k f).outside = s.outside := id rfl
@[simp] theorem State.outside_modEgress (s : State) (p : Nat) (f : Egress → Egress) : (s.modEgress p f).outside = s.outside := id rfl
@[simp] theorem State.outside_modMaster (s : State) (n : Nat) (f : Master → Master) : (s.modMaster n f).outside = s.outside := id rfl
@[simp] theorem State.outside_modPortTime (s : State) (p : Nat) (f : PortTime → PortTime) : (s.modPortTime p f).outside = s.outside := id rfl
@[simp] theorem State.outside_modDomain (s : State) (d : Nat) (f : Domain → Domain) : (s.modDomain d f).outside = s.outside := id rfl
@[simp] theorem State.outside_setCode (s : State) (a : Nat) (c : Int) : (s.setCode a c).outside = s.outside := id rfl
@[simp] theorem State.outside_answer (s : State) (code : Nat) (data : List Nat) : (s.answer code data).outside = s.outside := id rfl
@[simp] theorem State.outside_darken (s : State) (l : Nat) : (s.darken l).outside = s.outside := id rfl

theorem State.tile_modTile (s : State) (t i : Nat) (f : Tile → Tile) :
    (s.modTile t f).tile i = (s.tile i) ∨ (i = t ∧ (s.modTile t f).tile i = f (s.tile i)) := by
  by_cases h : i = t
  · subst h
    by_cases h8 : i < 8
    · exact Or.inr ⟨rfl, s.tile_modTile_self f h8⟩
    · left; simp [State.tile, State.modTile, State.setTile, h8]
  · exact Or.inl (s.tile_modTile_ne f h)

/-- A change of a tile that leaves its calibration alone. -/
theorem State.still_modTile (s : State) (t : Nat) (f : Tile → Tile) (hf : ∀ x, (f x).cal = x.cal ∧ (f x).gainDone = x.gainDone) (hs : s.still = true) :
    (s.modTile t f).still = true :=
  State.still_of hs (fun _ _ => rfl) rfl rfl rfl rfl rfl (fun _ => ⟨rfl, rfl, rfl⟩) (fun _ => ⟨rfl, rfl⟩) fun i => by
    rcases s.tile_modTile t i f with h | ⟨-, h⟩
    · rw [h]; exact ⟨rfl, rfl⟩
    · rw [h]; exact hf _
theorem State.still_modDriver (s : State) (t j : Nat) (f : Driver → Driver) (hs : s.still = true) : (s.modDriver t j f).still = true :=
  s.still_modTile t _ (fun _ => ⟨rfl, rfl⟩) hs
theorem State.still_modChan (s : State) (t i : Nat) (f : Chan → Chan) (hs : s.still = true) : (s.modChan t i f).still = true :=
  s.still_modTile t _ (fun _ => ⟨rfl, rfl⟩) hs
theorem State.still_modAmp (s : State) (t m : Nat) (f : Amp → Amp) (hs : s.still = true) : (s.modAmp t m f).still = true :=
  s.still_modTile t _ (fun _ => ⟨rfl, rfl⟩) hs

section
variable (s : State) (lv code cls inst unit : Nat) (data : List Nat) (ts : Lt) (trig : List (Nat × Nat)) (b : Bool)
@[simp] theorem State.outside_raiseUnit : (s.raiseUnit lv code cls inst unit data ts trig).outside = s.outside := by simp [State.outside]
@[simp] theorem State.outside_raiseFull : (s.raiseFull lv code cls inst data ts trig).outside = s.outside := by simp [State.outside]
@[simp] theorem State.outside_raise : (s.raise code cls inst data).outside = s.outside := by simp [State.outside]
@[simp] theorem State.outside_raiseIf : (s.raiseIf b code cls inst data).outside = s.outside := by simp [State.outside]
theorem State.still_raiseFull (h : lv < 2) (hs : s.still = true) : (s.raiseFull lv code cls inst data ts trig).still = true :=
  State.still_of hs (fun k hk => s.rd_raiseFull _ _ _ _ _ _ _ h (by rintro rfl; rw [show stillKey Reg.lostCount = false from stillKey_regKey (by decide) (by decide)] at hk; cases hk)) (by simp) (by simp) (by simp)
    (by rw [s.lock_raiseFull _ _ _ _ _ _ _ h]) (by rw [s.lock_raiseFull _ _ _ _ _ _ _ h]) (by simp [State.enc]) (by simp [State.pound])
    (by simp [State.tile])
theorem State.still_raise (h : levelOf code < 2) (hs : s.still = true) : (s.raise code cls inst data).still = true :=
  s.still_raiseFull _ _ _ _ _ _ _ h hs
theorem State.still_raiseIf (h : levelOf code < 2) (hs : s.still = true) : (s.raiseIf b code cls inst data).still = true := by
  unfold State.raiseIf; split
  · exact s.still_raise _ _ _ _ h hs
  · exact hs
end


theorem foldl_of {α : Type} {P : State → Prop} {f : State → α → State} (l : List α) : ∀ {s : State}, P s →
    (∀ t a, a ∈ l → P t → P (f t a)) → P (l.foldl f s) := by
  induction l with
  | nil => intro s h _; exact h
  | cons a l ih =>
    intro s h hf
    exact ih (hf _ _ (List.mem_cons_self ..) h) fun t b hb => hf t b (List.mem_cons_of_mem _ hb)

theorem each_of {P : State → Prop} {n : Nat} {s : State} {f : State → Nat → State} (h0 : P s)
    (h : ∀ t i, i < n → P t → P (f t i)) : P (each n s f) :=
  foldl_of _ h0 fun t i hi ht => h t i (List.mem_range.1 hi) ht

theorem each_id {n : Nat} {s : State} {f : State → Nat → State} (h : ∀ i, i < n → f s i = s) : each n s f = s :=
  each_of (P := fun t => t = s) rfl fun t i hi ht => by rw [ht, h i hi]

theorem State.still_spec {s : State} (h : s.still = true) : s.mode.inReset = false ∧ s.modeCode ≠ INIT ∧
    (s.modeCode = CALIBRATE → ∀ t, t < 8 → (s.tile t).cal = .start → (s.tile t).gainDone = false) ∧ s.monPending = [] ∧
    s.mode.transition = none ∧ s.lock.inbox = [] ∧ s.lock.triggerUid = none ∧ (∀ k, k < 8 → s.encRests k = true) ∧
    ∀ p, p < 105 → (s.pound p).armed = none ∨ (s.pound p).deferred ≠ 0 := by
  simp only [State.still, State.calm, Bool.and_eq_true, List.all_eq_true, List.mem_range, Bool.not_eq_true', bne_iff_ne, ne_eq,
    List.isEmpty_iff, Option.isNone_iff_eq_none, Bool.or_eq_true, Bool.and_eq_false_iff, beq_eq_false_iff_ne] at h
  obtain ⟨⟨⟨⟨⟨⟨⟨⟨hr, hi⟩, hc⟩, hm⟩, ht⟩, hin⟩, hu⟩, he⟩, hp⟩ := h
  refine ⟨hr, hi, fun hcal t ht hs => ?_, hm, ht, hin, hu, he, hp⟩
  rcases hc with hc | hc
  · exact absurd hcal hc
  · exact (hc t ht).resolve_left (fun h => h hs)

/-- Without a fault that has been detected nothing meets the lock-keeper. -/
theorem State.detect_of {s : State} (h : s.lock.inbox = []) : s.detect = s := by
  simp [State.detect, h]

/-- Monitoring results that are not ready wait at the end of a command too. -/
theorem State.done_waiting {s : State} (h : ({ s with monPending := [] } : State).still = true)
    (hm : ∀ m ∈ s.monPending, s.lt < m.ready) : s.done = s := by
  have h1 : s.monReady = s := by
    have e1 : s.monPending.filter (fun (m : MonResult) => decide (m.ready ≤ s.lt)) = [] := by
      rw [List.filter_eq_nil_iff]; intro m hmm; simpa using hm m hmm
    have e2 : s.monPending.filter (fun (m : MonResult) => !decide (m.ready ≤ s.lt)) = s.monPending := by
      rw [List.filter_eq_self]; intro m hmm; simpa using hm m hmm
    simp only [State.monReady, e1, e2, List.foldl_nil]
  obtain ⟨hr, hi, hc, -, ht, hin, hu, he, hp⟩ := State.still_spec h
  have h2 : s.encFollow = s := each_id fun k hk => by
    have := he k hk
    simp only [State.encRests, Bool.and_eq_true, beq_iff_eq, List.isEmpty_iff, Bool.not_eq_true'] at this
    obtain ⟨⟨h3, h4⟩, h5⟩ := this
    change s.encWanted k = (s.enc k).running at h3
    change ((s.enc k).running && !(s.enc k).holding && s.axisParked (s.rd (Reg.encAxis k))) = false at h5
    dsimp only
    rw [h3]
    cases hrun : (s.enc k).running
    · simp
    · rw [hrun] at h5
      simp only [Bool.true_and] at h5
      simp only [Bool.not_true, Bool.false_eq_true, and_false, if_false, false_and]
      rw [if_neg]
      rintro ⟨-, a, b⟩
      simp [a, b] at h5
  have h3 : s.encWords = s := each_id fun k hk => by
    have := he k hk
    simp only [State.encRests, Bool.and_eq_true, List.isEmpty_iff] at this
    have h4 := this.1.2
    change (s.enc k).words = [] at h4
    rw [h4]
  have h4 : s.calAdvance = s := by
    unfold State.calAdvance
    split
    · rfl
    · next hcal =>
      exact each_id fun t ht => by
        dsimp only
        rw [if_neg]
        rintro ⟨a, b, -⟩
        have hcal' : s.modeCode = CALIBRATE := by simpa using hcal
        have := hc hcal' t ht a
        change (s.tile t).gainDone = false at this
        rw [this] at b; cases b
  have h5 : s.settleMode = s := by
    change s.mode.transition = none at ht
    unfold State.settleMode; rw [ht]
  have h6 : s.detect = s := State.detect_of hin
  have h7 : s.updateDeferrals = s := each_id fun p hp' => by
    rcases hp p hp' with h | h
    · change (s.pound p).armed = none at h; simp [h]
    · change (s.pound p).deferred ≠ 0 at h; simp [h]
  have h8 : s.syncTrigger = s := by
    change s.lock.triggerUid = none at hu
    unfold State.syncTrigger; rw [hu]
  unfold State.done State.finish
  rw [h1, h2, h3, h4, h5, h6, h7, h8]

/-- In a still state the end of a command does nothing. -/
theorem State.done_still {s : State} (h : s.still = true) : s.done = s := by
  have hm := (s.still_spec h).2.2.2.1
  refine State.done_waiting ?_ (by rw [hm]; intro m h; cases h)
  rw [← hm]; exact h

/-- SETTLING of a driver's axes leaves a still state still. -/
theorem State.still_setSettling (s : State) (t j : Nat) (fin : Option Nat) (cause : Nat) (h : s.still = true) :
    (s.setSettling t j fin cause).still = true := by
  unfold State.setSettling
  refine foldl_of (P := fun s => s.still = true) _ h fun r a _ hr => ?_
  dsimp only
  split
  · rw [State.still_wr _ _ (stillKey_regKey (by omega) (by omega)), State.still_modObs]; exact hr
  · rw [State.still_modObs]; exact hr

@[simp] theorem State.outside_setSettling (s : State) (t j : Nat) (fin : Option Nat) (cause : Nat) :
    (s.setSettling t j fin cause).outside = s.outside := by
  unfold State.setSettling
  refine foldl_of (P := fun r => r.outside = s.outside) _ rfl fun r a _ hr => ?_
  dsimp only
  split <;> simp only [State.outside_wr, State.outside_modObs, hr]

theorem State.keep_of {s r : State} (h : r.outside = s.outside) : s.keep r = r := by
  simp only [State.outside, Prod.mk.injEq] at h
  obtain ⟨h1, h2, h3, h4⟩ := h
  unfold State.keep; rw [← h1, ← h2, ← h3, ← h4]

/-! ### What holds the device in reset -/

@[simp] theorem State.outside_keep (s r : State) : (s.keep r).outside = s.outside := id rfl

@[simp] theorem State.outside_alive (s : State) (f : State → State) : (s.alive f).outside = s.outside := by
  unfold State.alive; split
  · rfl
  · exact s.outside_keep _

@[simp] theorem State.outside_up (s : State) (f : State → State) : (s.up f).outside = s.outside := by
  unfold State.up; split
  · exact s.outside_keep _
  · rfl

@[simp] theorem State.outside_aliveAt (s : State) (dt : Nat) (f : State → State) : (s.aliveAt dt f).outside = s.outside :=
  s.outside_alive _

@[simp] theorem State.outside_upAt (s : State) (dt : Nat) (f : State → State) : (s.upAt dt f).outside = s.outside :=
  s.outside_alive _

@[simp] theorem State.outside_pinEdge (s : State) (dt : Nat) (c : Bool) (m : ModeSt → ModeSt) (f : State → State) :
    (s.pinEdge dt c m f).outside = s.outside := by
  unfold State.pinEdge; split
  · exact s.outside_keep _
  · exact s.outside_alive _

theorem State.saveCut_keeps (s : State) : s.saveCut.pending = s.pending ∧ s.saveCut.mode = s.mode ∧ s.saveCut.lt = s.lt := by
  unfold State.saveCut; split <;> exact ⟨rfl, rfl, rfl⟩

theorem State.persistCut_keeps (s : State) : s.persistCut.pending = s.pending ∧ s.persistCut.mode = s.mode ∧ s.persistCut.lt = s.lt := by
  unfold State.persistCut; split <;> exact ⟨rfl, rfl, rfl⟩

/-- Without a rise on its way the level of PFAIL_N is the one kept. -/
theorem State.pfailIsLow_of {s : State} (h : s.mode.pfailUp = none) : s.pfailIsLow = s.mode.pfailLow := by
  simp [State.pfailIsLow, h]

theorem State.heldReset_of (s : State) (h : s.mode.pfailUp = none) : s.heldReset = { State.reset with
    flash := s.flash, freeCount := s.freeCount, pending := s.pending, log := s.log
    mode := { resetPinLow := s.mode.resetPinLow, supplyBad := s.mode.supplyBad, holdLow := s.mode.holdLow,
              clearAxLow := s.mode.clearAxLow, clearLmLow := s.mode.clearLmLow, pfailLow := s.mode.pfailLow } } := by
  rw [State.heldReset, State.pfailIsLow_of h]

/-- What the device enters in reset is the held reset state, with the pins' levels and the queue it had. -/
theorem State.enterReset_spec (s : State) : s.enterReset = s.enterReset.heldReset ∧ s.enterReset.pending = s.pending ∧
    s.enterReset.mode = { resetPinLow := s.mode.resetPinLow, supplyBad := s.mode.supplyBad, holdLow := s.mode.holdLow,
                          clearAxLow := s.mode.clearAxLow, clearLmLow := s.mode.clearLmLow, pfailLow := s.pfailIsLow } := by
  obtain ⟨p1, m1, l1⟩ := s.saveCut_keeps
  obtain ⟨p2, m2, l2⟩ := s.saveCut.persistCut_keeps
  have hr : s.saveCut.persistCut.mode = s.mode := by rw [m2, m1]
  have hl : s.saveCut.persistCut.pfailIsLow = s.pfailIsLow := by unfold State.pfailIsLow; rw [hr, l2, l1]
  have hp : s.saveCut.persistCut.pending = s.pending := by rw [p2, p1]
  unfold State.enterReset
  simp only [hr, hl]
  cases hb : (!s.mode.inReset && decide (0 < s.saveCut.persistCut.fullPounds))
  · simp only [State.raiseIf]
    refine ⟨?_, hp, rfl⟩
    rw [State.heldReset_of _ (by rfl)]
    rfl
  · have h0 : s.mode.inReset = false := by simp at hb; exact hb.1
    simp only [State.raiseIf, h0, if_true]
    refine ⟨?_, hp, rfl⟩
    rw [State.heldReset_of _ (by rfl)]
    rfl

theorem State.still_running {s : State} (h : s.still = true) : s.mode.inReset = false ∧ s.modeCode ≠ INIT ∧ s.monPending = [] := by
  obtain ⟨hr, hi, -, hm, -⟩ := s.still_spec h
  exact ⟨hr, hi, hm⟩

theorem State.monReady_of {s : State} (h : s.monPending = []) : s.monReady = s := by
  simp only [State.monReady, h, List.filter_nil, List.foldl_nil]; rw [← h]

theorem State.arrive_of {s : State} (h : s.monPending = []) (hi : s.lock.inbox = []) : s.arrive = s := by
  rw [State.arrive, State.monReady_of h, State.detect_of hi]

/-- A command of a unit, from a still state to a still state: its effect is all it has. -/
theorem State.up_still {s : State} {f : State → State} (hs : s.still = true) (hf : (f s).still = true)
    (ho : (f s).outside = s.outside) : s.up f = f s := by
  obtain ⟨h1, h2, -⟩ := State.still_running hs
  simp [State.up, State.pinsAct, h1, h2, State.done_still hf, State.keep_of ho]

theorem State.alive_still {s : State} {f : State → State} (hs : s.still = true) (hf : (f s).still = true)
    (ho : (f s).outside = s.outside) : s.alive f = f s := by
  simp [State.alive, (State.still_running hs).1, State.done_still hf, State.keep_of ho]

theorem State.aliveAt_still {s : State} {f : State → State} {dt : Nat} (hs : s.still = true) (hf : (f (s.advance dt)).still = true)
    (ho : (f (s.advance dt)).outside = s.outside) : s.aliveAt dt f = f (s.advance dt) := by
  have h3 := (State.still_running hs).2.2
  have hm : (s.advance dt).arrive = s.advance dt := State.arrive_of (s := s.advance dt) h3 (s.still_spec hs).2.2.2.2.2.1
  have := State.alive_still (f := fun s => f (s.advance dt).arrive) hs (by rw [hm]; exact hf) (by rw [hm]; exact ho)
  rw [State.aliveAt, this, hm]

theorem State.upAt_still {s : State} {f : State → State} {dt : Nat} (hs : s.still = true) (hf : (f (s.advance dt)).still = true)
    (ho : (f (s.advance dt)).outside = s.outside) : s.upAt dt f = f (s.advance dt) := by
  obtain ⟨h1, h2, h3⟩ := State.still_running hs
  have hm : (s.advance dt).arrive = s.advance dt := State.arrive_of (s := s.advance dt) h3 (s.still_spec hs).2.2.2.2.2.1
  have hi : (s.advance dt).modeCode ≠ INIT := h2
  have := State.alive_still (f := fun s => if (s.advance dt).arrive.modeCode = INIT then (s.advance dt).arrive else f (s.advance dt).arrive)
    hs (by rw [hm, if_neg hi]; exact hf) (by rw [hm, if_neg hi]; exact ho)
  rw [hm, if_neg hi] at this
  exact this

/-- What a command of a unit answers, from its effect. -/
theorem State.next_up {s r : State} {f : State → State} (hs : s.still = true) (he : f s = r) (hr : r.still = true)
    (ho : r.outside = s.outside) : (Host.Outcome.next (s.up f) : Host.Outcome State Fault Refusal) = .next r := by
  subst he; rw [State.up_still hs hr ho]
theorem State.next_alive {s r : State} {f : State → State} (hs : s.still = true) (he : f s = r) (hr : r.still = true)
    (ho : r.outside = s.outside) : (Host.Outcome.next (s.alive f) : Host.Outcome State Fault Refusal) = .next r := by
  subst he; rw [State.alive_still hs hr ho]
theorem State.next_upAt {s r : State} {f : State → State} {dt : Nat} (hs : s.still = true) (he : f (s.advance dt) = r)
    (hr : r.still = true) (ho : r.outside = s.outside) :
    (Host.Outcome.next (s.upAt dt f) : Host.Outcome State Fault Refusal) = .next r := by
  subst he; rw [State.upAt_still hs hr ho]
theorem State.next_aliveAt {s r : State} {f : State → State} {dt : Nat} (hs : s.still = true) (he : f (s.advance dt) = r)
    (hr : r.still = true) (ho : r.outside = s.outside) :
    (Host.Outcome.next (s.aliveAt dt f) : Host.Outcome State Fault Refusal) = .next r := by
  subst he; rw [State.aliveAt_still hs hr ho]

/-- What an edge of a pin answers, from its effect. -/
theorem State.next_pinEdge {s r : State} {dt : Nat} {c : Bool} {m : ModeSt → ModeSt} {f : State → State} (hs : s.still = true)
    (hc : c = true) (he : f (s.advance dt) = r) (hr : r.still = true) (ho : r.outside = s.outside) :
    (Host.Outcome.next (s.pinEdge dt c m f) : Host.Outcome State Fault Refusal) = .next r := by
  obtain ⟨h1, h2, -⟩ := State.still_running hs
  have h3 : (s.advance dt).modeCode ≠ INIT := h2
  have h4 : (s.advance dt).arrive = s.advance dt :=
    State.arrive_of (s := s.advance dt) (State.still_running hs).2.2 (s.still_spec hs).2.2.2.2.2.1
  simp only [State.pinEdge, h1, Bool.false_eq_true, if_false]
  refine State.next_alive hs ?_ hr ho
  simp only [h3, hc, if_true, if_false, h4, he]

end Sys2Proof.Machine
end

