-- ==== Sys2Proof/Laws/Host.lean ====
section
/-! SUPPORT. What a write of a master by itself does. -/

set_option Elab.async false

namespace Sys2Proof.Machine

/-- What holds of a state, and outlasts a write of LAST_SEEN_LT or REQUEST_COUNT of a master and a change of its record, holds
once a message has been received. -/
theorem State.received_of {P : State → Prop} (s : State) (src : Source) (h : P s)
    (hw : ∀ s k v, k < 4 → P s → P (s.wr (Reg.lastSeenLt k) v) ∧ P (s.wr (Reg.requestCount k) v))
    (hm : ∀ s k f, P s → P (s.modMaster k f)) : P (s.received src) := by
  have hf : ∀ {s : State} {src : Source} {k : Nat}, s.masterOf src = some k → k < 4 := by
    intro s src k h
    cases src <;> simp only [State.masterOf, State.ethMaster] at h <;> exact List.mem_range.1 (List.mem_of_find?_eq_some h)
  have hs : P (s.seenFrom src) := by
    cases src with
    | eth mac p =>
      simp only [State.seenFrom, State.seen]
      split
      · next k hk => exact hm _ _ _ (hw _ _ _ (hf (src := .eth mac p) hk) h).1
      · exact h
    | can =>
      simp only [State.seenFrom]
      split
      · next k hk => exact hm _ _ _ (hw _ _ _ (hf (src := .can) hk) h).1
      · exact h
  unfold State.received State.countMsg
  split
  · next k hk => exact (hw _ _ _ (hf hk) hs).2
  · exact hs

/-- Objects outside the records of the masters are as they were. -/
theorem State.rd_received (s : State) (src : Source) {j : Nat} (h : ∀ k, k < 4 → j ≠ Reg.lastSeenLt k ∧ j ≠ Reg.requestCount k) :
    (s.received src).rd j = s.rd j :=
  s.received_of (P := fun t => t.rd j = s.rd j) src rfl
    (fun t k v hk ht => ⟨(t.rd_wr_ne v (h k hk).1).trans ht, (t.rd_wr_ne v (h k hk).2).trans ht⟩) fun _ _ _ ht => ht

theorem State.still_received {s : State} (src : Source) (hs : s.still = true) : (s.received src).still = true :=
  s.received_of (P := fun t => t.still = true) src hs
    (fun t k v hk ht => ⟨by rw [State.still_wr _ _ (stillKey_regKey (by omega) (by omega))]; exact ht,
      by rw [State.still_wr _ _ (stillKey_regKey (by omega) (by omega))]; exact ht⟩)
    fun t k f ht => by rw [State.still_modMaster]; exact ht

@[simp] theorem State.outside_received (s : State) (src : Source) : (s.received src).outside = s.outside :=
  s.received_of (P := fun t => t.outside = s.outside) src rfl (fun t k v _ ht => ⟨by simpa using ht, by simpa using ht⟩)
    fun t k f ht => by simpa using ht

@[simp] theorem State.lt_received (s : State) (src : Source) : (s.received src).lt = s.lt :=
  s.received_of (P := fun t => t.lt = s.lt) src rfl (fun _ _ _ _ ht => ⟨ht, ht⟩) fun _ _ _ ht => ht

theorem State.masterOf_received (s : State) (src src' : Source) : (s.received src).masterOf src' = s.masterOf src' := by
  have h1 : ∀ k, (s.received src).rd (Reg.masterState k) = s.rd (Reg.masterState k) := fun k =>
    s.rd_received src fun j _ => ⟨regKey_ne (by omega) (by omega) (by omega), regKey_ne (by omega) (by omega) (by omega)⟩
  have h2 : ∀ k, (s.received src).rd (Reg.masterMac k) = s.rd (Reg.masterMac k) := fun k =>
    s.rd_received src fun j _ => ⟨regKey_ne (by omega) (by omega) (by omega), regKey_ne (by omega) (by omega) (by omega)⟩
  cases src' <;> simp only [State.masterOf, State.ethMaster, h1, h2]

theorem regKey_self (k : Nat) : regKey (keyIndex k) (keySub k) = k := by simp only [regKey, keyIndex, keySub]; omega

theorem State.masterOf_speaks {s : State} {src : Source} {n : Nat} (h : s.speaks src n = true) :
    s.heard src = true ∧ s.masterOf src = some n ∧ s.unheld = true := by
  simpa [State.speaks, and_assoc] using h

/-- Where no request waits for the memory, only one of MEM_DATA can be held. -/
theorem State.memHeld_of {s : State} (src : Source) {m : Msg} (h : s.unheld = true) (hm : m.ofMemData = false) : s.memHeld src m = false := by
  have h' : (s.net.held.any fun (q : Request) => q.won) = false := by simpa [State.unheld] using h
  simp only [State.memHeld, hm, Bool.and_false, Bool.false_or]
  rw [List.any_eq_false] at h' ⊢
  intro q hq
  simp [h' q hq]

theorem State.unheld_received {s : State} (src : Source) (h : s.unheld = true) : (s.received src).unheld = true :=
  s.received_of (P := fun t => t.unheld = true) src h (fun _ _ _ _ ht => ⟨ht, ht⟩) fun _ _ _ ht => ht

/-- A write of a command object goes to the command. -/
theorem State.doWrite_command (s : State) {index sub : Nat} {b : List Nat} {src : Option Nat} {r : Row} (h1 : ¬(0x5000 ≤ index ∧ index < 0x6000))
    (h2 : Dict.hasIndex index = true) (hs : sub < 256) (h3 : Dict.row? (regKey index sub) = some r) (h4 : r.access = .wo)
    (h5 : lengthFits r b.length = true) : s.doWrite index sub b src = s.commandObject (regKey index sub) b src := by
  simp [State.doWrite, h1, h2, hs, h3, h4, h5]

/-- A write of another object goes to its checks. -/
theorem State.doWrite_object (s : State) {index sub : Nat} {b : List Nat} {src : Option Nat} {r : Row} (h1 : ¬(0x5000 ≤ index ∧ index < 0x6000))
    (h2 : Dict.hasIndex index = true) (hs : sub < 256) (h3 : Dict.row? (regKey index sub) = some r) (h4 : r.access ≠ .wo) :
    s.doWrite index sub b src = s.writeObject r (regKey index sub) b := by
  simp [State.doWrite, h1, h2, hs, h3, h4]

/-- What a write of a registered master answers. -/
theorem State.next_hostWrite {s t : State} {src : Source} {dt n k c : Nat} {b : List Nat} (hs : s.still = true)
    (h : (s.advance dt).speaks src n = true) (hk : k ≠ Reg.memData)
    (hw : ((s.advance dt).received src).masterWrite n src (keyIndex k) (keySub k) b = (t, c)) (ht : t.still = true)
    (ho : t.outside = s.outside) :
    (Host.Outcome.next (s.upAt dt fun s => s.hostWriteBytes src k b) : Host.Outcome State Fault Refusal) = .next (t.answer c []) := by
  obtain ⟨h1, h2, hu⟩ := State.masterOf_speaks h
  have hh := State.memHeld_of (s := (((s.advance dt).seenFrom src).countMsg src 1)) src
    (m := { service := svcWRITE, tag := 0, index := keyIndex k, sub := keySub k, data := b })
    (State.unheld_received src hu) (by simp [Msg.ofMemData, regKey_self, hk])
  have h3 : (((s.advance dt).seenFrom src).countMsg src 1).masterOf src = some n := ((s.advance dt).masterOf_received src src).trans h2
  refine State.next_upAt hs ?_ (by rw [State.still_answer]; exact ht) (by rw [State.outside_answer]; exact ho)
  simp only [State.hostWriteBytes, h1, Bool.not_true, Bool.false_eq_true, if_false, h3, hh]
  have hw' : (((s.advance dt).seenFrom src).countMsg src 1).masterWrite n src (keyIndex k) (keySub k) b = (t, c) := hw
  rw [hw']

/-- A sub-entry that is written as a command, by `n` bytes. -/
def isCommand (k n : Nat) : Bool :=
  !(decide (0x5000 ≤ keyIndex k) && decide (keyIndex k < 0x6000)) && Dict.hasIndex (keyIndex k) &&
    match Dict.row? k with
    | some r => r.access == .wo && lengthFits r n
    | none => false

theorem State.doWrite_isCommand (s : State) {k : Nat} {b : List Nat} (src : Option Nat) (h : isCommand k b.length = true) :
    s.doWrite (keyIndex k) (keySub k) b src = s.commandObject k b src := by
  simp only [isCommand, Bool.and_eq_true, Bool.not_eq_true', Bool.and_eq_false_iff, decide_eq_false_iff_not] at h
  obtain ⟨⟨h1, h2⟩, h3⟩ := h
  split at h3
  · next r hr =>
    simp only [Bool.and_eq_true, beq_iff_eq] at h3
    have := s.doWrite_command (index := keyIndex k) (sub := keySub k) (b := b) (src := src) (r := r) (by omega) h2
      (by simp only [keySub]; omega) (by rw [regKey_self]; exact hr) h3.1 h3.2
    rw [this, regKey_self]
  · cases h3

/-- What a write of a command by a registered master answers; `c` is the abort code. -/
theorem State.next_command {s t : State} {src : Source} {dt n k c : Nat} {b : List Nat} (hs : s.still = true)
    (h : (s.advance dt).speaks src n = true) (hk : isCommand k b.length = true) (hm : k ≠ Reg.memData)
    (hn : needsToken k b = false ∨ ((s.advance dt).received src).rd Reg.tokenHolder = n)
    (hw : ((s.advance dt).received src).commandObject k b src.portNo = (t, c)) (ht : t.still = true) (ho : t.outside = s.outside) :
    (Host.Outcome.next (s.upAt dt fun s => s.hostWriteBytes src k b) : Host.Outcome State Fault Refusal) = .next (t.answer c []) := by
  refine State.next_hostWrite hs h hm ?_ ht ho
  rw [State.masterWrite, State.doWrite_isCommand _ _ hk, if_neg, hw]
  rw [regKey_self]
  rcases hn with hn | hn
  · simp [hn]
  · simp [hn]

/-- What a write of another object by a registered master answers. -/
theorem State.next_object {s t : State} {src : Source} {dt n k c : Nat} {b : List Nat} {r : Row} (hs : s.still = true)
    (h : (s.advance dt).speaks src n = true) (hv : ¬(0x5000 ≤ keyIndex k ∧ keyIndex k < 0x6000)) (hi : Dict.hasIndex (keyIndex k) = true)
    (hr : Dict.row? k = some r) (ha : r.access ≠ .wo) (hn : needsToken k b = false) (hm : k ≠ Reg.memData)
    (hw : ((s.advance dt).received src).writeObject r k b = (t, c)) (ht : t.still = true) (ho : t.outside = s.outside) :
    (Host.Outcome.next (s.upAt dt fun s => s.hostWriteBytes src k b) : Host.Outcome State Fault Refusal) = .next (t.answer c []) := by
  refine State.next_hostWrite hs h hm ?_ ht ho
  rw [State.masterWrite, State.doWrite_object _ hv hi (by simp only [keySub]; omega) (by rw [regKey_self]; exact hr) ha, if_neg, regKey_self, hw]
  rw [regKey_self, hn]; simp

end Sys2Proof.Machine
end

