-- ==== Sys2Proof/Laws/Lane.lean ====
section
/-! SUPPORT. A packet read from the characters that it is sent as is that packet (R358 to R361). -/

namespace Sys2Proof.Machine

@[simp] theorem leBytes_length (n v : Nat) : (leBytes n v).length = n := by
  induction n generalizing v with
  | zero => rfl
  | succ n ih => simp [leBytes, ih]

theorem leBytes_lt {n v x : Nat} (h : x ∈ leBytes n v) : x < 256 := by
  induction n generalizing v with
  | zero => simp [leBytes] at h
  | succ n ih =>
    simp only [leBytes, List.mem_cons] at h
    rcases h with rfl | h
    · omega
    · exact ih h

theorem ofLeBytes_leBytes (n v : Nat) : ofLeBytes (leBytes n v) = v % 256 ^ n := by
  induction n generalizing v with
  | zero => simp [leBytes, ofLeBytes, Nat.mod_one]
  | succ n ih =>
    simp only [leBytes, ofLeBytes, ih, Nat.pow_succ, Nat.mul_comm (256 ^ n) 256, Nat.mod_mul]
    omega

theorem crcByte_lt (c b : Nat) (h : c < 2 ^ 32) : crcByte c b < 2 ^ 32 := by
  have hb : ∀ c, c < 2 ^ 32 → crcBit c < 2 ^ 32 := by
    intro c h
    unfold crcBit
    split
    · exact Nat.xor_lt_two_pow (by omega) (by decide)
    · omega
  have hx : Nat.xor c (b % 256) < 2 ^ 32 := Nat.xor_lt_two_pow h (by omega)
  unfold crcByte
  exact hb _ (hb _ (hb _ (hb _ (hb _ (hb _ (hb _ (hb _ hx)))))))

theorem crc32_lt (l : List Nat) : crc32 l < 2 ^ 32 := by
  have h : ∀ (l : List Nat) (c : Nat), c < 2 ^ 32 → l.foldl crcByte c < 2 ^ 32 := by
    intro l
    induction l with
    | nil => intro c h; exact h
    | cons b l ih => intro c h; exact ih _ (crcByte_lt c b h)
  exact Nat.xor_lt_two_pow (h l _ (by decide)) (by decide)

/-- A packet is read as its header and body say. -/
theorem rxParse_packetChars {ty camera frame : Nat} {body : List Nat} (h1 : ty < 256) (h2 : camera < 256) (h3 : frame < 2 ^ 32)
    (h4 : ∀ b ∈ body, b < 256) (h5 : body.length < 2 ^ 16) :
    rxParse (packetChars ty camera frame body) = rxMeaning ty camera frame body := by
  obtain ⟨n, hn⟩ : ∃ n, n = body.length := ⟨_, rfl⟩
  rw [← hn] at h5
  obtain ⟨hd, hhd⟩ : ∃ hd, hd = [ty, camera] ++ leBytes 2 n ++ leBytes 4 frame := ⟨_, rfl⟩
  have hl : hd.length = 8 := by simp [hhd]
  obtain ⟨crc, hcrc⟩ : ∃ crc, crc = leBytes 4 (crc32 (hd ++ body)) := ⟨_, rfl⟩
  have hcl : crc.length = 4 := by simp [hcrc]
  have hc : packetChars ty camera frame body = hd ++ body ++ crc ++ [charEnd] := by
    simp [packetChars, vtxPacket, hhd, hcrc, hn]
  have e1 : ofLeBytes (((hd ++ body ++ crc ++ [charEnd]).drop 2).take 2) = n := by
    have : ((hd ++ body ++ crc ++ [charEnd]).drop 2).take 2 = leBytes 2 n := by simp [hhd, leBytes]
    rw [this, ofLeBytes_leBytes]; exact Nat.mod_eq_of_lt (by simpa using h5)
  have e2 : ofLeBytes (((hd ++ body ++ crc ++ [charEnd]).drop 4).take 4) = frame := by
    have : ((hd ++ body ++ crc ++ [charEnd]).drop 4).take 4 = leBytes 4 frame := by simp [hhd, leBytes]
    rw [this, ofLeBytes_leBytes]; exact Nat.mod_eq_of_lt (by simpa using h3)
  have e3 : (hd ++ body ++ crc ++ [charEnd]).take (12 + n) = hd ++ body ++ crc := by
    rw [List.take_append_of_le_length (by simp [hl, hcl]; omega), List.take_of_length_le (by simp [hl, hcl]; omega)]
  have e4 : (hd ++ body ++ crc ++ [charEnd])[12 + n]? = some charEnd := by
    rw [List.getElem?_append_right (by simp [hl, hcl]; omega)]
    simp [hl, hcl, show 12 + n - (8 + (body.length + 4)) = 0 by omega]
  have e5 : (hd ++ body ++ crc).drop (8 + n) = crc := by
    rw [List.drop_append_of_le_length (by simp [hl]; omega), List.drop_of_length_le (by simp [hl]; omega)]; simp
  have e6 : (hd ++ body ++ crc).take (8 + n) = hd ++ body := by
    rw [List.take_append_of_le_length (by simp [hl]; omega), List.take_of_length_le (by simp [hl]; omega)]
  have e7 : ((hd ++ body ++ crc ++ [charEnd]).drop 8).take n = body := by
    have : (hd ++ body ++ crc ++ [charEnd]).drop 8 = body ++ crc ++ [charEnd] := by
      rw [List.append_assoc, List.append_assoc, List.drop_append_of_le_length (by omega), List.drop_of_length_le (by omega)]
      simp
    rw [this, List.append_assoc, List.take_append_of_le_length (by omega), List.take_of_length_le (by omega)]
  have e8 : (hd ++ body ++ crc).any (fun c => decide (c ≥ 256)) = false := by
    rw [List.any_eq_false]
    intro x hx
    have : x < 256 := by
      simp only [hhd, hcrc, List.mem_append, List.mem_cons, List.not_mem_nil, or_false] at hx
      rcases hx with ((((rfl | rfl) | hx) | hx) | hx) | hx
      · exact h1
      · exact h2
      · exact leBytes_lt hx
      · exact leBytes_lt hx
      · exact h4 _ hx
      · exact leBytes_lt hx
    simp; omega
  have e9 : ofLeBytes crc = crc32 (hd ++ body) := by
    rw [hcrc, ofLeBytes_leBytes]; exact Nat.mod_eq_of_lt (by simpa using crc32_lt _)
  have e10 : (hd ++ body ++ crc ++ [charEnd]).getD 0 0 = ty := by simp [hhd]
  have e11 : (hd ++ body ++ crc ++ [charEnd]).getD 1 0 = camera := by simp [hhd]
  have e12 : ¬(hd ++ body ++ crc ++ [charEnd]).length < 12 := by simp [hl, hcl]; omega
  rw [hc]
  simp only [rxParse, e1, e2, e3, e4, e5, e6, e7, e8, e9, e10, e11, e12, if_false, Bool.false_eq_true, ne_eq, not_true]

theorem toSigned_ofSigned32 {z : Int} (h : -(2 ^ 31 : Int) ≤ z) (h' : z < 2 ^ 31) : toSigned 32 (ofSigned 32 z) = z := by
  have e : ((2 ^ 32 : Nat) : Int) = 4294967296 := by decide
  simp only [toSigned, ofSigned, e]
  split <;> omega

theorem body_lt {l : List Nat} (vs : List Nat) (h : l = vs.flatMap (leBytes 4)) : ∀ b ∈ l, b < 256 := by
  subst h; intro b hb
  obtain ⟨v, -, hv⟩ := List.mem_flatMap.1 hb
  exact leBytes_lt hv

/-- Behind a packet's header, a word of the body. -/
theorem word_leBytes (v : Nat) : ofLeBytes (leBytes 4 v) = v % 2 ^ 32 := ofLeBytes_leBytes 4 v

/-- A CORRECTION on a lane that carries characters. -/
theorem State.rxPacket_correction {s : State} {i c f : Nat} {dx dy : Int} (hu : s.laneUp i = true) (hc : c < 32) (hf : f < 2 ^ 32)
    (hx : -(2 ^ 31 : Int) ≤ dx ∧ dx < 2 ^ 31) (hy : -(2 ^ 31 : Int) ≤ dy ∧ dy < 2 ^ 31) :
    s.rxPacket i (packetChars 0x01 c f (leBytes 4 (ofSigned 32 dx) ++ leBytes 4 (ofSigned 32 dy))) = s.rxCorrection c f dx dy := by
  have hm : ∀ z : Int, ofSigned 32 z % 2 ^ 32 = ofSigned 32 z := by
    intro z; unfold ofSigned
    have e : ((2 ^ 32 : Nat) : Int) = 4294967296 := by decide
    rw [e]; omega
  rw [State.rxPacket, hu, rxParse_packetChars (by decide) (by omega) hf (body_lt [ofSigned 32 dx, ofSigned 32 dy] (by simp)) (by simp)]
  have : rxMeaning 0x01 c f (leBytes 4 (ofSigned 32 dx) ++ leBytes 4 (ofSigned 32 dy)) = some (.correction c f dx dy) := by
    have e1 : ((leBytes 4 (ofSigned 32 dx) ++ leBytes 4 (ofSigned 32 dy)).drop (4 * 0)).take 4 = leBytes 4 (ofSigned 32 dx) := by simp [leBytes]
    have e2 : ((leBytes 4 (ofSigned 32 dx) ++ leBytes 4 (ofSigned 32 dy)).drop (4 * 1)).take 4 = leBytes 4 (ofSigned 32 dy) := by simp [leBytes]
    simp only [rxMeaning, e1, e2, word_leBytes, hm, toSigned_ofSigned32 hx.1 hx.2, toSigned_ofSigned32 hy.1 hy.2]
    simp [show ¬ c > 31 by omega]
  rw [this]
  rfl

/-- STATS on a lane that carries characters. -/
theorem State.rxPacket_stats {s : State} {i c f a b d : Nat} (hu : s.laneUp i = true) (hc : c < 32) (hf : f < 2 ^ 32)
    (ha : a < 2 ^ 32) (hb : b < 2 ^ 32) (hd : d < 2 ^ 32) :
    s.rxPacket i (packetChars 0x02 c f (leBytes 4 a ++ leBytes 4 b ++ leBytes 4 d ++ leBytes 4 0)) = s.rxStats c f a b d := by
  rw [State.rxPacket, hu, rxParse_packetChars (by decide) (by omega) hf (body_lt [a, b, d, 0] (by simp)) (by simp)]
  have : rxMeaning 0x02 c f (leBytes 4 a ++ leBytes 4 b ++ leBytes 4 d ++ leBytes 4 0) = some (.stats c f a b d) := by
    have e (j : Nat) (v : Nat) (h : ((leBytes 4 a ++ leBytes 4 b ++ leBytes 4 d ++ leBytes 4 0).drop (4 * j)).take 4 = leBytes 4 v)
        (hv : v < 2 ^ 32) : ofLeBytes (((leBytes 4 a ++ leBytes 4 b ++ leBytes 4 d ++ leBytes 4 0).drop (4 * j)).take 4) = v := by
      rw [h, word_leBytes, Nat.mod_eq_of_lt hv]
    simp only [rxMeaning, e 0 a (by simp [leBytes]) ha, e 1 b (by simp [leBytes]) hb, e 2 d (by simp [leBytes]) hd,
      e 3 0 (by simp [leBytes]) (by decide)]
    simp [show ¬ c > 31 by omega]
  rw [this]
  rfl

theorem rxParse_heartbeat {ty c f : Nat} {body : List Nat} (h1 : ty = 0x03) (h2 : c = 0) (h3 : f = 0) (h4 : body = []) :
    rxParse (packetChars ty c f body) = some .heartbeat := by
  rw [rxParse_packetChars (by omega) (by omega) (by omega) (by simp [h4]) (by simp [h4])]
  simp [rxMeaning, h1, h2, h3, h4]

theorem State.rxPacket_of_heartbeat {s : State} {i : Nat} {chars : List Nat} (hu : s.laneUp i = true)
    (h : rxParse chars = some .heartbeat) : s.rxPacket i chars = s.rxAccept := by
  simp [State.rxPacket, hu, h]

/-- A HEARTBEAT on a lane that carries characters. -/
theorem State.rxPacket_heartbeat {s : State} {i : Nat} (hu : s.laneUp i = true) : s.rxPacket i (packetChars 0x03 0 0 []) = s.rxAccept :=
  s.rxPacket_of_heartbeat hu (rxParse_heartbeat rfl rfl rfl rfl)

/-- Nothing arrives on a lane that carries no characters. -/
theorem State.rxPacket_down {s : State} {i : Nat} (chars : List Nat) (hu : s.laneUp i = false) : s.rxPacket i chars = s := by
  rw [State.rxPacket, hu]; rfl

end Sys2Proof.Machine
end

