-- ==== Sys2Proof/Laws/Memory.lean ====
section
/-! SUPPORT. Laws of the addressed memories: a read after a write, and the canonical form that every operation keeps. -/

set_option Elab.async false

namespace Sys2Proof.Machine

theorem memRead_memErase_self (d : Byte) (m : List Host.Cell) (a : Nat) : memRead d (memErase m a) a = d := by
  induction m with
  | nil => rfl
  | cons e m ih =>
    obtain ⟨a', b⟩ := e
    by_cases h : a' = a <;> simp [memErase, memRead, h, ih]

theorem memRead_memErase_ne (d : Byte) (m : List Host.Cell) {a x : Nat} (h : x ≠ a) :
    memRead d (memErase m a) x = memRead d m x := by
  induction m with
  | nil => rfl
  | cons e m ih =>
    obtain ⟨a', b⟩ := e
    by_cases ha : a' = a
    · subst ha; simp [memErase, memRead, ih, h.symm]
    · simp [memErase, memRead, ha, ih]

theorem memRead_memInsert_ne (d : Byte) (m : List Host.Cell) {a x : Nat} (b : Byte) (h : x ≠ a) :
    memRead d (memInsert m a b) x = memRead d m x := by
  induction m with
  | nil => simp [memInsert, memRead, h.symm]
  | cons e m ih =>
    obtain ⟨a', b'⟩ := e
    unfold memInsert
    split <;> simp [memRead, h.symm, ih]

/-- No cell of an address. -/
def noCell (a : Nat) (m : List Host.Cell) : Prop := ∀ c ∈ m, c.1 ≠ a

theorem noCell_memErase (m : List Host.Cell) (a : Nat) : noCell a (memErase m a) := by
  induction m with
  | nil => intro c h; simp [memErase] at h
  | cons e m ih =>
    obtain ⟨a', b⟩ := e
    unfold memErase
    split
    · exact ih
    · next h =>
      intro c hc
      rcases List.mem_cons.1 hc with rfl | hc
      · exact h
      · exact ih c hc

theorem memRead_memInsert_self {m : List Host.Cell} {a : Nat} (d b : Byte) (h : noCell a m) :
    memRead d (memInsert m a b) a = b := by
  induction m with
  | nil => simp [memInsert, memRead]
  | cons e m ih =>
    obtain ⟨a', b'⟩ := e
    have h' : a' ≠ a := h _ (List.mem_cons_self ..)
    have hm : noCell a m := fun c hc => h c (List.mem_cons_of_mem _ hc)
    unfold memInsert
    split <;> simp [memRead, h', ih hm]

/-- An address reads the byte written to it. -/
@[simp] theorem memRead_memWrite_self (d : Byte) (m : List Host.Cell) (a : Nat) (b : Byte) :
    memRead d (memWrite d m a b) a = b := by
  unfold memWrite
  split
  · next h => rw [memRead_memErase_self, h]
  · exact memRead_memInsert_self d b (noCell_memErase m a)

/-- A write leaves every other address alone. -/
theorem memRead_memWrite_ne (d : Byte) (m : List Host.Cell) {a x : Nat} (b : Byte) (h : x ≠ a) :
    memRead d (memWrite d m a b) x = memRead d m x := by
  unfold memWrite
  split
  · exact memRead_memErase_ne d m h
  · rw [memRead_memInsert_ne d _ b h, memRead_memErase_ne d m h]

/-- A write of bytes leaves every address outside them alone. -/
theorem memRead_memWriteBytes_ne (d : Byte) (l : List Nat) : ∀ (m : List Host.Cell) (a x : Nat),
    (x < a ∨ a + l.length ≤ x) → memRead d (memWriteBytes d m a l) x = memRead d m x := by
  induction l with
  | nil => intro m a x _; rfl
  | cons b l ih =>
    intro m a x h
    have hx : x ≠ a := by simp at h; omega
    rw [memWriteBytes, ih _ _ _ (by simp at h; omega), memRead_memWrite_ne d m _ hx]

/-- The address of each byte of a write reads that byte. -/
theorem memRead_memWriteBytes (d : Byte) (l : List Nat) : ∀ (m : List Host.Cell) (a i : Nat) (h : i < l.length),
    memRead d (memWriteBytes d m a l) (a + i) = BitVec.ofNat 8 l[i] := by
  induction l with
  | nil => intro m a i h; simp at h
  | cons b l ih =>
    intro m a i h
    cases i with
    | zero => simp [memWriteBytes, memRead_memWriteBytes_ne d l _ (a + 1) a (Or.inl (by omega))]
    | succ i =>
      have := ih (memWrite d m a (BitVec.ofNat 8 b)) (a + 1) i (by simpa using h)
      rw [show a + (i + 1) = a + 1 + i by omega, memWriteBytes, this]
      rfl

/-! ### The canonical form -/

/-- Every address of the list is above a bound. -/
def cellsAbove (x : Nat) : List Host.Cell → Prop
  | [] => True
  | (a, _) :: _ => x < a

theorem Memory.wf_cons {d : Byte} {a : Nat} {b : Byte} {m : List Host.Cell} :
    Memory.wf d ((a, b) :: m) = true ↔ b ≠ d ∧ cellsAbove a m ∧ Memory.wf d m = true := by
  cases m with
  | nil => simp [Memory.wf, cellsAbove]
  | cons e m =>
    obtain ⟨a', b'⟩ := e
    simp [Memory.wf, cellsAbove, and_assoc]

theorem cellsAbove_all {d : Byte} {x : Nat} {m : List Host.Cell} (h : cellsAbove x m) (hm : Memory.wf d m = true) :
    ∀ c ∈ m, x < c.1 := by
  induction m generalizing x with
  | nil => intro c hc; simp at hc
  | cons e m ih =>
    obtain ⟨a, b⟩ := e
    obtain ⟨-, ha, hw⟩ := Memory.wf_cons.1 hm
    intro c hc
    rcases List.mem_cons.1 hc with rfl | hc
    · exact h
    · exact Nat.lt_trans h (ih ha hw c hc)

theorem cellsAbove_of {x : Nat} {m : List Host.Cell} (h : ∀ c ∈ m, x < c.1) : cellsAbove x m := by
  cases m with
  | nil => trivial
  | cons e m => exact h e (List.mem_cons_self ..)

/-- A part of a canonical memory is canonical. -/
theorem Memory.wf_filter {d : Byte} {m : List Host.Cell} (p : Host.Cell → Bool) (h : Memory.wf d m = true) :
    Memory.wf d (m.filter p) = true := by
  induction m with
  | nil => rfl
  | cons e m ih =>
    obtain ⟨a, b⟩ := e
    obtain ⟨hb, ha, hw⟩ := Memory.wf_cons.1 h
    by_cases hp : p (a, b) = true
    · rw [List.filter_cons_of_pos hp]
      exact Memory.wf_cons.2 ⟨hb, cellsAbove_of fun c hc => cellsAbove_all ha hw c (List.mem_filter.1 hc).1, ih hw⟩
    · rw [List.filter_cons_of_neg hp]
      exact ih hw

theorem memErase_eq_filter (m : List Host.Cell) (a : Nat) : memErase m a = m.filter fun c => !decide (c.1 = a) := by
  induction m with
  | nil => rfl
  | cons e m ih =>
    obtain ⟨a', b⟩ := e
    by_cases h : a' = a <;> simp [memErase, h, ih]

theorem Memory.wf_memErase {d : Byte} {m : List Host.Cell} (a : Nat) (h : Memory.wf d m = true) :
    Memory.wf d (memErase m a) = true := by
  rw [memErase_eq_filter]; exact Memory.wf_filter _ h

theorem Memory.wf_memInsert {d b : Byte} {m : List Host.Cell} {a : Nat} (h : Memory.wf d m = true) (ha : noCell a m)
    (hb : b ≠ d) : Memory.wf d (memInsert m a b) = true := by
  induction m with
  | nil => simp [memInsert, Memory.wf, hb]
  | cons e m ih =>
    obtain ⟨a', b'⟩ := e
    obtain ⟨hb', ha', hw⟩ := Memory.wf_cons.1 h
    have hne : a' ≠ a := ha _ (List.mem_cons_self ..)
    have hm : noCell a m := fun c hc => ha c (List.mem_cons_of_mem _ hc)
    unfold memInsert
    split
    · next hlt =>
      refine Memory.wf_cons.2 ⟨hb', ?_, ih hw hm⟩
      cases m with
      | nil => exact hlt
      | cons e' m' =>
        obtain ⟨a'', b''⟩ := e'
        have h2 : a' < a'' := ha'
        unfold memInsert
        split
        · exact h2
        · exact hlt
    · next hge => exact Memory.wf_cons.2 ⟨hb, by show a < a'; omega, h⟩

/-- A write of one byte keeps the canonical form. -/
theorem Memory.wf_memWrite {d : Byte} {m : List Host.Cell} (a : Nat) (b : Byte) (h : Memory.wf d m = true) :
    Memory.wf d (memWrite d m a b) = true := by
  unfold memWrite
  split
  · exact Memory.wf_memErase a h
  · next hb => exact Memory.wf_memInsert (Memory.wf_memErase a h) (noCell_memErase m a) hb

/-- A write of bytes keeps the canonical form. -/
theorem Memory.wf_memWriteBytes {d : Byte} (l : List Nat) : ∀ {m : List Host.Cell} (a : Nat), Memory.wf d m = true →
    Memory.wf d (memWriteBytes d m a l) = true := by
  induction l with
  | nil => intro m a h; exact h
  | cons b l ih => intro m a h; exact ih (a + 1) (Memory.wf_memWrite a _ h)

/-- The clearing of a range keeps the canonical form. -/
theorem Memory.wf_memClear {d : Byte} {m : List Host.Cell} (lo n : Nat) (h : Memory.wf d m = true) :
    Memory.wf d (memClear m lo n) = true := Memory.wf_filter _ h

/-- An address in a cleared range reads as an unlisted one. -/
theorem memRead_filter_out (d : Byte) (m : List Host.Cell) (p : Host.Cell → Bool) {x : Nat} (h : ∀ b, p (x, b) = false) :
    memRead d (m.filter p) x = d := by
  induction m with
  | nil => rfl
  | cons e m ih =>
    obtain ⟨a, b⟩ := e
    by_cases hp : p (a, b) = true
    · have : a ≠ x := by rintro rfl; rw [h b] at hp; cases hp
      rw [List.filter_cons_of_pos hp, memRead, if_neg this, ih]
    · rw [List.filter_cons_of_neg hp, ih]

theorem memRead_memClear_in (d : Byte) (m : List Host.Cell) {lo n x : Nat} (h1 : lo ≤ x) (h2 : x < lo + n) :
    memRead d (memClear m lo n) x = d :=
  memRead_filter_out d m _ fun _ => by simp [h1, h2]

/-- An address outside a cleared range keeps its byte. -/
theorem memRead_memClear_out (d : Byte) (m : List Host.Cell) {lo n x : Nat} (h : x < lo ∨ lo + n ≤ x) :
    memRead d (memClear m lo n) x = memRead d m x := by
  induction m with
  | nil => rfl
  | cons e m ih =>
    obtain ⟨a, b⟩ := e
    unfold memClear at ih ⊢
    by_cases hp : lo ≤ a ∧ a < lo + n
    · have : a ≠ x := by omega
      rw [List.filter_cons_of_neg (by simp [hp]), ih, memRead, if_neg this]
    · rw [List.filter_cons_of_pos (by simp; omega), memRead, memRead, ih]

end Sys2Proof.Machine
end

