-- ==== Sys2Proof/Laws/PerInstr.lean ====
section
/-! SUPPORT. The per-command family WellFormedShape: a well-formed command that carries a source carries one that is a port of
the device. -/

set_option Elab.async false

namespace Sys2Proof.Laws.WellFormedShape

open Sys2Proof.Machine

/-- The source a command carries. -/
def source : Instr → Option Source
  | .resetNAssert => none
  | .supplyTrip => none
  | .supplyRecovered => none
  | .resetNRelease => none
  | .initComplete _ _ _ _ => none
  | .autoTrack _ => none
  | .sectorEraseComplete _ => none
  | .holdNFall _ => none
  | .holdNRise _ => none
  | .clearAxNFall _ => none
  | .clearAxNRise _ => none
  | .clearLmNFall _ => none
  | .clearLmNRise _ => none
  | .pfailNFall _ => none
  | .persistWriteComplete _ => none
  | .pfailNRecover _ => none
  | .sampleInstant _ _ _ => none
  | .demodOutput _ _ => none
  | .encEdge _ => none
  | .loopBoundary _ _ _ => none
  | .pdInSnapshot => none
  | .computeWindow _ _ _ => none
  | .outputInstant _ _ => none
  | .carrierStop _ _ => none
  | .carrierStart _ _ => none
  | .amplitudeStep _ _ => none
  | .resetSwitchClose _ _ => none
  | .resetSwitchOpen _ _ => none
  | .thermWindow _ => none
  | .driverIlimit _ _ _ => none
  | .monitorSample _ => none
  | .rangeSwitchOpen _ => none
  | .rangeSwitchClose _ => none
  | .rangeChangeDone _ => none
  | .lmoIlim _ _ => none
  | .lmoOverTemp _ _ => none
  | .samplePllLockLoss _ _ => none
  | .realignComplete _ => none
  | .gateOpen _ => none
  | .gateClose _ => none
  | .lmoWrite _ => none
  | .profileStart _ => none
  | .profileSample _ => none
  | .ctAssert _ => none
  | .ctRelease _ => none
  | .latch => none
  | .capture => none
  | .markEvent => none
  | .sampleNFall _ => none
  | .ssiLatch _ _ => none
  | .ssiTimeout _ => none
  | .readRecords _ _ _ _ _ => none
  | .readLatch _ _ _ _ _ _ => none
  | .pulseEdge _ _ _ _ => none
  | .plsPreset _ src _ _ => some src
  | .encEnable _ src _ _ => some src
  | .canRequest _ _ _ => none
  | .canBusError _ _ _ => none
  | .canBusOffRecovery _ => none
  | .frameReceive _ _ _ _ => none
  | .access _ mac port _ => some (.eth mac port)
  | .read _ src _ _ => some src
  | .write _ src _ _ _ => some src
  | .readPart _ src _ _ _ _ => some src
  | .writePart _ src _ _ _ _ => some src
  | .writeLast _ src _ _ _ _ => some src
  | .readDesc _ src _ _ => some src
  | .register _ src _ => some src
  | .deregister _ src => some src
  | .tokenTake _ src _ => some src
  | .tokenRelease _ src => some src
  | .pdOut _ mac port _ _ => some (.eth mac port)
  | .eventAck _ mac port _ => some (.eth mac port)
  | .eventPushRetry _ => none
  | .masterTimeout _ => none
  | .assemblyTimeout _ => none
  | .linkDown _ _ => none
  | .linkUp _ _ => none
  | .sync _ _ _ _ _ _ _ _ _ => none
  | .followUp _ _ _ _ _ _ _ => none
  | .announce _ _ _ _ _ _ _ => none
  | .announceTimeout _ => none
  | .syncTimeout _ => none
  | .revertiveSwitch => none
  | .pdelayReq _ _ _ _ _ => none
  | .pdelayReqSend _ _ => none
  | .pdelayResp _ _ _ _ _ => none
  | .ltStep _ => none
  | .refreshTick _ _ _ => none
  | .mr4Read _ _ => none
  | .trackingStep _ _ _ => none
  | .patrolRead _ _ _ => none
  | .trajReadComplete _ _ _ => none
  | .trainingComplete _ _ _ => none
  | .freqSwitchComplete _ _ _ => none
  | .memDataWrite _ src _ _ => some src
  | .memDataRead _ src _ => some src
  | .correction _ _ _ _ _ _ => none
  | .stats _ _ _ _ _ _ _ => none
  | .heartbeat _ _ => none
  | .laneSync _ _ => none
  | .laneSyncLoss _ _ => none
  | .aliveTimeout => none
  | .vtxHeartbeat => none
  | .frameTagComplete _ => none
  | .eventAdmit => none
  | .poundCommit _ src _ => some src
  | .poundDiscard _ src _ => some src
  | .bundledCommit _ src _ _ => some src
  | .bundledDiscard _ src _ _ => some src
  | .modeCmdConfigure _ src => some src
  | .modeCmdCalibrate _ src => some src
  | .modeCmdTrack _ src => some src
  | .modeCmdServo _ src => some src
  | .modeCmdBuild _ src => some src
  | .modeCmdHold _ src => some src
  | .modeCmdTest _ src => some src
  | .park _ src _ _ => some src
  | .returnUnit _ src _ _ => some src
  | .resume _ src _ _ => some src
  | .stop _ src _ => some src
  | .abandon _ src _ => some src
  | .faultClear _ src => some src
  | .lmoClearFault _ src _ => some src
  | .bankSwapConfigure _ src _ _ => some src
  | .profileWrData _ src _ => some src
  | .schedEntry _ src _ => some src
  | .schedFlush _ src => some src
  | .save _ src => some src
  | .storeSaveComplete _ _ => none
  | .erase _ src => some src
  | .selftestLogic _ src => some src
  | .selftestMemory _ src => some src
  | .selftestBoth _ src => some src
  | .selftestComplete _ _ => none
  | .captureArm _ src _ => some src
  | .captureFire _ src _ => some src
  | .captureStop _ src _ => some src
  | .calPartEnd _ _ _ _ _ _ _ => none
  | .calDone _ => none
  | .samplePllLocked _ => none
  | .lmoOverTempClear _ _ => none
  | .ilimitClear _ _ _ => none
  | .lmoIlimClear _ _ => none
  | .laserSafeComplete => none
  | .rxBadPacket _ _ => none
  | .frameTransmissionEnd _ _ => none
  | .ssiClockEdge _ _ _ => none

/-- The source of a well-formed command is a port of the device. -/
def Statement (i : Instr) : Prop := i.wellFormed = true → ∀ src, source i = some src → sourceFits src = true

theorem resetNAssert : Statement (.resetNAssert) := by
  intro _ src e
  cases e

theorem supplyTrip : Statement (.supplyTrip) := by
  intro _ src e
  cases e

theorem supplyRecovered : Statement (.supplyRecovered) := by
  intro _ src e
  cases e

theorem resetNRelease : Statement (.resetNRelease) := by
  intro _ src e
  cases e

theorem initComplete (x0 : Nat) (x1 : Nat) (x2 : Nat) (x3 : Nat) : Statement (.initComplete x0 x1 x2 x3) := by
  intro _ src e
  cases e

theorem autoTrack (x0 : Nat) : Statement (.autoTrack x0) := by
  intro _ src e
  cases e

theorem sectorEraseComplete (x0 : Nat) : Statement (.sectorEraseComplete x0) := by
  intro _ src e
  cases e

theorem holdNFall (x0 : Nat) : Statement (.holdNFall x0) := by
  intro _ src e
  cases e

theorem holdNRise (x0 : Nat) : Statement (.holdNRise x0) := by
  intro _ src e
  cases e

theorem clearAxNFall (x0 : Nat) : Statement (.clearAxNFall x0) := by
  intro _ src e
  cases e

theorem clearAxNRise (x0 : Nat) : Statement (.clearAxNRise x0) := by
  intro _ src e
  cases e

theorem clearLmNFall (x0 : Nat) : Statement (.clearLmNFall x0) := by
  intro _ src e
  cases e

theorem clearLmNRise (x0 : Nat) : Statement (.clearLmNRise x0) := by
  intro _ src e
  cases e

theorem pfailNFall (x0 : PinFall) : Statement (.pfailNFall x0) := by
  intro _ src e
  cases e

theorem persistWriteComplete (x0 : Nat) : Statement (.persistWriteComplete x0) := by
  intro _ src e
  cases e

theorem pfailNRecover (x0 : Nat) : Statement (.pfailNRecover x0) := by
  intro _ src e
  cases e

theorem sampleInstant (x0 : List (Nat × Int)) (x1 : List (Nat × Int)) (x2 : List Nat) : Statement (.sampleInstant x0 x1 x2) := by
  intro _ src e
  cases e

theorem demodOutput (x0 : Nat) (x1 : List Nat) : Statement (.demodOutput x0 x1) := by
  intro _ src e
  cases e

theorem encEdge (x0 : Nat) : Statement (.encEdge x0) := by
  intro _ src e
  cases e

theorem loopBoundary (x0 : Nat) (x1 : List SramErr) (x2 : List (Nat × MemErr)) : Statement (.loopBoundary x0 x1 x2) := by
  intro _ src e
  cases e

theorem pdInSnapshot : Statement (.pdInSnapshot) := by
  intro _ src e
  cases e

theorem computeWindow (x0 : Nat) (x1 : List Nat) (x2 : List SramErr) : Statement (.computeWindow x0 x1 x2) := by
  intro _ src e
  cases e

theorem outputInstant (x0 : Nat) (x1 : List Nat) : Statement (.outputInstant x0 x1) := by
  intro _ src e
  cases e

theorem carrierStop (x0 : Nat) (x1 : Nat) : Statement (.carrierStop x0 x1) := by
  intro _ src e
  cases e

theorem carrierStart (x0 : Nat) (x1 : Nat) : Statement (.carrierStart x0 x1) := by
  intro _ src e
  cases e

theorem amplitudeStep (x0 : Nat) (x1 : Nat) : Statement (.amplitudeStep x0 x1) := by
  intro _ src e
  cases e

theorem resetSwitchClose (x0 : Nat) (x1 : Nat) : Statement (.resetSwitchClose x0 x1) := by
  intro _ src e
  cases e

theorem resetSwitchOpen (x0 : Nat) (x1 : Nat) : Statement (.resetSwitchOpen x0 x1) := by
  intro _ src e
  cases e

theorem thermWindow (x0 : List Int) : Statement (.thermWindow x0) := by
  intro _ src e
  cases e

theorem driverIlimit (x0 : Nat) (x1 : Nat) (x2 : Nat) : Statement (.driverIlimit x0 x1 x2) := by
  intro _ src e
  cases e

theorem monitorSample (x0 : Int) : Statement (.monitorSample x0) := by
  intro _ src e
  cases e

theorem rangeSwitchOpen (x0 : Nat) : Statement (.rangeSwitchOpen x0) := by
  intro _ src e
  cases e

theorem rangeSwitchClose (x0 : Nat) : Statement (.rangeSwitchClose x0) := by
  intro _ src e
  cases e

theorem rangeChangeDone (x0 : Nat) : Statement (.rangeChangeDone x0) := by
  intro _ src e
  cases e

theorem lmoIlim (x0 : Nat) (x1 : Nat) : Statement (.lmoIlim x0 x1) := by
  intro _ src e
  cases e

theorem lmoOverTemp (x0 : Nat) (x1 : Nat) : Statement (.lmoOverTemp x0 x1) := by
  intro _ src e
  cases e

theorem samplePllLockLoss (x0 : Nat) (x1 : Int) : Statement (.samplePllLockLoss x0 x1) := by
  intro _ src e
  cases e

theorem realignComplete (x0 : Nat) : Statement (.realignComplete x0) := by
  intro _ src e
  cases e

theorem gateOpen (x0 : Nat) : Statement (.gateOpen x0) := by
  intro _ src e
  cases e

theorem gateClose (x0 : Nat) : Statement (.gateClose x0) := by
  intro _ src e
  cases e

theorem lmoWrite (x0 : Nat) : Statement (.lmoWrite x0) := by
  intro _ src e
  cases e

theorem profileStart (x0 : Nat) : Statement (.profileStart x0) := by
  intro _ src e
  cases e

theorem profileSample (x0 : Nat) : Statement (.profileSample x0) := by
  intro _ src e
  cases e

theorem ctAssert (x0 : Nat) : Statement (.ctAssert x0) := by
  intro _ src e
  cases e

theorem ctRelease (x0 : Nat) : Statement (.ctRelease x0) := by
  intro _ src e
  cases e

theorem latch : Statement (.latch) := by
  intro _ src e
  cases e

theorem capture : Statement (.capture) := by
  intro _ src e
  cases e

theorem markEvent : Statement (.markEvent) := by
  intro _ src e
  cases e

theorem sampleNFall (x0 : Nat) : Statement (.sampleNFall x0) := by
  intro _ src e
  cases e

theorem ssiLatch (x0 : Nat) (x1 : Nat) : Statement (.ssiLatch x0 x1) := by
  intro _ src e
  cases e

theorem ssiTimeout (x0 : Nat) : Statement (.ssiTimeout x0) := by
  intro _ src e
  cases e

theorem readRecords (x0 : Nat) (x1 : Nat) (x2 : Nat) (x3 : Nat) (x4 : SpiClocks) : Statement (.readRecords x0 x1 x2 x3 x4) := by
  intro _ src e
  cases e

theorem readLatch (x0 : Nat) (x1 : Nat) (x2 : Nat) (x3 : Nat) (x4 : Nat) (x5 : SpiClocks) : Statement (.readLatch x0 x1 x2 x3 x4 x5) := by
  intro _ src e
  cases e

theorem pulseEdge (x0 : Nat) (x1 : Nat) (x2 : PinSeen) (x3 : PinSeen) : Statement (.pulseEdge x0 x1 x2 x3) := by
  intro _ src e
  cases e

theorem plsPreset (x0 : Nat) (x1 : Source) (x2 : Nat) (x3 : Int) : Statement (.plsPreset x0 x1 x2 x3) := by
  intro h src e
  simp only [source, Option.some.injEq] at e
  subst e
  simp_all [Instr.wellFormed]

theorem encEnable (x0 : Nat) (x1 : Source) (x2 : Nat) (x3 : Nat) : Statement (.encEnable x0 x1 x2 x3) := by
  intro h src e
  simp only [source, Option.some.injEq] at e
  subst e
  simp_all [Instr.wellFormed]

theorem canRequest (x0 : Nat) (x1 : CanHead) (x2 : List Nat) : Statement (.canRequest x0 x1 x2) := by
  intro _ src e
  cases e

theorem canBusError (x0 : Nat) (x1 : Nat) (x2 : Nat) : Statement (.canBusError x0 x1 x2) := by
  intro _ src e
  cases e

theorem canBusOffRecovery (x0 : Nat) : Statement (.canBusOffRecovery x0) := by
  intro _ src e
  cases e

theorem frameReceive (x0 : Nat) (x1 : Nat) (x2 : Frame) (x3 : Nat) : Statement (.frameReceive x0 x1 x2 x3) := by
  intro _ src e
  cases e

theorem access (x0 : Nat) (x1 : Nat) (x2 : Nat) (x3 : List Nat) : Statement (.access x0 x1 x2 x3) := by
  intro h src e
  simp only [source, Option.some.injEq] at e
  subst e
  simp_all [Instr.wellFormed, sourceFits]

theorem read (x0 : Nat) (x1 : Source) (x2 : Nat) (x3 : Nat) : Statement (.read x0 x1 x2 x3) := by
  intro h src e
  simp only [source, Option.some.injEq] at e
  subst e
  simp_all [Instr.wellFormed]

theorem write (x0 : Nat) (x1 : Source) (x2 : Nat) (x3 : Nat) (x4 : List Nat) : Statement (.write x0 x1 x2 x3 x4) := by
  intro h src e
  simp only [source, Option.some.injEq] at e
  subst e
  simp_all [Instr.wellFormed]

theorem readPart (x0 : Nat) (x1 : Source) (x2 : Nat) (x3 : Nat) (x4 : Nat) (x5 : Nat) : Statement (.readPart x0 x1 x2 x3 x4 x5) := by
  intro h src e
  simp only [source, Option.some.injEq] at e
  subst e
  simp_all [Instr.wellFormed]

theorem writePart (x0 : Nat) (x1 : Source) (x2 : Nat) (x3 : Nat) (x4 : Nat) (x5 : List Nat) : Statement (.writePart x0 x1 x2 x3 x4 x5) := by
  intro h src e
  simp only [source, Option.some.injEq] at e
  subst e
  simp_all [Instr.wellFormed]

theorem writeLast (x0 : Nat) (x1 : Source) (x2 : Nat) (x3 : Nat) (x4 : Nat) (x5 : List Nat) : Statement (.writeLast x0 x1 x2 x3 x4 x5) := by
  intro h src e
  simp only [source, Option.some.injEq] at e
  subst e
  simp_all [Instr.wellFormed]

theorem readDesc (x0 : Nat) (x1 : Source) (x2 : Nat) (x3 : Nat) : Statement (.readDesc x0 x1 x2 x3) := by
  intro h src e
  simp only [source, Option.some.injEq] at e
  subst e
  simp_all [Instr.wellFormed]

theorem register (x0 : Nat) (x1 : Source) (x2 : Nat) : Statement (.register x0 x1 x2) := by
  intro h src e
  simp only [source, Option.some.injEq] at e
  subst e
  simp_all [Instr.wellFormed]

theorem deregister (x0 : Nat) (x1 : Source) : Statement (.deregister x0 x1) := by
  intro h src e
  simp only [source, Option.some.injEq] at e
  subst e
  simp_all [Instr.wellFormed]

theorem tokenTake (x0 : Nat) (x1 : Source) (x2 : Nat) : Statement (.tokenTake x0 x1 x2) := by
  intro h src e
  simp only [source, Option.some.injEq] at e
  subst e
  simp_all [Instr.wellFormed]

theorem tokenRelease (x0 : Nat) (x1 : Source) : Statement (.tokenRelease x0 x1) := by
  intro h src e
  simp only [source, Option.some.injEq] at e
  subst e
  simp_all [Instr.wellFormed]

theorem pdOut (x0 : Nat) (x1 : Nat) (x2 : Nat) (x3 : Nat) (x4 : List Nat) : Statement (.pdOut x0 x1 x2 x3 x4) := by
  intro h src e
  simp only [source, Option.some.injEq] at e
  subst e
  simp_all [Instr.wellFormed, sourceFits]

theorem eventAck (x0 : Nat) (x1 : Nat) (x2 : Nat) (x3 : Nat) : Statement (.eventAck x0 x1 x2 x3) := by
  intro h src e
  simp only [source, Option.some.injEq] at e
  subst e
  simp_all [Instr.wellFormed, sourceFits]

theorem eventPushRetry (x0 : Nat) : Statement (.eventPushRetry x0) := by
  intro _ src e
  cases e

theorem masterTimeout (x0 : Nat) : Statement (.masterTimeout x0) := by
  intro _ src e
  cases e

theorem assemblyTimeout (x0 : Nat) : Statement (.assemblyTimeout x0) := by
  intro _ src e
  cases e

theorem linkDown (x0 : Nat) (x1 : PortDown) : Statement (.linkDown x0 x1) := by
  intro _ src e
  cases e

theorem linkUp (x0 : Nat) (x1 : Nat) : Statement (.linkUp x0 x1) := by
  intro _ src e
  cases e

theorem sync (x0 : Nat) (x1 : Nat) (x2 : Nat) (x3 : Nat) (x4 : Nat) (x5 : Int) (x6 : Bool) (x7 : Nat) (x8 : Int) : Statement (.sync x0 x1 x2 x3 x4 x5 x6 x7 x8) := by
  intro _ src e
  cases e

theorem followUp (x0 : Nat) (x1 : Nat) (x2 : Nat) (x3 : Nat) (x4 : Nat) (x5 : Nat) (x6 : Int) : Statement (.followUp x0 x1 x2 x3 x4 x5 x6) := by
  intro _ src e
  cases e

theorem announce (x0 : Nat) (x1 : Nat) (x2 : Nat) (x3 : Nat) (x4 : Int) (x5 : List Nat) (x6 : Int) : Statement (.announce x0 x1 x2 x3 x4 x5 x6) := by
  intro _ src e
  cases e

theorem announceTimeout (x0 : Nat) : Statement (.announceTimeout x0) := by
  intro _ src e
  cases e

theorem syncTimeout (x0 : Nat) : Statement (.syncTimeout x0) := by
  intro _ src e
  cases e

theorem revertiveSwitch : Statement (.revertiveSwitch) := by
  intro _ src e
  cases e

theorem pdelayReq (x0 : Nat) (x1 : Nat) (x2 : Nat) (x3 : Nat) (x4 : Int) : Statement (.pdelayReq x0 x1 x2 x3 x4) := by
  intro _ src e
  cases e

theorem pdelayReqSend (x0 : Nat) (x1 : Nat) : Statement (.pdelayReqSend x0 x1) := by
  intro _ src e
  cases e

theorem pdelayResp (x0 : Nat) (x1 : Nat) (x2 : Nat) (x3 : Int) (x4 : Option Nat) : Statement (.pdelayResp x0 x1 x2 x3 x4) := by
  intro _ src e
  cases e

theorem ltStep (x0 : Nat) : Statement (.ltStep x0) := by
  intro _ src e
  cases e

theorem refreshTick (x0 : Nat) (x1 : Nat) (x2 : Bool) : Statement (.refreshTick x0 x1 x2) := by
  intro _ src e
  cases e

theorem mr4Read (x0 : List Bool) (x1 : List Bool) : Statement (.mr4Read x0 x1) := by
  intro _ src e
  cases e

theorem trackingStep (x0 : Nat) (x1 : Nat) (x2 : Nat) : Statement (.trackingStep x0 x1 x2) := by
  intro _ src e
  cases e

theorem patrolRead (x0 : Nat) (x1 : Nat) (x2 : BeatErr) : Statement (.patrolRead x0 x1 x2) := by
  intro _ src e
  cases e

theorem trajReadComplete (x0 : Nat) (x1 : Nat) (x2 : List MemErr) : Statement (.trajReadComplete x0 x1 x2) := by
  intro _ src e
  cases e

theorem trainingComplete (x0 : Nat) (x1 : Nat) (x2 : Nat) : Statement (.trainingComplete x0 x1 x2) := by
  intro _ src e
  cases e

theorem freqSwitchComplete (x0 : Nat) (x1 : Nat) (x2 : Nat) : Statement (.freqSwitchComplete x0 x1 x2) := by
  intro _ src e
  cases e

theorem memDataWrite (x0 : Nat) (x1 : Source) (x2 : List Nat) (x3 : List MemErr) : Statement (.memDataWrite x0 x1 x2 x3) := by
  intro h src e
  simp only [source, Option.some.injEq] at e
  subst e
  simp_all [Instr.wellFormed]

theorem memDataRead (x0 : Nat) (x1 : Source) (x2 : List MemErr) : Statement (.memDataRead x0 x1 x2) := by
  intro h src e
  simp only [source, Option.some.injEq] at e
  subst e
  simp_all [Instr.wellFormed]

theorem correction (x0 : Nat) (x1 : Nat) (x2 : Nat) (x3 : Nat) (x4 : Int) (x5 : Int) : Statement (.correction x0 x1 x2 x3 x4 x5) := by
  intro _ src e
  cases e

theorem stats (x0 : Nat) (x1 : Nat) (x2 : Nat) (x3 : Nat) (x4 : Nat) (x5 : Nat) (x6 : Nat) : Statement (.stats x0 x1 x2 x3 x4 x5 x6) := by
  intro _ src e
  cases e

theorem heartbeat (x0 : Nat) (x1 : Nat) : Statement (.heartbeat x0 x1) := by
  intro _ src e
  cases e

theorem laneSync (x0 : Nat) (x1 : LaneBits) : Statement (.laneSync x0 x1) := by
  intro _ src e
  cases e

theorem laneSyncLoss (x0 : Nat) (x1 : LaneWords) : Statement (.laneSyncLoss x0 x1) := by
  intro _ src e
  cases e

theorem aliveTimeout : Statement (.aliveTimeout) := by
  intro _ src e
  cases e

theorem vtxHeartbeat : Statement (.vtxHeartbeat) := by
  intro _ src e
  cases e

theorem frameTagComplete (x0 : Nat) : Statement (.frameTagComplete x0) := by
  intro _ src e
  cases e

theorem eventAdmit : Statement (.eventAdmit) := by
  intro _ src e
  cases e

theorem poundCommit (x0 : Nat) (x1 : Source) (x2 : Nat) : Statement (.poundCommit x0 x1 x2) := by
  intro h src e
  simp only [source, Option.some.injEq] at e
  subst e
  simp_all [Instr.wellFormed]

theorem poundDiscard (x0 : Nat) (x1 : Source) (x2 : Nat) : Statement (.poundDiscard x0 x1 x2) := by
  intro h src e
  simp only [source, Option.some.injEq] at e
  subst e
  simp_all [Instr.wellFormed]

theorem bundledCommit (x0 : Nat) (x1 : Source) (x2 : Nat) (x3 : Nat) : Statement (.bundledCommit x0 x1 x2 x3) := by
  intro h src e
  simp only [source, Option.some.injEq] at e
  subst e
  simp_all [Instr.wellFormed]

theorem bundledDiscard (x0 : Nat) (x1 : Source) (x2 : Nat) (x3 : Nat) : Statement (.bundledDiscard x0 x1 x2 x3) := by
  intro h src e
  simp only [source, Option.some.injEq] at e
  subst e
  simp_all [Instr.wellFormed]

theorem modeCmdConfigure (x0 : Nat) (x1 : Source) : Statement (.modeCmdConfigure x0 x1) := by
  intro h src e
  simp only [source, Option.some.injEq] at e
  subst e
  simp_all [Instr.wellFormed]

theorem modeCmdCalibrate (x0 : Nat) (x1 : Source) : Statement (.modeCmdCalibrate x0 x1) := by
  intro h src e
  simp only [source, Option.some.injEq] at e
  subst e
  simp_all [Instr.wellFormed]

theorem modeCmdTrack (x0 : Nat) (x1 : Source) : Statement (.modeCmdTrack x0 x1) := by
  intro h src e
  simp only [source, Option.some.injEq] at e
  subst e
  simp_all [Instr.wellFormed]

theorem modeCmdServo (x0 : Nat) (x1 : Source) : Statement (.modeCmdServo x0 x1) := by
  intro h src e
  simp only [source, Option.some.injEq] at e
  subst e
  simp_all [Instr.wellFormed]

theorem modeCmdBuild (x0 : Nat) (x1 : Source) : Statement (.modeCmdBuild x0 x1) := by
  intro h src e
  simp only [source, Option.some.injEq] at e
  subst e
  simp_all [Instr.wellFormed]

theorem modeCmdHold (x0 : Nat) (x1 : Source) : Statement (.modeCmdHold x0 x1) := by
  intro h src e
  simp only [source, Option.some.injEq] at e
  subst e
  simp_all [Instr.wellFormed]

theorem modeCmdTest (x0 : Nat) (x1 : Source) : Statement (.modeCmdTest x0 x1) := by
  intro h src e
  simp only [source, Option.some.injEq] at e
  subst e
  simp_all [Instr.wellFormed]

theorem park (x0 : Nat) (x1 : Source) (x2 : Nat) (x3 : Nat) : Statement (.park x0 x1 x2 x3) := by
  intro h src e
  simp only [source, Option.some.injEq] at e
  subst e
  simp_all [Instr.wellFormed]

theorem returnUnit (x0 : Nat) (x1 : Source) (x2 : Nat) (x3 : Nat) : Statement (.returnUnit x0 x1 x2 x3) := by
  intro h src e
  simp only [source, Option.some.injEq] at e
  subst e
  simp_all [Instr.wellFormed]

theorem resume (x0 : Nat) (x1 : Source) (x2 : Nat) (x3 : Nat) : Statement (.resume x0 x1 x2 x3) := by
  intro h src e
  simp only [source, Option.some.injEq] at e
  subst e
  simp_all [Instr.wellFormed]

theorem stop (x0 : Nat) (x1 : Source) (x2 : Nat) : Statement (.stop x0 x1 x2) := by
  intro h src e
  simp only [source, Option.some.injEq] at e
  subst e
  simp_all [Instr.wellFormed]

theorem abandon (x0 : Nat) (x1 : Source) (x2 : Nat) : Statement (.abandon x0 x1 x2) := by
  intro h src e
  simp only [source, Option.some.injEq] at e
  subst e
  simp_all [Instr.wellFormed]

theorem faultClear (x0 : Nat) (x1 : Source) : Statement (.faultClear x0 x1) := by
  intro h src e
  simp only [source, Option.some.injEq] at e
  subst e
  simp_all [Instr.wellFormed]

theorem lmoClearFault (x0 : Nat) (x1 : Source) (x2 : Nat) : Statement (.lmoClearFault x0 x1 x2) := by
  intro h src e
  simp only [source, Option.some.injEq] at e
  subst e
  simp_all [Instr.wellFormed]

theorem bankSwapConfigure (x0 : Nat) (x1 : Source) (x2 : Nat) (x3 : Nat) : Statement (.bankSwapConfigure x0 x1 x2 x3) := by
  intro h src e
  simp only [source, Option.some.injEq] at e
  subst e
  simp_all [Instr.wellFormed]

theorem profileWrData (x0 : Nat) (x1 : Source) (x2 : List Nat) : Statement (.profileWrData x0 x1 x2) := by
  intro h src e
  simp only [source, Option.some.injEq] at e
  subst e
  simp_all [Instr.wellFormed]

theorem schedEntry (x0 : Nat) (x1 : Source) (x2 : List Nat) : Statement (.schedEntry x0 x1 x2) := by
  intro h src e
  simp only [source, Option.some.injEq] at e
  subst e
  simp_all [Instr.wellFormed]

theorem schedFlush (x0 : Nat) (x1 : Source) : Statement (.schedFlush x0 x1) := by
  intro h src e
  simp only [source, Option.some.injEq] at e
  subst e
  simp_all [Instr.wellFormed]

theorem save (x0 : Nat) (x1 : Source) : Statement (.save x0 x1) := by
  intro h src e
  simp only [source, Option.some.injEq] at e
  subst e
  simp_all [Instr.wellFormed]

theorem storeSaveComplete (x0 : Nat) (x1 : Nat) : Statement (.storeSaveComplete x0 x1) := by
  intro _ src e
  cases e

theorem erase (x0 : Nat) (x1 : Source) : Statement (.erase x0 x1) := by
  intro h src e
  simp only [source, Option.some.injEq] at e
  subst e
  simp_all [Instr.wellFormed]

theorem selftestLogic (x0 : Nat) (x1 : Source) : Statement (.selftestLogic x0 x1) := by
  intro h src e
  simp only [source, Option.some.injEq] at e
  subst e
  simp_all [Instr.wellFormed]

theorem selftestMemory (x0 : Nat) (x1 : Source) : Statement (.selftestMemory x0 x1) := by
  intro h src e
  simp only [source, Option.some.injEq] at e
  subst e
  simp_all [Instr.wellFormed]

theorem selftestBoth (x0 : Nat) (x1 : Source) : Statement (.selftestBoth x0 x1) := by
  intro h src e
  simp only [source, Option.some.injEq] at e
  subst e
  simp_all [Instr.wellFormed]

theorem selftestComplete (x0 : Nat) (x1 : List (Nat × Nat)) : Statement (.selftestComplete x0 x1) := by
  intro _ src e
  cases e

theorem captureArm (x0 : Nat) (x1 : Source) (x2 : Nat) : Statement (.captureArm x0 x1 x2) := by
  intro h src e
  simp only [source, Option.some.injEq] at e
  subst e
  simp_all [Instr.wellFormed]

theorem captureFire (x0 : Nat) (x1 : Source) (x2 : Nat) : Statement (.captureFire x0 x1 x2) := by
  intro h src e
  simp only [source, Option.some.injEq] at e
  subst e
  simp_all [Instr.wellFormed]

theorem captureStop (x0 : Nat) (x1 : Source) (x2 : Nat) : Statement (.captureStop x0 x1 x2) := by
  intro h src e
  simp only [source, Option.some.injEq] at e
  subst e
  simp_all [Instr.wellFormed]

theorem calPartEnd (x0 : Nat) (x1 : Nat) (x2 : Nat) (x3 : List Nat) (x4 : List Int) (x5 : List Nat) (x6 : List Nat) : Statement (.calPartEnd x0 x1 x2 x3 x4 x5 x6) := by
  intro _ src e
  cases e

theorem calDone (x0 : Nat) : Statement (.calDone x0) := by
  intro _ src e
  cases e

theorem samplePllLocked (x0 : Nat) : Statement (.samplePllLocked x0) := by
  intro _ src e
  cases e

theorem lmoOverTempClear (x0 : Nat) (x1 : Nat) : Statement (.lmoOverTempClear x0 x1) := by
  intro _ src e
  cases e

theorem ilimitClear (x0 : Nat) (x1 : Nat) (x2 : Nat) : Statement (.ilimitClear x0 x1 x2) := by
  intro _ src e
  cases e

theorem lmoIlimClear (x0 : Nat) (x1 : Nat) : Statement (.lmoIlimClear x0 x1) := by
  intro _ src e
  cases e

theorem laserSafeComplete : Statement (.laserSafeComplete) := by
  intro _ src e
  cases e

theorem rxBadPacket (x0 : Nat) (x1 : LaneWords) : Statement (.rxBadPacket x0 x1) := by
  intro _ src e
  cases e

theorem frameTransmissionEnd (x0 : Nat) (x1 : Nat) : Statement (.frameTransmissionEnd x0 x1) := by
  intro _ src e
  cases e

theorem ssiClockEdge (x0 : Nat) (x1 : Nat) (x2 : Bool) : Statement (.ssiClockEdge x0 x1 x2) := by
  intro _ src e
  cases e

end Sys2Proof.Laws.WellFormedShape
end

