-- ==== Sys2Proof/Tests/Slice0.lean ====
section
/-! SUPPORT. Small states for the tests, a state for each clause of each statement, the smoke test of well-formedness, and tests
of single commands. -/

open Sys2Proof Sys2Proof.Machine

namespace Sys2Proof.Tests

set_option Elab.async false

/-- Writes a list of objects. -/
def many (s : State) (l : List (Nat × Nat)) : State := l.foldl (fun r e => r.wr e.1 e.2) s

/-- The device out of reset, in a mode. -/
def idle (m : Nat) : State :=
  ({ lt := ns 5000123 + 77, mode := { inReset := false, resetPinLow := false } } : State).wr Reg.mode m

/-- With MASTER_0 registered at address 5 of port 0, which holds the token. -/
def hosted (m : Nat) : State := many (idle m) [(Reg.masterState 0, 1), (Reg.masterMac 0, 5), (Reg.masterRank 0, 3), (Reg.tokenHolder, 0)]

theorem idle_still {m : Nat} (h : m ∈ [1, 2, 3, 4, 5, 6, 7]) : (idle m).still = true := by
  revert m; decide +kernel

theorem many_still {s : State} {l : List (Nat × Nat)} (hs : s.still = true) (h : (l.all fun e => !stillKey e.1) = true) :
    (many s l).still = true := by
  induction l generalizing s with
  | nil => exact hs
  | cons e l ih =>
    simp only [List.all_cons, Bool.and_eq_true, Bool.not_eq_true'] at h
    exact ih (by rw [State.still_wr _ _ h.1]; exact hs) (by simpa using h.2)

theorem hosted_still {m : Nat} (h : m ∈ [1, 2, 3, 4, 5, 6, 7]) : (hosted m).still = true :=
  many_still (idle_still h) (by decide)

/-- Tile 7: driver 0 waits to stop, 1 to switch off, 2 stands between two frequencies, 3 waits to start, 4 runs with a new
amplitude and serves the charge amplifiers 8 and 9, and 9 is closed; amplifier 6 is a charge amplifier of driver 3. -/
def tileRig : State :=
  let s := many (hosted 3) [(Reg.excFreq 7 0, 0x1234567), (Reg.excFreq 7 1, 0x1234567), (Reg.excFreq 7 2, 0x2000001),
    (Reg.excFreq 7 3, 0x3000003), (Reg.excFreq 7 4, 0x3000003), (Reg.excAmpl 7 2, 0x4000), (Reg.excAmpl 7 3, 0x5000),
    (Reg.excAmpl 7 4, 0x1000), (Reg.sensorKind 42, 1), (Reg.sensorKind 43, 1), (Reg.excDriver 43, 1), (Reg.pairPrimary 43, 1),
    (Reg.sensorKind 44, 1), (Reg.excDriver 44, 2), (Reg.pairPrimary 44, 2), (Reg.sensorKind 45, 1), (Reg.excDriver 45, 3),
    (Reg.pairPrimary 45, 3), (Reg.sensorKind 46, 1), (Reg.excDriver 46, 4), (Reg.pairPrimary 46, 4),
    (Reg.ampMode 7 8, 0x8000), (Reg.ampMode 7 9, 0x8000), (Reg.ampMode 7 6, 0x8000), (Reg.ampMode 7 2, 0x4000), (Reg.ampReset 7 8, 0x1234)]
  let s := s.modDriver 7 0 fun d => { d with phase := .waitStop, freq := 0x1111111, since := ns 5000200 }
  let s := s.modDriver 7 1 fun d => { d with phase := .waitOff, freq := 0x2222222 }
  let s := s.modDriver 7 2 fun d => { d with phase := .gap, freq := 0x2000001, since := ns 5000100 }
  let s := s.modDriver 7 3 fun d => { d with phase := .waitStart, since := ns 5000100, fresh := true }
  let s := s.modDriver 7 4 fun d => { d with phase := .on, freq := 0x3000003, ampl := 7, amplPending := true }
  let s := s.modAmp 7 9 fun x => { x with closed := true, closedAt := some (ns 5000100) }
  s.modTile 7 fun x => { x with running := true, lastDemod := some (ns 5000000) }

/-- The next output of TILE_7 falls on the latest boundary of ENGINE_7, before which AXIS_47 had another response. -/
def edgeRig : State := tileRig.modEngine 7 fun e =>
  { e with earlier := some { until_ := nextGrid (ns (tileRig.demodNs 7)) tileRig.lt (tileRig.tile 7).lastDemod, values := [(Reg.response 47, 3)],
                             stale := [] } }

theorem tileRig_still : tileRig.still = true :=
  State.still_modTile _ _ _ (fun _ => ⟨rfl, rfl⟩) <| State.still_modAmp _ _ _ _ <| State.still_modDriver _ _ _ _ <|
    State.still_modDriver _ _ _ _ <| State.still_modDriver _ _ _ _ <| State.still_modDriver _ _ _ _ <| State.still_modDriver _ _ _ _ <|
    many_still (hosted_still (by decide)) (by decide)

/-- ENGINE_3 at 300 ns after a boundary with two laws running; ENGINE_2 and ENGINE_1 at their output instants, with a unit of
axis 12 abandoned; axes 0 to 2 within a change of range. -/
def engineRig : State :=
  let s := many (hosted 4) [(Reg.axoRange 0, 1), (Reg.clearCode 0, 0x123), (Reg.deadlineMiss 12, 2 ^ 32 - 1), (Reg.missRun 13, 2), (Reg.lmoSel 15, 14)]
  let s := s.modEngine 3 fun e => { e with lastLoop := some (ns 5000000) }
  let s := s.modEngine 2 fun e => { e with lastLoop := some (ns 5000000), windowOpen := some (ns 5000000), missed := [12] }
  let s := s.modEngine 1 fun e => { e with lastLoop := some (ns 5000000), windowOpen := some (ns 5000000) }
  let s := s.modLaw 18 fun l => { l with run := .live }
  let s := s.modLaw 19 fun l => { l with run := .braking }
  let p : Pending :=
    { law := { run := .live }, weir := {}, code := 99, uk := 0, aCmd := 0, status := 0, cycles := 70000,
      satElem := 0, fadeDone := false, presetDiff := [], target := 0, targetVel := 0, weirStatus := 0, shot := none, fastNow := false, preset := false }
  let s := [6, 7, 13].foldl (fun r a => r.modAxis a fun x => { x with law.run := .live, pending := some p, axo := { highZ := false } }) s
  let s := s.modAxis 12 fun x => { x with law := { run := .live } }
  let s := s.modAxo 7 fun y => { y with rangePhase := 1 }
  let s := s.modAxo 0 fun y => { y with rangePhase := 1, rangeLt := ns 4999000, code := 5, highZ := false }
  let s := s.modAxo 1 fun y => { y with rangePhase := 2, rangeLt := ns 4989000 }
  s.modAxo 47 fun y => { y with rangePhase := 3, rangeLt := ns 4989000, oldRange := 1 }

theorem engineRig_still : engineRig.still = true := by
  simp only [engineRig, List.foldl, State.still_modAxo, State.still_modAxis, State.still_modLaw, State.still_modEngine]
  exact many_still (hosted_still (by decide)) (by decide)

theorem modMode_still {s : State} {f : ModeSt → ModeSt} (h : ∀ m, (f m).inReset = m.inReset ∧ (f m).transition = m.transition)
    (hs : s.still = true) : (s.modMode f).still = true :=
  State.still_of hs (fun _ _ => rfl) (h _).1 (h _).2 rfl rfl rfl (fun _ => ⟨rfl, rfl, rfl⟩) (fun _ => ⟨rfl, rfl⟩) fun _ => ⟨rfl, rfl⟩

/-- With the four pins low, and records in the log. -/
def pinRig (m : Nat) : State :=
  (many (hosted m) [(Reg.clearPins, 3), (Reg.clearAxCount, 2 ^ 32 - 1), (Reg.samplePll, 1), (Reg.persistState, 2)]).modMode fun x =>
    { x with holdLow := true, clearAxLow := true, clearLmLow := true, pfailLow := true, holdSince := ns 4000000 }

theorem pinRig_still {m : Nat} (h : m ∈ [1, 2, 3, 4, 5, 6, 7]) : (pinRig m).still = true :=
  modMode_still (fun _ => ⟨rfl, rfl⟩) (many_still (hosted_still h) (by decide))


/-- CALIBRATE: TILE_7 within parts 1 and 2, TILE_6 at the end of part 3, TILE_5 within part 4, the other tiles done. -/
def calRig : State :=
  let s := many (hosted 2) [(Reg.calState, 1), (Reg.ampMode 7 11, 0x4000), (Reg.sensorKind 47, 1), (Reg.pairPrimary 47, 5), (Reg.rbLimit 30, 4000), (Reg.rbLimit 31, 4000)]
  let s := (List.range 5).foldl (fun r t => r.modTile t fun x => { x with cal := .done }) s
  let s := s.modTile 7 fun x => { x with cal := .start, gainDone := false, running := true }
  let s := s.modTile 6 fun x => { x with cal := .phases, calCount := 4096 }
  let s := s.modTile 5 fun x => { x with cal := .dac }
  (s.modAxo 30 fun y => { y with highZ := false }).modAxo 31 fun y => { y with highZ := false }

/-- CALIBRATE, every tile done. -/
def calDoneRig : State := (List.range 8).foldl (fun r t => r.modTile t fun x => { x with cal := .done }) ((hosted 2).wr Reg.calState 1)

theorem calRig_still : calRig.still = true ∧ calDoneRig.still = true := by decide +kernel


/-- BUILD, with memory READY, lanes 1 and 4 in use and three cameras. -/
def buildBase : State :=
  many (hosted 5) [(Reg.profileLen 2, 5), (Reg.profileInterval 2, 3), (Reg.profileStart 2, 7), (Reg.camPin 30, 1), (Reg.camLaser 30, 15),
    (Reg.camPin 31, 2), (Reg.camLaser 31, 2), (Reg.camPin 29, 3), (Reg.camLaser 29, 1), (Reg.camPeriod 30, 1000), (Reg.camPeriod 31, 1000), (Reg.camPeriod 29, 1000),
    (Reg.camFrameNext 30, 2 ^ 32 - 1), (Reg.camFrameNext 29, 8), (Reg.tagCount, 2 ^ 32 - 1),
    (Reg.trigCfg 3, 0x100), (Reg.laneEnable, 0x1F), (Reg.visStatus, 0x12), (Reg.memState, 2)]

def withMem (s : State) (h : List HostEntry) (p : List Host.Cell) : State := { s with hostEntries := h, profiles := p }
def withTags (s : State) (l : List Tag) : State := { s with vision := { s.vision with tags := l } }
theorem withMem_still (s : State) (h : List HostEntry) (p : List Host.Cell) : (withMem s h p).still = s.still := id rfl
theorem withTags_still (s : State) (l : List Tag) : (withTags s l).still = s.still := id rfl

/-- Lasers 0 to 3 with an action at the front of their share, laser 4 playing a profile, host entries, and camera 31
with its trigger high and a tag open, camera 30 with its trigger entered, camera 29 with a tag that waits to complete. -/
def lasersOn (s : State) : State :=
  let close : Action := { lt := ns 5000150, kind := .gateClose }
  let s := s.modLaser 0 fun y => { y with acts := [{ lt := ns 5000100, kind := .gateOpen, value := some 9 }, close], hold := true }
  let s := s.modLaser 1 fun y => { y with acts := [{ close with lt := ns 5000300 }], gate := true, value := 77 }
  let s := s.modLaser 2 fun y => { y with acts := [{ lt := ns 5000200, kind := .lmoWrite, value := some 3 }], closeLt := some (ns 5000200), value := 4 }
  let s := s.modLaser 3 fun y => { y with acts := [{ lt := ns 5000200, kind := .profileStart, profile := 2, scale := 0x8000 }] }
  let s := s.modLaser 4 fun y => { y with play := some { profile := 2, scale := 0x10000, start := ns 5000000, next := 4 }, gate := true }
  let s := withMem s [{ lt := ns 5000140, kind := 3, arg := 0, tag := 5 }, { lt := ns 5000900, kind := 1, arg := 0, tag := 0 }]
    (memWriteBytes zeroByte [] 22 [0x34, 0x12])
  let tag : Tag := { frame := 7, camera := 29, laser := 1, flags := 0, rise := ns 4999000, fall := ns 4999500, period := 1000, stopDue := [0, 0, 0] }
  let s := s.modCam 30 fun x => { x with next := some { rise := ns 5000500, fall := ns 5000900 } }
  let s := s.modCam 31 fun x => { x with high := some { rise := ns 5000000, fall := ns 5000400 } }
  withTags s [{ tag with frame := 2 ^ 32 - 1, camera := 31, laser := 2, rise := ns 5000000, stopDue := [] }, tag]

def buildRig : State := lasersOn buildBase

theorem lasersOn_still (s : State) : (lasersOn s).still = s.still := by
  simp only [lasersOn, withTags_still, State.still_modCam, withMem_still, State.still_modLaser]

theorem buildRig_still : buildRig.still = true := by
  rw [buildRig, lasersOn_still]; exact many_still (hosted_still (by decide)) (by decide)

/-- The legacy interfaces in TRACK: SSI_1 within a frame, a latch taken and being read, pulse inputs 5 to 7 in their three modes, ENC_6
running with edges planned, and the CAN port in use. -/
def legacyRig : State :=
  let s := many (hosted 3) [(Reg.sensorKind 3, 1), (Reg.encAxis 6, 3), (Reg.encEnable 6, 1), (Reg.encSpan 6, 2 ^ 20), (Reg.plsMode 5, 2),
    (Reg.plsMode 6, 13), (Reg.plsCount 5, 0x7FFFFFFF), (Reg.plsCount 6, 0x80000000), (Reg.ssiAxis 0, 3), (Reg.canCfg, 3), (Reg.canStatus, 1)]
  let s := s.modSsi 1 fun x => { x with frame := some [true, false], last := s.lt }
  let s := s.modEnc 6 fun x => { x with running := true, count := 41, offset := 2, backlog := -3, next := some (ns 5000600) }
  let s := s.modPulse 6 fun x => { x with a := false, b := true, lastB := some (s.lt - ns 5), prevB := false }
  s.modLegacy fun x =>
    { x with lastSample := some (ns 5000000), spi := some (false, ns 5000600)
             latch0 := { lt := ns 4000000, seq := 9, words := List.replicate 48 {} } }

/-- The CAN port bus-off. -/
def busOffRig : State := many (hosted 3) [(Reg.canCfg, 3), (Reg.canStatus, 4)]

theorem legacyRig_still : legacyRig.still = true := by decide +kernel
theorem busOffRig_still : busOffRig.still = true := many_still (hosted_still (by decide)) (by decide)

/-- MASTER_0 at address 5, MASTER_1 at 9, MASTER_2 on CAN; both links up. -/
def netRig (m : Nat) : State := many (hosted m) [(Reg.masterState 1, 1), (Reg.masterMac 1, 9), (Reg.masterRank 1, 5), (Reg.masterState 2, 2),
  (Reg.canStatus, 1), (Reg.linkStatus 0, 3), (Reg.linkStatus 1, 3), (Reg.openRegistration, 1), (Reg.openRank, 4),
  (Reg.allowMac 2, 77), (Reg.allowRank 2, 6), (Reg.pushEnable 0, 1), (Reg.nextSeq, 5)]

theorem netRig_still {m : Nat} (h : m ∈ [1, 2, 3, 4, 5, 6, 7]) : (netRig m).still = true :=
  many_still (hosted_still h) (by decide)


/-- Network time: domain 0 MEASURING on port 0 with a selected grandmaster 50 announced by clock 51, domain 1 VALID. -/
def timeRig : State :=
  let s := many (netRig 3) [(Reg.pdelayState 0, 2), (Reg.pdelayRun 0, 15), (Reg.meanLinkDelay 0, 500), (Reg.pdelayState 1, 1), (Reg.syncPort 0, 0), (Reg.domainState 0, 1), (Reg.domainState 1, 2),
    (Reg.domainNumber 1, 20), (Reg.syncPort 1, 0), (Reg.activeDomain, 1), (Reg.timeFlags, 2), (Reg.preferredDomain, 0), (Reg.syncUsed 0, 2 ^ 32 - 1), (Reg.gmIdentity 0, 50)]
  let s := s.modDomain 0 fun x => { x with selected := some (50, 51), syncNs := 125000000, lastUsed := ns 4000000, twoStep := some { port := 0, seq := 6, ingress := (ns 5000000 : Nat), correction := 5 } }
  let s := s.modDomain 1 fun x => { x with selected := some (60, 61), syncNs := 125000000, validSince := ns 3000000, syncs := [((ns 4000000 : Nat), 0)] }
  s.modPortTime 0 fun x => { x with req := some (9, (ns 4999000 : Nat)), lastReq := some (ns 4900000), nextSeq := 65535, count := 15, sum := 7000 }

theorem timeRig_still : timeRig.still = true := by
  simp only [timeRig, State.still_modPortTime, State.still_modDomain]
  exact many_still (netRig_still (by decide)) (by decide)


/-- External memory in a state of MEM_STATE, two channels. -/
def memRig (m x : Nat) : State :=
  ({ many (hosted m) [(Reg.memState, x), (Reg.memChannels, 3), (Reg.memAddr, 100), (Reg.profileWrAddr, 2 ^ 20 - 2), (Reg.memDevice, 2)] with
    dram := memWriteBytes zeroByte [] 98 [1, 2, 3, 4, 5, 6, 7, 8] } : State).modStream 3 fun y => { y with fetching := some (40, 2, ns 4999000) }

theorem memRig_still {m x : Nat} (h : m ∈ [1, 2, 3, 4, 5, 6, 7]) : (memRig m x).still = true := by
  rw [memRig, State.still_modStream]
  exact many_still (hosted_still h) (by simp only [List.all_cons, List.all_nil]; decide)


/-- Pounds: axis 0 stages a set-point, axis 7 is armed, axis 8 stages a bank swap, TILE_1's engine and laser 3 stage values. -/
def poundRig (m : Nat) : State :=
  let s := (netRig m).modPound 0 fun _ => { staged := [(Reg.spHost 0, 5)] }
  let s := s.modPound 7 fun _ => { staged := [(Reg.spHost 7, 5)], armed := some (ns 4000000), deferred := 3 }
  let s := s.modPound 8 fun _ => { staged := [(Reg.bankSwap 8, 16)] }
  let s := s.modPound 49 fun _ => { staged := [(Reg.excAmpl 1 2, 9)] }
  let s := s.modPound 59 fun _ => { staged := [(Reg.gateOnDelay 3, 300)] }
  s.modPound 104 fun _ => { staged := [(Reg.lateLimit, 300)] }

theorem poundRig_still : (poundRig 1).still = true ∧ (poundRig 3).still = true ∧ (poundRig 5).still = true := by decide +kernel +kernel

/-- Parked units: ENGINE_2, axis 5 and NET_1. -/
def parkRig : State :=
  (many (netRig 3) [(Reg.enginesParked, 4), (Reg.portsParked, 2), (Reg.parkState 5, 1), (Reg.faultSummary, 8)]).modLaser 2 fun x => { x with stream := { x.stream with finished := false } }

theorem parkRig_still : parkRig.still = true := by decide +kernel

/-- Streams in BUILD: laser 2's stopped at segment 5, laser 3's running. -/
def streamRig : State :=
  (many (hosted 5) [(Reg.streamState 2, 2), (Reg.stopSeg 2, 5), (Reg.streamState 3, 1), (Reg.memState, 2)]).modLaser 3 fun x =>
    { x with gate := true, value := 7, stream := { x.stream with finished := false } }

theorem streamRig_still : streamRig.still = true := by
  rw [streamRig, State.still_modLaser]; exact many_still (hosted_still (by decide)) (by decide)

/-- A save of four bytes in progress. -/
def saveRig : State := { (hosted 1).wr Reg.storeState 1 with store := { save := some { slot := 1, generation := 7, image := [1, 2, 3, 4] } } }

theorem store_still (s : State) (x : StoreSt) : ({ s with store := x } : State).still = s.still := id rfl

theorem saveRig_still : saveRig.still = true := by
  rw [saveRig, store_still, State.still_wr _ _ (by decide)]; exact hosted_still (by decide)

/-- TEST, with a self-test in progress. -/
def testRig (cmd : Nat) (logic : Bool) : State := { hosted 7 with test := { running := some { cmd := cmd, logic := logic, start := ns 4000000 } } }

theorem test_still (s : State) (x : TestSt) : ({ s with test := x } : State).still = s.still := id rfl
theorem testRig_still (cmd : Nat) (logic : Bool) : (testRig cmd logic).still = true := by
  rw [testRig, test_still]; exact hosted_still (by decide)

/-- Raw taps: tap 31 on trigger 3 with source HOST, armed, tap 0 on trigger 0 idle. -/
def tapRig : State :=
  (many (hosted 3) [(Reg.tapPoint 31, 0x0101), (Reg.tapTrig 31, 3), (Reg.tapSize 31, 4096), (Reg.tapPost 31, 3), (Reg.trigCfg 3, 0x300), (Reg.trigState 3, 1),
    (Reg.tapPoint 0, 0x0101), (Reg.tapSize 0, 4096), (Reg.tapBase 0, 0x10000)]).modTap 31 fun x => { x with active := true }

theorem tapRig_still : tapRig.still = true := by
  rw [tapRig, State.still_modTap]; exact many_still (hosted_still (by decide)) (by decide)

/-- Two records in the intake, the later one delivered first. -/
def eventRig : State :=
  ((hosted 3).wr (Reg.pushEnable 0) 0).modLog fun x => { x with intake := [{ uid := 1, ts := ns 4000100, code := 0x3106, level := 0 }, { uid := 2, ts := ns 4000000, code := 0x3501, level := 1, inst := 4 }], nextUid := 3 }

theorem eventRig_still : eventRig.still = true := by rw [eventRig, State.still_modLog, State.still_wr _ _ (by decide)]; exact hosted_still (by decide)

/-- LASER_SAFE of laser 4 in progress. -/
def safeRig : State := (hosted 5).modLock fun x => { x with running := some { kind := .laserSafe 4, t0 := ns 5000000, trigger := 1 }, triggerUid := some 1 }

/-! ### A state for each clause of each statement of `Obligations` -/

theorem witness_StepTakesFront : State.reset.pending = [] := rfl

theorem witness_EveryCommandAnswers : exec (.stop 0 .can 0) State.reset = .next State.reset ∧
    Instr.stop 0 .can 0 ≠ .resetNAssert ∧ Instr.stop 0 .can 0 ≠ .resetNRelease ∧ Instr.stop 0 .can 0 ≠ .supplyTrip ∧
    Instr.stop 0 .can 0 ≠ .supplyRecovered := ⟨rfl, by decide⟩

theorem witness_EveryCommandAnswers2 : dieTrips [] = false ∧ exec (.thermWindow []) State.reset = .next State.reset := ⟨by decide, rfl⟩

theorem witness_ResetIsDead : State.reset.mode.inReset = true ∧ actsInReset (.stop 0 .can 0) = false := by decide

theorem witness_ResetStateHolds : State.reset.canonical = true ∧ step State.reset = .next State.reset := ⟨by decide, rfl⟩

theorem witness_StepKeepsResetInv : (State.reset.mode.inReset = (State.reset.mode.resetPinLow || State.reset.mode.supplyBad) ∧
    State.reset = State.reset.heldReset) ∧ step State.reset = .next State.reset := ⟨⟨rfl, rfl⟩, rfl⟩

theorem witness_ResetEnteredAndLeft : ((hosted 5).store.save = none ∧ (hosted 5).rd Reg.persistState ≠ 2) ∧
    (State.reset.mode.inReset = true ∧ State.reset.mode.supplyBad = false) ∧
    (let s := State.reset.modMode fun m => { m with supplyBad := true, resetPinLow := false }
     s.mode.inReset = true ∧ s.mode.supplyBad = true ∧ s.mode.resetPinLow = false) ∧
    ((hosted 5).mode.inReset = false ∧ (hosted 5).fullPounds = 0 ∧
      0 < ((hosted 5).modPound 103 fun _ => { staged := [(Reg.camPeriod 31, 1000)] }).fullPounds) ∧ State.reset.mode.resetPinLow = true := by decide +kernel

theorem witness_CarrierStops : tileRig.still = true ∧ (tileRig.driver 7 0).phase = .waitStop ∧ (tileRig.driver 7 1).phase = .waitOff :=
  ⟨tileRig_still, by decide +kernel⟩

theorem witness_CarrierStarts : tileRig.still = true ∧ (tileRig.driver 7 2).phase = .gap ∧ (tileRig.driver 7 3).phase = .waitStart :=
  ⟨tileRig_still, by decide +kernel⟩

theorem witness_SettlingFlagged : 46 ∈ tileRig.driverAxes 7 4 ∧ some 5 = some (5 : Lt) := by decide +kernel

theorem witness_DriversFollow : tileRig.still = true ∧ ((tileRig.driver 7 4).amplPending = true ∧ (tileRig.driver 7 4).running = true) ∧
    (tileRig.ampMode 7 8 = 2 ∧ tileRig.pairUser 7 8 = some 46 ∧ (tileRig.driver 7 (tileRig.rd (Reg.excDriver 46))).running = true) ∧
    (((tileRig.tile 7).amp 9).closed = true ∧ ((tileRig.tile 7).amp 9).closedAt = some (ns 5000100)) ∧
    (tileRig.ampMode 7 6 = 2 ∧ tileRig.pairUser 7 6 = some 45 ∧ (tileRig.driver 7 (tileRig.rd (Reg.excDriver 45))).running = false) :=
  ⟨tileRig_still, by decide +kernel⟩

theorem witness_SamplesTaken : tileRig.still = true ∧ (tileRig.tile 7).running = true ∧ tileRig.ampMode 7 8 ≠ 0 ∧ (tileRig.tile 6).running = false ∧
    [(0 : Int), 0, 0, 0, 0, 0, 0, 40000][7]? = some 40000 := ⟨tileRig_still, by decide +kernel⟩

/-- A thermistor on channel 5 of TILE_2, biased from output 3, with a sum of a window. -/
def thermRig (sum : Int) : State :=
  ((many (hosted 3) [(Reg.thermChannel 2 0, 5), (Reg.thermBias 2 0, 3), (Reg.biasLevel 2 3, 4000), (Reg.thermRseries 2 0, 10000),
    (Reg.thermRnom 2 0, 10000), (Reg.thermBeta 2 0, 3950)]).modTile 2 fun x => { x with running := true, therms := x.therms.set 0 { sum := sum, count := 10240 } }).modAmp 2 5 fun y =>
      { y with gain := some (2 ^ 30), offset := some 0 }

/-- The three results of the ratio, and a die temperature at each side of the band. -/
theorem witness_SamplesTaken2 : (thermRig 0).still = true ∧ dieTrips [] = false ∧
    (let s := thermRig 0
     s.rd (Reg.thermChannel 2 0) < 12 ∧ s.rd (Reg.thermBias 2 0) < 4 ∧ s.rd (Reg.biasLevel 2 (s.rd (Reg.thermBias 2 0))) ≠ 0 ∧
       ((s.tile 2).therms[0]?.map (·.count)) = some 10240) ∧
    (let part (sum : Int) : Int × Int :=
       let s := thermRig sum
       ((256 * sum - 10240 * s.sigOffset 2 5) * 15625 * 2 ^ 31,
        256 * 10240 * (2 ^ (bitsAt (s.rd (Reg.ampMode 2 5)) 8 3) : Nat) * (s.sigGain 2 5 : Int) * s.rd (Reg.biasLevel 2 3) * 1000000)
     98 * (part 2620000000).2 < 100 * (part 2620000000).1 ∧ 100 * (part 0).1 < 2 * (part 0).2 ∧
       2 * (part 1200000000).2 ≤ 100 * (part 1200000000).1 ∧ 100 * (part 1200000000).1 ≤ 98 * (part 1200000000).2) ∧
    [(11501 : Int)][0]? = some 11501 := by decide +kernel

theorem witness_FirOutputsFormed : tileRig.still = true ∧ (tileRig.tile 7).running = true ∧ (tileRig.engine 7).earlier = none ∧ tileRig.chanAxis 7 17 = some 47 ∧
    (edgeRig.still = true ∧ (edgeRig.tile 7).running = true ∧ ((edgeRig.engine 7).earlier.map fun e => e.until_) =
      some (nextGrid (ns (edgeRig.demodNs 7)) edgeRig.lt (edgeRig.tile 7).lastDemod) ∧ (edgeRig.under 7 [(Reg.response 47, 3)] []).chanAxis 7 17 = some 47) ∧
    (idle 1).still = true ∧ (idle 1).supervised = false := ⟨tileRig_still, by decide +kernel, by decide +kernel, by decide +kernel,
      ⟨by rw [edgeRig, State.still_modEngine]; exact tileRig_still, by decide +kernel⟩, idle_still (by decide), by decide +kernel⟩

/-- AXIS_44 observed in TRACK by its observer, which has acquired. -/
def obsRig (lin : Nat) : State :=
  let s := many (hosted 3) [(Reg.sensorKind 44, 1), (Reg.excDriver 44, 2), (Reg.pairPrimary 44, 2), (Reg.linEnable 44, lin), (Reg.excAmpl 7 2, 0x100)]
  let s := s.modDriver 7 2 fun d => { d with phase := .on, freq := 0x1000000, ampl := 0x100 }
  let s := s.modObs 44 fun o => { o with theta := 123456789012345, omega := 2 ^ 40, acq := .done }
  s.modTile 7 fun x => { x with running := true, lastDemod := some (ns 5000000) }

/-- The words of AXIS_44 after an output are those of a corrected state, and of a predicted one while it settles. -/
theorem witness_FirOutputsFormed2 : ((obsRig 0).still = true ∧ (obsRig 1).still = true ∧ ((obsRig 1).engine 7).earlier = none ∧
      ((obsRig 1).tile 7).running = true ∧ 44 ∈ axesOf 7 ∧ (obsRig 1).kind 44 = 1 ∧ (obsRig 1).axisObserved 7 44 = true ∧
      (obsRig 1).carrierOn 7 44 = true ∧ ((obsRig 1).axis 44).obs.acq = .done ∧ ((obsRig 1).axis 44).obs.lost = false ∧
      (obsRig 0).rd (Reg.linEnable 44) = 0 ∧ (obsRig 1).rd (Reg.linEnable 44) ≠ 0 ∧ 0 < (obsRig 1).rd (Reg.linHalfspan 44) ∧
      0 < (obsRig 1).rd (Reg.linTempHalfspan 44)) ∧
    (match exec (.demodOutput 7 []) ((obsRig 1).modObs 44 fun o => { o with settling := true }) with
     | .next t => bitAt (t.rd (Reg.supStatus 44)) 6 && !bitAt (t.rd (Reg.supStatus 44)) 7
     | _ => false) = true := by decide +kernel

theorem witness_BoundariesFall : engineRig.still = true ∧ engineRig.net.held = [] := ⟨engineRig_still, by decide +kernel⟩

theorem witness_WindowComputes : engineRig.still = true ∧ (engineRig.engine 3).lastLoop = some (ns 5000000) ∧
    (engineRig.engine 3).computed ≠ some (ns 5000000) ∧ (engineRig.engine 3).windowOpen = none ∧ engineRig.engineParked 3 = false ∧
    (let cost (k : Nat) := if (engineRig.axis (18 + k)).law.run != .stopped then (engineRig.axis (18 + k)).law.cycles true + [3].getD k 0 else 4
     40 + cost 0 + cost 1 + cost 2 + cost 3 + cost 4 + cost 5 ≤ engineRig.budget 3) := ⟨engineRig_still, by decide +kernel⟩

/-- AXIS_18 with a live law in a fade of `len` periods, its weir `behind` its target. -/
def fadeRig (len : Nat) (behind : Int) : State :=
  engineRig.modAxis 18 fun x =>
    { x with weir := { x.weir with init := true, doneAt := ns 4997500, target := behind }
             law := { x.law with run := .live, active := [], incoming := some [1], fadeLen := len, fadePos := 2 } }

theorem fadeRig_still (len : Nat) (behind : Int) : (fadeRig len behind).still = true := by
  rw [fadeRig, State.still_modAxis]; exact engineRig_still

/-- A weir that takes its target, one that a limit holds back, and a fade of one period and of several. -/
theorem witness_WindowComputes2 : (fadeRig 5 0).still = true ∧ ((fadeRig 5 0).engine 3).lastLoop = some (ns 5000000) ∧
    (((fadeRig 5 0).axis 18).law.run = .live ∧ ((fadeRig 5 0).axis 18).weir.init = true ∧ ((fadeRig 5 0).axis 18).weir.doneAt < ns 5000000) ∧
    (let free (s : State) : Prop :=
       let w := (s.axis 18).weir
       let dt : Int := lateNs w.doneAt (ns 5000000)
       ((w.target - w.pos).natAbs : Int) * (6 * 10 ^ 27) ≤ (s.rd (Reg.weirJerkLimit 18) : Int) * 2 ^ 64 * dt * dt * dt
     free (fadeRig 5 0) ∧ ¬free (fadeRig 5 (2 ^ 63))) ∧
    ((fadeRig 1 0).axis 18).law.fadeLen ≤ 1 ∧ 1 < ((fadeRig 5 0).axis 18).law.fadeLen ∧ ((fadeRig 5 0).axis 18).law.incoming = some [1] ∧
    ((fadeRig 5 0).axis 18).law.preset = false ∧ ((fadeRig 5 0).axis 18).law.presetIn = false := ⟨fadeRig_still _ _, by decide +kernel⟩

theorem witness_OutputsChange : engineRig.still = true ∧ (engineRig.engine 2).windowOpen = some (ns 5000000) ∧
    (engineRig.engine 2).missed.contains 12 = true ∧ (12 : Nat) ∈ axesOf 2 ∧
    (engineRig.engine 1).windowOpen = some (ns 5000000) ∧ (engineRig.engine 1).missed = [] ∧
    (engineRig.axis 8).pending = none ∧ ((engineRig.axis 6).pending.map (·.code)) = some 99 := ⟨engineRig_still, by decide +kernel⟩

/-- AXIS_6 completes a fade, AXIS_7 is in the midst of one. -/
theorem witness_OutputsChange2 :
    let s := [6, 7].foldl (fun (r : State) a => r.modAxis a fun x =>
      { x with law := { x.law with incoming := some [a] }, pending := x.pending.map fun p => { p with fadeDone := a == 6 } }) engineRig
    s.still = true ∧ (s.engine 1).windowOpen = some (ns 5000000) ∧ (s.axis 6).law.incoming = some [6] ∧
      ((s.axis 6).pending.map (·.fadeDone)) = some true ∧ ((s.axis 7).pending.map (·.fadeDone)) = some false ∧
      (engineRig.axis 6).law.incoming = none ∧ ((engineRig.axis 6).pending.map (·.fadeDone)) = some false :=
  ⟨by simp only [List.foldl, State.still_modAxis]; exact engineRig_still, by decide +kernel⟩

theorem witness_RangeChanges : engineRig.still = true ∧ (engineRig.axis 0).axo.rangePhase = 1 ∧ (engineRig.axis 1).axo.rangePhase = 2 ∧
    (engineRig.axis 47).axo.rangePhase = 3 := ⟨engineRig_still, by decide +kernel⟩

theorem witness_LmoDriverProtects : engineRig.still = true ∧ (engineRig.laser 15).overTemp = false ∧ engineRig.lmoLaser 15 = none ∧
    (let s := engineRig.modLaser 15 fun x => { x with off := true }
     s.still = true ∧ (s.advance 7).speaks (.eth 5 0) 0 = true ∧ (s.laser 15).overTemp = false ∧ (s.laser 15).off = true) :=
  ⟨engineRig_still, by decide +kernel, by decide +kernel, by rw [State.still_modLaser]; exact engineRig_still, by decide +kernel⟩

theorem witness_MonitorSamples : (hosted 3).still = true ∧ (hosted 3).logicTest = false := ⟨hosted_still (by decide), by decide +kernel⟩

/-- A result on its way. -/
def monRig (slot : Nat) (j : Option (Nat × Bool)) : State :=
  { many (hosted 3) [(Reg.rbCountLimit 5, 3), (Reg.rbRun 5, 2), (Reg.busRatio 3, 9000), (Reg.busLowLimit 3, 5000)] with
    monPending := [{ ready := ns 5000200, slot := slot, raw := 100, judged := j }] }

theorem monRig_still (slot : Nat) (j : Option (Nat × Bool)) : ({ monRig slot j with monPending := [] } : State).still = true :=
  many_still (l := [(Reg.rbCountLimit 5, 3), (Reg.rbRun 5, 2), (Reg.busRatio 3, 9000), (Reg.busLowLimit 3, 5000)]) (hosted_still (by decide)) (by decide)

theorem witness_MonitorSamples2 : ({ monRig 5 none with monPending := [] } : State).still = true ∧ ns 5000200 ≤ ((monRig 5 none).advance 100).lt ∧
    (monRig 5 none).logicTest = false ∧ ((monRig 5 none).ssi 0).frame = none ∧
    ((monRig 5 (some (77, true))).rd (Reg.rbCountLimit 5) ≤ min ((monRig 5 (some (77, true))).rd (Reg.rbRun 5) + 1) 255 ∧
      ((monRig 5 (some (77, true))).axis 5).axo.rbFault = false ∧ (monRig 5 (some (77, true))).log.stopped = false ∧
      (monRig 5 (some (77, true))).log.intake.length < 255) ∧
    ((monRig 51 none).busLow.contains 3 = false ∧
      min 65535 (Num.rdiv (100 * (monRig 51 none).rd (Reg.busRatio 3)) 4096).toNat < (monRig 51 none).rd (Reg.busLowLimit 3)) :=
  ⟨monRig_still _ _, by decide +kernel⟩

theorem witness_ClearPins : ((hosted 3).still = true ∧ (hosted 3).mode.clearAxLow = false ∧ (hosted 3).modeCode ≠ BUILD ∧
      (hosted 3).mode.clearLmLow = false) ∧
    ((pinRig 3).still = true ∧ (pinRig 3).mode.clearAxLow = true ∧ (pinRig 3).mode.clearLmLow = true) :=
  ⟨⟨hosted_still (by decide), by decide +kernel⟩, pinRig_still (by decide), by decide +kernel⟩

theorem witness_ClearPins2 : streamRig.still = true ∧ streamRig.mode.clearAxLow = false ∧ streamRig.modeCode = BUILD ∧ streamRig.lock.running = none ∧
    (∀ l, l < 16 → (streamRig.advance 5).streamRests l = true) ∧ streamRig.log.stopped = false ∧ streamRig.log.intake.length < 255 :=
  ⟨streamRig_still, by decide +kernel⟩

theorem witness_HoldPin : ((hosted 3).still = true ∧ (hosted 3).mode.holdLow = false ∧ (hosted 3).lock.running = none) ∧
    ((pinRig 3).still = true ∧ (pinRig 3).mode.holdLow = true) :=
  ⟨⟨hosted_still (by decide), by decide +kernel⟩, pinRig_still (by decide), by decide +kernel⟩

/-- With a reaction in progress. -/
def lockRig (k : Reaction) : State := (hosted 5).modLock fun x => { x with running := some { kind := k, t0 := ns 5000000, trigger := 1 } }

theorem witness_HoldPin2 : ((lockRig (.laserSafe 4)).still = true ∧ (lockRig .deviceHold).still = true) ∧ (lockRig .deviceHold).mode.holdLow = false ∧
    (∀ l, l < 16 → ((lockRig .deviceHold).advance 5).streamRests l = true ∧ ((lockRig (.laserSafe 4)).advance 5).streamRests l = true) ∧
    ((lockRig (.laserSafe 4)).lock.running.map (·.kind)) = some (.laserSafe 4) ∧ ((lockRig .deviceHold).lock.running.map (·.kind)) = some .deviceHold ∧
    (lockRig .deviceHold).lock.queue = [] ∧ (lockRig .deviceHold).log.intake.length < 255 ∧ (hosted 3).log.stopped = false := by decide +kernel

theorem witness_PowerFailPersists :
    (let s := (hosted 1).wr Reg.persistState 0
     s.still = true ∧ s.mode.pfailLow = false ∧ s.log.stopped = false ∧ s.rd Reg.persistState = 0 ∧ s.store.save = none ∧ s.inRunOrHold = false) ∧
    ((pinRig 3).still = true ∧ (pinRig 3).rd Reg.persistState = 2 ∧ (pinRig 3).mode.pfailLow = true ∧ (pinRig 3).store.pfailRun = false) ∧
    (let s : State := { pinRig 3 with store := { pfailRun := true } }
     s.still = true ∧ s.mode.pfailLow = true ∧ s.store.pfailRun = true) ∧
    (let s := many (hosted 3) [(Reg.persistState, 1), (Reg.storeState, 0)]
     s.still = true ∧ s.rd Reg.persistState = 1 ∧ s.rd Reg.storeState ≠ 2 ∧ s.log.stopped = false) :=
  ⟨⟨many_still (l := [(Reg.persistState, 0)]) (hosted_still (by decide)) (by decide), by decide +kernel⟩, ⟨pinRig_still (by decide), by decide +kernel⟩,
    ⟨by rw [store_still]; exact pinRig_still (by decide), by decide +kernel⟩, many_still (hosted_still (by decide)) (by decide), by decide +kernel⟩

theorem witness_PowerFailPersists2 :
    (let s := eventRig.wr Reg.persistState 0
     s.still = true ∧ (s.advance 5).pfailIsLow = false ∧ s.rd Reg.persistState = 0 ∧ s.store.save = none ∧ s.inRunOrHold = true ∧
       s.lock.running = none ∧ s.lock.queue = [] ∧ (∀ l, l < 16 → (s.advance 5).streamRests l = true) ∧
       (∀ e ∈ s.log.intake, e.ts < (s.advance 5).lt) ∧ s.log.intake.length ≤ 256) ∧
    (let s := (hosted 1).wr Reg.persistState 3
     s.still = true ∧ s.rd Reg.persistState ≠ 0 ∧ s.log.intake.length < 256 ∧ s.inRunOrHold = false) ∧
    (let s := saveRig.wr Reg.persistState 1
     s.still = true ∧ s.store.save.isSome = true ∧ s.rd Reg.persistState ≠ 0 ∧ s.inRunOrHold = false ∧ s.log.intake.length < 255) :=
  ⟨⟨many_still (l := [(Reg.persistState, 0)]) eventRig_still (by decide), by decide +kernel⟩,
    ⟨many_still (l := [(Reg.persistState, 3)]) (hosted_still (by decide)) (by decide), by decide +kernel⟩,
    many_still (l := [(Reg.persistState, 1)]) saveRig_still (by decide), by decide +kernel⟩

theorem witness_SamplePllShown :
    (let s := (hosted 1).wr Reg.samplePll 1
     s.still = true ∧ s.rd Reg.samplePll = 1 ∧ 1000 < (-1001 : Int).natAbs ∧ s.inRunOrHold = false) ∧
    (let s := (hosted 3).modTime fun x => { x with realignEnd := some (ns 5000123) }
     s.still = true ∧ s.time.realignEnd = some (ns 5000123) ∧ s.time.stepRealign = false) :=
  ⟨⟨many_still (l := [(Reg.samplePll, 1)]) (hosted_still (by decide)) (by decide), by decide +kernel⟩,
    by rw [State.still_modTime]; exact hosted_still (by decide), by decide +kernel⟩

theorem witness_DeviceFaultHolds :
    let s := (hosted 3).wr Reg.samplePll 1
    s.still = true ∧ s.inRunOrHold = true ∧ s.lock.running = none ∧ s.rd Reg.samplePll = 1 ∧ 1000 < (1001 : Int).natAbs :=
  ⟨many_still (l := [(Reg.samplePll, 1)]) (hosted_still (by decide)) (by decide), by decide +kernel⟩

theorem witness_TimeSteps :
    (let s := tileRig.modTime fun x => { x with stepWait := some 0 }
     s.still = true ∧ s.time.stepWait = some 0 ∧ (s.driver 7 4).phase ≠ .off) ∧
    (let s := ((hosted 2).modTime fun x => { x with stepWait := some 1 }).modDomain 1 fun x => { x with syncs := [(5, -7)] }
     s.still = true ∧ s.time.stepWait = some 1 ∧ (∀ t, t < 8 → ∀ j, j < 6 → (s.driver t j).phase = .off) ∧ (s.domain 1).syncs = [(5, -7)]) :=
  ⟨⟨by rw [State.still_modTime]; exact tileRig_still, by decide +kernel⟩,
    by rw [State.still_modDomain, State.still_modTime]; exact hosted_still (by decide), by decide +kernel⟩

theorem witness_InitCompletes : (idle 0).modeCode = INIT ∧ ((idle 0).wr Reg.mode CONFIGURE).still = true ∧ (idle 0).rd Reg.bootTarget ≠ 1 ∧
    (idle 0).mode.holdLow = false ∧ (idle 0).mode.clearAxLow = false ∧ (idle 0).mode.clearLmLow = false ∧ (idle 0).mode.pfailLow = false := by
  decide +kernel

theorem witness_CalibrationEnds : calRig.still = true ∧ calRig.modeCode = CALIBRATE ∧
    ((calRig.tile 7).cal = .start ∧ (calRig.tile 7).gainDone = false ∧ calRig.ampInUse 7 11 = true ∧ calRig.ampInUse 7 9 = false) ∧
    ((calRig.tile 6).cal = .phases ∧ 4096 ≤ (calRig.tile 6).calCount) ∧
    ((calRig.tile 5).cal = .dac ∧ (calRig.tile 5).calBad = false ∧ (calRig.axis 30).axo.highZ = false) ∧
    ((calRig.modTile 5 fun x => { x with calBad := true }).tile 5).calBad = true ∧
    (calDoneRig.still = true ∧ (∀ i, i < 8 → (calDoneRig.tile i).cal = .done) ∧ calDoneRig.rd Reg.calState = 1 ∧
      calDoneRig.memState ≠ memTRAINING) := ⟨calRig_still.1, by decide +kernel, by decide +kernel, by decide +kernel, by decide +kernel, by decide +kernel, calRig_still.2, by decide +kernel⟩

/-- MODE_CMD of MASTER_0 meets the premises of acceptance. -/
def accepted (s : State) (c : Instr) (target : Nat) : Prop :=
  (s.advance 0).speaks (.eth 5 0) 0 = true ∧ (c, target) ∈ [(Instr.modeCmdConfigure 0 (.eth 5 0), CONFIGURE), (.modeCmdCalibrate 0 (.eth 5 0), CALIBRATE),
    (.modeCmdTrack 0 (.eth 5 0), TRACK), (.modeCmdServo 0 (.eth 5 0), SERVO), (.modeCmdBuild 0 (.eth 5 0), BUILD), (.modeCmdHold 0 (.eth 5 0), HOLD),
    (.modeCmdTest 0 (.eth 5 0), TEST)] ∧ s.rd Reg.tokenHolder = 0 ∧ (s.pound pTransition).staged = [] ∧
  (((s.advance 0).received (.eth 5 0)).modeChecks target).2.1 = 0

theorem witness_ModeCommandsAccepted : accepted (hosted 3) (.modeCmdConfigure 0 (.eth 5 0)) CONFIGURE ∧
    accepted (hosted 1) (.modeCmdCalibrate 0 (.eth 5 0)) CALIBRATE ∧ accepted (hosted 4) (.modeCmdTrack 0 (.eth 5 0)) TRACK ∧
    accepted (hosted 3) (.modeCmdServo 0 (.eth 5 0)) SERVO ∧ accepted ((hosted 4).wr Reg.memState 2) (.modeCmdBuild 0 (.eth 5 0)) BUILD ∧
    accepted (hosted 3) (.modeCmdHold 0 (.eth 5 0)) HOLD ∧ accepted (hosted 1) (.modeCmdTest 0 (.eth 5 0)) TEST := by
  unfold accepted; decide +kernel

theorem witness_AutoTrack :
    let s := ((hosted 2).wr Reg.calState 2).modMode fun m => { m with bootSeq := true }
    s.still = true ∧ s.mode.bootSeq = true ∧ s.modeCode = CALIBRATE ∧ s.rd Reg.calState = 2 ∧ (s.pound pTransition).staged = [] ∧
      (((s.advance 0).modMode fun m => { m with bootSeq := false }).modeChecks TRACK).2.1 = 0 :=
  ⟨modMode_still (fun _ => ⟨rfl, rfl⟩) (many_still (l := [(Reg.calState, 2)]) (hosted_still (by decide)) (by decide)), by decide +kernel⟩

theorem witness_ModeCommandsRefused : ((netRig 3).still = true ∧ ((netRig 3).advance 0).speaks (.eth 9 0) 1 = true ∧ (netRig 3).rd Reg.tokenHolder ≠ 1 ∧ TRACK ≠ HOLD) ∧
    (((netRig 3).advance 0).speaks (.eth 5 0) 0 = true ∧ (netRig 3).rd Reg.tokenHolder = 0 ∧
      ((((netRig 3).advance 0).received (.eth 5 0)).modeChecks BUILD).2.1 ≠ 0) :=
  ⟨⟨netRig_still (by decide), by decide +kernel⟩, by decide +kernel⟩

/-- The clauses on HOLD_N, a reaction, a transition and the checks of a target. -/
theorem witness_ModeCommandsRefused2 : ((pinRig 3).mode.holdLow = true ∧ (pinRig 3).rd Reg.tokenHolder = 0 ∧ (pinRig 3).still = true) ∧
    ((lockRig .deviceHold).lock.running.isSome = true ∧ (lockRig .deviceHold).mode.holdLow = false) ∧
    (((hosted 3).wr Reg.modeStatus 1).rd Reg.modeStatus = 1) ∧ bitAt (((hosted 3).wr Reg.faultSummary 0x10008).rd Reg.faultSummary) 16 = true ∧
    ((hosted 3).wr Reg.faultSummary 8).laserLatched 3 = true ∧ engineRig.rangeBusy 0 = true ∧
    (let s := many (hosted 3) [(Reg.sensorKind 7, 1), (Reg.axoCheck 7, 1)]
     s.axisParked 7 = false ∧ s.kind 7 ≠ 0 ∧ bitAt (s.rd (Reg.axoCheck 7)) 0 = true) ∧
    ((hosted 4).inRun = true ∧ CALIBRATE ≤ (hosted 7).modeCode ∧ (hosted 7).mode.holdLow = false ∧ (hosted 7).lock.running = none ∧
      (hosted 7).lock.queue = [] ∧ (hosted 7).rd Reg.modeStatus ≠ 1) := ⟨⟨by decide +kernel, by decide +kernel, pinRig_still (by decide)⟩, by decide +kernel⟩

theorem witness_LaserActions : buildRig.still = true ∧
    ((buildRig.laser 0).acts.head?.map (·.kind)) = some .gateOpen ∧ ((buildRig.laser 1).acts.head?.map (·.kind)) = some .gateClose ∧
    ((buildRig.laser 2).acts.head?.map (·.kind)) = some .lmoWrite ∧ ((buildRig.laser 3).acts.head?.map (·.kind)) = some .profileStart ∧
    (buildRig.laser 4).play = some { profile := 2, scale := 0x10000, start := ns 5000000, next := 4 } ∧ 4 < buildRig.rd (Reg.profileLen 2) :=
  ⟨buildRig_still, by decide +kernel⟩

theorem witness_HostEntries : buildRig.still = true ∧ (buildRig.hostEntries.head?.map fun e => (e.kind, e.arg)) = some (3, 0) ∧
    (buildRig.advance 0).speaks (.eth 5 0) 0 = true ∧
    (let b := leBytes 6 0 ++ leBytes 4 5000400 ++ [3, 2, 3, 0, 0, 0]
     b.length = 16 ∧ hostEntryOf b = some { lt := ns 5000400 + 3 * 2 ^ 30, kind := 2, arg := 3, tag := 0 } ∧ buildRig.hostEntries.length < 32 ∧
       (buildRig.advance 0).lt + ns 200 ≤ ns 5000400 + 3 * 2 ^ 30) := ⟨buildRig_still, by decide +kernel⟩

theorem witness_CamerasTriggered : buildRig.still = true ∧
    ((buildRig.cam 30).next = some { rise := ns 5000500, fall := ns 5000900 } ∧ buildRig.camRuns 30 = true ∧ buildRig.lt ≤ ns 5000500) ∧
    ((buildRig.cam 31).high = some { rise := ns 5000000, fall := ns 5000400 } ∧ buildRig.lt ≤ ns 5000400 ∧
      buildRig.vision.tags.any (fun g => g.camera == 31 && g.frame == (buildRig.rd (Reg.camFrameNext 31) + 2 ^ 32 - 1) % 2 ^ 32 && decide (g.laser < 16)) = true) ∧
    ((buildRig.vision.tags.filter fun g => decide (g.camera = 29) && !g.complete && !g.stopDue.isEmpty).getLast?.map (·.frame)) = some 7 :=
  ⟨buildRig_still, by decide +kernel⟩

theorem witness_SsiShifts : legacyRig.still = true ∧ (legacyRig.ssi 0).frame = none ∧ (legacyRig.ssi 1).frame = some [true, false] ∧
    (legacyRig.advance 9).lt < legacyRig.ssiEnd 1 := ⟨legacyRig_still, by decide +kernel⟩

theorem witness_SamplePortAnswers : legacyRig.still = true ∧ legacyRig.legacy.lastSample = some (ns 5000000) ∧
    ns 5000000 + ns 500 ≤ (legacyRig.advance 377).lt ∧ (legacyRig.advance 376).lt < ns 5000000 + ns 500 ∧ 47 + 1 ≤ 48 ∧ 48 < 47 + 2 ∧
    ¬(2 = 2 ∧ 0 = 0 ∧ 1 = 0) ∧ (legacyRig.legacy.spi = some (false, ns 5000600) ∧ (legacyRig.advance 377).lt < ns 5000600) := ⟨legacyRig_still, by decide +kernel⟩

theorem witness_PulsesCount : legacyRig.still = true ∧ 10 * legacyRig.rd (Reg.plsFilter 5) ≤ 100000000 ∧ bitsAt (legacyRig.rd (Reg.plsMode 5)) 0 2 = 2 ∧ bitsAt (legacyRig.rd (Reg.plsMode 6)) 0 2 = 1 ∧
    bitsAt (legacyRig.rd (Reg.plsMode 7)) 0 2 = 0 ∧ (legacyRig.advance 3).speaks (.eth 5 0) 0 = true := ⟨legacyRig_still, by decide +kernel⟩

theorem witness_PresetSetsCount : (legacyRig.still = true ∧ (legacyRig.advance 3).speaks (.eth 5 0) 0 = true ∧ legacyRig.pulseBusy 7 = false) ∧
    (let s := many engineRig [(Reg.spSource 18, 2), (Reg.spPulseInput 18, 7)]
     s.still = true ∧ (s.advance 3).speaks (.eth 5 0) 0 = true ∧ (s.axis 18).law.run ≠ .stopped ∧ s.rd (Reg.spSource 18) = 2 ∧
       s.rd (Reg.spPulseInput 18) = 7) := ⟨⟨legacyRig_still, by decide +kernel⟩, many_still engineRig_still (by decide), by decide +kernel⟩

theorem witness_EncoderEdges : legacyRig.still = true ∧ (legacyRig.enc 6).next = some (ns 5000600) ∧ (legacyRig.advance 3).speaks (.eth 5 0) 0 = true ∧
    encSpanFits (legacyRig.rd (Reg.encCfg 6)) (legacyRig.rd (Reg.encSpan 6)) = true := ⟨legacyRig_still, by decide +kernel⟩

theorem witness_CanStates : (legacyRig.still = true ∧ bitAt (legacyRig.rd Reg.canCfg) 0 = true ∧ bitAt (legacyRig.rd Reg.canStatus) 2 = false) ∧
    (busOffRig.still = true ∧ bitAt (busOffRig.rd Reg.canStatus) 2 = true ∧ bitAt (busOffRig.rd Reg.canCfg) 1 = true) :=
  ⟨⟨legacyRig_still, by decide +kernel⟩, busOffRig_still, by decide +kernel⟩

theorem witness_RequestsHeld : (netRig 3).still = true ∧
    (let b := [1, 7, 0, 0x20, 2, 0]
     let m : Msg := { service := 1, tag := 7, index := 0x2000, sub := 2, data := [] }
     (netRig 3).portParked 1 = false ∧ parseMsgs (b.length + 1) b = [m] ∧ (((netRig 3).advance 5).received (.eth 9 1)).admitCode (.eth 9 1) m 0 = 0 ∧
       bitAt ((netRig 3).rd Reg.canStatus) 0 = true ∧ b.length ≤ 8 ∧ parseMsgs 1 b = [m] ∧ b.length = 6 + m.data.length ∧
       (((netRig 3).advance 5).received .can).admitCode .can m 0 = 0 ∧ (netRig 3).rd Reg.canDataRate ≠ 0 ∧ 0 < b.length ∧
       ({ id := 0x800, fd := false } : CanHead).id ≠ (netRig 3).rd Reg.canReqId) := ⟨netRig_still (by decide), by decide +kernel⟩

/-- Two masters write SP_HOST of AXIS_47 with different values in one window. -/
def contestRig : State :=
  let q (mac p frame v : Nat) : Request :=
    { ts := ns 5000000, src := .eth mac p, frame := frame, pos := 0,
      msg := { service := svcWRITE, tag := frame, index := keyIndex (Reg.spHost 47), sub := keySub (Reg.spHost 47), data := [1, 2, 3, v] } }
  (netRig 3).modNet fun x => { x with held := [q 5 1 8 5, q 9 0 7 4] }

theorem contestRig_still : contestRig.still = true := by rw [contestRig, State.still_modNet]; exact netRig_still (by decide)

theorem witness_RequestsHeld2 : contestRig.still = true ∧ (contestRig.net.held.map fun q => (contestRig.masterOf q.src, q.won, q.pd, q.msg.bad)) =
      [(some 0, false, false, false), (some 1, false, false, false)] ∧
    (contestRig.net.held.all fun q => decide (q.ts < nextGrid (ns (contestRig.loopNs 0)) contestRig.lt (contestRig.engine 0).lastLoop)) = true ∧
    contestRig.rd (Reg.masterRank 0) < contestRig.rd (Reg.masterRank 1) ∧
    (contestRig.net.answers = [] ∧ contestRig.portParked 1 = false ∧ bitAt (contestRig.rd (Reg.linkStatus 1)) 0 = true ∧ (contestRig.egress 1).sending = none) ∧
    (let s := (netRig 3).wr Reg.canCfg 1
     s.still = true ∧ bitAt (s.rd Reg.canStatus) 0 = true ∧ bitAt (s.rd Reg.canStatus) 2 = false ∧ bitAt (s.rd Reg.canCfg) 0 = true) :=
  ⟨contestRig_still, by decide +kernel, by decide +kernel, by decide +kernel, by decide +kernel,
    many_still (l := [(Reg.canCfg, 1)]) (netRig_still (by decide)) (by decide), by decide +kernel⟩

theorem witness_ReadsAnswered : (netRig 3).still = true ∧ ((netRig 3).advance 5).heard .can = true ∧ ¬(0x5000 ≤ 0x2000 ∧ 0x2000 < 0x6000) ∧
    (Dict.hasIndex 0x2000 = true ∧ (Dict.row? (regKey 0x2000 2)).isSome = true ∧ regKey 0x2000 2 ≠ Reg.memData) ∧
    Dict.hasIndex 0x4FFF = false ∧ (Dict.hasIndex 0x2000 = true ∧ Dict.row? (regKey 0x2000 255) = none) := ⟨netRig_still (by decide), by decide +kernel⟩

theorem witness_WritesTakeEffect : ((netRig 1).still = true ∧ ((netRig 1).advance 5).speaks (.eth 9 0) 1 = true) ∧
    (∃ row, Dict.row? (regKey 0x1000 1) = some row ∧ row.access = .ro) ∧
    (∃ row, Dict.row? (Reg.gateOnDelay 15) = some row ∧ row.access = .rws ∧ tySize row.ty = some [0x60, 0x79, 0xFE, 0xFF].length ∧ (netRig 1).modeCode = CONFIGURE ∧
      bankKey (Reg.gateOnDelay 15) = none ∧ (((netRig 1).advance 5).received (.eth 9 0)).stateCode (Reg.gateOnDelay 15) true = 0 ∧
      (((netRig 1).advance 5).received (.eth 9 0)).inRange row (Reg.gateOnDelay 15) (ofLeBytes [0x60, 0x79, 0xFE, 0xFF]) true = true ∧
      (((netRig 1).advance 5).received (.eth 9 0)).tooLate (Reg.gateOnDelay 15) (ofLeBytes [0x60, 0x79, 0xFE, 0xFF]) = false) ∧
    (netRig 3).still = true ∧
    (∃ row, Dict.row? (Reg.gateOnDelay 15) = some row ∧ row.access = .rws ∧ tySize row.ty = some [0x60, 0x79, 0xFE, 0xFF].length ∧ (netRig 3).inRunOrHold = true ∧
      ((netRig 3).pound (scopeOf (Reg.gateOnDelay 15))).armed = none ∧ (((netRig 3).advance 5).received (.eth 9 0)).stateCode (Reg.gateOnDelay 15) false = 0 ∧
      (((netRig 3).advance 5).received (.eth 9 0)).inRange row (Reg.gateOnDelay 15) (ofLeBytes [0x60, 0x79, 0xFE, 0xFF]) false = true ∧
      (((netRig 3).advance 5).received (.eth 9 0)).tooLate (Reg.gateOnDelay 15) (ofLeBytes [0x60, 0x79, 0xFE, 0xFF]) = false) :=
  ⟨⟨netRig_still (by decide), by decide +kernel⟩, ⟨_, by rfl, by decide +kernel⟩, ⟨_, by rfl, by decide +kernel⟩, netRig_still (by decide), ⟨_, by rfl, by decide +kernel⟩⟩

/-- The refusals: a value of another length, an RWS object in TEST, an RWC object in TRACK, an armed pound, a value out of range. -/
theorem witness_WritesTakeEffect2 : (netRig 7).still = true ∧ ((netRig 7).modeCode ≠ CONFIGURE ∧ (netRig 7).inRunOrHold = false) ∧
    (∃ row, Dict.row? (Reg.gateOnDelay 15) = some row ∧ row.access = .rws ∧ tySize row.ty = some 4 ∧ [1, 2].length ≠ 4 ∧
      (((netRig 1).advance 5).received (.eth 9 0)).stateCode (Reg.gateOnDelay 15) true = 0 ∧
      (((netRig 1).advance 5).received (.eth 9 0)).inRange row (Reg.gateOnDelay 15) (ofLeBytes [0, 0, 0, 0x40]) true = false ∧
      (((netRig 3).advance 5).received (.eth 9 0)).inRange row (Reg.gateOnDelay 15) (ofLeBytes [0, 0, 0, 0x40]) false = false) ∧
    (∃ row, Dict.row? (Reg.sensorKind 3) = some row ∧ row.access = .rwc ∧ tySize row.ty = some 1 ∧
      (((netRig 3).advance 5).received (.eth 9 0)).unitParked (Reg.sensorKind 3) = false) ∧
    (((netRig 3).modPound (scopeOf (Reg.gateOnDelay 15)) fun _ => { armed := some 5, deferred := 3 }).pound (scopeOf (Reg.gateOnDelay 15))).armed.isSome = true :=
  ⟨netRig_still (by decide), by decide +kernel, ⟨_, by rfl, by decide +kernel⟩, ⟨_, by rfl, by decide +kernel⟩, by decide +kernel⟩

/-- MASTER_1 has assembled two bytes of a layer number. -/
def partRig : State := (netRig 3).modMaster 1 fun x => { x with asmKey := Reg.layerNumber, asm := [1, 2], asmLt := ns 5000000 }

/-- The part of a value that is its whole is judged in CONFIGURE and in TRACK as `witness_WritesTakeEffect` shows. -/
theorem witness_PartsAssemble : partRig.still = true ∧ (partRig.advance 5).speaks (.eth 9 0) 1 = true ∧
    ((Dict.row? Reg.layerNumber).map fun r => (tySize r.ty).getD 4096) = some 4 ∧
    ((partRig.master 1).asmKey = Reg.layerNumber ∧ ((partRig.advance 5).received (.eth 9 0)).lt ≤ (partRig.master 1).asmLt + ns 100000000 ∧
      2 = (partRig.master 1).asm.length ∧ (partRig.master 1).asm.length + [3, 4].length ≤ 4) ∧
    (4 < (partRig.master 1).asm.length + [3, 4, 5].length) ∧ ((Dict.row? Reg.layerState).map (·.access)) = some .ro ∧
    (∃ row, Dict.row? (Reg.gateOnDelay 15) = some row ∧ row.access = .rws ∧ tySize row.ty = some (0 + [0x60, 0x79, 0xFE, 0xFF].length)) ∧
    ((netRig 1).still = true ∧ ((netRig 1).advance 5).speaks (.eth 9 0) 1 = true ∧ ((netRig 1).master 1).asm = [] ∧ bankKey (Reg.gateOnDelay 15) = none) ∧
    ((netRig 3).still = true ∧ ((netRig 3).advance 5).speaks (.eth 9 0) 1 = true ∧ ((netRig 3).master 1).asm = []) :=
  ⟨by rw [partRig, State.still_modMaster]; exact netRig_still (by decide), by decide +kernel, by decide +kernel, by decide +kernel, by decide +kernel,
    by decide +kernel, ⟨_, by rfl, by decide +kernel⟩, ⟨netRig_still (by decide), by decide +kernel⟩, netRig_still (by decide), by decide +kernel⟩

/-- Process data of two set-points, with PD_IN enabled and a boundary of ENGINE_0 just past. -/
def pdRig : State :=
  (many (netRig 4) [(Reg.pdOutMap 0, 0x30100220), (Reg.pdOutMap 1, 0x30500220), (Reg.pdInMap 0, 0x20000208), (Reg.pdInEnable, 1),
    (Reg.pdInPeriod, 1)]).modEngine 0 fun e => { e with lastLoop := some (ns 5000000) }

theorem witness_ProcessDataHeld : pdRig.still = true ∧ pdRig.portParked 1 = false ∧ pdRig.ethMaster 8 = none ∧ pdRig.ethMaster 9 = some 1 ∧
    [1, 2, 3, 4, 5, 6, 7, 8].length = pdMapBytes (pdRig.pdMap Reg.pdOutMap) ∧
    pdRig.heldCount + (pdValues (pdRig.pdMap Reg.pdOutMap) [1, 2, 3, 4, 5, 6, 7, 8]).length ≤ 64 ∧
    ((pdRig.engine 0).lastLoop = some (ns 5000000) ∧ bitAt (pdRig.rd Reg.pdInEnable) 0 = true ∧ pdRig.inRunOrHold = true ∧
      ns 5000000 % ns (pdRig.rd Reg.pdInPeriod * pdRig.loopNs 0) = 0 ∧ pdRig.net.pdTaken ≠ some (ns 5000000)) ∧
    (bitAt (pdRig.rd (Reg.linkStatus 1)) 0 = true ∧ (pdRig.egress 1).sending = none) :=
  ⟨by rw [pdRig, State.still_modEngine]; exact many_still (netRig_still (by decide)) (by decide), by decide +kernel⟩

/-- NET_0 sends a frame, with frames stored in both queues; NET_1 with one in its low queue. -/
def frameRig : State :=
  let f : Frame := { dest := 1234, src := 9, ether := 0x800 }
  ((netRig 3).modEgress 0 fun _ => { sending := some f, high := [f, f], low := [f], lowAt := [0] }).modEgress 1 fun _ => { sending := some f, low := [f], lowAt := [1] }

theorem frameRig_still : frameRig.still = true := by
  simp only [frameRig, State.still_modEgress]; exact netRig_still (by decide)

/-- Whatever the device's own address, a frame can be for another. -/
theorem other_address (x : Nat) : ∃ d, d ≠ x ∧ d ≠ pdelayGroup := by
  by_cases h : x = 1234
  · exact ⟨1235, by omega, by decide⟩
  · exact ⟨1234, by omega, by decide⟩

theorem witness_FramesForwarded :
    ((netRig 3).still = true ∧ ((netRig 3).portParked 0 = false ∧ (netRig 3).portParked (1 - 0) = false ∧
        bitAt ((netRig 3).rd (Reg.linkStatus (1 - 0))) 0 = true ∧ ((netRig 3).egress (1 - 0)).sending = none ∧ 0x800 ≠ etherPtp ∧ 0x800 ≠ etherRaore) ∧
      ∃ d, d ≠ (netRig 3).rd Reg.deviceMac % 2 ^ 48 ∧ d ≠ pdelayGroup) ∧
    (frameRig.still = true ∧ (frameRig.egress 0).sending.isSome = true ∧ frameRig.portParked 0 = false ∧ bitAt (frameRig.rd (Reg.linkStatus 0)) 0 = true ∧
      (frameRig.egress 0).high.length = 2) ∧
    ((frameRig.egress 1).sending.isSome = true ∧ (frameRig.egress 1).high = [] ∧ (frameRig.egress 1).low.length = 1) ∧
    (let s := frameRig.modEgress 1 fun x => { x with low := [], lowAt := [] }
     s.still = true ∧ (s.egress 1).sending.isSome = true ∧ (s.egress 1).high = [] ∧ (s.egress 1).low = []) :=
  ⟨⟨netRig_still (by decide), by decide +kernel, other_address _⟩, ⟨frameRig_still, by decide +kernel⟩, by decide +kernel,
    by rw [State.still_modEgress]; exact frameRig_still, by decide +kernel⟩

/-- The other port's link is down, and the port itself is PARKED. -/
theorem witness_FramesForwarded2 : ((netRig 3).wr (Reg.linkStatus 1) 2).still = true ∧ bitAt (((netRig 3).wr (Reg.linkStatus 1) 2).rd (Reg.linkStatus (1 - 0))) 0 = false ∧
    ((netRig 3).wr (Reg.linkStatus 1) 2).portParked 0 = false ∧ parkRig.portParked 1 = true :=
  ⟨many_still (l := [(Reg.linkStatus 1, 2)]) (netRig_still (by decide)) (by decide), by decide +kernel⟩

theorem witness_VendorObjectsReadOnly : (netRig 3).still = true ∧ ((netRig 3).advance 5).heard (.eth 44 0) = true ∧
    ((netRig 3).advance 5).speaks .can 2 = true ∧ ((netRig 3).master 2).asm = [] := ⟨netRig_still (by decide), by decide +kernel⟩

/-- MASTER_2 has kept 4,000 bytes of parts for an object of the vendor's range. -/
theorem witness_VendorObjectsReadOnly2 :
    let s := (netRig 3).modMaster 2 fun x => { x with asmKey := regKey 0x5FFF 255, asm := List.replicate 4000 0, asmLt := ns 5000000 }
    s.still = true ∧ (s.advance 5).speaks .can 2 = true ∧ (s.master 2).asmKey = regKey 0x5FFF 255 ∧
      ((s.advance 5).received .can).lt ≤ (s.master 2).asmLt + ns 100000000 ∧ (s.master 2).asm.length = 4000 ∧ 4000 + 96 ≤ 4096 ∧ 4096 < 4000 + 97 ∧
      (netRig 3).unheld = true :=
  ⟨by rw [State.still_modMaster]; exact netRig_still (by decide), by decide +kernel⟩

theorem witness_MastersRegister : (netRig 3).still = true ∧ ((netRig 3).advance 5).heard (.eth 77 0) = true ∧
    ((netRig 3).rankCap 77 = some 6 ∧ (netRig 3).ethMaster 77 = none ∧ (netRig 3).freeSlot = some 3) ∧
    ((netRig 3).rankCap 9 = some 4 ∧ (netRig 3).ethMaster 9 = some 1) ∧
    (((netRig 3).wr Reg.openRegistration 0).still = true ∧ ((netRig 3).wr Reg.openRegistration 0).rankCap 78 = none ∧
      ((netRig 3).wr Reg.openRegistration 0).ethMaster 78 = none) ∧
    (((netRig 3).wr (Reg.masterState 3) 1).still = true ∧ ((netRig 3).wr (Reg.masterState 3) 1).freeSlot = none) :=
  ⟨netRig_still (by decide), by decide +kernel, by decide +kernel, by decide +kernel,
    ⟨many_still (l := [(Reg.openRegistration, 0)]) (netRig_still (by decide)) (by decide), by decide +kernel⟩,
    many_still (l := [(Reg.masterState 3, 1)]) (netRig_still (by decide)) (by decide), by decide +kernel⟩

theorem witness_MastersLeave : ((netRig 3).still = true ∧ (netRig 3).rd (Reg.masterState 0) = 1 ∧ bitAt ((netRig 3).rd Reg.canCfg) 0 = false ∧
      (netRig 3).rd Reg.tokenHolder = 0 ∧ (netRig 3).modeCode ≠ SERVO ∧ (netRig 3).modeCode ≠ BUILD ∧ ((netRig 3).advance 5).speaks (.eth 5 1) 0 = true) ∧
    ((netRig 5).still = true ∧ (netRig 5).rd (Reg.masterState 1) = 1 ∧ (netRig 5).rd Reg.tokenHolder ≠ 1 ∧ ((netRig 5).advance 5).speaks (.eth 9 1) 1 = true) :=
  ⟨⟨netRig_still (by decide), by decide +kernel⟩, netRig_still (by decide), by decide +kernel⟩

/-- The holder is lost in BUILD with TOKEN_LOSS_ACTION 1, and an enabled CAN port waits for a slot. -/
theorem witness_MastersLeave2 :
    let s := many (netRig 5) [(Reg.masterState 2, 0), (Reg.canCfg, 1), (Reg.tokenLossAction, 1)]
    s.still = true ∧ s.rd (Reg.masterState 0) = 1 ∧ bitAt (s.rd Reg.canCfg) 0 = true ∧ s.masterOf .can = none ∧ s.rd Reg.tokenHolder = 0 ∧
      s.modeCode = BUILD ∧ s.rd Reg.tokenLossAction = 1 ∧ s.lock.running = none ∧ s.log.stopped = false ∧ s.log.intake.length < 255 ∧
      ∀ l, l < 16 → (s.goTo (s.advance 5).lt).streamRests l = true :=
  ⟨many_still (netRig_still (by decide)) (by decide), by decide +kernel⟩

theorem witness_TokenMoves : (netRig 3).still = true ∧ ((netRig 3).advance 5).speaks (.eth 9 1) 1 = true ∧ ((netRig 3).advance 5).speaks .can 2 = true ∧
    (netRig 3).rd (Reg.masterRank ((netRig 3).rd Reg.tokenHolder)) < (netRig 3).rd (Reg.masterRank 1) := ⟨netRig_still (by decide), by decide +kernel⟩

theorem witness_PushesAcknowledged : (netRig 3).still = true ∧ ((netRig 3).advance 5).heard (.eth 5 0) = true ∧ (netRig 3).ethMaster 5 = some 0 ∧
    (0 < seqDist ((netRig 3).rd (Reg.pushAckSeq 0)) 5 ∧
      seqDist ((netRig 3).rd (Reg.pushAckSeq 0)) 5 ≤ seqDist ((netRig 3).rd (Reg.pushAckSeq 0)) ((netRig 3).rd Reg.nextSeq)) ∧
    ((netRig 3).rd (Reg.masterState 0) = 1 ∧ bitAt ((netRig 3).rd (Reg.pushEnable 0)) 0 = true ∧
      (netRig 3).rd (Reg.pushAckSeq 0) ≠ (netRig 3).rd Reg.nextSeq) ∧
    (partRig.master 1).asm ≠ [] := ⟨netRig_still (by decide), by decide +kernel⟩

theorem witness_SyncsUsed : timeRig.still = true ∧
    (timeRig.domainOf (timeRig.rd (Reg.domainNumber 0)) = some 0 ∧ (timeRig.domain 0).selected = some (50, 51) ∧ timeRig.portParked 0 = false ∧
      timeRig.rd (Reg.pdelayState 0) = 2 ∧ timeRig.rd (Reg.syncPort 0) = 0 ∧ timeRig.active ≠ 0xFF ∧ timeRig.time.firstAt ≠ some (timeRig.advance 5).lt) ∧
    ((timeRig.domain 0).twoStep.map fun w => (w.port, w.seq)) = some (0, 6) ∧ (timeRig.domainOf 20 = some 1 ∧ (timeRig.domain 1).selected = some (60, 61)) ∧
    ((timeRig.domain 1).syncNs ≠ 0 ∧ timeRig.rd (Reg.pdelayState (1 - timeRig.rd (Reg.syncPort 1))) ≠ 2 ∧ timeRig.domainValid 1 = true) ∧
    (let s := many timeRig [(Reg.preferredDomain, 1), (Reg.activeDomain, 0)]
     s.still = true ∧ s.rd Reg.preferredDomain = 1 ∧ bitAt (s.rd Reg.timeFlags) 1 = true ∧ s.active ≠ 1 ∧ s.active ≠ 0xFF ∧ s.domainValid 1 = true ∧
       s.rd Reg.timeMode = 0) :=
  ⟨timeRig_still, by decide +kernel, by decide +kernel, by decide +kernel, by decide +kernel, many_still timeRig_still (by decide), by decide +kernel⟩

theorem witness_PeerDelayMeasured : timeRig.still = true ∧ (timeRig.portParked 0 = false ∧ bitAt (timeRig.rd (Reg.linkStatus 0)) 0 = true ∧
      (timeRig.egress 0).sending = none ∧ (timeRig.portTime 0).missed < 2) ∧
    ((timeRig.portTime 0).req = some (9, ((ns 4999000 : Nat) : Int)) ∧ timeRig.active ≠ 0xFF ∧ timeRig.time.firstAt ≠ some (timeRig.advance 5).lt) ∧
    ((timeRig.wr (Reg.pdelayState 0) 1).still = true ∧ (timeRig.wr (Reg.pdelayState 0) 1).rd (Reg.pdelayState 0) < 2) ∧ timeRig.rd (Reg.linkStatus 0) ≠ 0 ∧
    (let s := timeRig.wr (Reg.linkStatus 1) 0
     s.still = true ∧ s.rd (Reg.linkStatus 1) ≠ 3 ∧ s.portParked 1 = false) :=
  ⟨timeRig_still, by decide +kernel, by decide +kernel, ⟨many_still (l := [(Reg.pdelayState 0, 1)]) timeRig_still (by decide), by decide +kernel⟩,
    by decide +kernel, many_still (l := [(Reg.linkStatus 1, 0)]) timeRig_still (by decide), by decide +kernel⟩

theorem witness_MemoryServed : ((memRig 3 2).still = true ∧ 1 < (memRig 3 2).memChans ∧ (memRig 3 2).memState = memREADY ∧ 1 < (memRig 3 2).memRanks ∧
      (memRig 3 2).memPort.owed.length = 4 ∧ (memRig 3 2).memPort.tickFrom.length = 4 ∧ (memRig 3 2).memPort.owed.getD 3 0 < 5 ∧
      (memRig 3 2).rankFitted 1 1 = true ∧ (memRig 3 2).memPort.patrol.getD 1 0 + 64 < memCapacity ((memRig 3 2).rd Reg.memDevice) - 65536) ∧
    ((memRig 1 1).still = true ∧ (memRig 1 1).memState = memTRAINING ∧ (memRig 1 1).inRunOrHold = false) ∧
    ((memRig 1 3).still = true ∧ (memRig 1 3).memState = memSWITCHING) ∧
    (((memRig 3 2).laser 3).stream.fetching = some (40, 2, ns 4999000) ∧ (memRig 3 2).memPort.bad = []) :=
  ⟨⟨memRig_still (by decide), by decide +kernel⟩, ⟨memRig_still (by decide), by decide +kernel⟩, ⟨memRig_still (by decide), by decide +kernel⟩, by decide +kernel⟩

theorem witness_MemoryServed2 : (memRig 1 1).unheld = true ∧ (memRig 1 3).unheld = true ∧
    (let s := (memRig 1 3).modMem fun m => { m with target := (memRig 1 3).rateChosen }
     s.memState = memSWITCHING ∧ s.memPort.target = s.rateChosen ∧ s.unheld = true) ∧ (memRig 3 2).memPort.spoiled = false := by decide +kernel

theorem witness_WindowsAccessed : (memRig 3 2).still = true ∧ ((memRig 3 2).advance 5).speaks (.eth 5 0) 0 = true ∧ (memRig 3 2).memState = memREADY ∧ (memRig 3 2).memPort.bad = [] ∧
    [9, 8, 7, 6].length ≤ 4096 ∧ (memRig 3 2).rd Reg.memAddr + [9, 8, 7, 6].length ≤ (memRig 3 2).hostSpaceNow ∧
    (memRig 3 2).rd Reg.memAddr < (memRig 3 2).hostSpaceNow ∧ [9, 8, 7, 6].length % 2 = 0 ∧
    (memRig 3 2).rd Reg.profileWrAddr + [9, 8, 7, 6].length / 2 ≤ 2 ^ 20 := ⟨memRig_still (by decide), by decide +kernel⟩

/-- Camera 29 corrects from lane 1. -/
def laneRig : State := many buildRig [(Reg.camCfg 29, 4), (Reg.maxAge 29, 0)]

theorem witness_LanesServed : laneRig.still = true ∧ laneRig.laneUp 1 = true ∧ laneRig.laneUp 0 = false ∧ bitAt (laneRig.rd Reg.laneEnable) 3 = true ∧
    bitAt (laneRig.rd Reg.visStatus) 4 = true ∧ bitAt (laneRig.rd Reg.laneEnable) 4 = true ∧
    ((laneRig.rxTag 29 7).isSome = true ∧ ((laneRig.rxTag 29 7).map (·.1)) = some 29 ∧ laneRig.frameAge 29 7 ≤ laneRig.rd (Reg.maxAge 29)) ∧
    (bitAt (laneRig.rd (Reg.camCfg 29)) 2 = true ∧ laneRig.modeCode = BUILD ∧ laneRig.rd (Reg.camLaser 29) < 16 ∧ (laneRig.cam 29).supplied = none) ∧
    laneRig.rxTag 29 6 = none := ⟨many_still buildRig_still (by decide), by decide +kernel⟩

/-- Characters that R361 has discarded; bits with three commas; four code violations in a row. -/
theorem witness_LanesServed2 : rxParse [0x07] = none ∧
    gainsSync (List.replicate 3 [false, false, true, true, true, true, true, false, true, false]).flatten = true ∧
    losesSync [0, 0, 0, 0] = true ∧ laneRig.laneUp 5 = false ∧ bitAt (laneRig.rd Reg.laneEnable) 1 = true ∧ bitAt (laneRig.rd Reg.visStatus) 0 = false := by
  decide +kernel

theorem witness_PoundsCommitted : ((poundRig 3).still = true ∧ ((poundRig 3).advance 5).speaks (.eth 9 0) 1 = true) ∧
    (let r := ((poundRig 3).advance 5).received (.eth 9 0)
     ((poundRig 3).pound 7).closed = true ∧ (((poundRig 3).pound 104).closed = false ∧ ((poundRig 3).pound 104).staged ≠ []) ∧
     (((poundRig 3).pound 104).has Reg.layerNumber = false ∧ r.commitFail 104 = none) ∧
     (((poundRig 3).pound 8).closed = false ∧ ((poundRig 3).pound 8).value (Reg.bankSwap 8) = some 16 ∧ r.commitFail 8 = none ∧
       (r.budgetCheck (8 / 6) (fun a => if a = 8 then some 16 else none) true []).2 = true) ∧
     (([6, 7].any fun q => ((poundRig 3).pound q).closed) = true ∧ ([0, 1].any fun q => ((poundRig 3).pound q).closed) = false) ∧
     (r.commitFail 0 = none ∧ ((poundRig 3).pound 0).has (Reg.bankSwap 0) = false ∧ r.commitFail 1 = none ∧ ((poundRig 3).pound 1).has (Reg.bankSwap 1) = false ∧
       ((poundRig 3).pound 0).staged ≠ [])) ∧
    ((poundRig 1).still = true ∧ ((poundRig 1).advance 5).speaks (.eth 9 0) 1 = true ∧ (poundRig 1).modeCode = CONFIGURE ∧
      ∃ row, Dict.row? (Reg.bankSwap 47) = some row ∧ (((poundRig 1).advance 5).received (.eth 9 0)).inRange row (Reg.bankSwap 47) 16 true = true) ∧
    ((poundRig 3).inRunOrHold = true ∧ ((poundRig 3).pound 47).armed = none ∧
      ∃ row, Dict.row? (Reg.bankSwap 47) = some row ∧ (((poundRig 3).advance 5).received (.eth 9 0)).inRange row (Reg.bankSwap 47) 16 false = true) :=
  ⟨⟨poundRig_still.2.1, by decide +kernel⟩, by decide +kernel, ⟨poundRig_still.1, by decide +kernel, by decide +kernel, ⟨_, by rfl, by decide +kernel⟩⟩,
    by decide +kernel, by decide +kernel, ⟨_, by rfl, by decide +kernel⟩⟩

theorem witness_EmptyCommitArmsNothing : (poundRig 3).still = true ∧ ((poundRig 3).advance 5).speaks (.eth 9 0) 1 = true ∧
    ((poundRig 3).pound 103).staged = [] ∧ ((poundRig 3).pound 103).armed = none ∧ ((poundRig 3).pound 55).staged = [] ∧
    ((poundRig 3).pound 55).armed = none ∧ ((poundRig 3).pound 47).staged = [] ∧ ((poundRig 3).pound 47).armed = none :=
  ⟨poundRig_still.2.1, by decide +kernel⟩

/-- The premises of `LockagesApply` on the state, for the pounds `ps` at the next boundary of ENGINE_t. -/
def lockable (s : State) (t t0 : Nat) (ps : List Nat) : Bool :=
  let b := nextGrid (ns (s.loopNs t)) s.lt (s.engine t).lastLoop
  let u := s.goTo b
  s.calm && s.inRunOrHold && s.lock.holdRun.isNone && s.lock.leftover.isEmpty && (s.engine t).due.isEmpty && (s.engine t).returnCls.isNone &&
    s.net.held.isEmpty && ((List.range 16).all fun l => u.streamRests l && (s.laser l).cands.isEmpty) &&
    ((List.range 106).all fun r => (s.pound r).staged.all fun e =>
      scopeOf e.1 == r && match Dict.row? e.1 with | some row => row.access == .rws | none => false) &&
    ((List.range 105).all fun r => ps.contains r || (s.pound r).bundle.isEmpty) && decide ps.Nodup &&
    ps.all fun q => (s.pound q).armed == some t0 && (s.pound q).bundle == ps.filter (fun r => r != q) &&
      decide ((s.pound q).staged.map fun e => e.1).Nodup && u.deferCaseOf q u.memStepRuns == 0

/-- A bundle of two axes and their engine. -/
def bundleRig (t0 : Lt) : State :=
  let s := (hosted 3).modPound 7 fun _ => { staged := [(Reg.weirVelLimit 7, 77), (Reg.axoRange 7, 1)], armed := some t0, bundle := [10, 49] }
  let s := s.modPound 10 fun _ => { staged := [(Reg.holdAction 10, 1)], armed := some t0, bundle := [7, 49] }
  s.modPound 49 fun _ => { staged := [(Reg.excAmpl 1 2, 700)], armed := some t0, bundle := [7, 10] }

/-- One pound. -/
def scopeRig (s : State) (p : Nat) (l : List (Nat × Nat)) : State := s.modPound p fun _ => { staged := l, armed := some (ns 4999000) }

/-- A running stream whose next segment begins before the next boundary but one of ENGINE_1. -/
def segRig : State :=
  let y : Seg := { s := 4, ty := 1, p0 := {}, p1 := { x := 500000 }, t0 := ns 5003000, t1 := ns 5019000, t2 := ns 5019000 }
  ((hosted 5).wr (Reg.streamState 3) 1).modStream 3 fun m =>
    { m with segs := [y], segUsed := 3, decodeNext := 5, len := 8, lastTime := ns 5019000, frozen := false, finished := false }

/-- A swap of AXIS_7 to a bank, with its CRC or another, in a law that runs or not. -/
def swapRig (run : LawRun) (crc : Nat) : State :=
  (scopeRig (hosted 4) 7 [(Reg.bankSwap 7, 12)]).modLaw 7 fun l => { l with pound := [7], armed := some { len := 12, crc := crc }, run := run }

theorem witness_LockagesApply : (lockable (bundleRig (ns 4999000)) 1 (ns 4999000) [7, 10, 49] = true ∧ (∀ q, q ∈ [7, 10, 49] → q ∈ axesOf 1 ∨ q = 48 + 1) ∧
      ns 4999000 + ns 1000 ≤ ((hosted 3).goTo (nextGrid (ns ((hosted 3).loopNs 1)) (hosted 3).lt none)).lt) ∧
    (lockable (bundleRig (ns 5001600)) 1 (ns 5001600) [7, 10, 49] = true ∧
      ((hosted 3).goTo (nextGrid (ns ((hosted 3).loopNs 1)) (hosted 3).lt none)).lt < ns 5001600 + ns 1000) ∧
    (lockable (scopeRig (hosted 3) 59 [(Reg.gateOnDelay 3, 300)]) 1 (ns 4999000) [59] = true ∧ (hosted 3).rd (Reg.streamState 3) ≠ 1 ∧
      ((hosted 3).laser 3).stream.startAt = none) ∧
    (lockable (scopeRig segRig 59 [(Reg.gateOnDelay 3, 300)]) 1 (ns 4999000) [59] = true ∧
      nextGrid (ns (segRig.loopNs 1)) segRig.lt (segRig.engine 1).lastLoop + ns (segRig.loopNs 1) = ns 5005000) ∧
    (lockable (scopeRig buildBase 101 [(Reg.camPeriod 29, 70000)]) 0 (ns 4999000) [101] = true ∧ buildBase.camEngine 29 = 0 ∧
      buildBase.frameBoundary 29 (nextGrid (ns (buildBase.loopNs 0)) buildBase.lt (buildBase.engine 0).lastLoop) = true) ∧
    (lockable (scopeRig (hosted 3) 104 [(Reg.layerNumber, 7)]) 0 (ns 4999000) [104] = true ∧ (hosted 3).layerBoundary = true ∧
      ∀ l, l < 16 → ((hosted 3).laser l).stream.startAt = none) ∧
    (lockable (swapRig .stopped (bankCrc [7])) 1 (ns 4999000) [7] = true ∧ lockable (swapRig .live (bankCrc [7])) 1 (ns 4999000) [7] = true ∧
      lockable (swapRig .live (bankCrc [7] + 1)) 1 (ns 4999000) [7] = true ∧ ((swapRig .live 0).axis 7).law.held = none ∧
      ((swapRig .live 0).axis 7).law.incoming = none ∧ (swapRig .live 0).pinStops 1 = false) := by decide +kernel

theorem witness_UnitsParked : parkRig.still = true ∧ (parkRig.advance 5).speaks (.eth 5 0) 0 = true ∧ parkRig.lock.running = none ∧ parkRig.lock.queue = [] ∧
    parkRig.rd Reg.tokenHolder = 0 ∧ (parkRig.servesStream (axesOf 7) = false ∧ parkRig.tileParked 7 = false) ∧
    (parkRig.engineParked 2 = true ∧ parkRig.tileParked 2 = false ∧
      (((parkRig.advance 5).received (.eth 5 0)).returnChecks cENGINE 2 (axesOf 2)).2 = true) ∧
    (parkRig.axisParked 5 = true ∧ parkRig.engineParked 0 = false ∧ parkRig.tileParked 0 = false ∧
      (((parkRig.advance 5).received (.eth 5 0)).returnChecks cAXIS 0 [5]).2 = true) ∧
    parkRig.portParked 1 = true ∧ parkRig.laserLatched 3 = true ∧ ((parkRig.advance 5).speaks (.eth 9 0) 1 = true ∧ parkRig.rd Reg.tokenHolder ≠ 1) ∧
    ((netRig 3).still = true ∧ ((netRig 3).advance 5).speaks (.eth 5 0) 0 = true ∧ (netRig 3).rd Reg.tokenHolder = 0 ∧ (netRig 3).portParked 1 = false ∧
      Source.portNo (.eth 5 0) ≠ some 1 ∧ (netRig 3).portParked (1 - 1) = false) :=
  by refine ⟨parkRig_still, ?_, ?_, ?_, ?_, ?_, ?_, ?_, ?_, ?_, ?_, netRig_still (by decide), ?_⟩ <;> decide +kernel

theorem witness_UnitsParked2 : (((netRig 3).advance 5).received (.eth 5 0)).servesStream (axesOf 7) = false ∧
    ((parkRig.advance 5).received (.eth 5 0)).servesStream (axesOf 2) = false ∧ ((parkRig.advance 5).received (.eth 5 0)).servesStream [5] = false := by
  decide +kernel

theorem witness_StreamsCommanded2 : (streamRig.advance 5).streamRests 2 = true ∧ (streamRig.advance 5).streamRests 3 = true ∧ segRig.calm = true ∧
    segRig.modeCode = BUILD ∧ segRig.lock.running = none ∧ segRig.lock.holdRun = none ∧ segRig.lock.leftover = [] ∧ (segRig.engine 1).due = [] ∧
    (segRig.engine 1).returnCls = none ∧ (∀ p, p < 105 → (segRig.pound p).armed = none) ∧
    (let b := nextGrid (ns (segRig.loopNs 1)) segRig.lt (segRig.engine 1).lastLoop
     b + ns (segRig.loopNs 1) = ns 5005000 ∧ ∀ i, i < 16 → (segRig.goTo b).streamRests i = true) ∧ segRig.rd (Reg.streamState 3) = 1 ∧
    ((segRig.laser 3).stream.segs.map fun x => (x.s, x.t0, x.t1, x.t2)) = [(4, ns 5003000, ns 5019000, ns 5019000)] ∧
    (segRig.laser 3).stream.lastTime = ns 5019000 ∧ (segRig.laser 3).stream.decodeNext = 5 ∧ (segRig.laser 3).stream.len = 8 ∧
    (segRig.laser 3).stream.hostStop = false ∧ (segRig.laser 3).stream.resumeSeg = none ∧ (segRig.laser 3).stream.startAt = none ∧
    bitAt (segRig.rd (Reg.gridEnable 3)) 0 = false := by decide +kernel

theorem witness_StreamsCommanded : streamRig.still = true ∧ (streamRig.advance 5).speaks (.eth 5 0) 0 = true ∧ streamRig.modeCode = BUILD ∧
    streamRig.lock.running = none ∧ streamRig.lock.queue = [] ∧ streamRig.rd (Reg.streamState 2) = 2 ∧ streamRig.rd (Reg.stopSeg 2) < 2 ^ 24 ∧
    streamRig.laserLatched 2 = false := ⟨streamRig_still, by decide +kernel⟩

theorem witness_StoreSaves :
    (let s := (hosted 1).wr Reg.storeState 0
     s.still = true ∧ (s.advance 5).speaks (.eth 5 0) 0 = true ∧ s.rd Reg.storeState = 0 ∧ s.modeCode = CONFIGURE ∧ s.newestSlot = none) ∧
    (let s := (hosted 3).wr Reg.storeState 0
     s.still = true ∧ s.rd Reg.storeState = 0 ∧ s.modeCode ≠ CONFIGURE) ∧
    (saveRig.still = true ∧ saveRig.store.save = some { slot := 1, generation := 7, image := [1, 2, 3, 4] }) :=
  ⟨⟨many_still (l := [(Reg.storeState, 0)]) (hosted_still (by decide)) (by decide), by decide +kernel⟩,
    ⟨many_still (l := [(Reg.storeState, 0)]) (hosted_still (by decide)) (by decide), by decide +kernel⟩, saveRig_still, by decide +kernel⟩

theorem witness_TestsRun : ((hosted 7).still = true ∧ ((hosted 7).advance 5).speaks (.eth 5 0) 0 = true ∧ (hosted 7).modeCode = TEST ∧ (hosted 7).test.running = none) ∧
    ((hosted 3).modeCode ≠ TEST ∧ (testRig 3 true).modeCode = TEST ∧ (testRig 3 true).test.running.isSome = true) ∧
    ((testRig 3 true).still = true ∧ ((testRig 3 true).test.running.map fun x => (x.fail, x.logic, x.cmd)) = some (0, true, 3)) ∧
    ((testRig 2 false).still = true ∧ ((testRig 2 false).test.running.map fun x => (x.fail, x.logic)) = some (0, false)) ∧
    (tapRig.still = true ∧ (tapRig.advance 5).speaks (.eth 5 0) 0 = true ∧ tapRig.armRefused 3 [3] = false ∧
      (many tapRig [(Reg.tapPost 31, 129)]).armRefused 3 [3] = true ∧ tapRig.trigSource 3 = 3 ∧ tapRig.trigNow 3 = 1 ∧
      (31 ∈ tapRig.tapsOf 3 ∧ (tapRig.tap 31).active = true ∧ (tapRig.tap 31).written = 0 ∧ (tapRig.tap 31).recent = [] ∧ 0 < tapRig.rd (Reg.tapPost 31))) :=
  ⟨⟨hosted_still (by decide), by decide +kernel⟩, by decide +kernel, ⟨testRig_still _ _, by decide +kernel⟩, ⟨testRig_still _ _, by decide +kernel⟩,
    tapRig_still, by decide +kernel⟩

theorem witness_EventsAdmitted : eventRig.still = true ∧ ((firstEvent eventRig.log.intake).map (·.uid)) = some 2 ∧ eventRig.log.lossCount = 0 ∧
    (∀ k, k < 4 → eventRig.trigSource k ≠ 2) ∧ (∀ m, m < 4 → eventRig.rd (Reg.masterState m) = 1 → bitAt (eventRig.rd (Reg.pushEnable m)) 0 = false) ∧
    (levelOf 0x3106 < 2 ∧ eventRig.log.stopped = false ∧ eventRig.log.intake.length < 256) := ⟨eventRig_still, by decide +kernel⟩

theorem witness_EventsAdmitted2 : (∀ l, l < 16 → eventRig.streamRests l = true ∧ (eventRig.goTo (ns 4000000 + ns 2000)).streamRests l = true) ∧
    eventRig.silenced 0x3106 = false := by decide +kernel

theorem witness_LaserSafeEnds : (safeRig.modLock fun x => { x with triggerUid := none }).still = true ∧
    (safeRig.lock.running.map fun q => (q.kind, q.fromMode)) = some (.laserSafe 4, none) ∧ safeRig.lock.queue = [] := by decide +kernel

/-! ### Single commands; each expected value is worked out by hand from the rule named -/

/-- What a command leaves, looked at. -/
def after (o : Host.Outcome State Fault Refusal) (p : State → Bool) : Bool := match o with | .next t => p t | _ => false

/-- Source: R344, a master of rank 5 forces the token from one of rank 3, and cannot without FORCE. -/
theorem test_token_forced : (after (exec (.tokenTake 0 (.eth 9 0) 1) (netRig 3)) (fun t => t.rd Reg.tokenHolder == 1) &&
    after (exec (.tokenTake 0 (.eth 9 0) 0) (netRig 3)) fun t => t.rd Reg.tokenHolder == 0 && t.net.reply.abort == 0xA021) = true := by decide +kernel

/-- Source: R282, from A = 0, B = 0 the level A = 1 is one forward transition, which wraps the largest count. -/
theorem test_pulse_wraps : after (exec (.pulseEdge 0 5 ⟨true, 100000000⟩ ⟨false, 100000000⟩) legacyRig) (fun t => t.rd (Reg.plsCount 5) == 0x80000000) = true := by decide +kernel

/-- Source: R254, sample 11 of the store at scale 1.0 on its instant, 4 intervals of 300 ns after the start. -/
theorem test_profile_value : after (exec (.profileSample 4) buildRig) (fun t => (t.laser 4).value == 0x1234 && t.lt == ns 5001200) = true := by
  decide +kernel

/-- Source: R241, the change of range ends 14 µs after its boundary. -/
theorem test_range_done : after (exec (.rangeChangeDone 47) engineRig) (fun t => t.lt == ns 5003000 && (t.axis 47).axo.rangePhase == 0) = true := by
  decide +kernel

/-- Source: R253: a value at the LT of a close of its laser is not written. -/
theorem test_close_wins : after (exec (.lmoWrite 2) buildRig) (fun t => (t.laser 2).value == 4) = true := by decide +kernel

/-- Source: R336: an index the dictionary does not have, and a subindex an object does not have. -/
theorem test_no_object : (after (exec (.read 0 .can 0x4FFF 0) (netRig 3)) (fun t => t.net.reply.abort == 0xA001) &&
    after (exec (.read 0 .can 0x2000 255) (netRig 3)) fun t => t.net.reply.abort == 0xA002) = true := by decide +kernel

/-- Source: R442: BUILD is refused with reason 1 from TRACK, with the target as its item. -/
theorem test_mode_refused : after (exec (.modeCmdBuild 0 (.eth 5 0)) (hosted 3)) (fun t => t.rd Reg.modeRefuse == 0x105 && t.modeCode == TRACK &&
    t.net.reply.abort == 0xA011) = true := by decide +kernel

/-- Source: R381: bytes are stored at rising addresses from MEM_ADDR. -/
theorem test_memory_written : after (exec (.memDataWrite 0 (.eth 5 0) [9, 300] []) (memRig 3 2)) (fun t => t.rd Reg.memAddr == 102 &&
    memReadBytes zeroByte t.dram 98 8 == [1, 2, 9, 44, 5, 6, 7, 8]) = true := by decide +kernel

/-- Source: R243: the driven output reads its CLEAR_CODE. -/
theorem test_clear_code : after (exec (.clearAxNFall 0) engineRig) (fun t => (t.axis 0).axo.code == 0x123 && t.rd Reg.clearAxCount == 1) = true := by
  decide +kernel

/-- Source: R443, R444: a device in reset takes no command, and leaves reset at LT 0. -/
theorem test_reset : (after (exec (.modeCmdTest 0 (.eth 5 0)) State.reset) (fun t => t == State.reset) &&
    after (exec .resetNRelease { hosted 3 with mode := {} }) fun t => t.lt == 0 && !t.mode.inReset) = true := by decide +kernel

/-- The opcode table gives no row any bits, so no word spells a command and `withFetchWord` changes nothing. -/
theorem test_no_words : decodeTableWord 16 0xFFFF = none ∧ State.reset.withFetchWord 16 0xFFFF = State.reset := ⟨rfl, rfl⟩

/-! ### Well-formedness -/

/-- Each check of well-formedness refuses a command that fails it alone. -/
theorem test_refused1 : ([Instr.sampleInstant [] [] [32], .demodOutput 8 [], .demodOutput 0 [32], .encEdge 8, .loopBoundary 8 [] [],
    .loopBoundary 0 [{ region := 10, owner := 0, addr := 0, double := false }] [],
    .loopBoundary 0 [] [(17, { burst := 0 })], .loopBoundary 0 [] [(0, { burst := 2 ^ 28 })], .computeWindow 8 [] [],
    .computeWindow 0 [] [{ region := 10, owner := 0, addr := 0, double := false }], .outputInstant 8 [],
    .outputInstant 0 [32], .carrierStop 8 0, .carrierStop 0 6, .carrierStart 8 0, .carrierStart 0 6, .amplitudeStep 8 0,
    .amplitudeStep 0 6, .resetSwitchClose 8 0, .resetSwitchClose 0 12, .resetSwitchOpen 8 0, .resetSwitchOpen 0 12,
    .driverIlimit 0 8 0, .driverIlimit 0 0 6, .rangeSwitchOpen 48, .rangeSwitchClose 48, .rangeChangeDone 48,
    .lmoIlim 0 16, .lmoOverTemp 0 16, .gateOpen 16, .gateClose 16, .lmoWrite 16, .profileStart 16, .profileSample 16,
    .ctAssert 32, .ctRelease 32, .ssiLatch 0 2, .ssiTimeout 2, .readRecords 0 0 256 0 { bytes := 0 },
    .readRecords 0 0 0 256 { bytes := 0 }].all fun i => !i.wellFormed) = true := by decide

/-- Each check of well-formedness refuses a command that fails it alone. -/
theorem test_refused2 : ([Instr.readLatch 0 0 256 0 0 { bytes := 0 }, .readLatch 0 0 0 256 0 { bytes := 0 },
    .readLatch 0 0 0 0 256 { bytes := 0 }, .pulseEdge 0 8 { level := false, held := 0 } { level := false, held := 0 },
    .plsPreset 0 (.eth 0 2) 0 0, .plsPreset 0 .can 8 0, .plsPreset 0 .can 0 (2 ^ 31), .encEnable 0 (.eth 0 2) 0 0,
    .encEnable 0 .can 8 0, .encEnable 0 .can 0 256, .canRequest 0 { id := 2048, fd := false } [],
    .canRequest 0 { id := 0, fd := false } [256], .frameReceive 0 2 { dest := 0, src := 0, ether := 0 } 0,
    .access 0 (2 ^ 48) 0 [], .access 0 0 2 [], .access 0 0 0 [256], .read 0 (.eth 0 2) 0 0, .read 0 .can 65536 0,
    .read 0 .can 0 256, .write 0 (.eth 0 2) 0 0 [], .write 0 .can 65536 0 [], .write 0 .can 0 256 [],
    .write 0 .can 0 0 [256], .readPart 0 (.eth 0 2) 0 0 0 0, .readPart 0 .can 65536 0 0 0, .readPart 0 .can 0 256 0 0,
    .readPart 0 .can 0 0 (2 ^ 32) 0, .readPart 0 .can 0 0 0 65536, .writePart 0 (.eth 0 2) 0 0 0 [],
    .writePart 0 .can 65536 0 0 [], .writePart 0 .can 0 256 0 [], .writePart 0 .can 0 0 (2 ^ 32) [],
    .writePart 0 .can 0 0 0 [256], .writeLast 0 (.eth 0 2) 0 0 0 [], .writeLast 0 .can 65536 0 0 [],
    .writeLast 0 .can 0 256 0 [], .writeLast 0 .can 0 0 (2 ^ 32) [], .writeLast 0 .can 0 0 0 [256],
    .readDesc 0 (.eth 0 2) 0 0, .readDesc 0 .can 65536 0].all fun i => !i.wellFormed) = true := by decide

/-- Each check of well-formedness refuses a command that fails it alone. -/
theorem test_refused3 : ([Instr.readDesc 0 .can 0 256, .register 0 (.eth 0 2) 0, .register 0 .can 256, .deregister 0 (.eth 0 2),
    .tokenTake 0 (.eth 0 2) 0, .tokenTake 0 .can 256, .tokenRelease 0 (.eth 0 2), .pdOut 0 (2 ^ 48) 0 0 [],
    .pdOut 0 0 2 0 [], .pdOut 0 0 0 65536 [], .pdOut 0 0 0 0 [256], .eventAck 0 (2 ^ 48) 0 0, .eventAck 0 0 2 0,
    .eventAck 0 0 0 (2 ^ 32), .eventPushRetry 4, .masterTimeout 4, .assemblyTimeout 4, .linkDown 0 ⟨2, true⟩, .linkUp 0 2,
    .sync 0 2 0 0 0 0 false 0 0, .sync 0 0 4096 0 0 0 false 0 0, .sync 0 0 0 (2 ^ 64) 0 0 false 0 0,
    .sync 0 0 0 0 65536 0 false 0 0, .sync 0 0 0 0 0 (2 ^ 7) false 0 0, .followUp 0 2 0 0 0 0 0,
    .followUp 0 0 4096 0 0 0 0, .followUp 0 0 0 (2 ^ 64) 0 0 0, .followUp 0 0 0 0 65536 0 0, .announce 0 2 0 0 0 [] 0,
    .announce 0 0 4096 0 0 [] 0, .announce 0 0 0 (2 ^ 64) 0 [] 0, .announce 0 0 0 0 (2 ^ 7) [] 0, .announceTimeout 2,
    .syncTimeout 2, .pdelayReq 0 2 0 0 0, .pdelayReq 0 0 65536 0 0, .pdelayReqSend 0 2, .pdelayResp 0 2 0 0 none,
    .pdelayResp 0 0 65536 0 none, .refreshTick 2 0 false].all fun i => !i.wellFormed) = true := by decide

/-- Each check of well-formedness refuses a command that fails it alone. -/
theorem test_refused4 : ([Instr.refreshTick 0 2 false, .trackingStep 0 2 0, .patrolRead 0 2 {}, .patrolRead 0 0 { pair := 8 },
    .patrolRead 0 0 { flips := [80] }, .trajReadComplete 0 16 [], .trajReadComplete 0 0 [{ burst := 2 ^ 28 }],
    .trainingComplete 0 0 2, .freqSwitchComplete 0 0 2, .memDataWrite 0 (.eth 0 2) [] [], .memDataWrite 0 .can [256] [],
    .memDataWrite 0 .can [] [{ burst := 2 ^ 28 }], .memDataRead 0 (.eth 0 2) [], .memDataRead 0 .can [{ burst := 2 ^ 28 }],
    .correction 0 4 0 0 0 0, .correction 0 0 256 0 0 0, .correction 0 0 0 (2 ^ 32) 0 0, .correction 0 0 0 0 (2 ^ 31) 0,
    .correction 0 0 0 0 0 (2 ^ 31), .stats 0 4 0 0 0 0 0, .stats 0 0 256 0 0 0 0, .stats 0 0 0 (2 ^ 32) 0 0 0,
    .stats 0 0 0 0 (2 ^ 32) 0 0, .stats 0 0 0 0 0 (2 ^ 32) 0, .stats 0 0 0 0 0 0 (2 ^ 32), .heartbeat 0 4, .laneSync 0 ⟨4, []⟩,
    .laneSyncLoss 0 ⟨4, []⟩, .laneSyncLoss 0 ⟨0, [1024]⟩, .frameTagComplete 32, .poundCommit 0 (.eth 0 2) 0, .poundCommit 0 .can 106,
    .poundDiscard 0 (.eth 0 2) 0, .poundDiscard 0 .can 106, .bundledCommit 0 (.eth 0 2) 0 0, .bundledCommit 0 .can 8 0,
    .bundledCommit 0 .can 0 128, .bundledDiscard 0 (.eth 0 2) 0 0, .bundledDiscard 0 .can 8 0,
    .bundledDiscard 0 .can 0 128, .modeCmdConfigure 0 (.eth 0 2)].all fun i => !i.wellFormed) = true := by decide

/-- Each check of well-formedness refuses a command that fails it alone. -/
theorem test_refused5 : ([Instr.modeCmdCalibrate 0 (.eth 0 2), .modeCmdTrack 0 (.eth 0 2), .modeCmdServo 0 (.eth 0 2),
    .modeCmdBuild 0 (.eth 0 2), .modeCmdHold 0 (.eth 0 2), .modeCmdTest 0 (.eth 0 2), .park 0 (.eth 0 2) 0 0,
    .park 0 .can 256 0, .park 0 .can 0 65536, .returnUnit 0 (.eth 0 2) 0 0, .returnUnit 0 .can 256 0,
    .returnUnit 0 .can 0 65536, .resume 0 (.eth 0 2) 0 0, .resume 0 .can 16 0, .resume 0 .can 0 (2 ^ 24),
    .stop 0 (.eth 0 2) 0, .stop 0 .can 16, .abandon 0 (.eth 0 2) 0, .abandon 0 .can 16, .faultClear 0 (.eth 0 2),
    .lmoClearFault 0 (.eth 0 2) 0, .lmoClearFault 0 .can 16, .bankSwapConfigure 0 (.eth 0 2) 0 0,
    .bankSwapConfigure 0 .can 48 0, .bankSwapConfigure 0 .can 0 65536, .profileWrData 0 (.eth 0 2) [],
    .profileWrData 0 .can [256], .schedEntry 0 (.eth 0 2) [], .schedEntry 0 .can [256], .schedFlush 0 (.eth 0 2),
    .save 0 (.eth 0 2), .erase 0 (.eth 0 2), .selftestLogic 0 (.eth 0 2), .selftestMemory 0 (.eth 0 2),
    .selftestBoth 0 (.eth 0 2), .captureArm 0 (.eth 0 2) 0, .captureArm 0 .can 16, .captureFire 0 (.eth 0 2) 0,
    .captureFire 0 .can 16, .captureStop 0 (.eth 0 2) 0].all fun i => !i.wellFormed) = true := by decide

/-- Each check of well-formedness refuses a command that fails it alone. -/
theorem test_refused6 : ([Instr.captureStop 0 .can 16, .calPartEnd 0 8 2 [] [] [] [], .calPartEnd 0 0 1 [] [] [] [],
    .calPartEnd 0 0 5 [] [] [] [], .lmoOverTempClear 0 16, .ilimitClear 0 8 0, .ilimitClear 0 0 6, .lmoIlimClear 0 16,
    .rxBadPacket 0 ⟨4, []⟩, .rxBadPacket 0 ⟨0, [513]⟩, .frameTransmissionEnd 0 2, .ssiClockEdge 0 2 false].all fun i => !i.wellFormed) = true := by decide

/-- Each command has a well-formed term. -/
theorem test_admitted1 : ([Instr.resetNAssert, .supplyTrip, .supplyRecovered, .resetNRelease, .initComplete 0 0 0 0, .autoTrack 0,
    .sectorEraseComplete 0, .holdNFall 0, .holdNRise 0, .clearAxNFall 0, .clearAxNRise 0, .clearLmNFall 0, .clearLmNRise 0,
    .pfailNFall ⟨0, none⟩, .persistWriteComplete 0, .pfailNRecover 0, .sampleInstant [] [] [], .demodOutput 0 [], .encEdge 0,
    .loopBoundary 0 [] [], .pdInSnapshot, .computeWindow 0 [] [], .outputInstant 0 [], .carrierStop 0 0, .carrierStart 0 0,
    .amplitudeStep 0 0, .resetSwitchClose 0 0, .resetSwitchOpen 0 0, .thermWindow [], .driverIlimit 0 0 0,
    .monitorSample 0, .rangeSwitchOpen 0, .rangeSwitchClose 0, .rangeChangeDone 0, .lmoIlim 0 0, .lmoOverTemp 0 0,
    .samplePllLockLoss 0 0, .realignComplete 0, .gateOpen 0, .gateClose 0].all fun i => i.wellFormed) = true := by decide

/-- Each command has a well-formed term. -/
theorem test_admitted2 : ([Instr.lmoWrite 0, .profileStart 0, .profileSample 0, .ctAssert 0, .ctRelease 0, .latch, .capture, .markEvent,
    .sampleNFall 0, .ssiLatch 0 0, .ssiTimeout 0, .readRecords 0 0 0 0 { bytes := 0 }, .readLatch 0 0 0 0 0 { bytes := 0 },
    .pulseEdge 0 0 { level := false, held := 0 } { level := false, held := 0 }, .plsPreset 0 .can 0 0,
    .encEnable 0 .can 0 0, .canRequest 0 { id := 0, fd := false } [], .canBusError 0 0 0, .canBusOffRecovery 0,
    .frameReceive 0 0 { dest := 0, src := 0, ether := 0 } 0, .access 0 0 0 [], .read 0 .can 0 0, .write 0 .can 0 0 [],
    .readPart 0 .can 0 0 0 0, .writePart 0 .can 0 0 0 [], .writeLast 0 .can 0 0 0 [], .readDesc 0 .can 0 0,
    .register 0 .can 0, .deregister 0 .can, .tokenTake 0 .can 0, .tokenRelease 0 .can, .pdOut 0 0 0 0 [],
    .eventAck 0 0 0 0, .eventPushRetry 0, .masterTimeout 0, .assemblyTimeout 0, .linkDown 0 ⟨0, true⟩, .linkUp 0 0,
    .sync 0 0 0 0 0 0 false 0 0, .followUp 0 0 0 0 0 0 0].all fun i => i.wellFormed) = true := by decide

/-- Each command has a well-formed term. -/
theorem test_admitted3 : ([Instr.announce 0 0 0 0 0 [] 0, .announceTimeout 0, .syncTimeout 0, .revertiveSwitch, .pdelayReq 0 0 0 0 0,
    .pdelayReqSend 0 0, .pdelayResp 0 0 0 0 none, .ltStep 0, .refreshTick 0 0 false, .mr4Read [] [], .trackingStep 0 0 0,
    .patrolRead 0 0 {}, .trajReadComplete 0 0 [], .trainingComplete 0 0 0, .freqSwitchComplete 0 0 0,
    .memDataWrite 0 .can [] [], .memDataRead 0 .can [], .correction 0 0 0 0 0 0, .stats 0 0 0 0 0 0 0, .heartbeat 0 0,
    .laneSync 0 ⟨0, []⟩, .laneSyncLoss 0 ⟨0, [1023]⟩, .aliveTimeout, .vtxHeartbeat, .frameTagComplete 0, .eventAdmit,
    .poundCommit 0 .can 0, .poundDiscard 0 .can 0, .bundledCommit 0 .can 0 0, .bundledDiscard 0 .can 0 0,
    .modeCmdConfigure 0 .can, .modeCmdCalibrate 0 .can, .modeCmdTrack 0 .can, .modeCmdServo 0 .can, .modeCmdBuild 0 .can,
    .modeCmdHold 0 .can, .modeCmdTest 0 .can, .park 0 .can 0 0, .returnUnit 0 .can 0 0, .resume 0 .can 0 0].all fun i => i.wellFormed) = true := by decide

/-- Each command has a well-formed term. -/
theorem test_admitted4 : ([Instr.stop 0 .can 0, .abandon 0 .can 0, .faultClear 0 .can, .lmoClearFault 0 .can 0, .bankSwapConfigure 0 .can 0 0,
    .profileWrData 0 .can [], .schedEntry 0 .can [], .schedFlush 0 .can, .save 0 .can, .storeSaveComplete 0 0,
    .erase 0 .can, .selftestLogic 0 .can, .selftestMemory 0 .can, .selftestBoth 0 .can, .selftestComplete 0 [],
    .captureArm 0 .can 0, .captureFire 0 .can 0, .captureStop 0 .can 0, .calPartEnd 0 0 2 [] [] [] [], .calDone 0,
    .samplePllLocked 0, .lmoOverTempClear 0 0, .ilimitClear 0 0 0, .lmoIlimClear 0 0, .laserSafeComplete, .rxBadPacket 0 ⟨0, [512]⟩,
    .frameTransmissionEnd 0 0, .ssiClockEdge 0 0 false].all fun i => i.wellFormed) = true := by decide

/-- An Ethernet address of more than 48 bits is no source. -/
theorem test_refused7 : sourceFits (.eth (2 ^ 48) 0) = false := by decide

/-- An error beyond the host space, in a ninth pair, with a bit named twice, with a bit the pair has not, with three bits of the
code, and one of no region. -/
theorem test_errors_refused : (([{ burst := 2 ^ 28 }, { burst := 0, pair := 8 }, { burst := 0, flips := [1, 1] }, { burst := 0, flips := [80] },
    { burst := 0, flips := [0, 1, 71] }] : List MemErr).all fun e => !memErrFits e) = true ∧
    memErrFits { burst := 0, pair := 7, flips := [0, 71, 72, 79] } = true ∧
    sramErrFits { region := 10, owner := 0, addr := 0, double := false } = false := by decide

end Sys2Proof.Tests
end

section
/-! PROOFS. SAMPLE_INSTANT and THERM_WINDOW (R15, R82, R86 to R88, R472). -/

namespace Sys2Proof.Machine

/-! ### What sampling and the thermistor windows leave alone -/

/-- What neither a sample nor the end of a thermistor window changes, of what the statements and the end of a command look at. -/
def State.rest (s : State) :=
  (s.lt, s.mode, s.pounds, s.axes, s.engines, s.lasers, s.lock, s.legacy, s.monPending, s.pending, s.lastSample)

/-- What of a tile a calm state looks at, and whether it runs. -/
def Tile.duty (x : Tile) : Bool × CalPart × Bool := (x.running, x.cal, x.gainDone)

/-- From `s` to `r` no register outside `W` and no tile outside `T` changes, no tile starts, stops or goes on with its
calibration, and `State.rest` stays as it is. -/
structure Quiet (W T : Nat → Prop) (s r : State) : Prop where
  rest : r.rest = s.rest
  regs : ∀ k, ¬ W k → r.rd k = s.rd k
  tiles : ∀ j, ¬ T j → r.tile j = s.tile j
  duty : ∀ j, (r.tile j).duty = (s.tile j).duty

namespace Quiet

variable {W W' T T' : Nat → Prop} {s r u : State}

theorem refl (s : State) : Quiet W T s s := ⟨rfl, fun _ _ => rfl, fun _ _ => rfl, fun _ => rfl⟩

theorem trans (h : Quiet W T s r) (h' : Quiet W T r u) : Quiet W T s u where
  rest := h'.rest.trans h.rest
  regs k hk := (h'.regs k hk).trans (h.regs k hk)
  tiles j hj := (h'.tiles j hj).trans (h.tiles j hj)
  duty j := (h'.duty j).trans (h.duty j)

theorem mono (h : Quiet W T s r) (hW : ∀ k, W k → W' k) (hT : ∀ j, T j → T' j) : Quiet W' T' s r where
  rest := h.rest
  regs k hk := h.regs k fun hw => hk (hW k hw)
  tiles j hj := h.tiles j fun ht => hj (hT j ht)
  duty := h.duty

theorem each {n : Nat} {f : State → Nat → State} (h : ∀ r i, i < n → Quiet W T s r → Quiet W T r (f r i)) :
    Quiet W T s (each n s f) :=
  each_of (P := Quiet W T s) (refl s) fun r i hi hr => hr.trans (h r i hi hr)

theorem running (h : Quiet W T s r) (j : Nat) : (r.tile j).running = (s.tile j).running := congrArg Prod.fst (h.duty j)

theorem lt (h : Quiet W T s r) : r.lt = s.lt := congrArg (·.1) h.rest
theorem axes (h : Quiet W T s r) : r.axes = s.axes := congrArg (·.2.2.2.1) h.rest
theorem engines (h : Quiet W T s r) : r.engines = s.engines := congrArg (·.2.2.2.2.1) h.rest
theorem lasers (h : Quiet W T s r) : r.lasers = s.lasers := congrArg (·.2.2.2.2.2.1) h.rest
theorem lastSample (h : Quiet W T s r) : r.lastSample = s.lastSample := congrArg (·.2.2.2.2.2.2.2.2.2.2) h.rest

theorem outside (h : Quiet W T s r) : r.outside = s.outside :=
  congrArg (fun x => (x.2.2.2.2.2.2.2.2.2.1, x.2.1.inReset, x.2.1.resetPinLow, x.2.1.supplyBad)) h.rest

/-- A still state stays still where no register it looks at is written. -/
theorem still (h : Quiet W T s r) (hW : ∀ k, W k → stillKey k = false) (hs : s.still = true) : r.still = true := by
  have hrest := h.rest
  simp only [State.rest, Prod.mk.injEq] at hrest
  obtain ⟨-, hmode, hpounds, -, -, -, hlock, hlegacy, hmon, -, -⟩ := hrest
  refine State.still_of hs (fun k hk => h.regs k fun hw => ?_) (by rw [hmode]) (by rw [hmode]) hmon (by rw [hlock]) (by rw [hlock])
    (fun k => by simp only [State.enc, hlegacy, and_self]) (fun p => by simp only [State.pound, hpounds, and_self]) fun i => ?_
  · rw [hW k hw] at hk; cases hk
  · have hd := h.duty i
    simp only [Tile.duty, Prod.mk.injEq] at hd
    exact hd.2

theorem wr (k v : Nat) (hk : W k) : Quiet W T s (s.wr k v) where
  rest := id rfl
  regs j hj := s.rd_wr_ne v (by rintro rfl; exact hj hk)
  tiles _ _ := rfl
  duty _ := rfl

theorem modTile (t : Nat) (f : Tile → Tile) (ht : T t) (hf : ∀ x, (f x).duty = x.duty) : Quiet W T s (s.modTile t f) where
  rest := id rfl
  regs _ _ := rfl
  tiles j hj := s.tile_modTile_ne f (by rintro rfl; exact hj ht)
  duty j := by
    rcases s.tile_modTile t j f with h | ⟨-, h⟩
    · rw [h]
    · rw [h, hf]

theorem raiseIf (b : Bool) (code cls inst : Nat) (data : List Nat) (hc : levelOf code < 2) (hW : W Reg.lostCount) :
    Quiet W T s (s.raiseIf b code cls inst data) where
  rest := by simp [State.rest, s.lock_raiseIf code cls inst data b hc]
  regs k hk := s.rd_raiseIf code cls inst data b hc (by rintro rfl; exact hk hW)
  tiles j _ := by simp [State.tile]
  duty j := by simp [State.tile]

end Quiet

/-! ### Steps over the units -/

/-- In a pass over n units the step of unit i takes P to Q; the steps of the others keep either. -/
theorem each_reach {P Q : State → Prop} {n i : Nat} {s : State} {f : State → Nat → State} (hi : i < n) (h0 : P s)
    (hP : ∀ r j, j < n → j ≠ i → P r → P (f r j)) (hPQ : ∀ r, P r → Q (f r i))
    (hQ : ∀ r j, j < n → j ≠ i → Q r → Q (f r j)) : Q (each n s f) := by
  induction n with
  | zero => exact absurd hi (Nat.not_lt_zero i)
  | succ n ih =>
    have hstep : each (n + 1) s f = f (each n s f) n := by simp [each, List.range_succ, List.foldl_append]
    rw [hstep]
    rcases Nat.lt_succ_iff_lt_or_eq.1 hi with hlt | rfl
    · refine hQ _ n (Nat.lt_succ_self n) (Nat.ne_of_gt hlt) (ih hlt (fun r j hj => hP r j (by omega)) fun r j hj => hQ r j (by omega))
    · exact hPQ _ (each_of h0 fun r j hj hr => hP r j (by omega) (Nat.ne_of_lt hj) hr)

/-! ### One sample of a tile (R15, R82) -/

/-- The registers that a sample instant may write: the counts of clipped samples and of lost records, the flags of the pins, and
what the taps keep. -/
def sampleKey (k : Nat) : Prop :=
  k = Reg.lostCount ∨ (∃ t m, t < 8 ∧ m < 12 ∧ k = Reg.ampClipCount t m) ∨ (∃ t, t < 8 ∧ k = Reg.cmStatus t) ∨
    Reg.trigState 0 ≤ k

theorem stillKey_lostCount : stillKey Reg.lostCount = false := stillKey_regKey (by decide) (by decide)

theorem stillKey_lt {k : Nat} (h : stillKey k = true) : k < Reg.trigState 0 := by
  simp only [stillKey, Bool.or_eq_true, List.any_eq_true, List.mem_range, beq_iff_eq, Reg.mode, Reg.encEnable, Reg.encAxis,
    Reg.parkState, Reg.trigState, regKey] at h ⊢
  rcases h with (h | ⟨i, hi, h | h⟩) | ⟨a, ha, h⟩ <;> omega

theorem stillKey_of_sampleKey {k : Nat} (h : sampleKey k) : stillKey k = false := by
  rcases h with rfl | ⟨t, m, ht, hm, rfl⟩ | ⟨t, ht, rfl⟩ | h
  · exact stillKey_lostCount
  · exact stillKey_regKey (by omega) (by omega)
  · exact stillKey_regKey (by omega) (by omega)
  · exact Bool.eq_false_iff.2 fun hk => absurd (stillKey_lt hk) (Nat.not_lt.2 h)

theorem not_sampleKey_ampMode {t m : Nat} (ht : t < 8) (hm : m < 12) : ¬ sampleKey (Reg.ampMode t m) := by
  simp only [sampleKey, Reg.ampMode, Reg.lostCount, Reg.ampClipCount, Reg.cmStatus, Reg.trigState, regKey]
  rintro (h | ⟨t', m', ht', hm', h⟩ | ⟨t', ht', h⟩ | h) <;> omega

@[simp] theorem Chan.adc_average (c : Chan) (l : Nat) : (c.average l).adc = c.adc := by
  unfold Chan.average
  dsimp only
  split <;> split <;> rfl

@[simp] theorem Chan.adc_sampleStep (c : Chan) (entry : Option (Int × Int)) (l : Nat) : (c.sampleStep entry l).adc = c.adc := by
  simp [Chan.sampleStep]

@[simp] theorem Chan.adc_dcStep (c : Chan) (alpha x : Int) (excluded frozen : Bool) : (c.dcStep alpha x excluded frozen).adc = x := by
  unfold Chan.dcStep
  dsimp only
  split
  · split
    · rfl
    · split <;> rfl
  · rfl

/-- A channel whose amplifier is OFF takes no sample (R77, R82). -/
theorem State.sampleChan_off (s : State) {t i : Nat} (x : Int) (now : Lt) (hi : i < 12) (h : s.ampMode t i = 0) :
    s.sampleChan t i x now = s := by
  simp [State.sampleChan, hi, h]

/-- An active channel takes its code, saturated; beside the channel only the count of clipped samples may change (R82). -/
theorem State.sampleChan_on (s : State) {t i : Nat} (x : Int) (now : Lt) (h : 12 ≤ i ∨ s.ampMode t i ≠ 0) :
    ∃ (f : Chan → Chan) (u : State), (∀ c, (f c).adc = Num.satI 18 x) ∧
      (u = s ∨ i < 12 ∧ u = s.bump 32 (Reg.ampClipCount t i)) ∧ s.sampleChan t i x now = u.modChan t i f := by
  have hon : (if i < 12 then s.ampMode t i != 0 else true) = true := by
    rcases h with h | h
    · simp [Nat.not_lt.2 h]
    · simp [h]
  unfold State.sampleChan
  simp only [hon, Bool.not_true, Bool.false_eq_true, if_false]
  generalize hu : (if (decide (i < 12) && (Num.satI 18 x == 131071 || Num.satI 18 x == -131072)) = true then
    s.bump 32 (Reg.ampClipCount t i) else s) = u
  have hu' : u = s ∨ i < 12 ∧ u = s.bump 32 (Reg.ampClipCount t i) := by
    subst hu
    split
    · next hb => exact Or.inr ⟨by simpa using (Bool.and_eq_true_iff.1 hb).1, rfl⟩
    · exact Or.inl rfl
  split
  · exact ⟨_, u, fun _ => rfl, hu', rfl⟩
  · split
    · exact ⟨_, u, fun _ => by simp, hu', rfl⟩
    · exact ⟨_, u, fun _ => by simp, hu', rfl⟩

section
variable {T : Nat → Prop} (s : State) {t i : Nat}

theorem State.quiet_sampleChan (x : Int) (now : Lt) (ht : t < 8) (hT : T t) : Quiet sampleKey T s (s.sampleChan t i x now) := by
  by_cases h : 12 ≤ i ∨ s.ampMode t i ≠ 0
  · obtain ⟨f, u, -, hu, he⟩ := s.sampleChan_on x now h
    rw [he]
    have hf : Quiet sampleKey T u (u.modChan t i f) := Quiet.modTile t _ hT fun _ => rfl
    rcases hu with rfl | ⟨hi, rfl⟩
    · exact hf
    · exact (Quiet.wr _ _ (Or.inr (Or.inl ⟨t, i, ht, hi, rfl⟩))).trans hf
  · push Not at h
    rw [s.sampleChan_off x now h.1 h.2]
    exact Quiet.refl s

/-- The code of an active channel after its sample. -/
theorem State.adc_sampleChan (x : Int) (now : Lt) (ht : t < 8) (hi : i < 18) (h : 12 ≤ i ∨ s.ampMode t i ≠ 0) :
    (((s.sampleChan t i x now).tile t).chan i).adc = Num.satI 18 x := by
  obtain ⟨f, u, hf, -, he⟩ := s.sampleChan_on x now h
  rw [he, State.modChan, State.tile_modTile_self _ _ ht]
  simp [Tile.chan, hi, hf]

/-- A sample of channel i leaves the other channels of its tile alone. -/
theorem State.chan_sampleChan_ne (x : Int) (now : Lt) (ht : t < 8) {c : Nat} (hc : c ≠ i) :
    ((s.sampleChan t i x now).tile t).chan c = (s.tile t).chan c := by
  by_cases h : 12 ≤ i ∨ s.ampMode t i ≠ 0
  · obtain ⟨f, u, -, hu, he⟩ := s.sampleChan_on x now h
    have hut : u.tile t = s.tile t := by rcases hu with rfl | ⟨-, rfl⟩ <;> rfl
    rw [he, State.modChan, State.tile_modTile_self _ _ ht, hut]
    simp [Tile.chan, hc.symm]
  · push Not at h
    rw [s.sampleChan_off x now h.1 h.2]

/-- A sample of a thermistor changes the sums of its tile alone. -/
theorem State.sampleTherm_eq : s.sampleTherm t i = s ∨
    ∃ th : Tile → Vector Therm 2, s.sampleTherm t i = s.modTile t fun y => { y with therms := th y } := by
  unfold State.sampleTherm
  dsimp only
  split
  · exact Or.inl rfl
  · exact Or.inr ⟨_, rfl⟩

theorem State.quiet_sampleTherm (hT : T t) : Quiet sampleKey T s (s.sampleTherm t i) := by
  obtain h | ⟨th, h⟩ := s.sampleTherm_eq (t := t) (i := i)
  · rw [h]; exact Quiet.refl s
  · rw [h]; exact Quiet.modTile t _ hT fun _ => rfl

theorem State.chans_sampleTherm (ht : t < 8) : ((s.sampleTherm t i).tile t).chans = (s.tile t).chans := by
  obtain h | ⟨th, h⟩ := s.sampleTherm_eq (t := t) (i := i)
  · rw [h]
  · rw [h, State.tile_modTile_self _ _ ht]

/-- A comparison of a pin changes the pins of its tile, its flag and the log (R92). -/
theorem State.samplePin_eq (p : Nat) (uv : Option Int) : s.samplePin t p uv = s ∨
    ∃ (x : Pin) (c b b' : Bool) (v : Nat) (d d' : List Nat),
      let u := s.modTile t fun y => { y with pins := y.pins.setIfInBounds p x }
      s.samplePin t p uv = ((if c then u.wr (Reg.cmStatus t) v else u).raiseIf b 0x3101 cPIN (48 * t + p) d).raiseIf b' 0x3102 cPIN
        (48 * t + p) d' := by
  unfold State.samplePin
  split
  · exact Or.inl rfl
  · exact Or.inr ⟨_, _, _, _, _, _, _, rfl⟩

theorem State.quiet_samplePin (p : Nat) (uv : Option Int) (ht : t < 8) (hT : T t) : Quiet sampleKey T s (s.samplePin t p uv) := by
  rcases s.samplePin_eq (t := t) p uv with h | ⟨x, c, b, b', v, d, d', h⟩
  · rw [h]; exact Quiet.refl s
  · rw [h]
    refine (Quiet.trans ?_ (Quiet.raiseIf _ _ _ _ _ (by decide) (Or.inl rfl))).trans (Quiet.raiseIf _ _ _ _ _ (by decide) (Or.inl rfl))
    have hp : Quiet sampleKey T s (s.modTile t fun y => { y with pins := y.pins.setIfInBounds p x }) :=
      Quiet.modTile t _ hT fun _ => rfl
    cases c
    · exact hp
    · exact hp.trans (Quiet.wr _ _ (Or.inr (Or.inr (Or.inl ⟨t, ht, rfl⟩))))

theorem State.chans_samplePin (p : Nat) (uv : Option Int) (ht : t < 8) : ((s.samplePin t p uv).tile t).chans = (s.tile t).chans := by
  rcases s.samplePin_eq (t := t) p uv with h | ⟨x, c, b, b', v, d, d', h⟩
  · rw [h]
  · have hx : ((s.modTile t fun y => { y with pins := y.pins.setIfInBounds p x }).tile t).chans = (s.tile t).chans := by
      rw [State.tile_modTile_self _ _ ht]
    rw [h]
    simp only [State.tile, State.raiseIf_tiles] at hx ⊢
    cases c <;> exact hx

end

/-- The code that SAMPLE_INSTANT tells for channel c of TILE_t, 0 where it names none (log entry 1). -/
abbrev codeOf (adc : List (Nat × Int)) (t c : Nat) : Int := ((adc.find? fun e => e.1 == 18 * t + c).map (·.2)).getD 0

/-- What the samples of a tile leave alone: every other tile, and the tile itself where it does not run. -/
theorem State.quiet_sampleTile {T : Nat → Prop} (s : State) {t : Nat} (adc pins : List (Nat × Int)) (ht : t < 8)
    (hT : (s.tile t).running = true → T t) : Quiet sampleKey T s (s.sampleTile t adc pins) := by
  unfold State.sampleTile
  split
  · exact Quiet.refl s
  · next hrun =>
    have hTt : T t := hT (by simpa using hrun)
    refine ((((Quiet.each fun r i _ _ => r.quiet_sampleChan _ _ ht hTt).trans (State.quiet_sampleTherm _ hTt)).trans
      (State.quiet_sampleTherm _ hTt)).trans (Quiet.each fun r p _ _ => r.quiet_samplePin p _ ht hTt))

/-- Every active channel of a running tile takes its code. -/
theorem State.adc_sampleTile (s : State) {t c : Nat} (adc pins : List (Nat × Int)) (ht : t < 8) (hc : c < 18)
    (hrun : (s.tile t).running = true) (h : 12 ≤ c ∨ s.ampMode t c ≠ 0) :
    (((s.sampleTile t adc pins).tile t).chan c).adc = Num.satI 18 (codeOf adc t c) := by
  have hon (r : State) (hr : Quiet sampleKey (· = t) s r) : 12 ≤ c ∨ r.ampMode t c ≠ 0 := by
    rcases Nat.lt_or_ge c 12 with h12 | h12
    · rw [State.ampMode, hr.regs _ (not_sampleKey_ampMode ht h12)]; exact h
    · exact Or.inl h12
  have hchans : (((each 18 s fun r i => r.sampleChan t i (codeOf adc t i) r.lt).tile t).chan c).adc =
      Num.satI 18 (codeOf adc t c) :=
    each_reach (P := Quiet sampleKey (· = t) s) (Q := fun r => ((r.tile t).chan c).adc = Num.satI 18 (codeOf adc t c)) hc (Quiet.refl s)
      (fun r i _ _ hr => hr.trans (r.quiet_sampleChan _ _ ht rfl)) (fun r hr => r.adc_sampleChan _ _ ht hc (hon r hr))
      fun r i _ hi hr => by rw [r.chan_sampleChan_ne _ _ ht hi.symm]; exact hr
  unfold State.sampleTile
  rw [if_neg (by simp [hrun])]
  refine each_of (P := fun r => ((r.tile t).chan c).adc = Num.satI 18 (codeOf adc t c)) ?_ fun r p _ hr => by
    rw [Tile.chan, r.chans_samplePin _ _ ht]; exact hr
  rw [Tile.chan, State.chans_sampleTherm _ ht, State.chans_sampleTherm _ ht]
  exact hchans

/-! ### The taps of the sample-rate points (R462) -/

section
variable {T : Nat → Prop} (s : State)

theorem sampleKey_trigState (k : Nat) : sampleKey (Reg.trigState k) :=
  Or.inr (Or.inr (Or.inr (by simp only [Reg.trigState, regKey]; omega)))

theorem sampleKey_tapDropped (i : Nat) : sampleKey (Reg.tapDropped i) :=
  Or.inr (Or.inr (Or.inr (by simp only [Reg.trigState, Reg.tapDropped, regKey]; omega)))

theorem State.quiet_modTap (i : Nat) (f : Tap → Tap) : Quiet sampleKey T s (s.modTap i f) :=
  ⟨id rfl, fun _ _ => rfl, fun _ _ => rfl, fun _ => rfl⟩

theorem State.quiet_tapStore (i off : Nat) (b : List Nat) : Quiet sampleKey T s (s.tapStore i off b) := by
  unfold State.tapStore
  dsimp only
  split <;> exact ⟨id rfl, fun _ _ => rfl, fun _ _ => rfl, fun _ => rfl⟩

theorem State.quiet_trigDone (k reason : Nat) : Quiet sampleKey T s (s.trigDone k reason) := by
  unfold State.trigDone
  split
  · exact (Quiet.wr _ _ (sampleKey_trigState k)).trans (Quiet.raiseIf true _ _ _ _ (by decide) (Or.inl rfl))
  · exact Quiet.refl s

theorem State.quiet_tapEnough (i : Nat) : Quiet sampleKey T s (s.tapEnough i) := by
  unfold State.tapEnough
  dsimp only
  split
  · exact (s.quiet_modTap i _).trans (State.quiet_trigDone _ _ _)
  · exact Quiet.refl s

theorem State.quiet_tapValue (i : Nat) (at_ : Lt) (excluded miss drop : Bool) (words : List Nat) :
    Quiet sampleKey T s (s.tapValue i at_ excluded miss drop words) := by
  unfold State.tapValue
  dsimp only
  split
  · exact Quiet.refl s
  · split
    · exact s.quiet_modTap i _
    · split
      · exact ((Quiet.wr _ _ (sampleKey_tapDropped i)).trans (State.quiet_modTap _ i _)).trans
          (Quiet.raiseIf _ _ _ _ _ (by decide) (Or.inl rfl))
      · exact ((s.quiet_tapStore i _ _).trans (State.quiet_modTap _ i _)).trans (State.quiet_tapEnough _ i)

theorem State.quiet_tapSamples (now : Lt) (drops : List Nat) : Quiet sampleKey T s (s.tapSamples now drops) := by
  unfold State.tapSamples
  refine Quiet.each fun r i _ _ => ?_
  dsimp only
  split
  · exact Quiet.refl r
  · split
    · exact Quiet.refl r
    · split
      · exact Quiet.refl r
      · exact r.quiet_tapValue i _ _ _ _ _

end

/-! ### SAMPLE_INSTANT -/

/-- What the samples of all tiles leave alone. -/
theorem State.quiet_sampleTiles (s : State) (last : Option Lt) (adc pins : List (Nat × Int)) :
    Quiet sampleKey (fun j => (s.tile j).running = true) (s.goTo (nextGrid (ns 100) s.lt last)) (s.sampleTiles last adc pins) :=
  Quiet.each fun r t ht hr => r.quiet_sampleTile adc pins ht fun h => (hr.running t).symm.trans h

/-- Every active channel of every running tile takes its code. -/
theorem State.adc_sampleTiles (s : State) {t c : Nat} (last : Option Lt) (adc pins : List (Nat × Int)) (ht : t < 8) (hc : c < 18)
    (hrun : (s.tile t).running = true) (h : 12 ≤ c ∨ s.ampMode t c ≠ 0) :
    (((s.sampleTiles last adc pins).tile t).chan c).adc = Num.satI 18 (codeOf adc t c) := by
  refine each_reach (P := Quiet sampleKey (fun j => j ≠ t) (s.goTo (nextGrid (ns 100) s.lt last)))
    (Q := fun r => ((r.tile t).chan c).adc = Num.satI 18 (codeOf adc t c))
    ht (Quiet.refl _) (fun r j hj hne hr => hr.trans (r.quiet_sampleTile adc pins hj fun _ => hne)) (fun r hr => ?_)
    fun r j hj hne hr => ?_
  · refine r.adc_sampleTile adc pins ht hc ((hr.running t).trans hrun) ?_
    rcases Nat.lt_or_ge c 12 with h12 | h12
    · rw [State.ampMode, hr.regs _ (not_sampleKey_ampMode ht h12)]; exact h
    · exact Or.inl h12
  · rw [(r.quiet_sampleTile (T := (· = j)) adc pins hj fun _ => rfl).tiles t hne.symm]; exact hr

/-! ### Signed words -/

theorem toSigned_bounds (w n : Nat) : -(2 ^ w : Int) ≤ toSigned (w + 1) n ∧ toSigned (w + 1) n < 2 ^ w := by
  have hlt : n % 2 ^ (w + 1) < 2 ^ (w + 1) := Nat.mod_lt _ (by positivity)
  have hcast : ((2 ^ w : Nat) : Int) = 2 ^ w := by push_cast; rfl
  simp only [toSigned, Nat.add_sub_cancel, pow_succ] at hlt ⊢
  rw [← hcast]
  generalize 2 ^ w = p at hlt ⊢
  split <;> omega

/-- A signed value that fits its word is read back as it was written. -/
theorem toSigned_ofSigned {w : Nat} {z : Int} (h : -(2 ^ w : Int) ≤ z) (h' : z < 2 ^ w) :
    toSigned (w + 1) (ofSigned (w + 1) z) = z := by
  have hcast : ((2 ^ w : Nat) : Int) = 2 ^ w := by push_cast; rfl
  simp only [toSigned, ofSigned, Nat.add_sub_cancel, pow_succ]
  rw [← hcast] at h h'
  generalize 2 ^ w = p at h h'
  rcases Int.lt_or_le z 0 with hz | hz
  · have hm : z % ((p * 2 : Nat) : Int) = z + (p * 2 : Nat) := by
      rw [← Int.add_emod_right]; exact Int.emod_eq_of_lt (by omega) (by omega)
    rw [hm, Nat.mod_eq_of_lt (by omega), if_neg (by omega)]
    omega
  · rw [Int.emod_eq_of_lt hz (by omega), Nat.mod_eq_of_lt (by omega), if_pos (by omega)]
    omega

theorem State.rdS_wrS_self (s : State) (w k : Nat) {z : Int} (h : -(2 ^ w : Int) ≤ z ∧ z < 2 ^ w) :
    (s.wrS (w + 1) k z).rdS (w + 1) k = z := by
  rw [State.rdS, State.wrS, State.rd_wr_self, toSigned_ofSigned h.1 h.2]

theorem Num.satI_bounds (w : Nat) (x : Int) : -(2 ^ w : Int) ≤ Num.satI (w + 1) x ∧ Num.satI (w + 1) x < 2 ^ w := by
  have hp : (0 : Int) < 2 ^ w := by positivity
  simp only [Num.satI, Num.clampI, Nat.add_sub_cancel, Nat.cast_pow, Nat.cast_ofNat]
  split
  · omega
  · split <;> omega

theorem Num.fitI_bounds (w : Nat) (x : Int) : -(2 ^ w : Int) ≤ Num.fitI (w + 1) x ∧ Num.fitI (w + 1) x < 2 ^ w := by
  unfold Num.fitI
  split
  · next h => simpa using h
  · exact toSigned_bounds w _

theorem thermTemp_bounds (rs rnom beta n d : Nat) :
    -(2 ^ 15 : Int) ≤ thermTemp rs rnom beta n d ∧ thermTemp rs rnom beta n d < 2 ^ 15 := by
  unfold thermTemp
  dsimp only
  split
  · exact toSigned_bounds 15 _
  · exact Num.fitI_bounds 15 _

/-! ### One thermistor at the end of its window (R86, R87) -/

/-- The registers that the end of a window of thermistor i of TILE_t may write. -/
def thermistorKey (t i k : Nat) : Prop := k = Reg.lostCount ∨ k = Reg.thermStatus t i ∨ k = Reg.thermTemp t i

/-- The registers that the end of a window may write on TILE_t. -/
def thermTileKey (t k : Nat) : Prop := k = Reg.tempDie t ∨ ∃ i, i < 2 ∧ thermistorKey t i k

/-- What a ratio num / den shows: OPEN above 0.98, SHORT below 0.02, and else the temperature (R87). -/
def State.thermShow (u : State) (t i : Nat) (num den : Int) : State :=
  if 100 * num > 98 * den then u.wr (Reg.thermStatus t i) 2
  else if 100 * num < 2 * den then u.wr (Reg.thermStatus t i) 4
  else
    ((u.wr (Reg.thermStatus t i) 1).wrS 16 (Reg.thermTemp t i)
      (thermTemp (u.rd (Reg.thermRseries t i)) (u.rd (Reg.thermRnom t i)) (u.rd (Reg.thermBeta t i)) num.toNat den.toNat)).modTile t
        fun y => { y with therms := y.therms.setIfInBounds i { (y.therms[i]?).getD {} with everValid := true } }

/-- The sums of a thermistor begin anew. -/
def State.thermClear (s : State) (t i : Nat) : State :=
  s.modTile t fun y => { y with therms := y.therms.setIfInBounds i { ((s.tile t).therms[i]?).getD {} with sum := 0, count := 0 } }

/-- V_n / V_b of a thermistor on a signal amplifier, as a fraction (R86). -/
def State.sigRatio (s : State) (t i : Nat) (x : Therm) : Int × Int :=
  let ch := s.rd (Reg.thermChannel t i)
  ((256 * x.sum - x.count * s.sigOffset t ch) * 15625 * 2 * 2 ^ 30,
    256 * x.count * (2 ^ (bitsAt (s.rd (Reg.ampMode t ch)) 8 3) : Nat) * (s.sigGain t ch : Int) *
      s.rd (Reg.biasLevel t (s.rd (Reg.thermBias t i))) * 1000000)

section
variable (s : State) {t i : Nat}

/-- The end of a window clears the sums, and where there are samples it shows a ratio. -/
theorem State.thermStep_eq : s.thermStep t i = s.thermClear t i ∨ ∃ (u : State) (num den : Int) (b b' : Bool),
    (u = s.thermClear t i ∨ u = (s.thermClear t i).fresh.2) ∧
      s.thermStep t i = ((u.thermShow t i num den).raiseIf b 0x3109 cTHERM (2 * t + i) []).raiseIf b' 0x310A cTHERM (2 * t + i) [] := by
  unfold State.thermStep
  dsimp only
  split
  · exact Or.inl rfl
  · refine Or.inr ?_
    split
    · exact ⟨_, _, _, _, _, Or.inr rfl, by simp only [State.thermShow, decide_eq_true_eq]; rfl⟩
    · split
      · exact ⟨_, _, _, _, _, Or.inl rfl, by simp only [State.thermShow, decide_eq_true_eq]; rfl⟩
      · exact ⟨_, _, _, _, _, Or.inl rfl, by simp only [State.thermShow, decide_eq_true_eq]; rfl⟩

/-- A thermistor on a signal amplifier with a bias shows the ratio of its voltages. -/
theorem State.thermStep_signal {x : Therm} (hx : (s.tile t).therms[i]? = some x) (hcount : 0 < x.count)
    (hch : s.rd (Reg.thermChannel t i) < 12) (hvb : s.rd (Reg.biasLevel t (s.rd (Reg.thermBias t i))) ≠ 0) : ∃ b b' : Bool,
    s.thermStep t i = (((s.thermClear t i).thermShow t i (s.sigRatio t i x).1 (s.sigRatio t i x).2).raiseIf b 0x3109 cTHERM
      (2 * t + i) []).raiseIf b' 0x310A cTHERM (2 * t + i) [] := by
  unfold State.thermStep
  simp only [hx, Option.getD_some]
  rw [if_neg (by omega), if_neg hvb, if_pos hch]
  simp only [decide_eq_true_eq, State.thermShow, State.thermClear, hx, Option.getD_some, State.sigRatio]
  exact ⟨_, _, rfl⟩

end

@[simp] theorem State.tile_wr (s : State) (k v j : Nat) : (s.wr k v).tile j = s.tile j := id rfl

/-- Tile y is tile x but for thermistor i. -/
def Tile.SameButTherm (i : Nat) (x y : Tile) : Prop :=
  ∃ th : Vector Therm 2, y = { x with therms := th } ∧ ∀ j, j ≠ i → th[j]? = x.therms[j]?

theorem Tile.SameButTherm.refl (i : Nat) (x : Tile) : Tile.SameButTherm i x x := ⟨x.therms, rfl, fun _ _ => rfl⟩

theorem Tile.SameButTherm.trans {i : Nat} {x y z : Tile} (h : Tile.SameButTherm i x y) (h' : Tile.SameButTherm i y z) :
    Tile.SameButTherm i x z := by
  obtain ⟨th, rfl, hth⟩ := h
  obtain ⟨th', rfl, hth'⟩ := h'
  exact ⟨th', rfl, fun j hj => (hth' j hj).trans (hth j hj)⟩

section
variable {T : Nat → Prop} (s : State) {t i : Nat}

theorem State.sameButTherm_modTile (f : Tile → Therm) (j : Nat) : Tile.SameButTherm i (s.tile j)
    ((s.modTile t fun y => { y with therms := y.therms.setIfInBounds i (f y) }).tile j) := by
  rcases s.tile_modTile t j fun y => { y with therms := y.therms.setIfInBounds i (f y) } with h | ⟨-, h⟩
  · rw [h]; exact Tile.SameButTherm.refl i _
  · rw [h]
    exact ⟨_, rfl, fun k hk => by simp [hk.symm]⟩

theorem State.sameButTherm_thermShow (num den : Int) (j : Nat) :
    Tile.SameButTherm i (s.tile j) ((s.thermShow t i num den).tile j) := by
  unfold State.thermShow
  split
  · rw [State.tile_wr]; exact Tile.SameButTherm.refl i _
  · split
    · rw [State.tile_wr]; exact Tile.SameButTherm.refl i _
    · have h := State.sameButTherm_modTile (t := t) (i := i) ((s.wr (Reg.thermStatus t i) 1).wrS 16 (Reg.thermTemp t i)
        (thermTemp (s.rd (Reg.thermRseries t i)) (s.rd (Reg.thermRnom t i)) (s.rd (Reg.thermBeta t i)) num.toNat den.toNat))
        (fun y => { (y.therms[i]?).getD {} with everValid := true }) j
      rw [State.wrS, State.tile_wr, State.tile_wr] at h
      exact h

theorem State.quiet_thermShow (num den : Int) (hT : T t) : Quiet (thermistorKey t i) T s (s.thermShow t i num den) := by
  have hstatus (r : State) (v : Nat) : Quiet (thermistorKey t i) T r (r.wr (Reg.thermStatus t i) v) :=
    Quiet.wr _ _ (Or.inr (Or.inl rfl))
  unfold State.thermShow
  split
  · exact hstatus s 2
  · split
    · exact hstatus s 4
    · exact ((hstatus s 1).trans (Quiet.wr _ _ (Or.inr (Or.inr rfl)))).trans (Quiet.modTile t _ hT fun _ => rfl)

theorem State.quiet_thermClear {W : Nat → Prop} (hT : T t) : Quiet W T s (s.thermClear t i) := Quiet.modTile t _ hT fun _ => rfl

theorem State.quiet_fresh {W : Nat → Prop} : Quiet W T s s.fresh.2 := ⟨id rfl, fun _ _ => rfl, fun _ _ => rfl, fun _ => rfl⟩

/-- What the end of a window of thermistor i of TILE_t leaves alone. -/
theorem State.quiet_thermStep (hT : T t) : Quiet (thermistorKey t i) T s (s.thermStep t i) := by
  have hc : Quiet (thermistorKey t i) T s (s.thermClear t i) := s.quiet_thermClear hT
  rcases s.thermStep_eq (t := t) (i := i) with h | ⟨u, num, den, b, b', hu, h⟩
  · rw [h]; exact hc
  · have hu' : Quiet (thermistorKey t i) T s u := by
      rcases hu with rfl | rfl
      · exact hc
      · exact hc.trans (State.quiet_fresh _)
    rw [h]
    exact ((hu'.trans (u.quiet_thermShow num den hT)).trans (Quiet.raiseIf _ _ _ _ _ (by decide) (Or.inl rfl))).trans
      (Quiet.raiseIf _ _ _ _ _ (by decide) (Or.inl rfl))

theorem State.sameButTherm_thermStep (j : Nat) : Tile.SameButTherm i (s.tile j) ((s.thermStep t i).tile j) := by
  have hc : Tile.SameButTherm i (s.tile j) ((s.thermClear t i).tile j) := s.sameButTherm_modTile _ j
  rcases s.thermStep_eq (t := t) (i := i) with h | ⟨u, num, den, b, b', hu, h⟩
  · rw [h]; exact hc
  · have hu' : u.tile j = (s.thermClear t i).tile j := by rcases hu with rfl | rfl <;> rfl
    have hs := hc.trans (hu' ▸ u.sameButTherm_thermShow (t := t) (i := i) num den j)
    rw [h]
    simpa only [State.tile, State.raiseIf_tiles] using hs

end

/-! ### What a thermistor shows -/

/-- The registers of thermistor i of TILE_t show the ratio num / den in `r`, under the settings of `s` (R86, R87). -/
def State.ThermShown (s : State) (t i : Nat) (num den : Int) (r : State) : Prop :=
  (98 * den < 100 * num → r.rd (Reg.thermStatus t i) = 2) ∧
  (100 * num ≤ 98 * den → 100 * num < 2 * den → r.rd (Reg.thermStatus t i) = 4) ∧
  (2 * den ≤ 100 * num → 100 * num ≤ 98 * den →
    r.rd (Reg.thermStatus t i) = 1 ∧
    r.rdS 16 (Reg.thermTemp t i) =
      thermTemp (s.rd (Reg.thermRseries t i)) (s.rd (Reg.thermRnom t i)) (s.rd (Reg.thermBeta t i)) num.toNat den.toNat)

theorem State.ThermShown.of_quiet {W T : Nat → Prop} {s r u : State} {t i : Nat} {num den : Int} (h : s.ThermShown t i num den r)
    (hq : Quiet W T r u) (hst : ¬ W (Reg.thermStatus t i)) (htm : ¬ W (Reg.thermTemp t i)) : s.ThermShown t i num den u := by
  unfold State.ThermShown State.rdS at *
  rw [hq.regs _ hst, hq.regs _ htm]
  exact h

/-- A ratio is shown as R87 says. -/
theorem State.thermShown_thermShow (u : State) (t i : Nat) (num den : Int) : u.ThermShown t i num den (u.thermShow t i num den) := by
  have hne : Reg.thermStatus t i ≠ Reg.thermTemp t i := regKey_ne (by decide) (by decide) (Or.inr (by decide))
  unfold State.thermShow
  refine ⟨fun h => ?_, fun h h' => ?_, fun h h' => ?_⟩
  · rw [if_pos h, State.rd_wr_self]
  · rw [if_neg (Int.not_lt.2 h), if_pos h', State.rd_wr_self]
  · rw [if_neg (Int.not_lt.2 h'), if_neg (Int.not_lt.2 h)]
    refine ⟨?_, ?_⟩
    · rw [State.rd_modTile, State.wrS, State.rd_wr_ne _ _ hne, State.rd_wr_self]
    · exact State.rdS_wrS_self _ 15 _ (thermTemp_bounds _ _ _ _ _)

theorem not_thermistorKey_of_ne {t i i' : Nat} (h : i ≠ i') :
    ¬ thermistorKey t i' (Reg.thermStatus t i) ∧ ¬ thermistorKey t i' (Reg.thermTemp t i) := by
  simp only [thermistorKey, Reg.lostCount, Reg.thermStatus, Reg.thermTemp, regKey]
  omega

/-! ### One tile at the end of a window -/

/-- The die temperature of TILE_t is taken, where one is told (R88). -/
def State.dieTaken (s : State) (t : Nat) (die : List Int) : State :=
  match die[t]? with
  | some d => s.wrS 16 (Reg.tempDie t) (Num.satI 16 d)
  | none => s

/-- What THERM_WINDOW at `at_` does on TILE_t (R86 to R88). -/
def State.thermTile (s : State) (t : Nat) (at_ : Lt) (die : List Int) : State :=
  let s := s.modTile t fun y => { y with lastTherm := some at_ }
  if !(s.tile t).running then s else each 2 (s.dieTaken t die) fun s i => s.thermStep t i

/-- When the next window ends. -/
def State.thermEnd (s : State) : Lt := nextGrid (ns 1024000) s.lt (s.tile 0).lastTherm

theorem State.thermWindow_eq (s : State) (die : List Int) :
    s.thermWindow die = each 8 (s.goTo s.thermEnd) fun r t => r.thermTile t s.thermEnd die := rfl

theorem stillKey_of_thermTileKey {t k : Nat} (ht : t < 8) (h : thermTileKey t k) : stillKey k = false := by
  rcases h with rfl | ⟨i, hi, rfl | rfl | rfl⟩
  · exact stillKey_regKey (by omega) (by omega)
  · exact stillKey_lostCount
  · exact stillKey_regKey (by omega) (by omega)
  · exact stillKey_regKey (by omega) (by omega)

section
variable {T : Nat → Prop} (s : State) {t : Nat} (die : List Int)

theorem State.quiet_dieTaken : Quiet (thermTileKey t) T s (s.dieTaken t die) := by
  unfold State.dieTaken
  split
  · exact Quiet.wr _ _ (Or.inl rfl)
  · exact Quiet.refl s

theorem State.tile_dieTaken (j : Nat) : (s.dieTaken t die).tile j = s.tile j := by
  unfold State.dieTaken
  split <;> rfl

theorem State.quiet_thermSteps (hT : T t) : Quiet (thermTileKey t) T s (each 2 s fun r i => r.thermStep t i) :=
  Quiet.each fun r i hi _ => (r.quiet_thermStep (i := i) hT).mono (fun _ hk => Or.inr ⟨i, hi, hk⟩) fun _ h => h

/-- What the end of a window on TILE_t leaves alone. -/
theorem State.quiet_thermTile (at_ : Lt) (hT : T t) : Quiet (thermTileKey t) T s (s.thermTile t at_ die) := by
  have hm : Quiet (thermTileKey t) T s (s.modTile t fun y => { y with lastTherm := some at_ }) := Quiet.modTile t _ hT fun _ => rfl
  unfold State.thermTile
  dsimp only
  split
  · exact hm
  · exact (hm.trans (State.quiet_dieTaken _ die)).trans (State.quiet_thermSteps _ hT)

/-- The end of a window changes no driver and no channel. -/
theorem State.units_thermTile (at_ : Lt) (j : Nat) :
    ((s.thermTile t at_ die).tile j).drivers = (s.tile j).drivers ∧ ((s.thermTile t at_ die).tile j).chans = (s.tile j).chans := by
  have hm : ((s.modTile t fun y => { y with lastTherm := some at_ }).tile j).drivers = (s.tile j).drivers ∧
      ((s.modTile t fun y => { y with lastTherm := some at_ }).tile j).chans = (s.tile j).chans := by
    rcases s.tile_modTile t j fun y => { y with lastTherm := some at_ } with h | ⟨-, h⟩ <;> rw [h] <;> exact ⟨rfl, rfl⟩
  unfold State.thermTile
  dsimp only
  split
  · exact hm
  · refine each_of (P := fun r => (r.tile j).drivers = (s.tile j).drivers ∧ (r.tile j).chans = (s.tile j).chans) ?_ fun r i _ hr => ?_
    · rw [State.tile_dieTaken]; exact hm
    · obtain ⟨th, h, -⟩ := r.sameButTherm_thermStep (t := t) (i := i) j
      rw [h]; exact hr

end

/-! ### The temperatures of a tile -/

theorem not_thermistorKey_tempDie (t t' i : Nat) : ¬ thermistorKey t' i (Reg.tempDie t) := by
  simp only [thermistorKey, Reg.lostCount, Reg.thermStatus, Reg.thermTemp, Reg.tempDie, regKey]
  omega

/-- The registers that THERM_WINDOW may write. -/
def thermKey (k : Nat) : Prop := ∃ t, t < 8 ∧ thermTileKey t k

/-- The settings of thermistor i of TILE_t, and what it has summed up, are in `r` those of `s`. -/
structure State.ThermReady (s : State) (t i : Nat) (r : State) : Prop where
  regs : ∀ k, ¬ thermKey k → r.rd k = s.rd k
  amps : (r.tile t).amps = (s.tile t).amps
  therm : (r.tile t).therms[i]? = (s.tile t).therms[i]?

/-- A thermistor measures with these: it has samples, a signal channel and a bias. -/
structure State.ThermMeasures (s : State) (t i : Nat) (x : Therm) : Prop where
  sums : (s.tile t).therms[i]? = some x
  count : 0 < x.count
  chan : s.rd (Reg.thermChannel t i) < 12
  output : s.rd (Reg.thermBias t i) < 4
  bias : s.rd (Reg.biasLevel t (s.rd (Reg.thermBias t i))) ≠ 0

/-- The settings of a thermistor, of its channel and of its bias are none of the registers that the end of a window writes. -/
theorem not_thermKey_settings {t i : Nat} (hi : i < 2) :
    ¬ thermKey (Reg.thermChannel t i) ∧ ¬ thermKey (Reg.thermBias t i) ∧ ¬ thermKey (Reg.thermRseries t i) ∧
      ¬ thermKey (Reg.thermRnom t i) ∧ ¬ thermKey (Reg.thermBeta t i) ∧
      (∀ b, b < 4 → ¬ thermKey (Reg.biasLevel t b)) ∧ ∀ m, m < 12 → ¬ thermKey (Reg.ampMode t m) := by
  simp only [thermKey, thermTileKey, thermistorKey, Reg.lostCount, Reg.thermStatus, Reg.thermTemp, Reg.tempDie, Reg.thermChannel,
    Reg.thermBias, Reg.thermRseries, Reg.thermRnom, Reg.thermBeta, Reg.biasLevel, Reg.ampMode, regKey]
  refine ⟨?_, ?_, ?_, ?_, ?_, fun b hb => ?_, fun m hm => ?_⟩ <;> rintro ⟨t', ht', h | ⟨i', hi', h | h | h⟩⟩ <;> omega

section
variable {s r : State} {t i : Nat}

/-- The ratio is taken from the settings and the sums alone. -/
theorem State.ThermReady.sigRatio {x : Therm} (h : s.ThermReady t i r) (hi : i < 2) (hx : s.ThermMeasures t i x) :
    r.ThermMeasures t i x ∧ r.sigRatio t i x = s.sigRatio t i x := by
  obtain ⟨hch, hb, -, -, -, hvb, ham⟩ := not_thermKey_settings (t := t) hi
  have ech := h.regs _ hch
  have eb := h.regs _ hb
  have evb := h.regs _ (hvb _ hx.output)
  have eam := h.regs _ (ham _ hx.chan)
  refine ⟨⟨h.therm.trans hx.sums, hx.count, ?_, ?_, ?_⟩, ?_⟩
  · rw [ech]; exact hx.chan
  · rw [eb]; exact hx.output
  · rw [eb, evb]; exact hx.bias
  · simp only [State.sigRatio, State.sigGain, State.sigOffset, Tile.amp, ech, eb, evb, eam, h.amps]

/-- A ready thermistor shows its ratio at the end of its window. -/
theorem State.ThermReady.shown {x : Therm} (h : s.ThermReady t i r) (hi : i < 2) (hx : s.ThermMeasures t i x) :
    s.ThermShown t i (s.sigRatio t i x).1 (s.sigRatio t i x).2 (r.thermStep t i) := by
  obtain ⟨hr, hratio⟩ := h.sigRatio hi hx
  obtain ⟨b, b', hstep⟩ := r.thermStep_signal hr.sums hr.count hr.chan hr.bias
  obtain ⟨-, -, hrs, hrn, hbeta, -⟩ := not_thermKey_settings (t := t) hi
  have hlost : Quiet (· = Reg.lostCount) (fun _ => False) ((r.thermClear t i).thermShow t i (s.sigRatio t i x).1 (s.sigRatio t i x).2)
      (r.thermStep t i) := by
    rw [hstep, hratio]
    exact (Quiet.raiseIf _ 0x3109 _ _ _ (by decide) (by rfl)).trans (Quiet.raiseIf _ 0x310A _ _ _ (by decide) (by rfl))
  have hshow := (State.thermShown_thermShow (r.thermClear t i) t i (s.sigRatio t i x).1 (s.sigRatio t i x).2).of_quiet hlost
    (regKey_ne (by decide) (by decide) (Or.inr (by decide))) (regKey_ne (by decide) (by decide) (Or.inr (by decide)))
  unfold State.ThermShown at hshow ⊢
  simp only [State.thermClear, State.rd_modTile, h.regs _ hrs, h.regs _ hrn, h.regs _ hbeta] at hshow
  exact hshow

/-- Thermistor i stays ready as the window of the other one ends. -/
theorem State.ThermReady.thermStep_ne {i' : Nat} (h : s.ThermReady t i r) (ht : t < 8) (hi' : i' < 2) (hne : i' ≠ i) :
    s.ThermReady t i (r.thermStep t i') := by
  obtain ⟨th, htile, hth⟩ := r.sameButTherm_thermStep (t := t) (i := i') t
  refine ⟨fun k hk => ?_, ?_, ?_⟩
  · rw [(r.quiet_thermStep (T := (· = t)) (i := i') rfl).regs k fun hw => hk ⟨t, ht, Or.inr ⟨i', hi', hw⟩⟩]; exact h.regs k hk
  · rw [htile]; exact h.amps
  · rw [htile]; exact (hth i hne.symm).trans h.therm

/-- The steps of a window on a tile that runs. -/
theorem State.thermTile_running (r : State) (at_ : Lt) (die : List Int) (ht : t < 8) (hrun : (r.tile t).running = true) :
    r.thermTile t at_ die =
      each 2 ((r.modTile t fun y => { y with lastTherm := some at_ }).dieTaken t die) fun u i => u.thermStep t i := by
  unfold State.thermTile
  exact if_neg (by rw [r.tile_modTile_self _ ht]; simp [hrun])

/-- On a running tile the die temperature is taken. -/
theorem State.tempDie_thermTile (r : State) (at_ : Lt) {die : List Int} {d : Int} (ht : t < 8) (hrun : (r.tile t).running = true)
    (hd : die[t]? = some d) : (r.thermTile t at_ die).rdS 16 (Reg.tempDie t) = Num.satI 16 d := by
  rw [r.thermTile_running at_ die ht hrun]
  refine each_of (P := fun u => u.rdS 16 (Reg.tempDie t) = Num.satI 16 d) ?_ fun u i _ hu => ?_
  · rw [State.dieTaken, hd]
    exact State.rdS_wrS_self _ 15 _ (Num.satI_bounds 15 d)
  · rw [State.rdS, (u.quiet_thermStep (T := (· = t)) (i := i) rfl).regs _ (not_thermistorKey_tempDie t t i)]; exact hu

/-- On a running tile a ready thermistor shows its ratio. -/
theorem State.ThermReady.shown_thermTile {x : Therm} (h : s.ThermReady t i r) (at_ : Lt) (die : List Int) (ht : t < 8) (hi : i < 2)
    (hrun : (r.tile t).running = true) (hx : s.ThermMeasures t i x) :
    s.ThermShown t i (s.sigRatio t i x).1 (s.sigRatio t i x).2 (r.thermTile t at_ die) := by
  rw [r.thermTile_running at_ die ht hrun]
  set m := r.modTile t fun y => { y with lastTherm := some at_ }
  have htile : (m.dieTaken t die).tile t = { r.tile t with lastTherm := some at_ } := by
    rw [State.tile_dieTaken, State.tile_modTile_self _ _ ht]
  have hready : s.ThermReady t i (m.dieTaken t die) := by
    refine ⟨fun k hk => ?_, by rw [htile]; exact h.amps, by rw [htile]; exact h.therm⟩
    exact ((m.quiet_dieTaken (T := (· = t)) die).regs k fun hw => hk ⟨t, ht, hw⟩).trans (h.regs k hk)
  exact each_reach (P := s.ThermReady t i) hi hready (fun u i' hi' hne hu => hu.thermStep_ne ht hi' hne) (fun u hu => hu.shown hi hx)
    fun u i' _ hne hu => hu.of_quiet (u.quiet_thermStep (T := (· = t)) rfl) (not_thermistorKey_of_ne hne.symm).1
      (not_thermistorKey_of_ne hne.symm).2

end

/-! ### THERM_WINDOW -/

/-- The registers of a tile are none of those that the end of a window writes on another one. -/
theorem not_thermTileKey_of_ne {t t' : Nat} (h : t' ≠ t) :
    ¬ thermTileKey t' (Reg.tempDie t) ∧
      ∀ i, i < 2 → ¬ thermTileKey t' (Reg.thermStatus t i) ∧ ¬ thermTileKey t' (Reg.thermTemp t i) := by
  simp only [thermTileKey, thermistorKey, Reg.lostCount, Reg.thermStatus, Reg.thermTemp, Reg.tempDie, regKey]
  refine ⟨?_, fun i hi => ⟨?_, ?_⟩⟩ <;> rintro (h | ⟨i', hi', h | h | h⟩) <;> omega

section
variable (s : State) (die : List Int)

theorem State.quiet_thermTiles {T : Nat → Prop} (r : State) {t : Nat} (ht : t < 8) (hT : T t) :
    Quiet thermKey T r (r.thermTile t s.thermEnd die) :=
  (r.quiet_thermTile die _ hT).mono (fun _ hk => ⟨t, ht, hk⟩) fun _ h => h

/-- What the end of a window leaves alone. -/
theorem State.quiet_thermWindow : Quiet thermKey (fun _ => True) (s.goTo s.thermEnd) (s.thermWindow die) := by
  rw [State.thermWindow_eq]
  exact Quiet.each fun r _ ht _ => s.quiet_thermTiles die r ht trivial

theorem State.units_thermWindow (j : Nat) :
    ((s.thermWindow die).tile j).drivers = (s.tile j).drivers ∧ ((s.thermWindow die).tile j).chans = (s.tile j).chans := by
  rw [State.thermWindow_eq]
  refine each_of (P := fun r => (r.tile j).drivers = (s.tile j).drivers ∧ (r.tile j).chans = (s.tile j).chans) ⟨rfl, rfl⟩
    fun r t _ hr => ?_
  obtain ⟨hd, hc⟩ := r.units_thermTile (t := t) die s.thermEnd j
  exact ⟨hd.trans hr.1, hc.trans hr.2⟩

/-- Every running tile takes its die temperature. -/
theorem State.tempDie_thermWindow {t : Nat} {d : Int} (ht : t < 8) (hrun : (s.tile t).running = true) (hd : die[t]? = some d) :
    (s.thermWindow die).rdS 16 (Reg.tempDie t) = Num.satI 16 d := by
  rw [State.thermWindow_eq]
  refine each_reach (P := fun r => (r.tile t).running = true) (Q := fun r => r.rdS 16 (Reg.tempDie t) = Num.satI 16 d) ht hrun
    (fun r j hj _ hr => ((s.quiet_thermTiles (T := fun _ => True) die r hj trivial).running t).trans hr)
    (fun r hr => r.tempDie_thermTile _ ht hr hd) fun r j _ hne hr => ?_
  rw [State.rdS, (r.quiet_thermTile (T := (· = j)) die _ rfl).regs _ (not_thermTileKey_of_ne hne).1]
  exact hr

/-- Every thermistor of a running tile that measures on a signal amplifier shows its ratio. -/
theorem State.shown_thermWindow {t i : Nat} {x : Therm} (ht : t < 8) (hi : i < 2) (hrun : (s.tile t).running = true)
    (hx : s.ThermMeasures t i x) :
    s.ThermShown t i (s.sigRatio t i x).1 (s.sigRatio t i x).2 (s.thermWindow die) := by
  rw [State.thermWindow_eq]
  refine each_reach (P := Quiet thermKey (· ≠ t) (s.goTo s.thermEnd)) ht (Quiet.refl _)
    (fun r j hj hne hr => hr.trans (s.quiet_thermTiles die r hj hne)) (fun r hr => ?_)
    fun r j _ hne hr => hr.of_quiet (r.quiet_thermTile (T := (· = j)) die _ rfl) ((not_thermTileKey_of_ne hne).2 i hi).1
      ((not_thermTileKey_of_ne hne).2 i hi).2
  have htile : r.tile t = s.tile t := hr.tiles t fun h => h rfl
  have hready : s.ThermReady t i r := ⟨hr.regs, by rw [htile], by rw [htile]⟩
  exact hready.shown_thermTile _ die ht hi (by rw [htile]; exact hrun) hx

end

/-! ### The trip of a die temperature (R443, R472) -/

theorem dieTrips_of_low {die : List Int} (h : ∀ t d, t < 8 → die[t]? = some d → d ≤ 11000) : dieTrips die = false := by
  simp only [dieTrips, List.any_eq_false, List.mem_range]
  intro t ht
  split
  · next d hd =>
    have := h t d ht hd
    simp only [decide_eq_true_eq]
    omega
  · simp

theorem dieTrips_of_high {die : List Int} {t : Nat} {d : Int} (ht : t < 8) (hd : die[t]? = some d) (h : 11500 < d) :
    dieTrips die = true := by
  simp only [dieTrips, List.any_eq_true, List.mem_range]
  refine ⟨t, ht, ?_⟩
  have hmod : Config.dieTrip t % 501 < 501 := Nat.mod_lt _ (by decide)
  simp only [hd, decide_eq_true_eq]
  omega

/-! ### The statement -/

/-- The instant of the latest sample is kept. -/
def State.sampled (s : State) : State := { s with lastSample := some s.lt }

@[simp] theorem State.still_sampled (s : State) : s.sampled.still = s.still := id rfl
@[simp] theorem State.outside_sampled (s : State) : s.sampled.outside = s.outside := id rfl
@[simp] theorem State.tile_sampled (s : State) (j : Nat) : s.sampled.tile j = s.tile j := id rfl
@[simp] theorem State.lt_sampled (s : State) : s.sampled.lt = s.lt := id rfl
@[simp] theorem State.axes_sampled (s : State) : s.sampled.axes = s.axes := id rfl
@[simp] theorem State.lasers_sampled (s : State) : s.sampled.lasers = s.lasers := id rfl
@[simp] theorem State.engines_sampled (s : State) : s.sampled.engines = s.engines := id rfl
@[simp] theorem State.lastSample_sampled (s : State) : s.sampled.lastSample = some s.lt := id rfl

/-- After the samples only the taps follow (R462). -/
theorem State.quiet_sampleInstant (s : State) (adc pins : List (Nat × Int)) (drops : List Nat) :
    Quiet sampleKey (fun _ => False) (s.sampleTiles s.lastSample adc pins).sampled (s.sampleInstant adc pins drops) :=
  State.quiet_tapSamples _ _ drops

/-- SAMPLE_INSTANT from a still state (R15, R82). -/
theorem exec_sampleInstant {s : State} (hs : s.still = true) (adc pins : List (Nat × Int)) (drops : List Nat) :
    exec (.sampleInstant adc pins drops) s = .next (s.sampleInstant adc pins drops) := by
  have hkey (k : Nat) (hk : sampleKey k) : stillKey k = false := stillKey_of_sampleKey hk
  have hm := s.quiet_sampleTiles s.lastSample adc pins
  have ht := s.quiet_sampleInstant adc pins drops
  have hstill : (s.sampleTiles s.lastSample adc pins).still = true := hm.still hkey (by rw [State.still_goTo]; exact hs)
  refine State.next_up hs rfl (ht.still hkey (by rw [State.still_sampled]; exact hstill)) ?_
  rw [ht.outside, State.outside_sampled, hm.outside, State.outside_goTo]

/-- THERM_WINDOW from a still state, where no die temperature trips (R86 to R88). -/
theorem exec_thermWindow {s : State} (hs : s.still = true) {die : List Int} (hdie : dieTrips die = false) :
    exec (.thermWindow die) s = .next (s.thermWindow die) := by
  have hq := s.quiet_thermWindow die
  have hkey (k : Nat) (hk : thermKey k) : stillKey k = false := by
    obtain ⟨t, ht, hk⟩ := hk
    exact stillKey_of_thermTileKey ht hk
  have he : exec (.thermWindow die) s = .next (s.up fun s => s.thermWindow die) := by
    change execThermWindow die s = _
    simp [execThermWindow, hdie]
  rw [he]
  exact State.next_up hs rfl (hq.still hkey (by rw [State.still_goTo]; exact hs)) hq.outside

/-- A tripped die temperature acts as supplies out of range. -/
theorem exec_thermWindow_trips {s : State} (hs : s.still = true) {die : List Int} (hdie : dieTrips die = true) :
    exec (.thermWindow die) s = .next s.supplyTrip := by
  obtain ⟨hreset, hinit, -⟩ := State.still_running hs
  change execThermWindow die s = _
  simp [execThermWindow, hdie, State.pinsAct, hreset, hinit]

/-- Settles O10: both commands leave a still state still, so that their effect is that of their passes over the tiles. -/
theorem samplesTaken : Obligations.SamplesTaken := by
  unfold Obligations.SamplesTaken
  refine ⟨fun s adc pins drops hs => ?_, fun s die hs hdie => ?_, fun die => dieTrips_of_low, fun s die t d hs ht hd h => ?_⟩
  · have hm := s.quiet_sampleTiles s.lastSample adc pins
    have ht := s.quiet_sampleInstant adc pins drops
    have htile (j : Nat) : (s.sampleInstant adc pins drops).tile j = (s.sampleTiles s.lastSample adc pins).tile j := by
      rw [ht.tiles j id, State.tile_sampled]
    refine ⟨_, exec_sampleInstant hs adc pins drops, ?_, ?_, fun i c hi hc hrun hon => ?_, fun i _ hrun => ?_, ?_, ?_, ?_⟩
    · rw [ht.lt, State.lt_sampled, hm.lt]; rfl
    · rw [ht.lastSample, ht.lt, State.lt_sampled, State.lastSample_sampled]
    · rw [htile]; exact s.adc_sampleTiles s.lastSample adc pins hi hc hrun hon
    · rw [htile]; exact hm.tiles i (by simp [hrun])
    · rw [ht.axes, State.axes_sampled, hm.axes, State.goTo_axes]
    · rw [ht.lasers, State.lasers_sampled, hm.lasers, State.goTo_lasers]
    · rw [ht.engines, State.engines_sampled, hm.engines, State.goTo_engines]
  · have hq := s.quiet_thermWindow die
    refine ⟨_, exec_thermWindow hs hdie, hq.lt, fun t d ht hrun hd => s.tempDie_thermWindow die ht hrun hd,
      fun t _ => s.units_thermWindow die t, hq.axes, ?_⟩
    intro t i x ht hi hrun hx hcount ch vb hch hbias hvb num den
    have hshown := s.shown_thermWindow die ht hi hrun ⟨hx, hcount, hch, hbias, hvb⟩
    have hnum : (s.sigRatio t i x).1 = num := by simp only [State.sigRatio, num, ch]; ring
    rw [hnum] at hshown
    exact hshown
  · exact exec_thermWindow_trips hs (dieTrips_of_high ht hd h)

end Sys2Proof.Machine
end

section
/-! PROOFS. DEMOD_OUTPUT under the values before a boundary (R34). -/

namespace Sys2Proof.Machine

/-! ### An output under earlier values that name the demodulation period (R34)

`State.demodNext` decides by the period in use whether the output is the one at the latest boundary; `State.demodTile`, under the
earlier values, takes the instant of the output from the period that those give. The statement is over every still state, so also
over those in which the earlier values name DEMOD_PERIOD, which no boundary keeps there: DEMOD_PERIOD is RWC and is never staged
(R37, R131). -/

/-- The values before the boundary at 500 ns: DEMOD_PERIOD of TILE_0 was 1 µs. -/
def slowBefore : Earlier := { until_ := ns 500, values := [(Reg.demodPeriod 0, 1)], stale := [] }

/-- CONFIGURE at LT 500 ns, with the default DEMOD_PERIOD of 500 ns in use. -/
def periodRig : State :=
  (({ lt := ns 500, mode := { inReset := false, resetPinLow := false } } : State).wr Reg.mode CONFIGURE).modEngine 0 fun e =>
    { e with earlier := some slowBefore }

theorem periodRig_still : periodRig.still = true := by decide +kernel

theorem periodRig_supervised : periodRig.supervised = false := by decide +kernel

/-- Under the period in use the next output falls on the boundary, for which the earlier values are kept. -/
theorem periodRig_due :
    nextGrid (ns (periodRig.demodNs 0)) periodRig.lt (periodRig.tile 0).lastDemod = slowBefore.until_ := by decide +kernel

/-- The instant of the latest output of TILE_0 in what a command answers. -/
def lastDemodOf : Host.Outcome State Fault Refusal → Option Lt
  | .next r => (r.tile 0).lastDemod
  | _ => none

/-- The command gives the output at the later instant. -/
theorem periodRig_answer : lastDemodOf (exec (.demodOutput 0 []) periodRig) = some (ns 1000) := by decide +kernel

/-- Refutes O11: in `periodRig` the output due at 500 ns is the one at the engine's latest boundary, but the earlier values it is
formed under hold a DEMOD_PERIOD of 1 µs, so its instant becomes 1,000 ns where the statement has 500 ns. -/
theorem not_firOutputsFormed : ¬ Obligations.FirOutputsFormed := by
  unfold Obligations.FirOutputsFormed
  intro h
  obtain ⟨r, hexec, hrest, -, hlast, -⟩ := h periodRig 0 [] periodRig_still (by decide)
  rw [hrest periodRig_supervised] at hexec
  have hanswer := periodRig_answer
  rw [hexec, lastDemodOf, hlast, periodRig_due] at hanswer
  exact absurd hanswer (by decide)

end Sys2Proof.Machine
end

section
/-! PROOFS. Entering and leaving reset (R53, R292, R443, R444, R447). -/

namespace Sys2Proof.Machine

/-! ### Entering reset (R443, R447) -/

/-- Cutting short what is written to the flash empties no pound. -/
theorem State.fullPounds_cut (s : State) : s.saveCut.persistCut.fullPounds = s.fullPounds := by
  have hsave (u : State) : u.saveCut.pounds = u.pounds := by unfold State.saveCut; split <;> rfl
  have hpersist (u : State) : u.persistCut.pounds = u.pounds := by unfold State.persistCut; split <;> rfl
  simp only [State.fullPounds, State.pound, hpersist, hsave]

/-- Without a save and without a power-fail write the flash outlasts the entry into reset, and no free value is taken. -/
theorem State.enterReset_flash {s : State} (hsave : s.store.save = none) (hpersist : s.rd Reg.persistState ≠ 2) :
    s.enterReset.flash = s.flash ∧ s.enterReset.freeCount = s.freeCount := by
  have hs : s.saveCut = s := by rw [State.saveCut, hsave]
  have hp : s.persistCut = s := by rw [State.persistCut, if_neg hpersist]
  unfold State.enterReset
  rw [hs, hp]
  simp

/-- The log of a device that enters reset with its pounds empty. -/
theorem State.enterReset_log_of_empty {s : State} (hrun : s.mode.inReset = false) (h : s.fullPounds = 0) : s.enterReset.log = {} := by
  have hmode : s.saveCut.persistCut.mode = s.mode := (State.persistCut_keeps _).2.1.trans s.saveCut_keeps.2.1
  unfold State.enterReset
  simp [hmode, hrun, s.fullPounds_cut, h, State.raiseIf]

/-- The log of a device that enters reset with values staged: event 0x2010 alone (R53). -/
theorem State.enterReset_log_of_full {s : State} (hrun : s.mode.inReset = false) (h : 0 < s.fullPounds) :
    ∃ e, s.enterReset.log.intake = [e] ∧ e.code = 0x2010 ∧ e.data = dU 4 s.fullPounds := by
  have hmode : s.saveCut.persistCut.mode = s.mode := (State.persistCut_keeps _).2.1.trans s.saveCut_keeps.2.1
  unfold State.enterReset
  simp only [hmode, hrun, s.fullPounds_cut, h, Bool.not_false, decide_true, Bool.and_self, State.raiseIf, if_true,
    Bool.false_eq_true, if_false]
  exact ⟨_, rfl, rfl, rfl⟩

/-- What the statement says of an entry into reset that is the same for RESET_N and for a supply: `s` enters it with the levels
of `m`. -/
theorem State.enterReset_modMode (s : State) (f : ModeSt → ModeSt) (hrun : (f s.mode).inReset = s.mode.inReset) :
    let t := (s.modMode f).enterReset
    (s.store.save = none → s.rd Reg.persistState ≠ 2 → t.flash = s.flash ∧ t.freeCount = s.freeCount) ∧
      (s.mode.inReset = false → (s.fullPounds = 0 → t.log = {}) ∧
        (0 < s.fullPounds → ∃ e, t.log.intake = [e] ∧ e.code = 0x2010 ∧ e.data = dU 4 s.fullPounds)) :=
  ⟨State.enterReset_flash (s := s.modMode f), fun h =>
    ⟨State.enterReset_log_of_empty (s := s.modMode f) (hrun.trans h), State.enterReset_log_of_full (s := s.modMode f) (hrun.trans h)⟩⟩

/-! ### Leaving reset (R292, R444) -/

theorem State.tryLeaveReset_of_ready {s : State} (hin : s.mode.inReset = true) (hpin : s.mode.resetPinLow = false)
    (hsup : s.mode.supplyBad = false) : s.tryLeaveReset = { s.modMode fun m => { m with inReset := false } with lt := 0 } := by
  simp [State.tryLeaveReset, hin, hpin, hsup]

theorem State.tryLeaveReset_of_held {s : State} (h : s.mode.resetPinLow = true ∨ s.mode.supplyBad = true) : s.tryLeaveReset = s := by
  rcases h with h | h <;> simp [State.tryLeaveReset, h]

/-- Settles O6: the entry by `enterReset_spec` and what it does to the flash and to the log, the way out by the two levels. -/
theorem resetEnteredAndLeft : Obligations.ResetEnteredAndLeft := by
  unfold Obligations.ResetEnteredAndLeft
  refine ⟨fun s => ⟨⟨s.resetAsserted, rfl, ?_⟩, ⟨s.supplyTrip, rfl, ?_⟩⟩, fun s hin => ⟨fun h => ?_, fun h => ?_, fun h => ?_, fun h => ?_⟩⟩
  · obtain ⟨hheld, hpending, hmode⟩ := (s.modMode fun m => { m with resetPinLow := true }).enterReset_spec
    exact ⟨hheld, (congrArg ModeSt.inReset hmode :), (congrArg ModeSt.resetPinLow hmode :), (congrArg ModeSt.supplyBad hmode :),
      (congrArg ModeSt.holdLow hmode :), (congrArg ModeSt.clearAxLow hmode :), (congrArg ModeSt.clearLmLow hmode :),
      (congrArg ModeSt.pfailLow hmode :), hpending, s.enterReset_modMode _ rfl⟩
  · obtain ⟨hheld, hpending, hmode⟩ := (s.modMode fun m => { m with supplyBad := true }).enterReset_spec
    exact ⟨hheld, (congrArg ModeSt.inReset hmode :), (congrArg ModeSt.supplyBad hmode :), (congrArg ModeSt.resetPinLow hmode :),
      (congrArg ModeSt.holdLow hmode :), (congrArg ModeSt.clearAxLow hmode :), (congrArg ModeSt.clearLmLow hmode :),
      (congrArg ModeSt.pfailLow hmode :), hpending, s.enterReset_modMode _ rfl⟩
  · exact congrArg Host.Outcome.next (State.tryLeaveReset_of_ready (s := s.modMode fun m => { m with resetPinLow := false }) hin rfl h)
  · exact congrArg Host.Outcome.next (State.tryLeaveReset_of_held (s := s.modMode fun m => { m with resetPinLow := false }) (.inr h))
  · exact congrArg Host.Outcome.next (State.tryLeaveReset_of_ready (s := s.modMode fun m => { m with supplyBad := false }) hin h rfl)
  · exact congrArg Host.Outcome.next (State.tryLeaveReset_of_held (s := s.modMode fun m => { m with supplyBad := false }) (.inl h))

end Sys2Proof.Machine
end

section
/-! PROOFS. Requests of MEM_DATA that a frequency switch holds (R345, R381) against the answers of R38 and R334. -/

namespace Sys2Proof.Machine

/-! ### Requests of MEM_DATA while a frequency switch runs

A request whose key is that of MEM_DATA is held while the memory is SWITCHING (`State.memHeld`), before any check of R38 or R334 is
made, so it has no answer yet. `State.unheld` asks that no request waits for the memory; it does not say that the memory runs. -/

/-- CONFIGURE, with MASTER_0 registered at MAC address 5, while the memory is SWITCHING. -/
def switchingRig : State :=
  ((({ mode := { inReset := false, resetPinLow := false } } : State).wr Reg.mode CONFIGURE).wr Reg.memState memSWITCHING).wr
    (Reg.masterState 0) 1 |>.wr (Reg.masterMac 0) 5

/-- The source of MASTER_0 in `switchingRig`. -/
def rigSource : Source := .eth 5 0

/-- The abort code that a command leaves in the answer to the latest message. -/
def abortOf : Host.Outcome State Fault Refusal → Option Nat
  | .next r => some r.net.reply.abort
  | _ => none

theorem switchingRig_ready : switchingRig.still = true ∧ (switchingRig.advance 0).speaks rigSource 0 = true ∧
    (switchingRig.master 0).asm = [] ∧ Dict.hasIndex 0 = false ∧ Dict.hasIndex (keyIndex Reg.memData) = true ∧
    (Dict.row? Reg.memData).isSome = true ∧
    abortOf (exec (.read 0 rigSource 0 Reg.memData) switchingRig) = some 0 ∧
    abortOf (exec (.writeLast 0 rigSource (keyIndex Reg.memData) (keySub Reg.memData) 1 []) switchingRig) = some 0 := by decide +kernel

/-- Refutes O37: the statement has every index that the dictionary lacks answered with 0xA001, for a subindex of any size; index 0
with the subindex `Reg.memData`, beyond a byte, spells the key of MEM_DATA, and in `switchingRig` its READ is held, without an
answer. -/
theorem not_readsAnswered : ¬ Obligations.ReadsAnswered := by
  unfold Obligations.ReadsAnswered
  intro h
  obtain ⟨hstill, hspeaks, -, hindex, -, -, hheld, -⟩ := switchingRig_ready
  obtain ⟨hheard, -, hunheld⟩ := State.masterOf_speaks hspeaks
  obtain ⟨-, habsent, -⟩ := h switchingRig 0 0 Reg.memData 0 0 rigSource hstill hheard hunheld (by decide)
  have hcode := congrArg abortOf (habsent hindex).1
  rw [hheld] at hcode
  exact absurd hcode (by simp [abortOf, State.answer, State.modNet])

/-- Refutes O39: the statement has a WRITE_LAST that does not follow answered with 0xA013 for every object; one of MEM_DATA is held
in `switchingRig`, without an answer. -/
theorem not_partsAssemble : ¬ Obligations.PartsAssemble := by
  unfold Obligations.PartsAssemble
  intro h
  obtain ⟨hstill, hspeaks, hasm, -, hindex, hsome, -, hheld⟩ := switchingRig_ready
  obtain ⟨row, hrow⟩ : ∃ row, Dict.row? Reg.memData = some row := Option.isSome_iff_exists.1 hsome
  obtain ⟨-, hout⟩ := h switchingRig 0 0 (keyIndex Reg.memData) (keySub Reg.memData) 1 rigSource [] row hstill
    hspeaks (by decide) hindex (by decide) hrow (by decide) (by decide)
  have hcode := congrArg abortOf (hout (Or.inl (by rw [hasm, ite_self]; decide))).2
  rw [hheld] at hcode
  exact absurd hcode (by simp [abortOf, State.answer, State.modNet])

end Sys2Proof.Machine
end

section
/-! PROOFS. The objects 0x5000 to 0x5FFF (R37, R38, R334, R340). -/

namespace Sys2Proof.Machine

/-! ### One message of a source that is heard (R333, R347) -/

/-- A message that is not held is served, and its answer stays in the state. -/
theorem State.next_message {s t : State} {src : Source} {dt c : Nat} {m : Msg} {d : List Nat} (hs : s.still = true)
    (hheard : (s.advance dt).heard src = true) (hunheld : s.unheld = true) (hm : m.ofMemData = false)
    (hserve : ((s.advance dt).received src).serve src (s.advance dt).lt (replyRoom src m) m = (t, c, d)) (ht : t.still = true)
    (ho : t.outside = s.outside) :
    (Host.Outcome.next (s.upAt dt fun s => s.serveAlone src m) : Host.Outcome State Fault Refusal) = .next (t.answer c d) := by
  refine State.next_upAt hs ?_ (by rw [State.still_answer]; exact ht) (by rw [State.outside_answer]; exact ho)
  have hheld : ((s.advance dt).received src).memHeld src m = false :=
    State.memHeld_of src (State.unheld_received (s := s.advance dt) src hunheld) hm
  have hlt : ((s.advance dt).received src).lt = (s.advance dt).lt := State.lt_received _ src
  simp only [State.serveAlone, hheard, if_true, State.message]
  rw [← State.received, hheld, hlt, hserve]
  rfl

section
variable (s : State) (src : Source) (ts : Lt) (room i b : Nat)

/-- A READ is answered from the state, from whatever source. -/
theorem State.serve_read : s.serve src ts room { service := svcREAD, tag := 0, index := i, sub := b, data := [] } = s.doRead i b room none := by
  cases h : s.masterOf src <;> simp [State.serve, Msg.malformed, h]

theorem State.serve_desc : s.serve src ts room { service := svcDESC, tag := 0, index := i, sub := b, data := [] } = s.doDesc i b room := by
  cases h : s.masterOf src <;> simp [State.serve, Msg.malformed, h]

/-- A READ_PART names its range by the bytes of its data. -/
theorem State.serve_readPart {o c : Nat} (ho : o < 2 ^ 32) (hc : c < 2 ^ 16) :
    s.serve src ts room { service := svcREADPART, tag := 0, index := i, sub := b, data := leBytes 4 o ++ leBytes 2 c } =
      s.doRead i b room (some (o, c)) := by
  have htake : (leBytes 4 o ++ leBytes 2 c).take 4 = leBytes 4 o := List.take_left' (leBytes_length 4 o)
  have hdrop : (leBytes 4 o ++ leBytes 2 c).drop 4 = leBytes 2 c := List.drop_left' (leBytes_length 4 o)
  have ho' : ofLeBytes (leBytes 4 o) = o := by rw [ofLeBytes_leBytes]; exact Nat.mod_eq_of_lt ho
  have hc' : ofLeBytes (leBytes 2 c) = c := by rw [ofLeBytes_leBytes]; exact Nat.mod_eq_of_lt hc
  cases h : s.masterOf src <;> simp [State.serve, Msg.malformed, h, htake, hdrop, ho', hc']

variable {n : Nat}

/-- A WRITE of a registered master. -/
theorem State.serve_write (h : s.masterOf src = some n) {v : List Nat} (hv : v.length < 256) :
    s.serve src ts room { service := svcWRITE, tag := 0, index := i, sub := b, data := v } =
      ((s.masterWrite n src i b v).1, (s.masterWrite n src i b v).2, []) := by
  simp [State.serve, Msg.malformed, h, Nat.not_lt.2 (Nat.le_of_lt_succ hv)]

/-- A WRITE_LAST of a registered master. -/
theorem State.serve_writeLast (h : s.masterOf src = some n) {v : List Nat} (hv : v.length < 252) (o : Nat) :
    s.serve src ts room { service := svcLAST, tag := 0, index := i, sub := b, data := leBytes 4 o ++ v } =
      ((s.writePart n src i b (leBytes 4 o ++ v) true).1, (s.writePart n src i b (leBytes 4 o ++ v) true).2, []) := by
  simp [State.serve, Msg.malformed, h, show ¬ 255 < 4 + v.length by omega]

end

/-! ### The vendor range (R340) -/

/-- The state in which `m` more free values have been taken. -/
def State.tookFree (s : State) (m : Nat) : State := { s with freeCount := s.freeCount + m }

@[simp] theorem State.still_tookFree (s : State) (m : Nat) : (s.tookFree m).still = s.still := id rfl
@[simp] theorem State.outside_tookFree (s : State) (m : Nat) : (s.tookFree m).outside = s.outside := id rfl

/-- A read of the range takes one free value or two. -/
theorem State.vendorBytes_state (s : State) (i b : Nat) : ∃ m, (m = 1 ∨ m = 2) ∧ (s.vendorBytes i b).1 = s.tookFree m := by
  unfold State.vendorBytes
  dsimp only
  split
  · exact ⟨1, Or.inl rfl, rfl⟩
  · exact ⟨2, Or.inr rfl, rfl⟩

section
variable {i : Nat} (h : 0x5000 ≤ i) (h' : i < 0x6000)
include h h'

/-- No message to the range is one of MEM_DATA. -/
theorem ofMemData_vendor {m : Msg} (hm : m.index = i) (hb : m.sub < 256) : m.ofMemData = false := by
  have hne : regKey m.index m.sub ≠ Reg.memData := regKey_ne hb (by decide) (Or.inl (by omega))
  simp [Msg.ofMemData, hne]

/-- No write of the range needs the token. -/
theorem needsToken_vendor {b : Nat} (hb : b < 256) (v : List Nat) : needsToken (regKey i b) v = false := by
  have hpark : regKey i b ≠ Reg.parkCmd := regKey_ne hb (by decide) (Or.inl (by omega))
  have hmode : regKey i b ≠ Reg.modeCmd := regKey_ne hb (by decide) (Or.inl (by omega))
  simp [needsToken, hpark, hmode]

theorem State.doRead_vendor (s : State) (b room : Nat) : ∃ m a d, (m = 1 ∨ m = 2) ∧ (a = 0 ∨ a = 0xA013 ∧ d = []) ∧
    s.doRead i b room none = (s.tookFree m, a, d) := by
  obtain ⟨m, hm, hstate⟩ := s.vendorBytes_state i b
  by_cases hlong : room < (s.vendorBytes i b).2.length
  · exact ⟨m, 0xA013, [], hm, Or.inr ⟨rfl, rfl⟩, by simp [State.doRead, h, h', hstate, hlong]⟩
  · exact ⟨m, 0, (s.vendorBytes i b).2, hm, Or.inl rfl, by simp [State.doRead, h, h', hstate, hlong]⟩

theorem State.doRead_vendor_part (s : State) (b room o c : Nat) : ∃ m d, (m = 1 ∨ m = 2) ∧
    s.doRead i b room (some (o, c)) = (s.tookFree m, 0, leBytes 4 o ++ d) := by
  obtain ⟨m, hm, hstate⟩ := s.vendorBytes_state i b
  exact ⟨m, ((s.vendorBytes i b).2.drop o).take (min c (room - 4)), hm, by simp [State.doRead, h, h', hstate]⟩

/-- The descriptor fits every reply. -/
theorem State.doDesc_vendor (s : State) (b : Nat) {room : Nat} (hroom : 6 ≤ room) : s.doDesc i b room = (s, 0, vendorDesc i b) := by
  have hlength : (vendorDesc i b).length = 6 := by simp [vendorDesc]
  simp [State.doDesc, h, h', hlength, Nat.not_lt.2 hroom]

/-- A write of the range is refused. -/
theorem State.masterWrite_vendor (s : State) (n : Nat) (src : Source) {b : Nat} (hb : b < 256) (v : List Nat) :
    s.masterWrite n src i b v = (s, 0xA010) := by
  simp [State.masterWrite, needsToken_vendor h h' hb, State.doWrite, h, h']

end

/-! ### Parts (R334) -/

/-- The assembly buffer of a master: what it holds, for which sub-entry, and since when. -/
def Master.assembly (x : Master) : List Nat × Nat × Lt := (x.asm, x.asmKey, x.asmLt)

/-- A change of a master's record that leaves its assembly buffer alone leaves every master's alone. -/
theorem State.assembly_modMaster (s : State) (k n : Nat) (f : Master → Master) (hf : ∀ x, (f x).assembly = x.assembly) :
    ((s.modMaster k f).master n).assembly = (s.master n).assembly := by
  by_cases hne : n = k
  · subst hne
    by_cases hn : n < 4
    · rw [s.master_modMaster_self f hn, hf]
    · simp [State.master, State.modMaster, State.modNet, hn]
  · rw [s.master_modMaster_ne f hne]

@[simp] theorem State.master_wr (s : State) (k v n : Nat) : (s.wr k v).master n = s.master n := by simp only [State.master, State.wr_net]

/-- The arrival of a message leaves the assembly buffers alone. -/
theorem State.assembly_received (s : State) (src : Source) (n : Nat) : ((s.received src).master n).assembly = (s.master n).assembly := by
  have hcount (u : State) : ((u.countMsg src 1).master n).assembly = (u.master n).assembly := by
    unfold State.countMsg
    split
    · rw [State.master_wr]
    · rfl
  rw [State.received, hcount]
  cases src with
  | eth mac p =>
    simp only [State.seenFrom, State.seen]
    split
    · rw [State.assembly_modMaster, State.master_wr]
      exact fun _ => rfl
    · rfl
  | can =>
    simp only [State.seenFrom]
    split
    · rw [State.assembly_modMaster, State.master_wr]
      exact fun _ => rfl
    · rfl

/-- What the assembly buffer of MASTER_n holds of a value for `k`. -/
def State.kept (s : State) (n k : Nat) : List Nat :=
  if (s.master n).asmKey = k ∧ s.lt ≤ (s.master n).asmLt + ns 100000000 then (s.master n).asm else []

theorem State.kept_received (s : State) (src : Source) (n k : Nat) : (s.received src).kept n k = s.kept n k := by
  have hasm := s.assembly_received src n
  simp only [Master.assembly, Prod.mk.injEq] at hasm
  obtain ⟨hbytes, hkey, hlt⟩ := hasm
  simp only [State.kept, hbytes, hkey, hlt, State.lt_received]

/-- A part joins what is kept (R334). -/
theorem State.writePart_eq (s : State) (n : Nat) (src : Source) (i b : Nat) (d : List Nat) (last : Bool) :
    s.writePart n src i b d last =
      if !(decide (0x5000 ≤ i) && decide (i < 0x6000)) ∧ !Dict.hasIndex i then (s.dropAsm n, 0xA001)
      else match partLimit i b with
        | none => (s.dropAsm n, 0xA002)
        | some size =>
          if ofLeBytes (d.take 4) ≠ (s.kept n (regKey i b)).length ∨ size < (s.kept n (regKey i b) ++ d.drop 4).length then
            (s.dropAsm n, 0xA013)
          else if last then (s.dropAsm n).masterWrite n src i b (s.kept n (regKey i b) ++ d.drop 4)
          else ((s.dropAsm n).modMaster n fun x =>
            { x with asmKey := regKey i b, asm := s.kept n (regKey i b) ++ d.drop 4, asmLt := s.lt }, 0) := by
  unfold State.writePart State.kept
  rfl

/-- WRITE_LAST to the range: a value of at most 4,096 bytes whose last part follows those before it is refused as a write, and
any other part as one that does not follow. -/
theorem State.writePart_vendor {i b : Nat} (h : 0x5000 ≤ i) (h' : i < 0x6000) (hb : b < 256) (s : State) (n : Nat) (src : Source)
    {o : Nat} (ho : o < 2 ^ 32) (v : List Nat) :
    s.writePart n src i b (leBytes 4 o ++ v) true = (s.dropAsm n,
      if o = (s.kept n (regKey i b)).length ∧ (s.kept n (regKey i b)).length + v.length ≤ 4096 then 0xA010 else 0xA013) := by
  have htake : ofLeBytes ((leBytes 4 o ++ v).take 4) = o := by
    rw [List.take_left' (leBytes_length 4 o), ofLeBytes_leBytes]; exact Nat.mod_eq_of_lt ho
  have hdrop : (leBytes 4 o ++ v).drop 4 = v := List.drop_left' (leBytes_length 4 o)
  have hwrite := State.masterWrite_vendor h h' (s.dropAsm n) n src hb (s.kept n (regKey i b) ++ v)
  have hlimit : partLimit i b = some 4096 := by simp [partLimit, h, h']
  rw [State.writePart_eq, htake, hdrop, hlimit, hwrite]
  by_cases hfits : o = (s.kept n (regKey i b)).length ∧ (s.kept n (regKey i b)).length + v.length ≤ 4096
  · simp [h, h', ← hfits.1, hfits.1 ▸ hfits.2]
  · rw [not_and_or, Nat.not_le] at hfits
    simp only [h, h', decide_true, Bool.and_self, Bool.not_true, Bool.false_eq_true, false_and, if_false, List.length_append]
    rw [if_pos hfits, if_neg (by omega)]

/-! ### The statement -/

/-- Settles O40: each message to the range is served at once, and what is served there never writes. -/
theorem vendorObjectsReadOnly : Obligations.VendorObjectsReadOnly := by
  unfold Obligations.VendorObjectsReadOnly
  intro s dt n i b src hs h h' hb r
  have hr : r.still = true := State.still_received src (by rw [State.still_advance]; exact hs)
  have ho : r.outside = s.outside := (State.outside_received _ src).trans (State.outside_advance s dt)
  have hfree : r.freeCount = s.freeCount :=
    State.received_of (P := fun t => t.freeCount = s.freeCount) (s.advance dt) src rfl (fun _ _ _ _ ht => ⟨ht, ht⟩) fun _ _ _ ht => ht
  have htook (m : Nat) : ({ r with freeCount := s.freeCount + m } : State) = r.tookFree m := by rw [State.tookFree, hfree]
  refine ⟨fun hheard hunheld => ⟨?_, ?_, fun o c ho' hc => ?_⟩, fun hspeaks => ?_⟩
  · obtain ⟨m, a, d, hm, ha, hread⟩ := r.doRead_vendor h h' b
      (replyRoom src { service := svcREAD, tag := 0, index := i, sub := b, data := [] })
    refine ⟨m, a, d, hm, ha, ?_⟩
    rw [htook]
    refine State.next_message hs hheard hunheld (ofMemData_vendor h h' rfl hb) ?_ ((State.still_tookFree r m).trans hr) ho
    rw [State.serve_read]; exact hread
  · refine ⟨vendorDesc i b, State.next_message hs hheard hunheld (ofMemData_vendor h h' rfl hb) ?_ hr ho, rfl⟩
    rw [State.serve_desc]
    exact r.doDesc_vendor h h' b (by unfold replyRoom; split <;> simp)
  · obtain ⟨m, d, hm, hread⟩ := r.doRead_vendor_part h h' b
      (replyRoom src { service := svcREADPART, tag := 0, index := i, sub := b, data := leBytes 4 o ++ leBytes 2 c }) o c
    refine ⟨m, d, hm, ?_⟩
    rw [htook]
    refine State.next_message hs hheard hunheld (ofMemData_vendor h h' rfl hb) ?_ ((State.still_tookFree r m).trans hr) ho
    rw [State.serve_readPart _ _ _ _ _ _ ho' hc]; exact hread
  · obtain ⟨hheard, hmaster, hunheld⟩ := State.masterOf_speaks hspeaks
    have hmaster' : r.masterOf src = some n := ((s.advance dt).masterOf_received src src).trans hmaster
    refine ⟨fun v hv => ?_, fun v o hv ho' => ?_⟩
    · refine State.next_message hs hheard hunheld (ofMemData_vendor h h' rfl hb) ?_ hr ho
      rw [State.serve_write _ _ _ _ _ _ hmaster' hv, State.masterWrite_vendor h h' r n src hb]
    · have hkept : r.kept n (regKey i b) =
          if (s.master n).asmKey = regKey i b ∧ r.lt ≤ (s.master n).asmLt + ns 100000000 then (s.master n).asm else [] := by
        rw [State.kept_received, State.lt_received]; rfl
      have hlast (c : Nat) (hc : (r.writePart n src i b (leBytes 4 o ++ v) true).2 = c) :
          exec (.writeLast dt src i b o v) s = .next ((r.dropAsm n).answer c []) := by
        refine State.next_message hs hheard hunheld (ofMemData_vendor h h' rfl hb) ?_
          ((State.still_modMaster r n _).trans hr) ((State.outside_modMaster r n _).trans ho)
        rw [State.serve_writeLast _ _ _ _ _ _ hmaster' hv o, hc, State.writePart_vendor h h' hb r n src ho' v]
      simp only [← hkept]
      exact ⟨fun hfollows hfits => hlast _ (by rw [State.writePart_vendor h h' hb r n src ho' v, if_pos ⟨hfollows, hfits⟩]),
        fun hout => hlast _ (by rw [State.writePart_vendor h h' hb r n src ho' v, if_neg (by omega)])⟩

end Sys2Proof.Machine
end

section
/-! PROOFS. Commits and discards: what they change, and the end of a command that arms a pound (R41 to R53). -/

namespace Sys2Proof.Machine

/-! ### The end of a command from a calm state -/

/-- What a calm state looks at. -/
structure State.Calm (s : State) : Prop where
  running : s.mode.inReset = false
  begun : s.modeCode ≠ INIT
  cal : s.modeCode = CALIBRATE → ∀ t, t < 8 → (s.tile t).cal = .start → (s.tile t).gainDone = false
  results : s.monPending = []
  transition : s.mode.transition = none
  inbox : s.lock.inbox = []
  trigger : s.lock.triggerUid = none
  emulators : ∀ k, k < 8 → s.encRests k = true

theorem State.calm_iff (s : State) : s.calm = true ↔ s.Calm := by
  simp only [State.calm, Bool.and_eq_true, List.all_eq_true, List.mem_range, Bool.not_eq_true', bne_iff_ne, ne_eq,
    List.isEmpty_iff, Option.isNone_iff_eq_none, Bool.or_eq_true, Bool.and_eq_false_iff, beq_eq_false_iff_ne]
  refine ⟨fun ⟨⟨⟨⟨⟨⟨⟨hr, hi⟩, hc⟩, hm⟩, ht⟩, hin⟩, hu⟩, he⟩ => ⟨hr, hi, fun hcal t ht hs => ?_, hm, ht, hin, hu, he⟩,
    fun h => ⟨⟨⟨⟨⟨⟨⟨h.running, h.begun⟩, ?_⟩, h.results⟩, h.transition⟩, h.inbox⟩, h.trigger⟩, h.emulators⟩⟩
  · exact (hc.resolve_left (fun h => h hcal) t ht).resolve_left fun h => h hs
  · by_cases hcal : s.modeCode = CALIBRATE
    · refine Or.inr fun t ht => ?_
      by_cases hs : (s.tile t).cal = .start
      · exact Or.inr (h.cal hcal t ht hs)
      · exact Or.inl hs
    · exact Or.inl hcal

theorem State.Calm.of_still {s : State} (h : s.still = true) : s.Calm := by
  obtain ⟨hr, hi, hc, hm, ht, hin, hu, he, -⟩ := State.still_spec h
  exact ⟨hr, hi, hc, hm, ht, hin, hu, he⟩

namespace State.Calm

variable {s : State} (h : s.Calm)
include h

theorem encFollow : s.encFollow = s := each_id fun k hk => by
  have hrests := h.emulators k hk
  simp only [State.encRests, Bool.and_eq_true, beq_iff_eq, List.isEmpty_iff, Bool.not_eq_true'] at hrests
  obtain ⟨⟨hwanted, -⟩, hparked⟩ := hrests
  dsimp only
  rw [hwanted]
  cases hrun : (s.enc k).running
  · simp
  · simp only [hrun, Bool.true_and] at hparked
    simp only [Bool.not_true, Bool.false_eq_true, and_false, if_false, false_and]
    rw [if_neg]
    rintro ⟨-, hholds, hpark⟩
    simp [hholds, hpark] at hparked

theorem encWords : s.encWords = s := each_id fun k hk => by
  have hrests := h.emulators k hk
  simp only [State.encRests, Bool.and_eq_true, List.isEmpty_iff] at hrests
  rw [hrests.1.2]

theorem calAdvance : s.calAdvance = s := by
  unfold State.calAdvance
  split
  · rfl
  · next hcal =>
    exact each_id fun t ht => by
      dsimp only
      rw [if_neg]
      rintro ⟨hstart, hdone, -⟩
      rw [h.cal (by simpa using hcal) t ht hstart] at hdone
      cases hdone

/-- At the end of a command a calm state has nothing but its held lockages to tell. -/
theorem done : s.done = s.updateDeferrals.syncTrigger := by
  have hsettle : s.settleMode = s := by rw [State.settleMode, h.transition]
  rw [State.done, State.monReady_of h.results, h.encFollow, h.encWords, h.calAdvance, hsettle, State.finish, State.detect_of h.inbox]

end State.Calm

/-- A state is calm where it would be still without its pounds. -/
theorem State.calm_of_emptied {s : State} (h : ({ s with pounds := Vector.replicate 106 {} } : State).still = true) : s.Calm := by
  obtain ⟨hr, hi, hc, hm, ht, hin, hu, he, -⟩ := State.still_spec h
  exact ⟨hr, hi, hc, hm, ht, hin, hu, he⟩

theorem State.Calm.emptied {s : State} (h : s.Calm) : ({ s with pounds := Vector.replicate 106 {} } : State).still = true := by
  have hcalm := s.calm_iff.2 h
  rw [State.still, Bool.and_eq_true]
  refine ⟨hcalm, ?_⟩
  simp only [List.all_eq_true, List.mem_range, State.pound]
  intro p hp
  simp [show p < 106 by omega]

/-- Calm outlasts what leaves alone the registers and the parts that a calm state looks at. -/
theorem State.Calm.of_same {s r : State} (h : s.Calm) (hregs : ∀ k, stillKey k = true → r.rd k = s.rd k) (hmode : r.mode = s.mode)
    (hmon : r.monPending = s.monPending) (hlock : r.lock = s.lock) (hlegacy : r.legacy = s.legacy) (htiles : r.tiles = s.tiles) :
    r.Calm :=
  State.calm_of_emptied (State.still_of h.emptied hregs (by simp only [hmode]) (by simp only [hmode]) hmon (by simp only [hlock])
    (by simp only [hlock]) (fun k => by simp only [State.enc, hlegacy, and_self]) (fun p => by simp only [State.pound, and_self])
    fun i => by simp only [State.tile, htiles, and_self])

/-! ### What a commit, a discard and a deferral leave alone -/

/-- What none of them changes, of what the statements and the end of a command look at. -/
def State.commitRest (s : State) :=
  (s.lt, s.mode, s.tiles, s.engines, s.lasers, s.lock, s.legacy, s.monPending, s.net, s.pending)

/-- From `s` to `r` no register outside `W` changes, no pound outside `A` is armed or disarmed, and no staged value changes. -/
structure PoundFrame (W A : Nat → Prop) (s r : State) : Prop where
  rest : r.commitRest = s.commitRest
  regs : ∀ k, ¬ W k → r.rd k = s.rd k
  staged : ∀ q, (r.pound q).staged = (s.pound q).staged
  armed : ∀ q, ¬ A q → (r.pound q).armed = (s.pound q).armed ∧ (r.pound q).bundle = (s.pound q).bundle

namespace PoundFrame

variable {W A : Nat → Prop} {s r u : State}

theorem refl (s : State) : PoundFrame W A s s := ⟨rfl, fun _ _ => rfl, fun _ => rfl, fun _ _ => ⟨rfl, rfl⟩⟩

theorem trans (h : PoundFrame W A s r) (h' : PoundFrame W A r u) : PoundFrame W A s u where
  rest := h'.rest.trans h.rest
  regs k hk := (h'.regs k hk).trans (h.regs k hk)
  staged q := (h'.staged q).trans (h.staged q)
  armed q hq := ⟨(h'.armed q hq).1.trans (h.armed q hq).1, (h'.armed q hq).2.trans (h.armed q hq).2⟩

theorem foldl {α : Type} {f : State → α → State} (l : List α) (h : ∀ r a, a ∈ l → PoundFrame W A s r → PoundFrame W A r (f r a)) :
    PoundFrame W A s (l.foldl f s) :=
  foldl_of (P := PoundFrame W A s) l (refl s) fun r a ha hr => hr.trans (h r a ha hr)

theorem lt (h : PoundFrame W A s r) : r.lt = s.lt := congrArg (·.1) h.rest
theorem net (h : PoundFrame W A s r) : r.net = s.net := congrArg (·.2.2.2.2.2.2.2.2.1) h.rest
theorem lock (h : PoundFrame W A s r) : r.lock = s.lock := congrArg (·.2.2.2.2.2.1) h.rest

theorem outside (h : PoundFrame W A s r) : r.outside = s.outside :=
  congrArg (fun x => (x.2.2.2.2.2.2.2.2.2, x.2.1.inReset, x.2.1.resetPinLow, x.2.1.supplyBad)) h.rest

theorem calm (h : PoundFrame W A s r) (hW : ∀ k, W k → stillKey k = false) (hs : s.Calm) : r.Calm := by
  have hrest := h.rest
  simp only [State.commitRest, Prod.mk.injEq] at hrest
  obtain ⟨-, hmode, htiles, -, -, hlock, hlegacy, hmon, -, -⟩ := hrest
  refine hs.of_same (fun k hk => h.regs k fun hw => ?_) hmode hmon hlock hlegacy htiles
  rw [hW k hw] at hk
  cases hk

theorem wr (k v : Nat) (hk : W k) : PoundFrame W A s (s.wr k v) where
  rest := id rfl
  regs j hj := s.rd_wr_ne v (by rintro rfl; exact hj hk)
  staged _ := rfl
  armed _ _ := ⟨rfl, rfl⟩

theorem raise (code cls inst : Nat) (data : List Nat) (hc : levelOf code < 2) (hW : W Reg.lostCount) :
    PoundFrame W A s (s.raise code cls inst data) where
  rest := by simp [State.commitRest, s.lock_raise code cls inst data hc]
  regs k hk := s.rd_raise code cls inst data hc (by rintro rfl; exact hk hW)
  staged q := by simp [State.pound]
  armed q _ := by simp [State.pound]

/-- A change of pound p outside its staged values, and of its commit only where `A` has p. -/
theorem modPound (p : Nat) (f : Pound → Pound) (hst : ∀ x, (f x).staged = x.staged)
    (har : A p ∨ ∀ x, (f x).armed = x.armed ∧ (f x).bundle = x.bundle) : PoundFrame W A s (s.modPound p f) := by
  have hpound (q : Nat) : (s.modPound p f).pound q = s.pound q ∨ q = p ∧ (s.modPound p f).pound q = f (s.pound q) := by
    by_cases hq : q = p
    · subst hq
      by_cases hlt : q < 106
      · exact Or.inr ⟨rfl, s.pound_modPound_self f hlt⟩
      · left; simp [State.pound, State.modPound, hlt]
    · exact Or.inl (s.pound_modPound_ne f hq)
  refine ⟨id rfl, fun _ _ => rfl, fun q => ?_, fun q hq => ?_⟩
  · rcases hpound q with h | ⟨-, h⟩
    · rw [h]
    · rw [h, hst]
  · rcases hpound q with h | ⟨rfl, h⟩
    · rw [h]; exact ⟨rfl, rfl⟩
    · rw [h]; exact (har.resolve_left hq) _

/-- The free value of an open end of a step touches nothing of it. -/
theorem openStepEnd : PoundFrame W A s s.openStepEnd := by
  unfold State.openStepEnd
  split
  · exact ⟨id rfl, fun _ _ => rfl, fun _ => rfl, fun _ _ => ⟨rfl, rfl⟩⟩
  · exact refl s

theorem deferPound (p c : Nat) (hW : W Reg.lostCount) : PoundFrame W A s (s.deferPound p c) := by
  have hopen : PoundFrame W A s (if c = 4 then s.openStepEnd else s) := by
    split
    · exact openStepEnd
    · exact refl s
  have hmod := modPound (W := W) (A := A) (s := if c = 4 then s.openStepEnd else s) p (fun y => { y with deferred := c })
    (fun _ => rfl) (Or.inr fun _ => ⟨rfl, rfl⟩)
  unfold State.deferPound
  exact (hopen.trans hmod).trans (raise 0x2011 _ _ _ (by decide) hW)

/-- Deferrals tell only of themselves. -/
theorem updateDeferrals (hW : W Reg.lostCount) : PoundFrame W A s s.updateDeferrals := by
  refine foldl _ fun r p _ _ => ?_
  dsimp only
  split
  · split
    · exact refl r
    · exact deferPound p _ hW
  · exact refl r

end PoundFrame

theorem State.axes_updateDeferrals (s : State) : s.updateDeferrals.axes = s.axes := by
  refine each_of (P := fun r => r.axes = s.axes) rfl fun r p _ hr => ?_
  dsimp only
  split
  · split
    · exact hr
    · rw [State.deferPound, State.raise_axes, State.modPound_axes]
      split
      · unfold State.openStepEnd
        split <;> exact hr
      · exact hr
  · exact hr

end Sys2Proof.Machine
end

section
/-! PROOFS. POUND_COMMIT, POUND_DISCARD, their bundled forms and BANK_SWAP (R41 to R45, R51, R52, R188). -/

namespace Sys2Proof.Machine

/-! ### The records of pounds (R50) -/

theorem poundRecord_inj {p q : Nat} (hp : p < 106) (hq : q < 106) (h : poundRecord p = poundRecord q) : p = q := by
  unfold poundRecord at h
  split_ifs at h <;> omega

theorem poundKey_ne {p q b c : Nat} (hp : p < 106) (hq : q < 106) (hb : b < 256) (hc : c < 256) (h : p ≠ q ∨ b ≠ c) :
    poundKey p b ≠ poundKey q c := by
  intro he
  have hrec : poundRecord p = poundRecord q ∧ b = c := by simp only [poundKey, regKey] at he; omega
  exact h.elim (fun h => h (poundRecord_inj hp hq hrec.1)) fun h => h hrec.2

/-- No record stands in MODE's object or in the block of an emulator; b = 2 is where PARK_STATE of an axis would stand. -/
theorem stillKey_poundKey {p b : Nat} (hp : p < 106) (hb : b < 256) (hb' : b ≠ 2) : stillKey (poundKey p b) = false := by
  have hmod : poundRecord p ≠ 0x2000 ∧ (poundRecord p < 0x4200 ∨ 0x4280 ≤ poundRecord p) := by
    unfold poundRecord
    split_ifs <;> omega
  exact stillKey_regKey (i := poundRecord p) hb ⟨Or.inl hmod.1, by omega, Or.inr hb'⟩

theorem lostCount_ne_poundKey {p b : Nat} (hp : p < 106) (hb : b < 256) : poundKey p b ≠ Reg.lostCount := by
  refine regKey_ne hb (by decide) (Or.inl ?_)
  unfold poundRecord
  split_ifs <;> omega

/-- The registers that a commit may write: the record of each pound it names, the results of the budget check, and the count of
lost records. -/
def commitKey (k : Nat) : Prop :=
  k = Reg.lostCount ∨ (∃ p, p < 106 ∧ (k = poundKey p 4 ∨ k = poundKey p 8)) ∨
    ∃ t, t < 8 ∧ (k = Reg.cyclesWorst t ∨ k = Reg.budgetCheck t)

theorem stillKey_of_commitKey {k : Nat} (h : commitKey k) : stillKey k = false := by
  rcases h with rfl | ⟨p, hp, rfl | rfl⟩ | ⟨t, ht, rfl | rfl⟩
  · exact stillKey_regKey (by decide) (by decide)
  · exact stillKey_poundKey hp (by decide) (by decide)
  · exact stillKey_poundKey hp (by decide) (by decide)
  · exact stillKey_regKey (by decide) (by omega)
  · exact stillKey_regKey (by decide) (by omega)

/-- LOCKAGE_COUNT is none of them. -/
theorem not_commitKey_lockageCount {p : Nat} (hp : p < 106) : ¬ commitKey (poundKey p 6) := by
  rintro (h | ⟨q, hq, h | h⟩ | ⟨t, ht, h | h⟩)
  · exact lostCount_ne_poundKey hp (by decide) h
  · exact poundKey_ne hp hq (by decide) (by decide) (Or.inr (by decide)) h
  · exact poundKey_ne hp hq (by decide) (by decide) (Or.inr (by decide)) h
  · revert h; unfold poundKey poundRecord Reg.cyclesWorst regKey; split_ifs <;> omega
  · revert h; unfold poundKey poundRecord Reg.budgetCheck regKey; split_ifs <;> omega

/-! ### A pass over a list -/

/-- In a pass over a list the step of `a` takes P to Q, and every step keeps either. -/
theorem foldl_reach {α : Type} {P Q : State → Prop} {f : State → α → State} {l : List α} {a : α} (ha : a ∈ l) :
    ∀ {s : State}, P s → (∀ r b, b ∈ l → P r → P (f r b)) → (∀ r, P r → Q (f r a)) → (∀ r b, b ∈ l → P r → Q r → Q (f r b)) →
      Q (l.foldl f s) := by
  induction l with
  | nil => cases ha
  | cons b l ih =>
    intro s h0 hP hPQ hQ
    have htail (r : State) (c : α) (hc : c ∈ l) : P r → P (f r c) := hP r c (List.mem_cons_of_mem _ hc)
    by_cases hl : a ∈ l
    · exact ih hl (hP s b (List.mem_cons_self ..) h0) htail hPQ fun r c hc => hQ r c (List.mem_cons_of_mem _ hc)
    · have hab : a = b := (List.mem_cons.1 ha).resolve_right hl
      subst hab
      exact (foldl_of (P := fun r => P r ∧ Q r) l ⟨hP s a (List.mem_cons_self ..) h0, hPQ s h0⟩ fun r c hc hr =>
        ⟨htail r c hc hr.1, hQ r c (List.mem_cons_of_mem _ hc) hr.1 hr.2⟩).2

/-! ### A pound is armed (R41, R50, R188) -/

theorem Pound.value_of_not_has {x : Pound} {k : Nat} (h : x.has k = false) : x.value k = none := by
  simp only [Pound.has, List.any_eq_false] at h
  simp only [Pound.value, Option.map_eq_none_iff, List.find?_eq_none]
  exact h

theorem Pound.value_of_empty {x : Pound} (h : x.staged = []) (k : Nat) : x.value k = none := by simp [Pound.value, h]

/-- The partners of pound p in a commit of `ps`: the others that hold values. -/
def State.partners (s : State) (ps : List Nat) (p : Nat) : List Nat := ps.filter fun q => q != p && !(s.pound q).staged.isEmpty

/-- LAST_COMMIT_LT and CHECK_FAIL_OBJECT of a commit that is accepted. -/
def State.marked (s : State) (p : Nat) : State := (s.wr (poundKey p 4) (time80 s.lt)).wr (poundKey p 8) 0

@[simp] theorem State.lt_marked (s : State) (p : Nat) : (s.marked p).lt = s.lt := by simp only [State.marked, State.wr_lt]
@[simp] theorem State.axes_marked (s : State) (p : Nat) : (s.marked p).axes = s.axes := by simp only [State.marked, State.wr_axes]
@[simp] theorem State.pounds_marked (s : State) (p : Nat) : (s.marked p).pounds = s.pounds := by simp only [State.marked, State.wr_pounds]
@[simp] theorem State.pound_marked (s : State) (p q : Nat) : (s.marked p).pound q = s.pound q := by
  simp only [State.pound, State.pounds_marked]

theorem State.rd_marked (s : State) (p : Nat) :
    (s.marked p).rd (poundKey p 4) = time80 s.lt ∧ (s.marked p).rd (poundKey p 8) = 0 := by
  refine ⟨?_, State.rd_wr_self _ _ _⟩
  rw [State.marked, State.rd_wr_ne _ _ (by simp only [poundKey, regKey]; omega), State.rd_wr_self]

/-- The pound with its commit. -/
def State.armedPound (s : State) (ps : List Nat) (p : Nat) : State :=
  (s.marked p).modPound p fun y => { y with armed := some s.lt, bundle := s.partners ps p, deferred := 0 }

/-- The armed request of the axis of pound p, where its BANK_SWAP is staged. -/
def State.armSwap (s : State) (p : Nat) : Option Nat → State
  | some n => s.modLaw p fun l => { l with armed := some { len := n, crc := bankCrc l.pound } }
  | none => s

/-- An empty pound is not armed by its commit (R45). -/
theorem State.arm_eq (s : State) (ps : List Nat) (p : Nat) : s.arm ps p =
    if (s.pound p).staged.isEmpty then s.marked p
    else if p < 48 then (s.armedPound ps p).armSwap p ((s.pound p).value (Reg.bankSwap p))
    else s.armedPound ps p := by
  have hunfold : s.arm ps p =
      if ((s.marked p).pound p).staged.isEmpty then s.marked p
      else
        let r := (s.marked p).modPound p fun y =>
          { y with armed := some (s.marked p).lt, bundle := (s.marked p).partners ps p, deferred := 0 }
        if p < 48 then r.armSwap p (((s.marked p).pound p).value (Reg.bankSwap p)) else r := by
    unfold State.arm State.marked State.partners State.armSwap
    rfl
  have hpartners : (s.marked p).partners ps p = s.partners ps p := by simp only [State.partners, State.pound_marked]
  rw [hunfold]
  simp only [State.pound_marked, State.lt_marked, hpartners]
  rfl

theorem State.arm_of_empty {s : State} {p : Nat} (ps : List Nat) (h : (s.pound p).staged = []) : s.arm ps p = s.marked p := by
  simp [State.arm_eq, h]

theorem State.arm_of_full {s : State} {p : Nat} (ps : List Nat) (h : (s.pound p).staged ≠ []) : s.arm ps p =
    if p < 48 then (s.armedPound ps p).armSwap p ((s.pound p).value (Reg.bankSwap p)) else s.armedPound ps p := by
  simp [State.arm_eq, h]

/-- Without a BANK_SWAP the axes are as they were. -/
theorem State.arm_of_noSwap {s : State} {p : Nat} (ps : List Nat) (h : (s.pound p).staged ≠ [])
    (hswap : p < 48 → (s.pound p).value (Reg.bankSwap p) = none) : s.arm ps p = s.armedPound ps p := by
  rw [State.arm_of_full ps h]
  split
  · next hp => rw [hswap hp]; rfl
  · rfl

@[simp] theorem State.pounds_armSwap (s : State) (p : Nat) (v : Option Nat) : (s.armSwap p v).pounds = s.pounds := by
  cases v <;> simp only [State.armSwap, State.modLaw, State.modAxis, State.setAxis_pounds]
@[simp] theorem State.rd_armSwap (s : State) (p : Nat) (v : Option Nat) (k : Nat) : (s.armSwap p v).rd k = s.rd k := by
  cases v <;> simp only [State.armSwap, State.rd_modLaw]

/-- A pound that holds values is armed at the present LT, with its partners. -/
theorem State.pound_arm {s : State} {p : Nat} (ps : List Nat) (hp : p < 106) (h : (s.pound p).staged ≠ []) :
    ((s.arm ps p).pound p).armed = some s.lt ∧ ((s.arm ps p).pound p).bundle = s.partners ps p := by
  have hpounds : (s.arm ps p).pounds = (s.armedPound ps p).pounds := by
    rw [State.arm_of_full ps h]
    split
    · exact State.pounds_armSwap _ _ _
    · rfl
  have hpound : (s.arm ps p).pound p = (s.armedPound ps p).pound p := by simp only [State.pound, hpounds]
  rw [hpound, State.armedPound, State.pound_modPound_self _ _ hp]
  exact ⟨rfl, rfl⟩

theorem State.rd_arm {s : State} {p : Nat} (ps : List Nat) (k : Nat) : (s.arm ps p).rd k = (s.marked p).rd k := by
  rw [State.arm_eq]
  split
  · rfl
  · split
    · rw [State.rd_armSwap, State.armedPound, State.rd_modPound]
    · rw [State.armedPound, State.rd_modPound]

theorem PoundFrame.marked {W A : Nat → Prop} (s : State) {p : Nat} (hW : W (poundKey p 4) ∧ W (poundKey p 8)) :
    PoundFrame W A s (s.marked p) :=
  (PoundFrame.wr _ _ hW.1).trans (PoundFrame.wr _ _ hW.2)

theorem PoundFrame.armSwap {W A : Nat → Prop} (s : State) (p : Nat) (v : Option Nat) : PoundFrame W A s (s.armSwap p v) := by
  cases v with
  | none => exact PoundFrame.refl s
  | some n => exact ⟨id rfl, fun _ _ => rfl, fun _ => rfl, fun _ _ => ⟨rfl, rfl⟩⟩

/-- What arming pound p leaves alone. -/
theorem PoundFrame.arm {W A : Nat → Prop} (s : State) (ps : List Nat) {p : Nat} (hW : W (poundKey p 4) ∧ W (poundKey p 8))
    (hA : (s.pound p).staged ≠ [] → A p) : PoundFrame W A s (s.arm ps p) := by
  by_cases h : (s.pound p).staged = []
  · rw [State.arm_of_empty ps h]; exact PoundFrame.marked s hW
  · have harmed : PoundFrame W A s (s.armedPound ps p) :=
      (PoundFrame.marked s hW).trans (PoundFrame.modPound p _ (fun _ => rfl) (Or.inl (hA h)))
    rw [State.arm_of_full ps h]
    split
    · exact harmed.trans (PoundFrame.armSwap _ _ _)
    · exact harmed

end Sys2Proof.Machine
end

section
/-! PROOFS. The statements of POUND_COMMIT, POUND_DISCARD and their bundled forms (R41 to R45, R51, R52). -/

namespace Sys2Proof.Machine

/-! ### A commit that is accepted (R41, R42, R52, R183) -/

/-- The length of a BANK_SWAP that a commit of `ps` carries for axis a. -/
def State.carried (s : State) (ps : List Nat) (a : Nat) : Option Nat := if ps.contains a then (s.pound a).value (Reg.bankSwap a) else none

/-- The budget check of a commit of `ps`: one for the swaps that it carries, none without. -/
def State.swapBudget (s : State) (ps : List Nat) : State × Bool :=
  match ps.filter fun p => decide (p < 48) && (s.carried ps p).isSome with
  | [] => (s, true)
  | a :: _ => s.budgetCheck (a / 6) (s.carried ps) true []

/-- What a commit of `ps` arms, after its checks. -/
def State.armAll (s : State) (rec : Nat) (ps : List Nat) : State :=
  ps.foldl (fun s p => s.arm ps p) ((s.swapBudget ps).1.wr (poundKey rec 8) 0)

theorem State.commit_closed {s : State} (rec : Nat) {ps : List Nat} (h : (ps.any fun p => (s.pound p).closed) = true) :
    s.commit rec ps = (s, 0xA030) := by simp [State.commit, h]

theorem State.commit_accepted {s : State} (rec : Nat) {ps : List Nat} (hopen : (ps.any fun p => (s.pound p).closed) = false)
    (hdevice : (ps.contains pDevice && (s.pound pDevice).has Reg.layerNumber && s.rd Reg.memState == 3) = false)
    (hchecks : ∀ p, p ∈ ps → s.commitFail p = none) (hbudget : (s.swapBudget ps).2 = true) :
    s.commit rec ps = ((s.armAll rec ps).updateDeferrals, 0) := by
  have hfail : ps.findSome? s.commitFail = none := by rw [List.findSome?_eq_none_iff]; exact hchecks
  unfold State.commit
  rw [hopen, hdevice, hfail]
  exact if_pos hbudget

theorem State.swapBudget_of_noSwap {s : State} {ps : List Nat}
    (h : ∀ p, p ∈ ps → p < 48 → (s.pound p).value (Reg.bankSwap p) = none) : s.swapBudget ps = (s, true) := by
  have hnone : (ps.filter fun p => decide (p < 48) && (s.carried ps p).isSome) = [] := by
    rw [List.filter_eq_nil_iff]
    intro p hp
    by_cases h48 : p < 48
    · simp [State.carried, h p hp h48]
    · simp [h48]
  rw [State.swapBudget, hnone]

theorem State.swapBudget_of_swap {s : State} {p len : Nat} (hp : p < 48) (h : (s.pound p).value (Reg.bankSwap p) = some len) :
    s.swapBudget [p] = s.budgetCheck (p / 6) (fun a => if a = p then some len else none) true [] := by
  have hcarried : s.carried [p] = fun a => if a = p then some len else none := by
    funext a
    by_cases ha : a = p
    · subst ha; simp [State.carried, h]
    · simp [State.carried, ha]
  have hswaps : ([p].filter fun q => decide (q < 48) && (s.carried [p] q).isSome) = [p] := by simp [hcarried, hp]
  rw [State.swapBudget, hswaps, hcarried]

/-- An EMPTY pound passes its checks (R45). -/
theorem State.commitFail_of_empty {s : State} {p : Nat} (h : (s.pound p).staged = []) : s.commitFail p = none := by
  unfold State.commitFail
  rw [h]
  have hwould (k : Nat) : s.wouldChange [] k = false := by simp [State.wouldChange, State.would]
  have hfind (l : List Nat) : (l.find? fun _ => false) = none := List.find?_eq_none.2 fun _ _ => Bool.false_ne_true
  have hany (l : List Nat) : (l.any fun _ => false) = false := List.any_eq_false.2 fun _ _ => Bool.false_ne_true
  split_ifs
  · simp [State.axisCommitFail, hwould]
  · simp [State.engineCommitFail, hwould, hfind]
  · simp [State.laserCommitFail]
  · simp [State.cameraCommitFail]
  · simp [State.deviceCommitFail, hwould, hfind, hany]
  · rfl

/-- A commit arms no other pounds than those of `ps` that hold values. -/
def State.armedBy (s : State) (ps : List Nat) (q : Nat) : Prop := q ∈ ps ∧ (s.pound q).staged ≠ []

section
variable {s : State} {rec : Nat} {ps : List Nat} (hrec : rec < 106) (hps : ∀ p, p ∈ ps → p < 106)

theorem PoundFrame.budgetCheck {W A : Nat → Prop} (s : State) {t : Nat} (c : Nat → Option Nat) (b : Bool) (r : List Nat)
    (hW : W (Reg.cyclesWorst t) ∧ W (Reg.budgetCheck t)) : PoundFrame W A s (s.budgetCheck t c b r).1 :=
  (PoundFrame.wr _ _ hW.1).trans (PoundFrame.wr _ _ hW.2)

theorem PoundFrame.swapBudget {A : Nat → Prop} (s : State) (ps : List Nat) : PoundFrame commitKey A s (s.swapBudget ps).1 := by
  unfold State.swapBudget
  split
  · exact PoundFrame.refl s
  · next a l h =>
    have ha : a < 48 := by
      have hmem : a ∈ ps.filter fun p => decide (p < 48) && (s.carried ps p).isSome := by rw [h]; exact List.mem_cons_self ..
      simp only [List.mem_filter, Bool.and_eq_true, decide_eq_true_eq] at hmem
      exact hmem.2.1
    exact PoundFrame.budgetCheck s _ _ _ ⟨Or.inr (Or.inr ⟨a / 6, by omega, Or.inl rfl⟩), Or.inr (Or.inr ⟨a / 6, by omega, Or.inr rfl⟩)⟩

include hrec

theorem PoundFrame.checked {A : Nat → Prop} : PoundFrame commitKey A s ((s.swapBudget ps).1.wr (poundKey rec 8) 0) :=
  (PoundFrame.swapBudget s ps).trans (PoundFrame.wr _ _ (Or.inr (Or.inl ⟨rec, hrec, Or.inr rfl⟩)))

include hps

omit hrec in
/-- One step of the pass of a commit. -/
theorem PoundFrame.armStep {r : State} {p : Nat} (hr : PoundFrame commitKey (s.armedBy ps) s r) (hp : p ∈ ps) :
    PoundFrame commitKey (s.armedBy ps) s (r.arm ps p) :=
  hr.trans (PoundFrame.arm r ps ⟨Or.inr (Or.inl ⟨p, hps p hp, Or.inl rfl⟩), Or.inr (Or.inl ⟨p, hps p hp, Or.inr rfl⟩)⟩
    fun h => ⟨hp, by rwa [hr.staged] at h⟩)

theorem PoundFrame.armAll : PoundFrame commitKey (s.armedBy ps) s (s.armAll rec ps) :=
  foldl_of (P := PoundFrame commitKey (s.armedBy ps) s) ps (PoundFrame.checked hrec) fun _ _ hp hr => PoundFrame.armStep hps hr hp

/-- LAST_COMMIT_LT and CHECK_FAIL_OBJECT of the pounds that a commit names. -/
theorem State.rd_armAll {q : Nat} (hq : q ∈ ps) :
    (s.armAll rec ps).rd (poundKey q 4) = time80 s.lt ∧ (s.armAll rec ps).rd (poundKey q 8) = 0 := by
  have hown (r : State) (hr : PoundFrame commitKey (s.armedBy ps) s r) :
      (r.arm ps q).rd (poundKey q 4) = time80 s.lt ∧ (r.arm ps q).rd (poundKey q 8) = 0 := by
    rw [State.rd_arm, State.rd_arm, ← hr.lt]; exact r.rd_marked q
  refine foldl_reach (P := PoundFrame commitKey (s.armedBy ps) s)
    (Q := fun r => r.rd (poundKey q 4) = time80 s.lt ∧ r.rd (poundKey q 8) = 0) hq (PoundFrame.checked hrec)
    (fun _ _ hp hr => PoundFrame.armStep hps hr hp) hown fun r p hp hr hq' => ?_
  by_cases hpq : q = p
  · rw [← hpq]; exact hown r hr
  · have hframe : PoundFrame (fun k => k = poundKey p 4 ∨ k = poundKey p 8) (fun _ => True) r (r.arm ps p) :=
      PoundFrame.arm r ps ⟨Or.inl rfl, Or.inr rfl⟩ fun _ => trivial
    have hne (b c : Nat) (hb : b < 256) (hc : c < 256) : poundKey q b ≠ poundKey p c :=
      poundKey_ne (hps q hq) (hps p hp) hb hc (Or.inl hpq)
    refine ⟨(hframe.regs _ ?_).trans hq'.1, (hframe.regs _ ?_).trans hq'.2⟩
    · exact not_or.2 ⟨hne _ _ (by decide) (by decide), hne _ _ (by decide) (by decide)⟩
    · exact not_or.2 ⟨hne _ _ (by decide) (by decide), hne _ _ (by decide) (by decide)⟩

/-- Every pound of a commit that holds values is armed, with its partners. -/
theorem State.armed_armAll {q : Nat} (hq : q ∈ ps) (hfull : (s.pound q).staged ≠ []) :
    ((s.armAll rec ps).pound q).armed = some s.lt ∧ ((s.armAll rec ps).pound q).bundle = s.partners ps q := by
  have hpartners {r : State} (hr : PoundFrame commitKey (s.armedBy ps) s r) : r.partners ps q = s.partners ps q := by
    simp only [State.partners, hr.staged]
  have hown (r : State) (hr : PoundFrame commitKey (s.armedBy ps) s r) :
      ((r.arm ps q).pound q).armed = some s.lt ∧ ((r.arm ps q).pound q).bundle = s.partners ps q := by
    rw [← hpartners hr, ← hr.lt]
    exact State.pound_arm ps (hps q hq) (by rwa [hr.staged])
  refine foldl_reach (P := PoundFrame commitKey (s.armedBy ps) s)
    (Q := fun r => (r.pound q).armed = some s.lt ∧ (r.pound q).bundle = s.partners ps q) hq (PoundFrame.checked hrec)
    (fun _ _ hp hr => PoundFrame.armStep hps hr hp) hown fun r p hp hr hq' => ?_
  by_cases hpq : q = p
  · rw [← hpq]; exact hown r hr
  · have hframe : PoundFrame (fun _ => True) (· = p) r (r.arm ps p) := PoundFrame.arm r ps ⟨trivial, trivial⟩ fun _ => rfl
    rw [(hframe.armed q hpq).1, (hframe.armed q hpq).2]
    exact hq'

/-- A commit without a swap leaves the axes alone. -/
theorem State.axes_armAll (hswap : ∀ p, p ∈ ps → p < 48 → (s.pound p).value (Reg.bankSwap p) = none) :
    (s.armAll rec ps).axes = s.axes := by
  have hstart : ((s.swapBudget ps).1.wr (poundKey rec 8) 0).axes = s.axes := by rw [State.swapBudget_of_noSwap hswap, State.wr_axes]
  refine (foldl_of (P := fun r => PoundFrame commitKey (s.armedBy ps) s r ∧ r.axes = s.axes) ps ⟨PoundFrame.checked hrec, hstart⟩
    fun r p hp hr => ⟨PoundFrame.armStep hps hr.1 hp, ?_⟩).2
  by_cases hfull : (r.pound p).staged = []
  · rw [State.arm_of_empty ps hfull, State.axes_marked]; exact hr.2
  · have hvalue (h : p < 48) : (r.pound p).value (Reg.bankSwap p) = none := by
      rw [Pound.value, hr.1.staged]; exact hswap p hp h
    rw [State.arm_of_noSwap ps hfull hvalue, State.armedPound, State.modPound_axes, State.axes_marked]
    exact hr.2

end

/-- The commit of pound p with its BANK_SWAP makes the request of its axis (R188). -/
theorem State.law_armAll {s : State} {p len : Nat} (hp : p < 48) (h : (s.pound p).value (Reg.bankSwap p) = some len) :
    ((s.armAll p [p]).axis p).law.armed = some { len := len, crc := bankCrc (s.axis p).law.pound } := by
  have hfull : (s.pound p).staged ≠ [] := fun he => by rw [Pound.value_of_empty he] at h; cases h
  set r := (s.swapBudget [p]).1.wr (poundKey p 8) 0 with hr
  have hframe : PoundFrame commitKey (fun _ => False) s r := PoundFrame.checked (by omega)
  have haxes : r.axes = s.axes := by
    rw [hr, State.wr_axes, State.swapBudget_of_swap hp h]
    simp only [State.budgetCheck, State.wr_axes]
  have harm : s.armAll p [p] = (r.armedPound [p] p).armSwap p (some len) := by
    rw [State.armAll, ← hr, List.foldl_cons, List.foldl_nil, State.arm_of_full _ (by rwa [hframe.staged]), if_pos hp, Pound.value,
      hframe.staged, ← Pound.value, h]
  have haxis : (r.armedPound [p] p).axis p = s.axis p := by
    simp only [State.axis, State.armedPound, State.modPound_axes, State.axes_marked, haxes]
  rw [harm, State.armSwap, State.modLaw, State.axis_modAxis_self _ _ hp, haxis]

end Sys2Proof.Machine
end

section
/-! PROOFS. POUND_COMMIT, POUND_DISCARD and their bundled forms as commands (R45, R50 to R52). -/

namespace Sys2Proof.Machine

/-! ### A command that is written by a master -/

/-- A command of a master from a still state: the state it leaves goes through the end of a command. -/
theorem State.upAt_of_still {s : State} (hs : s.still = true) (dt : Nat) (f : State → State) :
    s.upAt dt f = s.keep (f (s.advance dt)).done := by
  obtain ⟨hrun, hinit, hmon⟩ := State.still_running hs
  have harrive : (s.advance dt).arrive = s.advance dt := State.arrive_of (s := s.advance dt) hmon (s.still_spec hs).2.2.2.2.2.1
  have hinit' : (s.advance dt).modeCode ≠ INIT := hinit
  simp only [State.upAt, State.alive, hrun, Bool.false_eq_true, if_false, harrive, hinit']

theorem State.hostWriteBytes_of_speaks {s : State} {src : Source} {n k : Nat} (h : s.speaks src n = true) (hk : k ≠ Reg.memData)
    (b : List Nat) : s.hostWriteBytes src k b =
      ((s.received src).masterWrite n src (keyIndex k) (keySub k) b).1.answer
        ((s.received src).masterWrite n src (keyIndex k) (keySub k) b).2 [] := by
  obtain ⟨hheard, hmaster, hunheld⟩ := State.masterOf_speaks h
  have hheld := State.memHeld_of (s := s.received src) src
    (m := { service := svcWRITE, tag := 0, index := keyIndex k, sub := keySub k, data := b })
    (State.unheld_received src hunheld) (by simp [Msg.ofMemData, regKey_self, hk])
  have hmaster' : (s.received src).masterOf src = some n := (s.masterOf_received src src).trans hmaster
  simp only [State.hostWriteBytes, hheard, Bool.not_true, Bool.false_eq_true, if_false]
  rw [← State.received, hmaster', hheld]
  rfl

/-- A command object written by a master, whose effect is that of a commit: at its end the lockages that a case of R47 holds
become DEFERRED. -/
theorem State.next_commits {s u : State} {src : Source} {dt n k c : Nat} {b : List Nat} {A : Nat → Prop} (hs : s.still = true)
    (h : (s.advance dt).speaks src n = true) (hk : isCommand k b.length = true) (hm : k ≠ Reg.memData) (hn : needsToken k b = false)
    (hw : ((s.advance dt).received src).commandObject k b src.portNo = (u, c))
    (hu : PoundFrame commitKey A ((s.advance dt).received src) u) :
    (Host.Outcome.next (s.upAt dt fun s => s.hostWriteBytes src k b) : Host.Outcome State Fault Refusal) =
      .next (u.answer c []).updateDeferrals := by
  set r := (s.advance dt).received src with hr
  have hwrite : r.masterWrite n src (keyIndex k) (keySub k) b = (u, c) := by
    rw [State.masterWrite, State.doWrite_isCommand _ _ hk, regKey_self, hn, hw]; rfl
  have hrstill : r.still = true := State.still_received src (by rw [State.still_advance]; exact hs)
  have hcalm : u.Calm := hu.calm (fun _ => stillKey_of_commitKey) (State.Calm.of_still hrstill)
  have hanswer : (u.answer c []).Calm := hcalm.of_same (fun _ _ => rfl) rfl rfl rfl rfl rfl
  have hdefer : PoundFrame commitKey (fun _ => False) (u.answer c []) (u.answer c []).updateDeferrals :=
    PoundFrame.updateDeferrals (Or.inl rfl)
  have htrigger : (u.answer c []).updateDeferrals.syncTrigger = (u.answer c []).updateDeferrals := by
    rw [State.syncTrigger, hdefer.lock, hanswer.trigger]
  have houtside : (u.answer c []).updateDeferrals.outside = s.outside := by
    rw [hdefer.outside, State.outside_answer, hu.outside, hr, State.outside_received, State.outside_advance]
  rw [State.upAt_of_still hs, State.hostWriteBytes_of_speaks h hm, ← hr, hwrite, hanswer.done, htrigger, State.keep_of houtside]

/-! ### POUND_COMMIT of a record (R50, R52) -/

theorem recordPound_poundKey {p b : Nat} (hp : p < 106) (hb : b < 256) : recordPound (keyIndex (poundKey p b)) = some p := by
  have hindex : keyIndex (poundKey p b) = poundRecord p := by simp only [keyIndex, poundKey, regKey]; omega
  have hall : ∀ p, p < 106 → recordPound (poundRecord p) = some p := by decide +kernel
  rw [hindex, hall p hp]

theorem isCommand_pound {p : Nat} (hp : p < 106) : isCommand (poundKey p 1) (poundBytes p) = true := by
  have hall : ∀ p, p < 106 → isCommand (poundKey p 1) (poundBytes p) = true := by decide +kernel
  exact hall p hp

theorem needsToken_pound {p : Nat} (hp : p < 106) (b : List Nat) : needsToken (poundKey p 1) b = false := by
  have hne : poundRecord p ≠ 0x2000 ∧ poundRecord p ≠ 0x2022 := by unfold poundRecord; split_ifs <;> omega
  have hpark : (poundKey p 1 == Reg.parkCmd) = false := beq_false_of_ne (by simp only [poundKey, Reg.parkCmd, regKey]; omega)
  have hmode : (poundKey p 1 == Reg.modeCmd) = false := beq_false_of_ne (by simp only [poundKey, Reg.modeCmd, regKey]; omega)
  rw [needsToken, hpark, hmode]
  rfl

theorem poundKey_ne_memData {p : Nat} : poundKey p 1 ≠ Reg.memData := by
  simp only [poundKey, Reg.memData, regKey]; omega

theorem State.commandObject_pound (s : State) {p : Nat} (hp : p < 106) (b : List Nat) (src : Option Nat) :
    s.commandObject (poundKey p 1) b src = s.poundCommand p (ofLeBytes b) := by
  simp only [State.commandObject, recordPound_poundKey hp (show 1 < 256 by decide)]

/-- The pounds that a bundled command of ENGINE_e selects by the scopes `m` (R52). -/
def bundleOf (e m : Nat) : List Nat :=
  ((List.range 6).filter fun k => bitAt m (1 + k)).map (fun k => 6 * e + k) ++ (if bitAt m 0 then [48 + e] else [])

theorem lt_of_mem_bundleOf {e m q : Nat} (he : e < 8) (h : q ∈ bundleOf e m) : q < 56 := by
  simp only [bundleOf, List.mem_append, List.mem_map, List.mem_filter, List.mem_range] at h
  rcases h with ⟨k, ⟨hk, -⟩, rfl⟩ | h
  · omega
  · split at h
    · rw [List.mem_singleton.1 h]; omega
    · cases h

/-- A selection of at least one scope, without the reserved bits: alone a commit, with bit 8 a discard. -/
theorem scopes_word {m : Nat} (h0 : 0 < m) (h : m < 128) :
    bitsAt m 9 7 = 0 ∧ bitAt m 7 = false ∧ bitAt m 8 = false ∧
      bitsAt (m + 256) 9 7 = 0 ∧ bitAt (m + 256) 7 = false ∧ bitAt (m + 256) 8 = true ∧ (∀ i, i < 7 → bitAt (m + 256) i = bitAt m i) ∧
      ∃ i, i < 7 ∧ bitAt m i = true := by
  have hall : ∀ m, m < 128 → 0 < m → bitsAt m 9 7 = 0 ∧ bitAt m 7 = false ∧ bitAt m 8 = false ∧
      bitsAt (m + 256) 9 7 = 0 ∧ bitAt (m + 256) 7 = false ∧ bitAt (m + 256) 8 = true ∧ (∀ i, i < 7 → bitAt (m + 256) i = bitAt m i) ∧
      ∃ i, i < 7 ∧ bitAt m i = true := by decide +kernel
  exact hall m h h0

theorem bundleOf_ne_nil {e m : Nat} (h0 : 0 < m) (h : m < 128) : bundleOf e m ≠ [] := by
  obtain ⟨i, hi, hbit⟩ := (scopes_word h0 h).2.2.2.2.2.2.2
  intro hnil
  simp only [bundleOf, List.append_eq_nil_iff, List.map_eq_nil_iff, List.filter_eq_nil_iff, List.mem_range] at hnil
  cases i with
  | zero => simp [hbit] at hnil
  | succ i => exact hnil.1 i (by omega) (by rwa [Nat.add_comm])

theorem bundleOf_discard {e m : Nat} (h0 : 0 < m) (h : m < 128) : bundleOf e (m + 256) = bundleOf e m := by
  have hbits := (scopes_word h0 h).2.2.2.2.2.2.1
  have hfilter : ((List.range 6).filter fun k => bitAt (m + 256) (1 + k)) = (List.range 6).filter fun k => bitAt m (1 + k) :=
    List.filter_congr fun k hk => hbits (1 + k) (by have := List.mem_range.1 hk; omega)
  rw [bundleOf, bundleOf, hfilter, hbits 0 (by decide)]

/-- POUND_CMD of ENGINE_e carries its scopes. -/
theorem State.poundCommand_engine (s : State) {e v : Nat} (he : e < 8) : s.poundCommand (48 + e) v =
    if bitsAt v 9 7 ≠ 0 ∨ bitAt v 7 ∨ (bundleOf e v).isEmpty then (s, 0xA012)
    else if bitAt v 8 then s.discard (bundleOf e v) else s.commit (48 + e) (bundleOf e v) := by
  have hengine : 48 ≤ 48 + e ∧ 48 + e < 56 := by omega
  have he' : 48 + e - 48 = e := by omega
  unfold State.poundCommand
  rw [if_pos hengine]
  simp only [he']
  rfl

section
variable (s : State) {e m : Nat} (he : e < 8) (h0 : 0 < m) (hm : m < 128)
include he h0 hm

theorem State.poundCommand_bundledCommit : s.poundCommand (48 + e) m = s.commit (48 + e) (bundleOf e m) := by
  obtain ⟨hbits, h7, h8, -⟩ := scopes_word h0 hm
  have hne := bundleOf_ne_nil (e := e) h0 hm
  rw [s.poundCommand_engine he]
  simp [hbits, h7, h8, hne]

theorem State.poundCommand_bundledDiscard : s.poundCommand (48 + e) (m + 256) = s.discard (bundleOf e m) := by
  obtain ⟨-, -, -, hbits, h7, h8, -⟩ := scopes_word h0 hm
  have hne := bundleOf_ne_nil (e := e) h0 hm
  rw [s.poundCommand_engine he, bundleOf_discard h0 hm]
  simp [hbits, h7, h8, hne]

end

theorem State.poundCommand_commit (s : State) {p : Nat} (hp : p < 105) : s.poundCommand p (poundWord p 1) = s.commit p [p] := by
  by_cases h : 48 ≤ p ∧ p < 56
  · obtain ⟨e, rfl⟩ : ∃ e, p = 48 + e := ⟨p - 48, by omega⟩
    have hbundle : bundleOf e 1 = [48 + e] := by simp [bundleOf, show ((List.range 6).filter fun k => bitAt 1 (1 + k)) = [] by decide, show bitAt 1 0 = true by decide]
    rw [poundWord, if_pos h, if_pos rfl, s.poundCommand_bundledCommit (by omega) (by decide) (by decide), hbundle]
  · simp [State.poundCommand, poundWord, h, show p ≠ pTransition by simp only [pTransition]; omega]

theorem State.poundCommand_discard (s : State) {p : Nat} : s.poundCommand p (poundWord p 2) = s.discard [p] := by
  by_cases h : 48 ≤ p ∧ p < 56
  · obtain ⟨e, rfl⟩ : ∃ e, p = 48 + e := ⟨p - 48, by omega⟩
    have hbundle : bundleOf e 1 = [48 + e] := by simp [bundleOf, show ((List.range 6).filter fun k => bitAt 1 (1 + k)) = [] by decide, show bitAt 1 0 = true by decide]
    rw [poundWord, if_pos h, if_neg (by decide), s.poundCommand_bundledDiscard (m := 1) (by omega) (by decide) (by decide), hbundle]
  · simp [State.poundCommand, poundWord, h]

end Sys2Proof.Machine
end

section
/-! PROOFS. What commits and discards leave, as a master sees it (R41 to R45, R50 to R52, R188). -/

namespace Sys2Proof.Machine

/-! ### A commit in every case -/

theorem PoundFrame.commit (s : State) {rec : Nat} {ps : List Nat} (hrec : rec < 106) (hps : ∀ p, p ∈ ps → p < 106) :
    PoundFrame commitKey (s.armedBy ps) s (s.commit rec ps).1 := by
  have hlater : PoundFrame commitKey (s.armedBy ps) (s.armAll rec ps) (s.armAll rec ps).updateDeferrals :=
    PoundFrame.updateDeferrals (Or.inl rfl)
  have hfail (r : State) (v : Nat) : PoundFrame commitKey (s.armedBy ps) r (r.wr (poundKey rec 8) v) :=
    PoundFrame.wr _ _ (Or.inr (Or.inl ⟨rec, hrec, Or.inr rfl⟩))
  unfold State.commit
  split
  · exact PoundFrame.refl s
  split
  · exact PoundFrame.refl s
  split
  · exact hfail s _
  show PoundFrame commitKey (s.armedBy ps) s (if (s.swapBudget ps).2 = true then ((s.armAll rec ps).updateDeferrals, 0)
    else ((s.swapBudget ps).1.wr (poundKey rec 8) _, 0xA012)).1
  split
  · dsimp only
    exact (PoundFrame.armAll hrec hps).trans hlater
  · exact (PoundFrame.swapBudget s ps).trans (hfail _ _)

/-! ### The state after the message (R333) -/

theorem State.pounds_received (s : State) (src : Source) : (s.received src).pounds = s.pounds :=
  s.received_of (P := fun t => t.pounds = s.pounds) src rfl (fun _ _ _ _ h => ⟨h, h⟩) fun _ _ _ h => h

@[simp] theorem State.pound_received (s : State) (src : Source) (p : Nat) : (s.received src).pound p = s.pound p := by
  simp only [State.pound, State.pounds_received]

@[simp] theorem State.axes_received (s : State) (src : Source) : (s.received src).axes = s.axes :=
  s.received_of (P := fun t => t.axes = s.axes) src rfl (fun _ _ _ _ h => ⟨h, h⟩) fun _ _ _ h => h

@[simp] theorem State.pound_advance (s : State) (dt p : Nat) : (s.advance dt).pound p = s.pound p := rfl
@[simp] theorem State.axes_advance (s : State) (dt : Nat) : (s.advance dt).axes = s.axes := rfl

theorem State.rd_received_pound (s : State) (src : Source) {p b : Nat} (hp : p < 106) (hb : b < 256) :
    (s.received src).rd (poundKey p b) = s.rd (poundKey p b) := by
  have hindex : 0x2000 ≤ poundRecord p := by unfold poundRecord; split_ifs <;> omega
  exact s.rd_received src fun k _ => ⟨regKey_ne hb (by omega) (by omega), regKey_ne hb (by omega) (by omega)⟩

/-- The state at the end of a command that leaves `u` and answers `c`. -/
def State.told (u : State) (c : Nat) : State := (u.answer c []).updateDeferrals

theorem PoundFrame.told (u : State) (c : Nat) : PoundFrame (· = Reg.lostCount) (fun _ => False) (u.answer c []) (u.told c) :=
  PoundFrame.updateDeferrals rfl

@[simp] theorem State.abort_told (u : State) (c : Nat) : (u.told c).net.reply.abort = c := congrArg (·.reply.abort) (PoundFrame.told u c).net

theorem State.staged_told (u : State) (c q : Nat) : ((u.told c).pound q).staged = (u.pound q).staged := (PoundFrame.told u c).staged q
theorem State.armed_told (u : State) (c q : Nat) : ((u.told c).pound q).armed = (u.pound q).armed :=
  ((PoundFrame.told u c).armed q id).1
theorem State.bundle_told (u : State) (c q : Nat) : ((u.told c).pound q).bundle = (u.pound q).bundle :=
  ((PoundFrame.told u c).armed q id).2
theorem State.rd_told (u : State) (c : Nat) {k : Nat} (hk : k ≠ Reg.lostCount) : (u.told c).rd k = u.rd k := (PoundFrame.told u c).regs k hk
theorem State.axes_told (u : State) (c : Nat) : (u.told c).axes = u.axes := State.axes_updateDeferrals _

/-- POUND_STATE of a pound without staged values that is not armed reads EMPTY (R50). -/
theorem State.readValue_poundState {s : State} {p : Nat} (hp : p < 106) (hstaged : (s.pound p).staged = [])
    (harmed : (s.pound p).armed = none) : s.readValue (poundKey p 2) = 0 := by
  have hsub : keySub (poundKey p 2) = 2 := by simp only [keySub, poundKey, regKey]; omega
  simp [State.readValue, State.view, State.poundView, recordPound_poundKey hp, hsub, Pound.state, hstaged, harmed]

/-! ### The commands -/

theorem poundWord_lt {p v : Nat} (hv : v = 1 ∨ v = 2) : poundWord p v < 256 ^ poundBytes p := by
  unfold poundWord poundBytes
  rcases hv with rfl | rfl <;> split_ifs <;> decide

section
variable {s : State} {src : Source} {dt n p w : Nat} (hs : s.still = true) (h : (s.advance dt).speaks src n = true) (hp : p < 106)
  (hw : w < 256 ^ poundBytes p)
include hs h hp hw

/-- A word of POUND_CMD that commits the pounds `ps`. -/
theorem State.next_commit {ps : List Nat} (hps : ∀ q, q ∈ ps → q < 106)
    (hcmd : ((s.advance dt).received src).poundCommand p w = ((s.advance dt).received src).commit p ps) :
    (Host.Outcome.next (s.upAt dt fun s => s.hostWriteAs src (poundKey p 1) (poundBytes p) w) : Host.Outcome State Fault Refusal) =
      .next ((((s.advance dt).received src).commit p ps).1.told (((s.advance dt).received src).commit p ps).2) := by
  refine State.next_commits hs h (A := ((s.advance dt).received src).armedBy ps) (by rw [leBytes_length]; exact isCommand_pound hp)
    poundKey_ne_memData (needsToken_pound hp _) ?_ (PoundFrame.commit _ hp hps)
  rw [State.commandObject_pound _ hp, ofLeBytes_leBytes, Nat.mod_eq_of_lt hw, hcmd]

/-- A word of POUND_CMD that leaves a still state. -/
theorem State.next_poundWord {u : State} {c : Nat} (hcmd : ((s.advance dt).received src).poundCommand p w = (u, c))
    (hstill : u.still = true) (hout : u.outside = s.outside) :
    (Host.Outcome.next (s.upAt dt fun s => s.hostWriteAs src (poundKey p 1) (poundBytes p) w) : Host.Outcome State Fault Refusal) =
      .next (u.answer c []) := by
  refine State.next_command hs h (by rw [leBytes_length]; exact isCommand_pound hp) poundKey_ne_memData (Or.inl (needsToken_pound hp _))
    ?_ hstill hout
  rw [State.commandObject_pound _ hp, ofLeBytes_leBytes, Nat.mod_eq_of_lt hw, hcmd]

end

/-! ### Discards (R44, R51, R52) -/

/-- A discard of one pound. -/
def State.emptied (s : State) (p : Nat) : State :=
  if (s.pound p).staged.isEmpty then s else (s.modPound p fun x => { x with staged := [] }).bump 32 (poundKey p 7)

theorem State.discard_closed {s : State} {ps : List Nat} (h : (ps.any fun p => (s.pound p).closed) = true) :
    s.discard ps = (s, 0xA030) := by simp [State.discard, h]

theorem State.discard_open {s : State} {ps : List Nat} (h : (ps.any fun p => (s.pound p).closed) = false) :
    s.discard ps = (ps.foldl State.emptied s, 0) := by
  rw [State.discard, h]
  rfl

theorem State.pound_emptied (s : State) (p q : Nat) (hp : p < 106) :
    (s.emptied p).pound q = if q = p then { s.pound p with staged := [] } else s.pound q := by
  have hbump (r : State) (k : Nat) : (r.bump 32 k).pound q = r.pound q := by simp only [State.pound, State.bump, State.wr_pounds]
  unfold State.emptied
  split
  · next hempty =>
    split
    · next hq =>
      subst hq
      have hnil := List.isEmpty_iff.1 hempty
      cases hx : s.pound q
      rw [hx] at hnil
      simp_all
    · rfl
  · rw [hbump]
    split
    · next hq => subst hq; exact State.pound_modPound_self _ _ hp
    · next hq => exact State.pound_modPound_ne _ _ hq

theorem State.armed_modPound_staged (s : State) (p q : Nat) (v : List (Nat × Nat)) :
    ((s.modPound p fun x => { x with staged := v }).pound q).armed = (s.pound q).armed ∧
      ((s.modPound p fun x => { x with staged := v }).pound q).deferred = (s.pound q).deferred := by
  by_cases hq : q = p
  · subst hq
    by_cases hlt : q < 106
    · rw [State.pound_modPound_self _ _ hlt]; exact ⟨rfl, rfl⟩
    · simp [State.pound, State.modPound, hlt]
  · rw [State.pound_modPound_ne _ _ hq]; exact ⟨rfl, rfl⟩

theorem State.still_emptied {s : State} {p : Nat} (hp : p < 106) (hs : s.still = true) : (s.emptied p).still = true := by
  unfold State.emptied
  split
  · exact hs
  · rw [State.bump, State.still_wr _ _ (stillKey_poundKey hp (by decide) (by decide))]
    exact State.still_of hs (fun _ _ => rfl) rfl rfl rfl rfl rfl (fun _ => ⟨rfl, rfl, rfl⟩) (fun q => s.armed_modPound_staged p q [])
      fun _ => ⟨rfl, rfl⟩

theorem State.outside_emptied (s : State) (p : Nat) : (s.emptied p).outside = s.outside := by
  unfold State.emptied
  split
  · rfl
  · simp only [State.outside_bump, State.outside_modPound]

theorem State.still_discarded {s : State} {ps : List Nat} (hps : ∀ q, q ∈ ps → q < 106) (hs : s.still = true) :
    (ps.foldl State.emptied s).still = true :=
  foldl_of (P := fun r => r.still = true) ps hs fun _ p hp hr => State.still_emptied (hps p hp) hr

theorem State.outside_discarded (s : State) (ps : List Nat) : (ps.foldl State.emptied s).outside = s.outside :=
  foldl_of (P := fun r => r.outside = s.outside) ps rfl fun r p _ hr => (r.outside_emptied p).trans hr

/-- Every pound that a discard names is EMPTY. -/
theorem State.staged_discarded {s : State} {ps : List Nat} (hps : ∀ q, q ∈ ps → q < 106) {q : Nat} (hq : q ∈ ps) :
    ((ps.foldl State.emptied s).pound q).staged = [] :=
  foldl_reach (P := fun _ => True) (Q := fun r => (r.pound q).staged = []) hq trivial (fun _ _ _ _ => trivial)
    (fun r _ => by rw [r.pound_emptied q q (hps q hq), if_pos rfl]) fun r p hp _ hr => by
      rw [r.pound_emptied p q (hps p hp)]
      split
      · rfl
      · exact hr

end Sys2Proof.Machine
end

section
/-! PROOFS. O53: a commit of an empty pound is accepted and arms nothing (R45). -/

namespace Sys2Proof.Machine

section
variable {s : State} {rec : Nat} {ps : List Nat} (hrec : rec < 106) (hps : ∀ p, p ∈ ps → p < 106)

/-- Pounds that are all EMPTY pass every check of their commit. -/
theorem State.commit_of_empty (hempty : ∀ q, q ∈ ps → (s.pound q).staged = [] ∧ (s.pound q).armed = none) :
    s.commit rec ps = ((s.armAll rec ps).updateDeferrals, 0) := by
  refine State.commit_accepted rec ?_ ?_ (fun q hq => State.commitFail_of_empty (hempty q hq).1) ?_
  · rw [List.any_eq_false]
    intro q hq
    simp [Pound.closed, (hempty q hq).2]
  · by_cases hdevice : pDevice ∈ ps
    · simp [Pound.has, (hempty _ hdevice).1]
    · simp [hdevice]
  · rw [State.swapBudget_of_noSwap fun q hq _ => Pound.value_of_empty (hempty q hq).1 _]

include hrec hps

/-- A commit leaves an EMPTY pound as it was, and its LOCKAGE_COUNT (R45). -/
theorem State.commit_keeps_empty {p c : Nat} (hp : p < 106) (hstaged : (s.pound p).staged = []) (harmed : (s.pound p).armed = none) :
    (((s.commit rec ps).1.told c).pound p).armed = none ∧ (((s.commit rec ps).1.told c).pound p).staged = [] ∧
      ((s.commit rec ps).1.told c).readValue (poundKey p 2) = 0 ∧
      ((s.commit rec ps).1.told c).rd (poundKey p 6) = s.rd (poundKey p 6) := by
  have hframe := PoundFrame.commit s hrec hps
  have harmed' : (((s.commit rec ps).1.told c).pound p).armed = none := by
    rw [State.armed_told, (hframe.armed p fun h => h.2 hstaged).1, harmed]
  have hstaged' : (((s.commit rec ps).1.told c).pound p).staged = [] := by rw [State.staged_told, hframe.staged, hstaged]
  exact ⟨harmed', hstaged', State.readValue_poundState hp hstaged' harmed', by
    rw [State.rd_told _ _ (lostCount_ne_poundKey hp (by decide)), hframe.regs _ (not_commitKey_lockageCount hp)]⟩

/-- A commit of pounds that are all EMPTY arms nothing. -/
theorem State.commit_arms_nothing (hempty : ∀ q, q ∈ ps → (s.pound q).staged = [] ∧ (s.pound q).armed = none) (c q : Nat) :
    (((s.commit rec ps).1.told c).pound q).armed = (s.pound q).armed := by
  rw [State.armed_told, ((PoundFrame.commit s hrec hps).armed q fun h => h.2 (hempty q h.1).1).1]

end

/-- The commands of an engine's record are those of a pound's. -/
theorem poundBytes_engine {e : Nat} (he : e < 8) : poundBytes (48 + e) = 2 := by unfold poundBytes; rw [if_pos (by omega)]

theorem execPoundCommit_of {s : State} {dt p : Nat} {src : Source} (hp : p < 106) : exec (.poundCommit dt src p) s =
    .next (s.upAt dt fun s => s.hostWriteAs src (poundKey p 1) (poundBytes p) (poundWord p 1)) := by
  show execPoundCommit dt src p s = _
  simp only [execPoundCommit, State.hostWriteIn, hp, if_true]

theorem execPoundDiscard_of {s : State} {dt p : Nat} {src : Source} (hp : p < 106) : exec (.poundDiscard dt src p) s =
    .next (s.upAt dt fun s => s.hostWriteAs src (poundKey p 1) (poundBytes p) (poundWord p 2)) := by
  show execPoundDiscard dt src p s = _
  simp only [execPoundDiscard, State.hostWriteIn, hp, if_true]

theorem execBundledCommit_of {s : State} {dt e m : Nat} {src : Source} (he : e < 8) (hm : m < 128) :
    exec (.bundledCommit dt src e m) s =
      .next (s.upAt dt fun s => s.hostWriteAs src (poundKey (48 + e) 1) (poundBytes (48 + e)) m) := by
  show execBundledCommit dt src e m s = _
  simp only [execBundledCommit, State.hostWriteIn, he, if_true, Nat.mod_eq_of_lt hm, pEngine, poundBytes_engine he]

theorem execBundledDiscard_of {s : State} {dt e m : Nat} {src : Source} (he : e < 8) (hm : m < 128) :
    exec (.bundledDiscard dt src e m) s =
      .next (s.upAt dt fun s => s.hostWriteAs src (poundKey (48 + e) 1) (poundBytes (48 + e)) (m + 256)) := by
  show execBundledDiscard dt src e m s = _
  simp only [execBundledDiscard, State.hostWriteIn, he, if_true, Nat.mod_eq_of_lt hm, pEngine, poundBytes_engine he]

section
variable {s : State} {dt n : Nat} {src : Source} (hs : s.still = true) (h : (s.advance dt).speaks src n = true)
include hs h

theorem exec_poundCommit {p : Nat} (hp : p < 105) : exec (.poundCommit dt src p) s =
    .next ((((s.advance dt).received src).commit p [p]).1.told (((s.advance dt).received src).commit p [p]).2) := by
  rw [execPoundCommit_of (by omega)]
  exact State.next_commit hs h (by omega) (poundWord_lt (Or.inl rfl)) (by simp; omega) (State.poundCommand_commit _ hp)

theorem exec_bundledCommit {e m : Nat} (he : e < 8) (h0 : 0 < m) (hm : m < 128) : exec (.bundledCommit dt src e m) s =
    .next ((((s.advance dt).received src).commit (48 + e) (bundleOf e m)).1.told
      (((s.advance dt).received src).commit (48 + e) (bundleOf e m)).2) := by
  have hword : m < 256 ^ poundBytes (48 + e) := by rw [poundBytes_engine he]; omega
  rw [execBundledCommit_of he hm]
  exact State.next_commit hs h (by omega) hword (fun q hq => by have := lt_of_mem_bundleOf he hq; omega)
    (State.poundCommand_bundledCommit _ he h0 hm)

end

/-- Settles O53: an EMPTY pound passes the checks of its commit, and arming leaves it alone. -/
theorem emptyCommitArmsNothing : Obligations.EmptyCommitArmsNothing := by
  unfold Obligations.EmptyCommitArmsNothing
  intro s dt n src hs h
  set r := (s.advance dt).received src with hr
  have hpound (q : Nat) : r.pound q = s.pound q := by rw [hr, State.pound_received, State.pound_advance]
  have hrd {p : Nat} (hp : p < 106) : r.rd (poundKey p 6) = s.rd (poundKey p 6) := by
    rw [hr, State.rd_received_pound _ _ hp (by decide)]; rfl
  refine ⟨fun p hp hstaged harmed => ?_, ?_⟩
  · have hempty : ∀ q, q ∈ [p] → (r.pound q).staged = [] ∧ (r.pound q).armed = none := by
      intro q hq
      rw [List.mem_singleton.1 hq, hpound]
      exact ⟨hstaged, harmed⟩
    have hps : ∀ q, q ∈ [p] → q < 106 := fun q hq => by rw [List.mem_singleton.1 hq]; omega
    have hp' : p < 106 := by omega
    obtain ⟨-, hstaged', hstate, hcount⟩ := State.commit_keeps_empty (c := (r.commit p [p]).2) hp' hps hp' (hempty p (by simp)).1 (hempty p (by simp)).2
    refine ⟨_, exec_poundCommit hs h hp, ?_, fun q => ?_, hstaged', hstate, hcount.trans (hrd hp')⟩
    · rw [State.abort_told, State.commit_of_empty hempty]
    · rw [State.commit_arms_nothing hp' hps hempty, hpound]
  · intro e m he h0 hm ps p hmem hstaged harmed
    have hps : ∀ q, q ∈ bundleOf e m → q < 106 := fun q hq => by have := lt_of_mem_bundleOf he hq; omega
    have hrec : 48 + e < 106 := by omega
    rw [← hpound] at hstaged harmed
    obtain ⟨harmed', hstaged', hstate, hcount⟩ :=
      State.commit_keeps_empty (c := (r.commit (48 + e) (bundleOf e m)).2) hrec hps (hps p hmem) hstaged harmed
    refine ⟨_, exec_bundledCommit hs h he h0 hm, harmed', hstaged', hstate, hcount.trans (hrd (hps p hmem)), fun hall => ?_⟩
    have hempty : ∀ q, q ∈ bundleOf e m → (r.pound q).staged = [] ∧ (r.pound q).armed = none := fun q hq => by rw [hpound]; exact hall q hq
    refine ⟨?_, fun q => ?_⟩
    · rw [State.abort_told, State.commit_of_empty hempty]
    · rw [State.commit_arms_nothing hrec hps hempty, hpound]

end Sys2Proof.Machine
end

section
/-! PROOFS. O52: commits arm, discards empty, and BANK_SWAP (R41, R42, R44, R51, R52, R188). -/

namespace Sys2Proof.Machine

theorem Pound.has_of_value {x : Pound} {k v : Nat} (h : x.value k = some v) : x.staged ≠ [] := fun he => by
  rw [Pound.value_of_empty he] at h; cases h

theorem State.closed_any {s : State} {p : Nat} : ([p].any fun q => (s.pound q).closed) = (s.pound p).closed := by simp

section
variable {s : State} {rec : Nat} {ps : List Nat} (hrec : rec < 106) (hps : ∀ p, p ∈ ps → p < 106) {c : Nat}
include hrec hps

/-- LAST_COMMIT_LT and CHECK_FAIL_OBJECT after a commit that is accepted. -/
theorem State.rd_accepted {q : Nat} (hq : q ∈ ps) :
    ((s.armAll rec ps).updateDeferrals.told c).rd (poundKey q 4) = time80 s.lt ∧
      ((s.armAll rec ps).updateDeferrals.told c).rd (poundKey q 8) = 0 := by
  have hrd {b : Nat} (hb : b < 256) :
      ((s.armAll rec ps).updateDeferrals.told c).rd (poundKey q b) = (s.armAll rec ps).rd (poundKey q b) := by
    have hne := lostCount_ne_poundKey (hps q hq) hb
    have hdefer : PoundFrame (· = Reg.lostCount) (fun _ => False) (s.armAll rec ps) (s.armAll rec ps).updateDeferrals :=
      PoundFrame.updateDeferrals rfl
    rw [State.rd_told _ _ hne, hdefer.regs _ hne]
  rw [hrd (by decide), hrd (by decide)]
  exact State.rd_armAll hrec hps hq

/-- The pounds of a commit that is accepted are armed together. -/
theorem State.armed_accepted {q : Nat} (hq : q ∈ ps) (hfull : (s.pound q).staged ≠ []) :
    (((s.armAll rec ps).updateDeferrals.told c).pound q).armed = some s.lt ∧
      (((s.armAll rec ps).updateDeferrals.told c).pound q).bundle = s.partners ps q := by
  have hdefer : PoundFrame (· = Reg.lostCount) (fun _ => False) (s.armAll rec ps) (s.armAll rec ps).updateDeferrals :=
    PoundFrame.updateDeferrals rfl
  rw [State.armed_told, State.bundle_told, (hdefer.armed q id).1, (hdefer.armed q id).2]
  exact State.armed_armAll hrec hps hq hfull

theorem State.staged_accepted (q : Nat) : (((s.armAll rec ps).updateDeferrals.told c).pound q).staged = (s.pound q).staged := by
  have hdefer : PoundFrame (· = Reg.lostCount) (fun _ => False) (s.armAll rec ps) (s.armAll rec ps).updateDeferrals :=
    PoundFrame.updateDeferrals rfl
  rw [State.staged_told, hdefer.staged, (PoundFrame.armAll hrec hps).staged]

end

theorem State.axes_accepted (s : State) (rec : Nat) (ps : List Nat) (c : Nat) :
    ((s.armAll rec ps).updateDeferrals.told c).axes = (s.armAll rec ps).axes := by
  rw [State.axes_told, State.axes_updateDeferrals]

/-- The partners of a pound are the others of its commit that hold values. -/
theorem State.mem_partners {s : State} {ps : List Nat} {p q : Nat} :
    q ∈ s.partners ps p ↔ q ∈ ps ∧ q ≠ p ∧ (s.pound q).staged ≠ [] := by simp [State.partners]

/-! ### Commits and discards as a master sees them -/

section
variable {s : State} {dt n : Nat} {src : Source} (hs : s.still = true) (h : (s.advance dt).speaks src n = true)
include hs h

omit h in
theorem State.still_heard : ((s.advance dt).received src).still = true := State.still_received src (by rw [State.still_advance]; exact hs)

omit hs h in
theorem State.outside_heard (s : State) (dt : Nat) (src : Source) : ((s.advance dt).received src).outside = s.outside := by
  rw [State.outside_received, State.outside_advance]

omit hs h in
@[simp] theorem State.pound_heard (s : State) (dt : Nat) (src : Source) (q : Nat) :
    ((s.advance dt).received src).pound q = s.pound q := by rw [State.pound_received, State.pound_advance]

/-- A word of POUND_CMD to pounds of which one is armed (R44). -/
theorem exec_closed {p w : Nat} (hp : p < 106) (hw : w < 256 ^ poundBytes p)
    (hcmd : ((s.advance dt).received src).poundCommand p w = ((s.advance dt).received src, 0xA030)) :
    (Host.Outcome.next (s.upAt dt fun s => s.hostWriteAs src (poundKey p 1) (poundBytes p) w) : Host.Outcome State Fault Refusal) =
      .next (((s.advance dt).received src).answer 0xA030 []) :=
  State.next_poundWord hs h hp hw hcmd (State.still_heard hs) (State.outside_heard s dt src)

/-- A word of POUND_CMD that discards pounds of which none is armed (R51). -/
theorem exec_discards {p w : Nat} {ps : List Nat} (hp : p < 106) (hw : w < 256 ^ poundBytes p) (hps : ∀ q, q ∈ ps → q < 106)
    (hopen : (ps.any fun q => (s.pound q).closed) = false)
    (hcmd : ((s.advance dt).received src).poundCommand p w = ((s.advance dt).received src).discard ps) :
    (Host.Outcome.next (s.upAt dt fun s => s.hostWriteAs src (poundKey p 1) (poundBytes p) w) : Host.Outcome State Fault Refusal) =
      .next ((ps.foldl State.emptied ((s.advance dt).received src)).answer 0 []) := by
  have hopen' : (ps.any fun q => (((s.advance dt).received src).pound q).closed) = false := by simpa only [State.pound_heard] using hopen
  refine State.next_poundWord hs h hp hw (hcmd.trans (State.discard_open hopen')) (State.still_discarded hps (State.still_heard hs)) ?_
  rw [State.outside_discarded, State.outside_heard]

end

/-! ### Writes that take effect at once or are staged (R37, R38) -/

section
variable {s : State} {r : Row} {k : Nat} {b : List Nat} (hro : r.access ≠ .ro) (hlen : lengthFits r b.length = true)
  (hmem : k ≠ Reg.memData) (hprofile : k ≠ Reg.profileWrData) (hlate : s.tooLate k (ofLeBytes b) = false)
include hro hlen hmem hprofile hlate

theorem State.writeObject_direct (hway : s.writeWay r.access k = .direct) (hcode : s.stateCode k true = 0)
    (hrange : s.inRange r k (ofLeBytes b) true = true) : s.writeObject r k b = (s.useValue k (ofLeBytes b), 0) := by
  simp [State.writeObject, hro, hlen, hway, hmem, hprofile, hcode, hrange, hlate]

theorem State.writeObject_staged (hway : s.writeWay r.access k = .staged) (hopen : (s.pound (scopeOf k)).closed = false)
    (hcode : s.stateCode k false = 0) (hrange : s.inRange r k (ofLeBytes b) false = true) :
    s.writeObject r k b = (s.modPound (scopeOf k) fun x => x.stage k (ofLeBytes b), 0) := by
  have hstaged : (WriteWay.staged == WriteWay.direct) = false := rfl
  simp [State.writeObject, hro, hlen, hway, hmem, hprofile, hopen, hstaged, hcode, hrange, hlate]

end

theorem State.tooLate_of_ne (s : State) {k : Nat} (hk : k ≠ Reg.layerStartLt) (v : Nat) : s.tooLate k v = false := by
  simp [State.tooLate, hk]

theorem Pound.stage_armed (x : Pound) (k v : Nat) : (x.stage k v).armed = x.armed ∧ (x.stage k v).deferred = x.deferred := ⟨rfl, rfl⟩

/-- A staged value leaves a state still. -/
theorem State.still_stage {s : State} (p k v : Nat) (hs : s.still = true) : (s.modPound p fun x => x.stage k v).still = true := by
  refine State.still_of hs (fun _ _ => rfl) rfl rfl rfl rfl rfl (fun _ => ⟨rfl, rfl, rfl⟩) (fun q => ?_) fun _ => ⟨rfl, rfl⟩
  by_cases hq : q = p
  · subst hq
    by_cases hlt : q < 106
    · rw [State.pound_modPound_self _ _ hlt]; exact Pound.stage_armed _ k v
    · simp [State.pound, State.modPound, hlt]
  · rw [State.pound_modPound_ne _ _ hq]; exact ⟨rfl, rfl⟩

/-! ### BANK_SWAP (R188) -/

theorem bankSwap_row {a : Nat} (ha : a < 48) : Dict.hasIndex (keyIndex (Reg.bankSwap a)) = true ∧
    ∃ row, Dict.row? (Reg.bankSwap a) = some row ∧ row.access = .rws ∧ lengthFits row 2 = true := by
  have hall : ∀ a, a < 48 → (Dict.hasIndex (keyIndex (Reg.bankSwap a)) &&
      (Dict.row? (Reg.bankSwap a)).any fun row => row.access == .rws && lengthFits row 2) = true := by decide +kernel
  have h := hall a ha
  simp only [Bool.and_eq_true, Option.any_eq_true, beq_iff_eq] at h
  exact h

theorem bankSwap_key {a : Nat} (ha : a < 48) : keyIndex (Reg.bankSwap a) = 0x3020 + 0x40 * a ∧ keySub (Reg.bankSwap a) = 1 ∧
    keyAxis (Reg.bankSwap a) = a ∧ scopeOf (Reg.bankSwap a) = a ∧ bankKey (Reg.bankSwap a) = none := by
  have hindex : keyIndex (Reg.bankSwap a) = 0x3020 + 0x40 * a := by simp only [keyIndex, Reg.bankSwap, regKey]; omega
  have hsub : keySub (Reg.bankSwap a) = 1 := by simp only [keySub, Reg.bankSwap, regKey]; omega
  refine ⟨hindex, hsub, ?_, ?_, ?_⟩
  · simp only [keyAxis, hindex]; omega
  · simp only [scopeOf, hindex]; rw [if_pos (by omega)]; omega
  · simp only [bankKey, hindex]; rw [if_neg (by omega)]

section
variable {a b : Nat} (ha : a < 48)
include ha

theorem State.stateCode_bankSwap (s : State) (d : Bool) : s.stateCode (Reg.bankSwap a) d = 0 := by
  obtain ⟨hindex, -, haxis, -⟩ := bankSwap_key ha
  have hne : Reg.bankSwap a ≠ Reg.axoRange a := regKey_ne (by decide) (by decide) (by omega)
  simp only [State.stateCode, hindex, haxis, hne, false_and, and_false, if_false]
  rw [if_neg (by omega), if_neg (by omega)]

/-- In CONFIGURE BANK_SWAP copies the buffer at once. -/
theorem State.useValue_bankSwap {s : State} (v : Nat) (hmode : s.modeCode = CONFIGURE) :
    s.useValue (Reg.bankSwap a) v = (s.wr (Reg.bankSwap a) v).modLaw a fun l => { l with active := l.pound } := by
  obtain ⟨hindex, -, -, -, hbank⟩ := bankSwap_key ha
  have hmode' : (s.wr (Reg.bankSwap a) v).modeCode = CONFIGURE :=
    (State.rd_wr_ne _ _ (regKey_ne (by decide) (by decide) (by omega))).trans hmode
  have hrange : Reg.bankSwap a ≠ Reg.axoRange a := regKey_ne (by decide) (by decide) (by omega)
  have hclear : Reg.bankSwap a ≠ Reg.clearCode a := regKey_ne (by decide) (by decide) (by omega)
  have hsource : Reg.bankSwap a ≠ Reg.spSource a := regKey_ne (by decide) (by decide) (by omega)
  have hinput : Reg.bankSwap a ≠ Reg.spPulseInput a := regKey_ne (by decide) (by decide) (by omega)
  have haxis : (0x3020 + 0x40 * a - 0x3000) / 0x40 = a := by omega
  have hput : s.putInUse (Reg.bankSwap a) v = (s.wr (Reg.bankSwap a) v).swapNow a := by
    unfold State.putInUse State.afterUse
    simp only [hindex, haxis]
    rw [if_pos (by omega), if_neg hrange, if_neg hclear, if_neg (by rintro (h | ⟨h, -⟩); exacts [hsource h, hinput h]), if_pos ⟨trivial, hmode'⟩]
  have hlayer : Reg.bankSwap a ≠ Reg.layerNumber := regKey_ne (by decide) (by decide) (by omega)
  have hcan : Reg.bankSwap a ≠ Reg.canCfg := regKey_ne (by decide) (by decide) (by omega)
  have hlog : Reg.bankSwap a ≠ Reg.interleaveLog2 := regKey_ne (by decide) (by decide) (by omega)
  have hchannels : Reg.bankSwap a ≠ Reg.memChannels := regKey_ne (by decide) (by decide) (by omega)
  have hrank : Reg.bankSwap a ≠ Reg.canRank := regKey_ne (by decide) (by decide) (by omega)
  simp only [State.useValue, hbank, hlayer, hcan, hlog, hchannels, hrank, if_false, or_self, hput, State.swapNow]

end

theorem not_layerStartLt_bankSwap (a : Nat) : Reg.bankSwap a ≠ Reg.layerStartLt := regKey_ne (by decide) (by decide) (by omega)

section
variable {s : State} {dt n a len : Nat} {src : Source} (hs : s.still = true) (h : (s.advance dt).speaks src n = true) (ha : a < 48)
  (hlen : len < 65536)
include hs h ha hlen

omit hlen in
/-- A write of BANK_SWAP, from the effect of its value. -/
theorem exec_bankSwapConfigure {t : State}
    (hw : ∀ row, Dict.row? (Reg.bankSwap a) = some row → row.access = .rws → lengthFits row 2 = true →
      ((s.advance dt).received src).writeObject row (Reg.bankSwap a) (leBytes 2 len) = (t, 0))
    (ht : t.still = true) (ho : t.outside = s.outside) : exec (.bankSwapConfigure dt src a len) s = .next (t.answer 0 []) := by
  obtain ⟨hhas, row, hrow, haccess, hfits⟩ := bankSwap_row ha
  obtain ⟨hindex, -⟩ := bankSwap_key ha
  have hmem : Reg.bankSwap a ≠ Reg.memData := regKey_ne (by decide) (by decide) (by omega)
  have htoken : needsToken (Reg.bankSwap a) (leBytes 2 len) = false := by
    have hpark : (Reg.bankSwap a == Reg.parkCmd) = false := beq_false_of_ne (regKey_ne (by decide) (by decide) (by omega))
    have hmode : (Reg.bankSwap a == Reg.modeCmd) = false := beq_false_of_ne (regKey_ne (by decide) (by decide) (by omega))
    rw [needsToken, hpark, hmode]
    rfl
  show execBankSwapConfigure dt src a len s = _
  simp only [execBankSwapConfigure, State.hostWriteIn, ha, if_true, State.hostWriteAs]
  exact State.next_object hs h (by omega) hhas hrow (by rw [haccess]; decide) htoken hmem (hw row hrow haccess hfits) ht ho

theorem exec_bankSwap_configure (hmode : s.modeCode = CONFIGURE)
    (hrange : ∀ row, Dict.row? (Reg.bankSwap a) = some row → ((s.advance dt).received src).inRange row (Reg.bankSwap a) len true = true) :
    exec (.bankSwapConfigure dt src a len) s =
      .next (((((s.advance dt).received src).wr (Reg.bankSwap a) len).modLaw a fun l => { l with active := l.pound }).answer 0 []) := by
  have hword : ofLeBytes (leBytes 2 len) = len := by rw [ofLeBytes_leBytes, Nat.mod_eq_of_lt (by omega)]
  have hmode' : ((s.advance dt).received src).modeCode = CONFIGURE :=
    ((s.advance dt).rd_received src fun k _ => ⟨regKey_ne (by decide) (by decide) (by omega), regKey_ne (by decide) (by decide) (by omega)⟩).trans hmode
  refine exec_bankSwapConfigure hs h ha (fun row hrow haccess hfits => ?_) ?_ ?_
  · rw [State.writeObject_direct (by rw [haccess]; decide) (by rw [leBytes_length]; exact hfits)
      (regKey_ne (by decide) (by decide) (by omega)) (regKey_ne (by decide) (by decide) (by omega))
      (State.tooLate_of_ne _ (not_layerStartLt_bankSwap a) _) (by rw [haccess]; simp [State.writeWay, hmode'])
      (State.stateCode_bankSwap ha _ _) (by rw [hword]; exact hrange row hrow), hword, State.useValue_bankSwap ha _ hmode']
  · rw [State.still_modLaw, State.still_wr _ _ (stillKey_regKey (i := 0x3020 + 0x40 * a) (by decide) (by omega))]
    exact State.still_heard hs
  · rw [State.outside_modLaw, State.outside_wr, State.outside_heard]

theorem exec_bankSwap_staged (hmode : s.inRunOrHold = true) (hopen : (s.pound a).armed = none)
    (hrange : ∀ row, Dict.row? (Reg.bankSwap a) = some row → ((s.advance dt).received src).inRange row (Reg.bankSwap a) len false = true) :
    exec (.bankSwapConfigure dt src a len) s =
      .next ((((s.advance dt).received src).modPound a fun y => y.stage (Reg.bankSwap a) len).answer 0 []) := by
  obtain ⟨-, -, -, hscope, -⟩ := bankSwap_key ha
  have hword : ofLeBytes (leBytes 2 len) = len := by rw [ofLeBytes_leBytes, Nat.mod_eq_of_lt (by omega)]
  have hcode : ((s.advance dt).received src).modeCode = s.modeCode :=
    (s.advance dt).rd_received src fun k _ => ⟨regKey_ne (by decide) (by decide) (by omega), regKey_ne (by decide) (by decide) (by omega)⟩
  have hmode' : ((s.advance dt).received src).inRunOrHold = true := by rw [State.inRunOrHold, hcode]; exact hmode
  have hconfigure : ((s.advance dt).received src).modeCode ≠ CONFIGURE := by
    intro hc
    rw [State.inRunOrHold, hc] at hmode'
    revert hmode'
    decide
  refine exec_bankSwapConfigure hs h ha (fun row hrow haccess hfits => ?_) (State.still_stage _ _ _ (State.still_heard hs)) ?_
  · rw [State.writeObject_staged (by rw [haccess]; decide) (by rw [leBytes_length]; exact hfits)
      (regKey_ne (by decide) (by decide) (by omega)) (regKey_ne (by decide) (by decide) (by omega))
      (State.tooLate_of_ne _ (not_layerStartLt_bankSwap a) _) (by rw [haccess]; simp [State.writeWay, hmode', hconfigure])
      (by rw [hscope, State.pound_heard, Pound.closed, hopen]; rfl)
      (State.stateCode_bankSwap ha _ _) (by rw [hword]; exact hrange row hrow), hword, hscope]
  · rw [State.outside_modPound, State.outside_heard]

end

/-! ### The statement -/

section
variable {s : State} {dt n : Nat} {src : Source} (hs : s.still = true) (h : (s.advance dt).speaks src n = true)
include hs h

theorem exec_pound_closed {p : Nat} (hp : p < 105) (hclosed : (s.pound p).closed = true) :
    exec (.poundCommit dt src p) s = .next (((s.advance dt).received src).answer 0xA030 []) ∧
      exec (.poundDiscard dt src p) s = .next (((s.advance dt).received src).answer 0xA030 []) := by
  have hany : ([p].any fun q => (((s.advance dt).received src).pound q).closed) = true := by
    rw [State.closed_any, State.pound_heard]; exact hclosed
  rw [execPoundCommit_of (by omega), execPoundDiscard_of (by omega)]
  exact ⟨exec_closed hs h (by omega) (poundWord_lt (Or.inl rfl)) ((State.poundCommand_commit _ hp).trans (State.commit_closed p hany)),
    exec_closed hs h (by omega) (poundWord_lt (Or.inr rfl)) ((State.poundCommand_discard _).trans (State.discard_closed hany))⟩

theorem exec_pound_discard {p : Nat} (hp : p < 106) (hopen : (s.pound p).closed = false) (hfull : (s.pound p).staged ≠ []) :
    exec (.poundDiscard dt src p) s =
      .next (((((s.advance dt).received src).modPound p fun x => { x with staged := [] }).bump 32 (poundKey p 7)).answer 0 []) := by
  have hempty : (((s.advance dt).received src).pound p).staged.isEmpty = false := by
    rw [State.pound_heard, List.isEmpty_eq_false_iff]; exact hfull
  rw [execPoundDiscard_of hp, exec_discards hs h hp (poundWord_lt (Or.inr rfl)) (ps := [p]) (by simpa using hp)
    (by rw [State.closed_any]; exact hopen) (State.poundCommand_discard _), List.foldl_cons, List.foldl_nil, State.emptied, hempty]
  rfl

/-- A commit of a pound whose checks pass. -/
theorem exec_pound_armed {p : Nat} (hp : p < 105) (hopen : (s.pound p).closed = false)
    (hdevice : p = 104 → (s.pound 104).has Reg.layerNumber = false ∨ s.memState ≠ memSWITCHING)
    (hchecks : ((s.advance dt).received src).commitFail p = none) (hbudget : (((s.advance dt).received src).swapBudget [p]).2 = true) :
    exec (.poundCommit dt src p) s =
      .next ((((s.advance dt).received src).armAll p [p]).updateDeferrals.told 0) := by
  have hmem : ((s.advance dt).received src).rd Reg.memState = s.memState :=
    (s.advance dt).rd_received src fun k _ => ⟨regKey_ne (by decide) (by decide) (by omega), regKey_ne (by decide) (by decide) (by omega)⟩
  have hdevice' : ([p].contains pDevice && (((s.advance dt).received src).pound pDevice).has Reg.layerNumber &&
      ((s.advance dt).received src).rd Reg.memState == 3) = false := by
    rw [State.pound_heard, hmem]
    by_cases hp' : p = 104
    · rcases hdevice hp' with hnone | hready
      · simp [pDevice, hnone]
      · simp [show s.memState ≠ 3 from hready]
    · simp [pDevice, Ne.symm hp']
  have hcommit := State.commit_accepted p (ps := [p]) (by rw [State.closed_any, State.pound_heard]; exact hopen) hdevice'
    (fun q hq => by rw [List.mem_singleton.1 hq]; exact hchecks) hbudget
  rw [exec_poundCommit hs h hp, hcommit]

/-- A commit of one pound without a BANK_SWAP. -/
theorem exec_pound_commit {p : Nat} (hp : p < 105) (hopen : (s.pound p).closed = false) (hfull : (s.pound p).staged ≠ [])
    (hswap : p < 48 → (s.pound p).has (Reg.bankSwap p) = false)
    (hdevice : p = 104 → (s.pound 104).has Reg.layerNumber = false ∨ s.memState ≠ memSWITCHING)
    (hchecks : ((s.advance dt).received src).commitFail p = none) :
    ∃ t : State, exec (.poundCommit dt src p) s = .next t ∧ t.net.reply.abort = 0 ∧
      (t.pound p).armed = some ((s.advance dt).received src).lt ∧ (t.pound p).staged = (s.pound p).staged ∧
      t.rd (poundKey p 4) = time80 ((s.advance dt).received src).lt ∧ t.rd (poundKey p 8) = 0 ∧ t.axes = s.axes := by
  have hnoSwap : ∀ q, q ∈ [p] → q < 48 → (((s.advance dt).received src).pound q).value (Reg.bankSwap q) = none := by
    intro q hq h48
    rw [List.mem_singleton.1 hq] at h48 ⊢
    rw [State.pound_heard]
    exact Pound.value_of_not_has (hswap h48)
  have hps : ∀ q, q ∈ [p] → q < 106 := fun q hq => by rw [List.mem_singleton.1 hq]; omega
  have hrec : p < 106 := by omega
  have hrd := State.rd_accepted (s := (s.advance dt).received src) (c := 0) hrec hps (List.mem_singleton_self p)
  refine ⟨_, exec_pound_armed hs h hp hopen hdevice hchecks (by rw [State.swapBudget_of_noSwap hnoSwap]), State.abort_told _ _,
    (State.armed_accepted hrec hps (List.mem_singleton_self p) (by rw [State.pound_heard]; exact hfull)).1, ?_, hrd.1, hrd.2, ?_⟩
  · rw [State.staged_accepted hrec hps, State.pound_heard]
  · rw [State.axes_accepted, State.axes_armAll hrec hps hnoSwap, State.axes_received, State.axes_advance]

/-- A commit of one pound with its BANK_SWAP. -/
theorem exec_pound_swap {p len : Nat} (hp : p < 48) (hopen : (s.pound p).closed = false)
    (hswap : (s.pound p).value (Reg.bankSwap p) = some len) (hchecks : ((s.advance dt).received src).commitFail p = none)
    (hbudget : (((s.advance dt).received src).budgetCheck (p / 6) (fun a => if a = p then some len else none) true []).2 = true) :
    ∃ t : State, exec (.poundCommit dt src p) s = .next t ∧ t.net.reply.abort = 0 ∧
      (t.pound p).armed = some ((s.advance dt).received src).lt ∧
      (t.axis p).law.armed = some { len := len, crc := bankCrc (s.axis p).law.pound } := by
  have hswap' : (((s.advance dt).received src).pound p).value (Reg.bankSwap p) = some len := by rw [State.pound_heard]; exact hswap
  have hps : ∀ q, q ∈ [p] → q < 106 := fun q hq => by rw [List.mem_singleton.1 hq]; omega
  have hlaw := State.law_armAll hp hswap'
  have haxis : ((s.advance dt).received src).axis p = s.axis p := by simp only [State.axis, State.axes_received, State.axes_advance]
  have haxes : ((((s.advance dt).received src).armAll p [p]).updateDeferrals.told 0).axis p =
      (((s.advance dt).received src).armAll p [p]).axis p := by simp only [State.axis, State.axes_accepted]
  refine ⟨_, exec_pound_armed hs h (by omega) hopen (by omega) hchecks (by rw [State.swapBudget_of_swap hp hswap']; exact hbudget),
    State.abort_told _ _, (State.armed_accepted (by omega) hps (List.mem_singleton_self p) (Pound.has_of_value hswap')).1, ?_⟩
  rw [haxes, hlaw, haxis]

section
variable {e m : Nat} (he : e < 8) (h0 : 0 < m) (hm : m < 128)
include he h0 hm

theorem exec_bundle_closed (hclosed : ((bundleOf e m).any fun q => (s.pound q).closed) = true) :
    exec (.bundledCommit dt src e m) s = .next (((s.advance dt).received src).answer 0xA030 []) ∧
      exec (.bundledDiscard dt src e m) s = .next (((s.advance dt).received src).answer 0xA030 []) := by
  have hany : ((bundleOf e m).any fun q => (((s.advance dt).received src).pound q).closed) = true := by
    simpa only [State.pound_heard] using hclosed
  have hbytes := poundBytes_engine he
  rw [execBundledCommit_of he hm, execBundledDiscard_of he hm]
  exact ⟨exec_closed hs h (by omega) (by rw [hbytes]; omega)
      ((State.poundCommand_bundledCommit _ he h0 hm).trans (State.commit_closed _ hany)),
    exec_closed hs h (by omega) (by rw [hbytes]; omega)
      ((State.poundCommand_bundledDiscard _ he h0 hm).trans (State.discard_closed hany))⟩

theorem exec_bundle_discard (hopen : ((bundleOf e m).any fun q => (s.pound q).closed) = false) :
    ∃ t : State, exec (.bundledDiscard dt src e m) s = .next t ∧ t.net.reply.abort = 0 ∧
      ∀ q, q ∈ bundleOf e m → (t.pound q).staged = [] := by
  have hps : ∀ q, q ∈ bundleOf e m → q < 106 := fun q hq => by have := lt_of_mem_bundleOf he hq; omega
  rw [execBundledDiscard_of he hm, exec_discards hs h (by omega) (by rw [poundBytes_engine he]; omega) hps hopen
    (State.poundCommand_bundledDiscard _ he h0 hm)]
  exact ⟨_, rfl, rfl, fun q hq => State.staged_discarded hps hq⟩

theorem exec_bundle_commit (hopen : ((bundleOf e m).any fun q => (s.pound q).closed) = false)
    (hchecks : ∀ q, q ∈ bundleOf e m → ((s.advance dt).received src).commitFail q = none ∧
      (q < 48 → (s.pound q).has (Reg.bankSwap q) = false)) :
    ∃ t : State, exec (.bundledCommit dt src e m) s = .next t ∧ t.net.reply.abort = 0 ∧
      ∀ q, q ∈ bundleOf e m → t.rd (poundKey q 4) = time80 ((s.advance dt).received src).lt ∧
        ((s.pound q).staged ≠ [] → (t.pound q).armed = some ((s.advance dt).received src).lt ∧
          ∀ q', q' ∈ (t.pound q).bundle ↔ q' ∈ bundleOf e m ∧ q' ≠ q ∧ (s.pound q').staged ≠ []) := by
  have hps : ∀ q, q ∈ bundleOf e m → q < 106 := fun q hq => by have := lt_of_mem_bundleOf he hq; omega
  have hrec : 48 + e < 106 := by omega
  have hnoSwap : ∀ q, q ∈ bundleOf e m → q < 48 → (((s.advance dt).received src).pound q).value (Reg.bankSwap q) = none :=
    fun q hq h48 => by rw [State.pound_heard]; exact Pound.value_of_not_has ((hchecks q hq).2 h48)
  have hdevice : pDevice ∉ bundleOf e m := fun hq => by have := lt_of_mem_bundleOf he hq; simp only [pDevice] at this; omega
  have hcommit := State.commit_accepted (s := (s.advance dt).received src) (48 + e) (ps := bundleOf e m)
    (by simpa only [State.pound_heard] using hopen) (by simp [hdevice]) (fun q hq => (hchecks q hq).1)
    (by rw [State.swapBudget_of_noSwap hnoSwap])
  have hexec : exec (.bundledCommit dt src e m) s =
      .next ((((s.advance dt).received src).armAll (48 + e) (bundleOf e m)).updateDeferrals.told 0) := by
    rw [exec_bundledCommit hs h he h0 hm, hcommit]
  refine ⟨_, hexec, State.abort_told _ _, fun q hq => ⟨?_, fun hfull => ?_⟩⟩
  · exact (State.rd_accepted hrec hps hq).1
  · have hfull' : (((s.advance dt).received src).pound q).staged ≠ [] := by rw [State.pound_heard]; exact hfull
    obtain ⟨harmed, hbundle⟩ := State.armed_accepted (c := 0) hrec hps hq hfull'
    refine ⟨harmed, fun q' => ?_⟩
    rw [hbundle, State.mem_partners, State.pound_heard]

end

end

/-- Settles O52: each command goes by its word to `commit` or `discard`, of which arming and emptying are the whole effect. -/
theorem poundsCommitted : Obligations.PoundsCommitted := by
  unfold Obligations.PoundsCommitted
  refine ⟨fun s dt n p src hs h => ⟨fun hp hclosed => exec_pound_closed hs h hp hclosed,
    fun hp hopen hfull => exec_pound_discard hs h hp hopen hfull,
    fun hp hopen hfull hswap hdevice hchecks => exec_pound_commit hs h hp hopen hfull hswap hdevice hchecks,
    fun len hp hopen hswap hchecks hbudget => exec_pound_swap hs h hp hopen hswap hchecks hbudget, fun e m he h0 hm => ?_⟩,
    fun s dt n a len src hs h ha hlen => ⟨fun hmode hrange => exec_bankSwap_configure hs h ha hlen hmode hrange,
      fun hmode hopen hrange => exec_bankSwap_staged hs h ha hlen hmode hopen hrange⟩⟩
  exact ⟨fun hclosed => exec_bundle_closed hs h he h0 hm hclosed, fun hopen => ⟨exec_bundle_discard hs h he h0 hm hopen,
    fun hchecks => exec_bundle_commit hs h he h0 hm hopen hchecks⟩⟩

end Sys2Proof.Machine
end

section
/-! PROOFS. What a value that comes into use leaves alone, and the end of its command (R37, R38, R65, R241, R301, R322). -/

namespace Sys2Proof.Machine

/-- A read-only sub-entry other than MODE. -/
def shownOnly (k : Nat) : Bool := (Dict.row? k).any (fun r => r.access == .ro) && k != Reg.mode

/-- A sub-entry that is not read-only is none of them. -/
theorem ne_of_shownOnly {w k : Nat} {row : Row} (hw : shownOnly w = true) (hrow : Dict.row? k = some row) (hro : row.access ≠ .ro) :
    w ≠ k ∧ w ≠ Reg.mode := by
  simp only [shownOnly, Bool.and_eq_true, bne_iff_ne, ne_eq] at hw
  refine ⟨?_, hw.2⟩
  rintro rfl
  rw [hrow] at hw
  simp [hro] at hw

/-- The sub-entries that follow from a value in use: of the device, the axes, the tiles, the lasers, the masters and the emulators. -/
theorem shownOnly_followers : (∀ w, w ∈ [Reg.lostCount, Reg.visStatus, Reg.timeState, Reg.activeDomain, Reg.freqEst, Reg.rateInUse,
      Reg.stepState, Reg.layerInUse, Reg.layerState, Reg.canStatus, Reg.tokenHolder, Reg.tokenSinceLt] → shownOnly w = true) ∧
    (∀ a, a < 48 → shownOnly (Reg.lawStatus a) = true) ∧ (∀ t, t < 8 → shownOnly (Reg.calValid t) = true) ∧
    (∀ l, l < 16 → ∀ w, w ∈ [Reg.streamState l, Reg.segExec l, Reg.stopSeg l, Reg.stopReason l, Reg.stopPartial l, Reg.segDoneCount l] →
      shownOnly w = true) ∧
    (∀ n, n < 4 → ∀ w, w ∈ [Reg.masterState n, Reg.masterMac n, Reg.masterRank n, Reg.lastSeenLt n, Reg.pushAckSeq n] → shownOnly w = true) ∧
    ∀ k, k < 8 → ∀ w, w ∈ [Reg.encStatus k, Reg.encCount k] → shownOnly w = true := by decide +kernel

theorem shownOnly_device : ∀ w, w ∈ [Reg.lostCount, Reg.visStatus, Reg.timeState, Reg.activeDomain, Reg.freqEst, Reg.rateInUse, Reg.stepState,
    Reg.layerInUse, Reg.layerState, Reg.canStatus, Reg.tokenHolder, Reg.tokenSinceLt] → shownOnly w = true := shownOnly_followers.1

theorem shownOnly_lawStatus : ∀ a, a < 48 → shownOnly (Reg.lawStatus a) = true := shownOnly_followers.2.1
theorem shownOnly_calValid : ∀ t, t < 8 → shownOnly (Reg.calValid t) = true := shownOnly_followers.2.2.1
theorem shownOnly_stream : ∀ l, l < 16 → ∀ w, w ∈ [Reg.streamState l, Reg.segExec l, Reg.stopSeg l, Reg.stopReason l, Reg.stopPartial l,
    Reg.segDoneCount l] → shownOnly w = true := shownOnly_followers.2.2.2.1
theorem shownOnly_master : ∀ n, n < 4 → ∀ w, w ∈ [Reg.masterState n, Reg.masterMac n, Reg.masterRank n, Reg.lastSeenLt n, Reg.pushAckSeq n] →
    shownOnly w = true := shownOnly_followers.2.2.2.2.1
theorem shownOnly_enc : ∀ k, k < 8 → ∀ w, w ∈ [Reg.encStatus k, Reg.encCount k] → shownOnly w = true := shownOnly_followers.2.2.2.2.2

/-! ### Frames -/

/-- From `s` to `r` the sub-entry k and MODE keep their values, the answer stays, and nothing begins that the end of a command would
carry on. -/
structure UseFrame (k : Nat) (s r : State) : Prop where
  value : r.rd k = s.rd k
  code : r.modeCode = s.modeCode
  rest : (r.mode, r.monPending, r.lock.triggerUid, r.net.reply, r.pending) = (s.mode, s.monPending, s.lock.triggerUid, s.net.reply, s.pending)
  inbox : s.lock.inbox = [] → r.lock.inbox = []
  words : (∀ e, (s.enc e).words = []) → ∀ e, (r.enc e).words = []

namespace UseFrame

variable {k : Nat} {s r u : State}

theorem refl (s : State) : UseFrame k s s := ⟨rfl, rfl, rfl, id, id⟩

theorem trans (h : UseFrame k s r) (h' : UseFrame k r u) : UseFrame k s u :=
  ⟨h'.value.trans h.value, h'.code.trans h.code, h'.rest.trans h.rest, h'.inbox ∘ h.inbox, h'.words ∘ h.words⟩

theorem ite {c : Prop} [Decidable c] (h : c → UseFrame k s r) (h' : ¬ c → UseFrame k s u) : UseFrame k s (if c then r else u) := by
  split
  · exact h ‹_›
  · exact h' ‹_›

theorem each {n : Nat} {f : State → Nat → State} (h : ∀ r i, i < n → UseFrame k r (f r i)) : UseFrame k s (each n s f) :=
  each_of (P := UseFrame k s) (refl s) fun r i hi hr => hr.trans (h r i hi)

theorem foldl {α : Type} {f : State → α → State} (l : List α) (h : ∀ r a, UseFrame k r (f r a)) : UseFrame k s (l.foldl f s) :=
  foldl_of (P := UseFrame k s) l (refl s) fun r a _ hr => hr.trans (h r a)

theorem outside (h : UseFrame k s r) : r.outside = s.outside :=
  congrArg (fun x => (x.2.2.2.2, x.1.inReset, x.1.resetPinLow, x.1.supplyBad)) h.rest

theorem wr (w v : Nat) (hw : w ≠ k ∧ w ≠ Reg.mode) : UseFrame k s (s.wr w v) :=
  ⟨s.rd_wr_ne v hw.1.symm, s.rd_wr_ne v hw.2.symm, id rfl, id, id⟩

theorem modAxis (a : Nat) (f : Axis → Axis) : UseFrame k s (s.modAxis a f) := ⟨rfl, rfl, id rfl, id, id⟩
theorem modTile (t : Nat) (f : Tile → Tile) : UseFrame k s (s.modTile t f) := ⟨rfl, rfl, id rfl, id, id⟩
theorem modLaser (l : Nat) (f : Laser → Laser) : UseFrame k s (s.modLaser l f) := ⟨rfl, rfl, id rfl, id, id⟩
theorem modLayer (f : Layer → Layer) : UseFrame k s (s.modLayer f) := ⟨rfl, rfl, id rfl, id, id⟩
theorem modMaster (n : Nat) (f : Master → Master) : UseFrame k s (s.modMaster n f) := ⟨rfl, rfl, id rfl, id, id⟩

theorem raise (code cls inst : Nat) (data : List Nat) (hk : Reg.lostCount ≠ k) (hc : levelOf code < 2) :
    UseFrame k s (s.raise code cls inst data) where
  value := s.rd_raise code cls inst data hc hk.symm
  code := s.rd_raise code cls inst data hc (regKey_ne (by decide) (by decide) (by decide))
  rest := by simp [s.lock_raise code cls inst data hc]
  inbox h := by rw [s.lock_raise code cls inst data hc]; exact h
  words h e := by simpa [State.enc] using h e

theorem raiseIf (b : Bool) (code cls inst : Nat) (data : List Nat) (hk : Reg.lostCount ≠ k) (hc : levelOf code < 2) :
    UseFrame k s (s.raiseIf b code cls inst data) := by
  unfold State.raiseIf
  exact ite (fun _ => raise _ _ _ _ hk hc) fun _ => refl s

/-- What gives an emulator no words. -/
theorem modEnc {e : Nat} (f : Enc → Enc) (he : e < 8) (hf : ∀ x, x.words = [] → (f x).words = []) : UseFrame k s (s.modEnc e f) := by
  refine ⟨rfl, rfl, id rfl, id, fun h i => ?_⟩
  by_cases hi : i = e
  · subst hi
    rw [State.enc_modEnc_self _ _ he]
    exact hf _ (h i)
  · rw [State.enc_modEnc_ne _ _ hi]
    exact h i

end UseFrame

/-! ### What follows from a value in use (R65, R200, R241, R247, R301, R322) -/

section
variable {k : Nat} (hk : ∀ w, shownOnly w = true → w ≠ k ∧ w ≠ Reg.mode)
include hk

theorem UseFrame.lost : Reg.lostCount ≠ k := (hk _ (shownOnly_device _ (by simp))).1

omit hk in
theorem UseFrame.noteCode (s : State) (a : Nat) : UseFrame k s (s.noteCode a) := by
  unfold State.noteCode State.modAxo
  exact UseFrame.modAxis _ _

omit hk in
theorem UseFrame.setCode (s : State) (a : Nat) (c : Int) : UseFrame k s (s.setCode a c) := by
  unfold State.setCode State.modAxo
  exact (UseFrame.modAxis _ _).trans (noteCode _ _)

theorem UseFrame.stopLaw (s : State) {a : Nat} (ha : a < 48) : UseFrame k s (s.stopLaw a) := by
  unfold State.stopLaw State.modLaw
  refine ite (fun _ => refl s) fun _ => ?_
  refine UseFrame.trans ?_ (wr _ _ (hk _ (shownOnly_lawStatus a ha)))
  refine UseFrame.trans ?_ (ite (fun _ => refl _) fun _ => setCode _ _ _)
  refine UseFrame.trans ?_ (UseFrame.modAxis a _)
  exact (UseFrame.modAxis a _).trans (raiseIf _ _ _ _ _ (lost hk) (by decide))

theorem UseFrame.startRange (s : State) {a : Nat} (ha : a < 48) : UseFrame k s (s.startRange a) := by
  unfold State.startRange State.modAxo
  exact (((stopLaw hk s ha).trans (raiseIf _ _ _ _ _ (lost hk) (by decide))).trans (UseFrame.modAxis a _)).trans (setCode _ _ _)

omit hk in
theorem UseFrame.noteTest (s : State) : UseFrame k s s.noteTest := by
  unfold State.noteTest
  exact ite (fun _ => noteCode _ _) fun _ => refl s

omit hk in
theorem UseFrame.pulseFrom (s : State) (a : Nat) : UseFrame k s (s.pulseFrom a) := by
  unfold State.pulseFrom
  exact ite (fun _ => UseFrame.modAxis _ _) fun _ => refl s

omit hk in
theorem UseFrame.excitationChanged (s : State) (t j : Nat) : UseFrame k s (s.excitationChanged t j) := by
  unfold State.excitationChanged
  exact ite (fun _ => ite (fun _ => UseFrame.modTile _ _) fun _ => ite (fun _ => UseFrame.modTile _ _) fun _ => refl s) fun _ => refl s

theorem UseFrame.staleCheck (s : State) (t j : Nat) : UseFrame k s (s.staleCheck t j) := by
  unfold State.staleCheck State.modDriver
  exact (raiseIf _ _ _ _ _ (lost hk) (by decide)).trans (UseFrame.modTile _ _)

theorem UseFrame.afterUse (s : State) (old : Nat) : UseFrame k s (s.afterUse k old) := by
  have hshown (w : Nat) (hw : w ∈ [Reg.lostCount, Reg.visStatus, Reg.timeState, Reg.activeDomain, Reg.freqEst, Reg.rateInUse, Reg.stepState,
      Reg.layerInUse, Reg.layerState, Reg.canStatus, Reg.tokenHolder, Reg.tokenSinceLt]) {r : State} (v : Nat) : UseFrame k r (r.wr w v) :=
    wr _ _ (hk _ (shownOnly_device _ hw))
  unfold State.afterUse State.swapNow State.modLaw
  refine ite (fun haxis => ?_) fun _ => ite (fun htile => ?_) fun _ => ?_
  · have ha : (keyIndex k - 0x3000) / 0x40 < 48 := by omega
    refine ite (fun _ => ite (fun _ => refl s) fun _ => startRange hk s ha) fun _ => ite (fun _ => ite (fun _ => setCode _ _ _) fun _ => refl s) fun _ => ?_
    exact ite (fun _ => pulseFrom s _) fun _ => ite (fun _ => UseFrame.modAxis _ _) fun _ => ite (fun _ => UseFrame.modAxis _ _) fun _ => refl s
  · have ht : (keyIndex k - 0x2100) / 0x10 < 8 := by omega
    refine ite (fun _ => ite (fun _ => refl s) fun _ => ?_) fun _ => ite (fun _ => ?_) fun _ => refl s
    · exact (wr _ _ (hk _ (shownOnly_calValid _ ht))).trans (UseFrame.modTile _ _)
    · exact (excitationChanged s _ _).trans (staleCheck hk _ _ _)
  · refine ite (fun _ => UseFrame.trans (ite (fun _ => noteCode _ _) fun _ => refl s) (noteTest _)) fun _ => ite (fun _ => noteTest s) fun _ => ?_
    refine ite (fun _ => ite (fun _ => refl s) fun _ => hshown _ (by simp) _) fun _ => ite (fun _ => ?_) fun _ => ite (fun _ => hshown _ (by simp) _) fun _ => refl s
    refine UseFrame.trans (r := if s.rd Reg.timeMode = 1 then (s.wr Reg.timeState 0).wr Reg.activeDomain 0xFF else s) ?_ ?_
    · exact ite (fun _ => (hshown _ (by simp) _).trans (hshown _ (by simp) _)) fun _ => refl s
    · exact ite (fun _ => (hshown _ (by simp) _).trans (hshown _ (by simp) _)) fun _ => refl _

/-! ### Values with an effect of their own (R214, R285, R343) -/

omit hk in
theorem UseFrame.reform (s : State) : UseFrame k s s.reform :=
  ⟨rfl, rfl, id rfl, fun h => by show List.map _ s.lock.inbox = []; rw [h]; rfl, id⟩

theorem UseFrame.streamFresh (s : State) {l : Nat} (hl : l < 16) : UseFrame k s (s.streamFresh l) := by
  have hw (w : Nat) (h : w ∈ [Reg.streamState l, Reg.segExec l, Reg.stopSeg l, Reg.stopReason l, Reg.stopPartial l, Reg.segDoneCount l])
      (r : State) : UseFrame k r (r.wr w 0) := wr _ _ (hk _ (shownOnly_stream l hl w h))
  unfold State.streamFresh
  exact (((((hw _ (by simp) _).trans (hw _ (by simp) _)).trans (hw _ (by simp) _)).trans (hw _ (by simp) _)).trans
    (hw _ (by simp) _)).trans (hw _ (by simp) _)

theorem UseFrame.layerWaits (s : State) : UseFrame k s s.layerWaits := by
  unfold State.layerWaits
  refine UseFrame.trans ?_ (wr _ _ (hk _ (shownOnly_device _ (by simp))))
  exact (UseFrame.modLayer _).trans (UseFrame.each fun r l hl => (UseFrame.modLaser l _).trans (streamFresh hk _ hl))

theorem UseFrame.layerInto (s : State) (old : Nat) (hmode : s.modeCode = CONFIGURE) : UseFrame k s (s.layerInto old) := by
  unfold State.layerInto
  dsimp only
  set r := ((if s.rd Reg.layerState = 1 then s.raise 0x3518 cDEVICE 0 (dU 4 old ++ dU 4 (s.rd Reg.layerNumber)) else s).wr
    Reg.layerInUse ((if s.rd Reg.layerState = 1 then s.raise 0x3518 cDEVICE 0 (dU 4 old ++ dU 4 (s.rd Reg.layerNumber)) else s).rd
      Reg.layerNumber)).reform with hr
  have hframe : UseFrame k s r :=
    (UseFrame.trans (ite (fun _ => UseFrame.raise _ _ _ _ (lost hk) (by decide)) fun _ => refl s) (wr _ _ (hk _ (shownOnly_device _ (by simp))))).trans
      (UseFrame.reform _)
  rw [if_neg]
  · exact hframe.trans (UseFrame.layerWaits hk r)
  · rintro ⟨hbuild, -⟩
    rw [hframe.code, hmode] at hbuild
    exact absurd hbuild (by decide)

end

theorem shownOnly_canCfg {w : Nat} (h : shownOnly w = true) : w ≠ Reg.canCfg ∧ w ≠ Reg.mode := by
  obtain ⟨row, hrow, hro⟩ : ∃ row, Dict.row? Reg.canCfg = some row ∧ row.access ≠ .ro := ⟨_, by rfl, by decide⟩
  exact ne_of_shownOnly h hrow hro

section
variable (s : State)

theorem State.slot_lt {s : State} {n : Nat} (h : s.canSlot = some n ∨ s.freeSlot = some n) : n < 4 := by
  rcases h with h | h
  · simp only [State.canSlot, State.masterOf] at h
    exact List.mem_range.1 (List.mem_of_find?_eq_some h)
  · exact List.mem_range.1 (List.mem_of_find?_eq_some h)

theorem UseFrame.showRegistered : UseFrame Reg.canCfg s s.showRegistered := wr _ _ (shownOnly_canCfg (shownOnly_device _ (by simp)))

theorem UseFrame.takeSlot {n : Nat} (hn : n < 4) (kind mac rank port : Nat) (ts : Lt) :
    UseFrame Reg.canCfg s (s.takeSlot n kind mac rank port ts) := by
  have hw (w : Nat) (h : w ∈ [Reg.masterState n, Reg.masterMac n, Reg.masterRank n, Reg.lastSeenLt n, Reg.pushAckSeq n]) (r : State)
      (v : Nat) : UseFrame Reg.canCfg r (r.wr w v) := wr _ _ (shownOnly_canCfg (shownOnly_master n hn w h))
  have hpush (r : State) (v : Nat) : UseFrame Reg.canCfg r (r.wr (Reg.pushEnable n) v) :=
    wr _ _ ⟨regKey_ne (by decide) (by decide) (by omega), regKey_ne (by decide) (by decide) (by omega)⟩
  unfold State.takeSlot
  refine UseFrame.trans ?_ (UseFrame.raise _ _ _ _ (by decide) (by decide))
  refine UseFrame.trans ?_ (UseFrame.modMaster _ _)
  exact (((((hw _ (by simp) _ _).trans (hw _ (by simp) _ _)).trans (hw _ (by simp) _ _)).trans (hw _ (by simp) _ _)).trans
    (hpush _ _)).trans (hw _ (by simp) _ _)

theorem UseFrame.canWaiting (b : Bool) : UseFrame k s { s with legacy := { s.legacy with canWaiting := b } } := ⟨rfl, rfl, id rfl, id, id⟩

theorem UseFrame.canRegister : UseFrame Reg.canCfg s s.canRegister := by
  unfold State.canRegister
  refine ite (fun _ => ?_) fun _ => refl s
  split
  · next n hn => exact ((takeSlot s (State.slot_lt (Or.inr hn)) _ _ _ _ _).trans (canWaiting _ _)).trans (showRegistered _)
  · exact (UseFrame.trans (raiseIf _ _ _ _ _ (by decide) (by decide)) (canWaiting _ _)).trans (showRegistered _)

theorem UseFrame.setToken (n : Nat) : UseFrame Reg.canCfg s (s.setToken n) := by
  unfold State.setToken
  refine UseFrame.trans (r := s.wr Reg.tokenHolder n) (wr _ _ (shownOnly_canCfg (shownOnly_device _ (by simp)))) ?_
  exact ite (fun _ => refl _) fun _ => wr _ _ (shownOnly_canCfg (shownOnly_device _ (by simp)))

variable {s}

theorem UseFrame.freeMaster {n : Nat} (hn : n < 4) (hmode : s.modeCode = CONFIGURE) : UseFrame Reg.canCfg s (s.freeMaster n) := by
  have hw (w : Nat) (h : w ∈ [Reg.masterState n, Reg.masterMac n, Reg.masterRank n, Reg.lastSeenLt n, Reg.pushAckSeq n]) (r : State)
      (v : Nat) : UseFrame Reg.canCfg r (r.wr w v) := wr _ _ (shownOnly_canCfg (shownOnly_master n hn w h))
  unfold State.freeMaster
  dsimp only
  set r := (((s.wr (Reg.masterState n) 0).wr (Reg.masterMac n) 0).wr (Reg.masterRank n) 0).modMaster n fun _ => {} with hr
  have hframe : UseFrame Reg.canCfg s r :=
    (((hw _ (by simp) _ _).trans (hw _ (by simp) _ _)).trans (hw _ (by simp) _ _)).trans (UseFrame.modMaster _ _)
  refine ite (fun _ => ?_) fun _ => hframe
  have htoken := hframe.trans (setToken r 0xFF)
  rw [if_neg]
  · exact htoken
  · rw [htoken.code, hmode]
    decide

theorem UseFrame.canConfigured (hmode : s.modeCode = CONFIGURE) : UseFrame Reg.canCfg s s.canConfigured := by
  have hshow : UseFrame Reg.canCfg s s.showCan := wr _ _ (shownOnly_canCfg (shownOnly_device _ (by simp)))
  unfold State.canConfigured
  refine hshow.trans (ite (fun _ => canRegister _) fun _ => ?_)
  split
  · next n hn => exact (freeMaster (State.slot_lt (Or.inl hn)) (hshow.code.trans hmode)).trans (showRegistered _)
  · exact canWaiting _ _

end

theorem UseFrame.remapDram (s old : State) : UseFrame k s (s.remapDram old) := by
  unfold State.remapDram
  exact ite (fun _ => refl s) fun _ => ⟨rfl, rfl, id rfl, id, id⟩

/-- A value comes into use in its object, and what follows from it leaves the object alone. -/
theorem UseFrame.useValue {s : State} {k : Nat} (v : Nat) (hk : ∀ w, shownOnly w = true → w ≠ k ∧ w ≠ Reg.mode) (hbank : bankKey k = none)
    (hmode : k = Reg.layerNumber ∨ k = Reg.canCfg → s.modeCode = CONFIGURE) : UseFrame k (s.wr k v) (s.useValue k v) := by
  have hput : UseFrame k (s.wr k v) (s.putInUse k v) := afterUse hk _ _
  have hcode (hne : k ≠ Reg.mode) : (s.putInUse k v).modeCode = s.modeCode := hput.code.trans (s.rd_wr_ne v hne.symm)
  unfold State.useValue
  rw [hbank]
  dsimp only
  refine ite (fun hlayer => ?_) fun _ => ite (fun hcan => ?_) fun _ => ite (fun _ => hput.trans (remapDram _ _)) fun _ => ite (fun _ => ?_) fun _ => hput
  · exact hput.trans (layerInto hk _ _ ((hcode (by rw [hlayer]; decide)).trans (hmode (Or.inl hlayer))))
  · subst hcan
    exact hput.trans (canConfigured ((hcode (by decide)).trans (hmode (Or.inr rfl))))
  · split
    · next n hn => exact hput.trans (wr _ _ (hk _ (shownOnly_master n (State.slot_lt (Or.inl hn)) _ (by simp))))
    · exact hput

end Sys2Proof.Machine
end

section
/-! PROOFS. O38: a write refuses, takes effect at once or stages (R37 to R39, R44, R49). -/

namespace Sys2Proof.Machine

/-! ### The end of a command whose value has come into use -/

section
variable {k : Nat} (hk : ∀ w, shownOnly w = true → w ≠ k ∧ w ≠ Reg.mode)
include hk

theorem UseFrame.showEnc (s : State) {e : Nat} (he : e < 8) : UseFrame k s (s.showEnc e) :=
  (wr _ _ (hk _ (shownOnly_enc e he _ (by simp)))).trans (wr _ _ (hk _ (shownOnly_enc e he _ (by simp))))

omit hk in
theorem UseFrame.encStart (s : State) {e : Nat} (he : e < 8) : UseFrame k s (s.encStart e) := by
  have htaken (x : Enc) (hx : x.words = []) : x.words.filter (fun y : Lt × Words => decide (s.lt < y.1)) = [] := by rw [hx]; rfl
  unfold State.encStart State.encPreset
  dsimp only
  split
  · exact UseFrame.trans (modEnc _ he htaken) (modEnc _ he fun x hx => hx)
  · exact UseFrame.trans (modEnc _ he htaken) (modEnc _ he fun x hx => hx)

omit hk in
theorem UseFrame.encStop (s : State) {e : Nat} (he : e < 8) : UseFrame k s (s.encStop e) := modEnc _ he fun _ hx => hx

omit hk in
theorem UseFrame.encHold (s : State) {e : Nat} (he : e < 8) :
    UseFrame k s (s.modEnc e fun x => { x with holding := true, backlog := 0, next := none }) := modEnc _ he fun _ hx => hx

theorem UseFrame.encFollow (s : State) : UseFrame k s s.encFollow := by
  refine UseFrame.each fun r e he => ?_
  dsimp only
  split
  · exact (encStart r he).trans (showEnc hk _ he)
  split
  · exact (encStop r he).trans (showEnc hk _ he)
  split
  · exact (encHold r he).trans (showEnc hk _ he)
  · exact refl r

omit hk in
theorem UseFrame.calAdvance (s : State) : UseFrame k s s.calAdvance := by
  unfold State.calAdvance
  refine ite (fun _ => refl s) fun _ => UseFrame.each fun r t _ => ?_
  dsimp only
  exact ite (fun _ => (UseFrame.modTile t _).trans (UseFrame.foldl _ fun r a => UseFrame.modAxis a _)) fun _ => refl r

theorem UseFrame.updateDeferrals (s : State) : UseFrame k s s.updateDeferrals := by
  have hframe : PoundFrame (· = Reg.lostCount) (fun _ => False) s s.updateDeferrals := PoundFrame.updateDeferrals rfl
  have hne := hk _ (shownOnly_device Reg.lostCount (by simp))
  have hrest := hframe.rest
  simp only [State.commitRest, Prod.mk.injEq] at hrest
  obtain ⟨-, hmode, -, -, -, hlock, hlegacy, hmon, hnet, hpending⟩ := hrest
  refine ⟨hframe.regs k hne.1.symm, hframe.regs _ hne.2.symm, by rw [hmode, hmon, hlock, hnet, hpending], fun h => by rw [hlock]; exact h, fun h e => ?_⟩
  rw [State.enc, hlegacy]
  exact h e

/-- Where nothing waits, the end of a command leaves the value in use, and MODE. -/
theorem UseFrame.done {s : State} (hmon : s.monPending = []) (htransition : s.mode.transition = none) (hinbox : s.lock.inbox = [])
    (htrigger : s.lock.triggerUid = none) (hwords : ∀ e, (s.enc e).words = []) : UseFrame k s s.done := by
  have hfollow := UseFrame.encFollow hk s
  have hencWords : s.encFollow.encWords = s.encFollow := each_id fun e _ => by
    dsimp only
    rw [hfollow.words hwords e]
  have hcal : UseFrame k s s.encFollow.calAdvance := hfollow.trans (UseFrame.calAdvance _)
  have hrest := hcal.rest
  simp only [Prod.mk.injEq] at hrest
  obtain ⟨hmode, -, htrigger', -, -⟩ := hrest
  have hsettle : s.encFollow.calAdvance.settleMode = s.encFollow.calAdvance := by rw [State.settleMode, hmode, htransition]
  have hdetect : s.encFollow.calAdvance.detect = s.encFollow.calAdvance := State.detect_of (hcal.inbox hinbox)
  have hlater : UseFrame k s s.encFollow.calAdvance.updateDeferrals := hcal.trans (UseFrame.updateDeferrals hk _)
  have hsync : s.encFollow.calAdvance.updateDeferrals.syncTrigger = s.encFollow.calAdvance.updateDeferrals := by
    have hnone : s.encFollow.calAdvance.updateDeferrals.lock.triggerUid = none := by
      have h := hlater.rest
      simp only [Prod.mk.injEq] at h
      rw [h.2.2.1, htrigger]
    rw [State.syncTrigger, hnone]
  rw [State.done, State.monReady_of hmon, hencWords, hsettle, State.finish, hdetect, hsync]
  exact hlater

end

/-- The words of the emulators of a still state have all been taken. -/
theorem State.words_of_still {s : State} (hs : s.still = true) (e : Nat) : (s.enc e).words = [] := by
  by_cases he : e < 8
  · have hrests := (State.Calm.of_still hs).emulators e he
    simp only [State.encRests, Bool.and_eq_true, List.isEmpty_iff] at hrests
    exact hrests.1.2
  · simp [State.enc, he]

/-! ### A WRITE of a registered master -/

section
variable {s : State} {dt n i b : Nat} {src : Source} {v : List Nat} {row : Row} (hs : s.still = true)
  (h : (s.advance dt).speaks src n = true) (hvendor : ¬(0x5000 ≤ i ∧ i < 0x6000)) (hindex : Dict.hasIndex i = true) (hb : b < 256)
  (hrow : Dict.row? (regKey i b) = some row) (hv : v.length < 256) (haccess : row.access ≠ .wo) (hmem : regKey i b ≠ Reg.memData)
include h hvendor hindex hb hrow hv haccess hmem

omit h hvendor hindex hb hv hmem in
/-- No sub-entry but a command needs the token. -/
theorem needsToken_of_row : needsToken (regKey i b) v = false := by
  have hcommand (c : Nat) (hc : (Dict.row? c).any (fun r => r.access == .wo) = true) : (regKey i b == c) = false := by
    refine beq_false_of_ne ?_
    rintro rfl
    rw [hrow] at hc
    simp [haccess] at hc
  rw [needsToken, hcommand Reg.parkCmd (by decide +kernel), hcommand Reg.modeCmd (by decide +kernel)]
  rfl

/-- What serving the message does. -/
theorem State.serveAlone_write : (s.advance dt).serveAlone src { service := svcWRITE, tag := 0, index := i, sub := b, data := v } =
    (((s.advance dt).received src).writeObject row (regKey i b) v).1.answer
      (((s.advance dt).received src).writeObject row (regKey i b) v).2 [] := by
  obtain ⟨hheard, hmaster, hunheld⟩ := State.masterOf_speaks h
  have hheld : ((s.advance dt).received src).memHeld src { service := svcWRITE, tag := 0, index := i, sub := b, data := v } = false :=
    State.memHeld_of src (State.unheld_received (s := s.advance dt) src hunheld) (by simp [Msg.ofMemData, hmem])
  have hmaster' : ((s.advance dt).received src).masterOf src = some n := ((s.advance dt).masterOf_received src src).trans hmaster
  have hwrite (r : State) : r.masterWrite n src i b v = r.writeObject row (regKey i b) v := by
    rw [State.masterWrite, needsToken_of_row hrow haccess, State.doWrite_object r hvendor hindex hb hrow haccess]
    rfl
  simp only [State.serveAlone, hheard, if_true, State.message]
  rw [← State.received, hheld]
  simp only [Bool.false_eq_true, if_false]
  rw [State.serve_write _ _ _ _ _ _ hmaster' hv, hwrite]

include hs

theorem exec_write_done : exec (.write dt src i b v) s =
    .next (s.keep ((((s.advance dt).received src).writeObject row (regKey i b) v).1.answer
      (((s.advance dt).received src).writeObject row (regKey i b) v).2 []).done) := by
  show execWrite dt src i b v s = _
  rw [execWrite, State.upAt_of_still hs, State.serveAlone_write h hvendor hindex hb hrow hv haccess hmem]

/-- A write that leaves a still state. -/
theorem exec_write_still {t : State} {c : Nat} (hwrite : ((s.advance dt).received src).writeObject row (regKey i b) v = (t, c))
    (ht : t.still = true) (ho : t.outside = s.outside) : exec (.write dt src i b v) s = .next (t.answer c []) := by
  have hanswer : (t.answer c []).still = true := by rw [State.still_answer]; exact ht
  rw [exec_write_done hs h hvendor hindex hb hrow hv haccess hmem, hwrite, State.done_still hanswer,
    State.keep_of (by rw [State.outside_answer]; exact ho)]

/-- A write that is refused. -/
theorem exec_write_refused {c : Nat}
    (hwrite : ((s.advance dt).received src).writeObject row (regKey i b) v = ((s.advance dt).received src, c)) :
    exec (.write dt src i b v) s = .next (((s.advance dt).received src).answer c []) :=
  exec_write_still hs h hvendor hindex hb hrow hv haccess hmem hwrite (State.still_heard hs) (State.outside_heard s dt src)

end

/-! ### The checks of a write in their order (R38) -/

section
variable {s : State} {r : Row} {k : Nat} {b : List Nat}

theorem State.writeObject_readOnly (h : r.access = .ro) : s.writeObject r k b = (s, 0xA010) := by simp [State.writeObject, h]

variable (hro : r.access ≠ .ro)
include hro

theorem State.writeObject_otherLength {m : Nat} (hsize : tySize r.ty = some m) (hlen : b.length ≠ m) : s.writeObject r k b = (s, 0xA013) := by
  simp [State.writeObject, hro, lengthFits, hsize, hlen]

variable (hsize : tySize r.ty = some b.length)
include hsize

omit hro in
theorem lengthFits_of_size : lengthFits r b.length = true := by simp [lengthFits, hsize]

theorem State.writeObject_refused (hway : s.writeWay r.access k = .refused) : s.writeObject r k b = (s, 0xA011) := by
  simp [State.writeObject, hro, lengthFits_of_size hsize, hway]

theorem State.writeObject_closed (hway : s.writeWay r.access k = .staged) (hclosed : (s.pound (scopeOf k)).closed = true) :
    s.writeObject r k b = (s, 0xA030) := by
  simp [State.writeObject, hro, lengthFits_of_size hsize, hway, hclosed]

variable (hmem : k ≠ Reg.memData) (hprofile : k ≠ Reg.profileWrData)
include hmem hprofile

theorem State.writeObject_busy (hway : s.writeWay r.access k = .direct) (hcode : s.stateCode k true ≠ 0) :
    s.writeObject r k b = (s, s.stateCode k true) := by
  simp [State.writeObject, hro, lengthFits_of_size hsize, hway, hmem, hprofile, hcode]

theorem State.writeObject_outOfRange (hway : s.writeWay r.access k = .direct) (hcode : s.stateCode k true = 0)
    (hrange : s.inRange r k (ofLeBytes b) true = false) : s.writeObject r k b = (s, 0xA012) := by
  simp [State.writeObject, hro, lengthFits_of_size hsize, hway, hmem, hprofile, hcode, hrange]

theorem State.writeObject_stagedOutOfRange (hway : s.writeWay r.access k = .staged) (hopen : (s.pound (scopeOf k)).closed = false)
    (hcode : s.stateCode k false = 0) (hrange : s.inRange r k (ofLeBytes b) false = false) : s.writeObject r k b = (s, 0xA012) := by
  have hstaged : (WriteWay.staged == WriteWay.direct) = false := rfl
  simp [State.writeObject, hro, lengthFits_of_size hsize, hway, hmem, hprofile, hopen, hstaged, hcode, hrange]

end

/-- The sub-entries of type DOMAIN that are written have no fixed size. -/
theorem ne_domain_of_size {k n : Nat} {row : Row} (hrow : Dict.row? k = some row) (hsize : tySize row.ty = some n) :
    k ≠ Reg.memData ∧ k ≠ Reg.profileWrData := by
  have hdomain (c : Nat) (hc : (Dict.row? c).any (fun r => (tySize r.ty).isNone) = true) : k ≠ c := by
    rintro rfl
    rw [hrow] at hc
    simp [hsize] at hc
  exact ⟨hdomain _ (by decide +kernel), hdomain _ (by decide +kernel)⟩

theorem ne_memData_of_readOnly {k : Nat} {row : Row} (hrow : Dict.row? k = some row) (hro : row.access = .ro) : k ≠ Reg.memData := by
  have hc : (Dict.row? Reg.memData).all (fun r => r.access != .ro) = true := by decide +kernel
  rintro rfl
  rw [hrow] at hc
  simp [hro] at hc

theorem rws_layerNumber : ∃ row, Dict.row? Reg.layerNumber = some row ∧ row.access = .rws := ⟨_, by rfl, rfl⟩
theorem rwc_canCfg : ∃ row, Dict.row? Reg.canCfg = some row ∧ row.access = .rwc := ⟨_, by rfl, rfl⟩

/-- LAYER_NUMBER and CAN_CFG take effect at once in CONFIGURE only. -/
theorem configure_of_direct {s : State} {k : Nat} {row : Row} (hrow : Dict.row? k = some row)
    (hdirect : row.access = .rw ∨ (row.access = .rwc ∨ row.access = .rws) ∧ s.modeCode = CONFIGURE)
    (hk : k = Reg.layerNumber ∨ k = Reg.canCfg) : s.modeCode = CONFIGURE := by
  have hrw : row.access ≠ .rw := by
    rcases hk with rfl | rfl
    · obtain ⟨row', hrow', haccess⟩ := rws_layerNumber
      rw [Option.some.inj (hrow.symm.trans hrow'), haccess]; decide
    · obtain ⟨row', hrow', haccess⟩ := rwc_canCfg
      rw [Option.some.inj (hrow.symm.trans hrow'), haccess]; decide
  exact (hdirect.resolve_left hrw).2

theorem State.writeWay_direct {s : State} {a : Access} {k : Nat} (h : a = .rw ∨ (a = .rwc ∨ a = .rws) ∧ s.modeCode = CONFIGURE) :
    s.writeWay a k = .direct := by
  rcases h with rfl | ⟨rfl | rfl, hmode⟩
  · rfl
  · simp [State.writeWay, hmode]
  · simp [State.writeWay, hmode]

theorem State.writeWay_staged {s : State} {k : Nat} (h : s.inRunOrHold = true) : s.writeWay .rws k = .staged := by
  have hconfigure : s.modeCode ≠ CONFIGURE := fun hc => by
    rw [State.inRunOrHold, hc] at h
    revert h
    decide
  simp [State.writeWay, h, hconfigure]

/-! ### The statement -/

theorem State.modeCode_heard (s : State) (dt : Nat) (src : Source) : ((s.advance dt).received src).modeCode = s.modeCode :=
  (s.advance dt).rd_received src fun k _ => ⟨regKey_ne (by decide) (by decide) (by omega), regKey_ne (by decide) (by decide) (by omega)⟩

theorem State.inRunOrHold_heard (s : State) (dt : Nat) (src : Source) : ((s.advance dt).received src).inRunOrHold = s.inRunOrHold := by
  simp only [State.inRunOrHold, State.modeCode_heard]

section
variable {s : State} {dt n i b : Nat} {src : Source} {v : List Nat} {row : Row} (hs : s.still = true)
  (h : (s.advance dt).speaks src n = true) (hvendor : ¬(0x5000 ≤ i ∧ i < 0x6000)) (hindex : Dict.hasIndex i = true) (hb : b < 256)
  (hrow : Dict.row? (regKey i b) = some row) (hv : v.length < 256)
include hs h hvendor hindex hb hrow hv

/-- A value in range comes into use at once. -/
theorem exec_write_direct (hdirect : row.access = .rw ∨ (row.access = .rwc ∨ row.access = .rws) ∧ s.modeCode = CONFIGURE)
    (hsize : tySize row.ty = some v.length) (hbank : bankKey (regKey i b) = none)
    (hcode : ((s.advance dt).received src).stateCode (regKey i b) true = 0)
    (hrange : ((s.advance dt).received src).inRange row (regKey i b) (ofLeBytes v) true = true)
    (hlate : ((s.advance dt).received src).tooLate (regKey i b) (ofLeBytes v) = false) :
    ∃ t, exec (.write dt src i b v) s = .next t ∧ t.rd (regKey i b) = ofLeBytes v ∧ t.net.reply.abort = 0 ∧ t.modeCode = s.modeCode := by
  set k := regKey i b with hkey
  set r := (s.advance dt).received src with hr
  obtain ⟨hmem, hprofile⟩ := ne_domain_of_size hrow hsize
  have hro : row.access ≠ .ro := by rcases hdirect with h | ⟨h | h, -⟩ <;> rw [h] <;> decide
  have hwo : row.access ≠ .wo := by rcases hdirect with h | ⟨h | h, -⟩ <;> rw [h] <;> decide
  have hshown : ∀ w, shownOnly w = true → w ≠ k ∧ w ≠ Reg.mode := fun w hw => ne_of_shownOnly hw hrow hro
  have hmode : r.modeCode = s.modeCode := s.modeCode_heard dt src
  have hdirect' : row.access = .rw ∨ (row.access = .rwc ∨ row.access = .rws) ∧ r.modeCode = CONFIGURE := by rw [hmode]; exact hdirect
  have hwrite : r.writeObject row k v = (r.useValue k (ofLeBytes v), 0) :=
    State.writeObject_direct hro (lengthFits_of_size hsize) hmem hprofile hlate (State.writeWay_direct hdirect') hcode hrange
  have hmodeKey : k ≠ Reg.mode := by
    intro he
    obtain ⟨row', hrow', hro'⟩ : ∃ row, Dict.row? Reg.mode = some row ∧ row.access = .ro := ⟨_, by rfl, rfl⟩
    rw [he] at hrow
    exact hro (by rw [Option.some.inj (hrow.symm.trans hrow'), hro'])
  -- the still state before the value
  have hstill : r.still = true := State.still_heard hs
  have huse : UseFrame k (r.wr k (ofLeBytes v)) (r.useValue k (ofLeBytes v)) :=
    UseFrame.useValue _ hshown hbank (configure_of_direct hrow hdirect')
  obtain ⟨-, -, -, hmon, htransition, hinbox, htrigger, -⟩ := State.still_spec hstill
  have hrest := huse.rest
  simp only [Prod.mk.injEq] at hrest
  obtain ⟨hmodeSt, hmon', htrigger', -, -⟩ := hrest
  set u := (r.useValue k (ofLeBytes v)).answer 0 [] with hu
  have hdone : UseFrame k u u.done :=
    UseFrame.done hshown (hmon'.trans hmon) ((congrArg ModeSt.transition hmodeSt).trans htransition) (huse.inbox hinbox)
      (htrigger'.trans htrigger) (huse.words fun e => State.words_of_still hstill e)
  have hout : u.done.outside = s.outside := by
    rw [hdone.outside, hu, State.outside_answer, huse.outside, State.outside_wr, hr, State.outside_heard]
  have hreply := hdone.rest
  simp only [Prod.mk.injEq] at hreply
  refine ⟨u.done, ?_, ?_, ?_, ?_⟩
  · rw [exec_write_done hs h hvendor hindex hb hrow hv hwo hmem, ← hr, ← hkey, hwrite, State.keep_of hout]
  · exact (hdone.value.trans huse.value).trans (State.rd_wr_self _ _ _)
  · rw [hreply.2.2.2.1]; rfl
  · exact ((hdone.code.trans huse.code).trans (r.rd_wr_ne _ hmodeKey.symm)).trans hmode

/-- A value in range is staged in the pound of its scope. -/
theorem exec_write_staged (haccess : row.access = .rws) (hsize : tySize row.ty = some v.length) (hmode : s.inRunOrHold = true)
    (hopen : (s.pound (scopeOf (regKey i b))).armed = none)
    (hcode : ((s.advance dt).received src).stateCode (regKey i b) false = 0)
    (hrange : ((s.advance dt).received src).inRange row (regKey i b) (ofLeBytes v) false = true)
    (hlate : ((s.advance dt).received src).tooLate (regKey i b) (ofLeBytes v) = false) :
    exec (.write dt src i b v) s = .next ((((s.advance dt).received src).modPound (scopeOf (regKey i b)) fun y =>
      y.stage (regKey i b) (ofLeBytes v)).answer 0 []) := by
  obtain ⟨hmem, hprofile⟩ := ne_domain_of_size hrow hsize
  have hway : ((s.advance dt).received src).writeWay row.access (regKey i b) = .staged := by
    rw [haccess]; exact State.writeWay_staged ((s.inRunOrHold_heard dt src).trans hmode)
  refine exec_write_still hs h hvendor hindex hb hrow hv (by rw [haccess]; decide) hmem
    (State.writeObject_staged (by rw [haccess]; decide) (lengthFits_of_size hsize) hmem hprofile hlate hway ?_ hcode hrange)
    (State.still_stage _ _ _ (State.still_heard hs)) ?_
  · rw [State.pound_heard, Pound.closed, hopen]; rfl
  · rw [State.outside_modPound, State.outside_heard]

/-- The refusals of a sub-entry that is neither read-only nor a command. -/
theorem exec_write_checks (hro : row.access ≠ .ro) (hwo : row.access ≠ .wo) (hsize : tySize row.ty = some v.length) :
    let r := (s.advance dt).received src
    let k := regKey i b
    (row.access = .rws → s.modeCode ≠ CONFIGURE → s.inRunOrHold = false → exec (.write dt src i b v) s = .next (r.answer 0xA011 [])) ∧
    (row.access = .rwc → s.modeCode ≠ CONFIGURE → r.unitParked k = false → exec (.write dt src i b v) s = .next (r.answer 0xA011 [])) ∧
    (row.access = .rws → s.inRunOrHold = true → (s.pound (scopeOf k)).armed.isSome = true →
      exec (.write dt src i b v) s = .next (r.answer 0xA030 [])) ∧
    (row.access = .rw ∨ (row.access = .rwc ∨ row.access = .rws) ∧ s.modeCode = CONFIGURE →
      (r.stateCode k true ≠ 0 → exec (.write dt src i b v) s = .next (r.answer (r.stateCode k true) [])) ∧
      (r.stateCode k true = 0 → r.inRange row k (ofLeBytes v) true = false → exec (.write dt src i b v) s = .next (r.answer 0xA012 []))) ∧
    (row.access = .rws → s.inRunOrHold = true → (s.pound (scopeOf k)).armed = none → r.stateCode k false = 0 →
      r.inRange row k (ofLeBytes v) false = false → exec (.write dt src i b v) s = .next (r.answer 0xA012 [])) := by
  intro r k
  obtain ⟨hmem, hprofile⟩ := ne_domain_of_size hrow hsize
  have hmode : r.modeCode = s.modeCode := s.modeCode_heard dt src
  have hrun : r.inRunOrHold = s.inRunOrHold := s.inRunOrHold_heard dt src
  have hrefuse {c : Nat} (hwrite : r.writeObject row k v = (r, c)) : exec (.write dt src i b v) s = .next (r.answer c []) :=
    exec_write_refused hs h hvendor hindex hb hrow hv hwo hmem hwrite
  refine ⟨fun haccess hconf hout => ?_, fun haccess hconf hserving => ?_, fun haccess hin harmed => ?_, fun hdirect => ?_,
    fun haccess hin hopen hcode hrange => ?_⟩
  · exact hrefuse (State.writeObject_refused hro hsize (by simp [haccess, State.writeWay, hmode, hconf, hrun, hout]))
  · exact hrefuse (State.writeObject_refused hro hsize (by simp [haccess, State.writeWay, hmode, hconf, hserving]))
  · exact hrefuse (State.writeObject_closed hro hsize (by rw [haccess]; exact State.writeWay_staged (hrun.trans hin))
      (by rw [State.pound_heard]; exact harmed))
  · have hway : r.writeWay row.access k = .direct := State.writeWay_direct (by rw [hmode]; exact hdirect)
    exact ⟨fun hcode => hrefuse (State.writeObject_busy hro hsize hmem hprofile hway hcode),
      fun hcode hrange => hrefuse (State.writeObject_outOfRange hro hsize hmem hprofile hway hcode hrange)⟩
  · exact hrefuse (State.writeObject_stagedOutOfRange hro hsize hmem hprofile (by rw [haccess]; exact State.writeWay_staged (hrun.trans hin))
      (by rw [State.pound_heard, Pound.closed, hopen]; rfl) hcode hrange)

end

/-- Settles O38: a write is judged in the order of R38, and what follows from a value in use leaves its object and MODE alone. -/
theorem writesTakeEffect : Obligations.WritesTakeEffect := by
  unfold Obligations.WritesTakeEffect
  intro s dt n i b src v row hs h hvendor hindex hb hrow hv
  refine ⟨fun hro => ?_, fun hdirect hsize hbank hcode hrange hlate => exec_write_direct hs h hvendor hindex hb hrow hv hdirect hsize hbank hcode hrange hlate,
    fun haccess hsize hmode hopen hcode hrange hlate => exec_write_staged hs h hvendor hindex hb hrow hv haccess hsize hmode hopen hcode hrange hlate,
    fun hro hwo => ⟨fun m hsize hlen => ?_, fun hsize => exec_write_checks hs h hvendor hindex hb hrow hv hro hwo hsize⟩⟩
  · exact exec_write_refused hs h hvendor hindex hb hrow hv (by rw [hro]; decide) (ne_memData_of_readOnly hrow hro)
      (State.writeObject_readOnly hro)
  · exact exec_write_refused hs h hvendor hindex hb hrow hv hwo (ne_domain_of_size hrow hsize).1
      (State.writeObject_otherLength hro hsize hlen)

end Sys2Proof.Machine
end

section
/-! PROOFS. What the parts of a LOOP boundary leave alone (R29, R41, R46, R47): the frame that the statements of the boundaries and of
the lockages share. -/

namespace Sys2Proof.Machine

theorem State.laser_modLaser (s : State) (l j : Nat) (f : Laser → Laser) :
    (s.modLaser l f).laser j = s.laser j ∨ j = l ∧ (s.modLaser l f).laser j = f (s.laser j) := by
  by_cases hj : j = l
  · subst hj
    by_cases h16 : j < 16
    · exact Or.inr ⟨rfl, State.laser_modLaser_self _ _ h16⟩
    · left; simp [State.laser, State.modLaser, h16]
  · exact Or.inl (State.laser_modLaser_ne _ _ hj)

/-! ### What a statement watches over a boundary -/

/-- The registers, pounds and units that a statement follows over a part of a boundary. -/
structure Watched where
  regs : Nat → Prop
  pounds : Nat → Prop
  laws : Nat → Prop
  ranges : Nat → Prop
  drives : Nat → Prop
  rest : Prop
  lock : Prop
  mem : Prop
  cams : Prop
  streams : Nat → Prop
  plans : Prop

/-- Nothing but the time and the boundaries of the engines. -/
def Watched.none : Watched :=
  { regs := fun _ => False, pounds := fun _ => False, laws := fun _ => False, ranges := fun _ => False, drives := fun _ => False
    rest := False, lock := False, mem := False, cams := False, streams := fun _ => False, plans := False }

/-- Sub-entries that a boundary writes only as it locks, as a stream or the mode goes on, or not at all: those that are
configured, LAST_LOCKAGE_LT and LOCKAGE_COUNT of the pounds, SWAP_COUNT and SWAP_LOST_COUNT of the axes, MEM_STATE, MODE,
LAYER_STATE and the states of the streams. -/
def lockKey (k : Nat) : Bool :=
  (Dict.row? k).any (fun r => r.access == .rws || r.access == .rwc) ||
    (recordPound (keyIndex k)).isSome && (keySub k == 5 || keySub k == 6) ||
    decide (0x3000 ≤ keyIndex k) && decide (keyIndex k < 0x3C00) && keyIndex k % 0x40 == 0x26 && (keySub k == 0x0B || keySub k == 0x0C) ||
    (k == Reg.memState || k == Reg.mode || k == Reg.layerState) || (List.range 16).any fun l => k == Reg.streamState l

def Watched.Lawful (w : Watched) : Prop := ∀ k, w.regs k → lockKey k = true

theorem Watched.lawful_none : Watched.none.Lawful := fun _ h => h.elim

theorem Watched.Lawful.not_regs {w : Watched} (hw : w.Lawful) {k : Nat} (hk : lockKey k = false) : ¬ w.regs k := fun h => by
  rw [hw k h] at hk; cases hk

/-- What the lock-keeper does. -/
def State.keeping (s : State) := (s.lock.running, s.lock.queue, s.lock.doneLt, s.lock.holdRun, s.lock.leftover)

/-- What a boundary carries on without a transition: the mode, the monitor results, the legacy interfaces and the network. -/
def State.carrying (s : State) := (s.mode, s.monPending, s.legacy, s.net)

def Engine.beat (e : Engine) := (e.lastLoop, e.before)

/-- What an engine has before it: the commands that wait for their boundaries, the unit that returns, and a fall of its pin. -/
def Engine.plan (e : Engine) := (e.due, e.returnCls, e.pinFell)

/-- From `s` to `r` the time, the boundaries of the engines, the requests that wait for the memory and what `w` watches stay, and no
correction becomes a candidate. -/
structure LoopFrame (w : Watched) (s r : State) : Prop where
  lt : r.lt = s.lt
  beats : ∀ i, (r.engine i).beat = (s.engine i).beat
  regs : ∀ k, w.regs k → r.rd k = s.rd k
  pounds : ∀ p, w.pounds p → r.pound p = s.pound p
  laws : ∀ a, w.laws a → (r.axis a).law = (s.axis a).law
  ranges : ∀ a, w.ranges a → (r.axis a).axo.rangePhase = (s.axis a).axo.rangePhase
  drives : ∀ t, w.drives t → ∀ j, (r.driver t j).settling = (s.driver t j).settling
  rest : w.rest → r.carrying = s.carrying
  lock : w.lock → r.keeping = s.keeping
  mem : w.mem → r.memPort = s.memPort
  cams : w.cams → r.vision.cams = s.vision.cams
  held : r.net.held = s.net.held
  streams : ∀ l, w.streams l → (r.laser l).stream = (s.laser l).stream
  plans : w.plans → ∀ i, (r.engine i).plan = (s.engine i).plan
  cands : ∀ l x, x ∈ (r.laser l).cands → x ∈ (s.laser l).cands

namespace LoopFrame

variable {w : Watched} {s r u : State}

theorem refl (s : State) : LoopFrame w s s :=
  ⟨rfl, fun _ => rfl, fun _ _ => rfl, fun _ _ => rfl, fun _ _ => rfl, fun _ _ => rfl, fun _ _ _ => rfl, fun _ => rfl, fun _ => rfl,
    fun _ => rfl, fun _ => rfl, rfl, fun _ _ => rfl, fun _ _ => rfl, fun _ _ => id⟩

theorem trans (h : LoopFrame w s r) (h' : LoopFrame w r u) : LoopFrame w s u where
  lt := h'.lt.trans h.lt
  beats i := (h'.beats i).trans (h.beats i)
  regs k hk := (h'.regs k hk).trans (h.regs k hk)
  pounds p hp := (h'.pounds p hp).trans (h.pounds p hp)
  laws a ha := (h'.laws a ha).trans (h.laws a ha)
  ranges a ha := (h'.ranges a ha).trans (h.ranges a ha)
  drives t ht j := (h'.drives t ht j).trans (h.drives t ht j)
  rest hr := (h'.rest hr).trans (h.rest hr)
  lock hl := (h'.lock hl).trans (h.lock hl)
  mem hm := (h'.mem hm).trans (h.mem hm)
  cams hc := (h'.cams hc).trans (h.cams hc)
  held := h'.held.trans h.held
  streams l hl := (h'.streams l hl).trans (h.streams l hl)
  plans hp i := (h'.plans hp i).trans (h.plans hp i)
  cands l x hx := h.cands l x (h'.cands l x hx)

theorem ite {c : Prop} [Decidable c] (h : c → LoopFrame w s r) (h' : ¬ c → LoopFrame w s u) : LoopFrame w s (if c then r else u) := by
  split
  · exact h ‹_›
  · exact h' ‹_›

/-- A step that is taken only under a condition. -/
theorem when {c : Prop} [Decidable c] (h : c → LoopFrame w s r) : LoopFrame w s (if c then r else s) := ite h fun _ => refl s

theorem otherwise {c : Prop} [Decidable c] (h : ¬ c → LoopFrame w s r) : LoopFrame w s (if c then s else r) := ite (fun _ => refl s) h

theorem each {n : Nat} {f : State → Nat → State} (h : ∀ r i, i < n → LoopFrame w r (f r i)) : LoopFrame w s (each n s f) :=
  each_of (P := LoopFrame w s) (refl s) fun r i hi hr => hr.trans (h r i hi)

theorem foldl {α : Type} {f : State → α → State} (l : List α) (h : ∀ r a, a ∈ l → LoopFrame w r (f r a)) : LoopFrame w s (l.foldl f s) :=
  foldl_of (P := LoopFrame w s) l (refl s) fun r a ha hr => hr.trans (h r a ha)

/-- A change of registers alone. -/
theorem wr (k v : Nat) (hk : ¬ w.regs k) : LoopFrame w s (s.wr k v) :=
  { refl s with regs := fun _ hj => s.rd_wr_ne v (by rintro rfl; exact hk hj) }

theorem wrS (b k : Nat) (v : Int) (hk : ¬ w.regs k) : LoopFrame w s (s.wrS b k v) := wr _ _ hk
theorem wrField (k lo b v : Nat) (hk : ¬ w.regs k) : LoopFrame w s (s.wrField k lo b v) := wr _ _ hk
theorem bump (b k : Nat) (hk : ¬ w.regs k) : LoopFrame w s (s.bump b k) := wr _ _ hk

/-- A change of a laser, by what it does to a stream that is watched; it brings no candidate. -/
theorem modLaser (l : Nat) (f : Laser → Laser) (hf : w.streams l → ∀ x, (f x).stream = x.stream)
    (hc : ∀ x c, c ∈ (f x).cands → c ∈ x.cands) : LoopFrame w s (s.modLaser l f) := by
  have hlaser (j : Nat) := s.laser_modLaser l j f
  refine { refl s with streams := fun j hj => ?_, cands := fun j c hc' => ?_ }
  · rcases hlaser j with h | ⟨rfl, h⟩
    · rw [h]
    · rw [h, hf hj]
  · rcases hlaser j with h | ⟨rfl, h⟩
    · rwa [h] at hc'
    · rw [h] at hc'; exact hc _ _ hc'

/-- A change of a laser beside its stream and its candidates. -/
theorem modLaserBeside (l : Nat) (f : Laser → Laser) (hf : ∀ x, (f x).stream = x.stream ∧ (f x).cands = x.cands) :
    LoopFrame w s (s.modLaser l f) := modLaser l f (fun _ x => (hf x).1) fun x _ h => (hf x).2 ▸ h

theorem modStream (l : Nat) (f : Stream → Stream) (hl : ¬ w.streams l) : LoopFrame w s (s.modStream l f) :=
  modLaser _ _ (fun h => (hl h).elim) fun _ _ => id
theorem modLayer (f : Layer → Layer) : LoopFrame w s (s.modLayer f) := { refl s with }
theorem modLog (f : Log → Log) : LoopFrame w s (s.modLog f) := { refl s with }
theorem vision (v : Vision) (hv : v.cams = s.vision.cams) : LoopFrame w s { s with vision := v } := { refl s with cams := fun _ => hv }
theorem freeCount (n : Nat) : LoopFrame w s { s with freeCount := n } := { refl s with }
theorem test (x : TestSt) : LoopFrame w s { s with test := x } := { refl s with }
theorem modMem (f : MemPort → MemPort) (hm : ¬ w.mem) : LoopFrame w s (s.modMem f) := { refl s with mem := fun h => (hm h).elim }
theorem modCam (c : Nat) (f : Cam → Cam) (hc : ¬ w.cams) : LoopFrame w s (s.modCam c f) := { refl s with cams := fun h => (hc h).elim }
theorem modMode (f : ModeSt → ModeSt) (hm : ¬ w.rest) : LoopFrame w s (s.modMode f) := { refl s with rest := fun h => (hm h).elim }

/-- A change of the lock-keeper that may go beyond what is detected. -/
theorem modLock (f : LockKeeper → LockKeeper) (hf : w.lock → (s.modLock f).keeping = s.keeping) : LoopFrame w s (s.modLock f) :=
  { refl s with lock := hf }

/-- A change of an engine between its boundaries, by what it does to what the engine has before it. -/
theorem modEngine (t : Nat) (f : Engine → Engine) (hf : ∀ x, (f x).beat = x.beat) (hp : w.plans → ∀ x, (f x).plan = x.plan) :
    LoopFrame w s (s.modEngine t f) := by
  have hengine (i : Nat) : (s.modEngine t f).engine i = s.engine i ∨ (s.modEngine t f).engine i = f (s.engine i) := by
    by_cases hi : i = t
    · subst hi
      by_cases h8 : i < 8
      · exact Or.inr (State.engine_modEngine_self _ _ h8)
      · left; simp [State.engine, State.modEngine, h8]
    · exact Or.inl (State.engine_modEngine_ne _ _ hi)
  refine { refl s with beats := fun i => ?_, plans := fun h i => ?_ }
  · rcases hengine i with h | h
    · rw [h]
    · rw [h, hf]
  · rcases hengine i with h' | h'
    · rw [h']
    · rw [h', hp h]

/-- A change of an axis, by what it does to the law and the range of an axis that is watched. -/
theorem modAxis (a : Nat) (f : Axis → Axis) (hl : w.laws a → ∀ x, (f x).law = x.law)
    (hr : w.ranges a → ∀ x, (f x).axo.rangePhase = x.axo.rangePhase) : LoopFrame w s (s.modAxis a f) := by
  have haxis (b : Nat) : (s.modAxis a f).axis b = s.axis b ∨ b = a ∧ (s.modAxis a f).axis b = f (s.axis b) := by
    by_cases hb : b = a
    · subst hb
      by_cases h48 : b < 48
      · exact Or.inr ⟨rfl, State.axis_modAxis_self _ _ h48⟩
      · left; simp [State.axis, State.modAxis, State.setAxis, h48]
    · exact Or.inl (State.axis_modAxis_ne _ _ hb)
  refine { refl s with laws := fun b hb => ?_, ranges := fun b hb => ?_ }
  · rcases haxis b with h | ⟨rfl, h⟩
    · rw [h]
    · rw [h, hl hb]
  · rcases haxis b with h | ⟨rfl, h⟩
    · rw [h]
    · rw [h, hr hb]

/-- A change of an axis beside its law and the phase of its range. -/
theorem modAxisBeside (a : Nat) (f : Axis → Axis) (hf : ∀ x, (f x).law = x.law ∧ (f x).axo.rangePhase = x.axo.rangePhase) :
    LoopFrame w s (s.modAxis a f) := modAxis a f (fun _ x => (hf x).1) fun _ x => (hf x).2

theorem modObs (a : Nat) (f : Obs → Obs) : LoopFrame w s (s.modObs a f) := modAxisBeside a _ fun _ => ⟨rfl, rfl⟩
theorem modLaw (a : Nat) (f : Law → Law) (ha : ¬ w.laws a) : LoopFrame w s (s.modLaw a f) :=
  modAxis a _ (fun h => (ha h).elim) fun _ _ => rfl
theorem modAxo (a : Nat) (f : Axo → Axo) (hf : ∀ x, (f x).rangePhase = x.rangePhase) : LoopFrame w s (s.modAxo a f) :=
  modAxisBeside a _ fun x => ⟨rfl, hf x.axo⟩

theorem modPound (p : Nat) (f : Pound → Pound) (hp : ¬ w.pounds p) : LoopFrame w s (s.modPound p f) :=
  { refl s with pounds := fun _ hq => State.pound_modPound_ne _ _ (by rintro rfl; exact hp hq) }

/-- A change of a tile, by what it does to the drivers of one that is watched. -/
theorem modTile (t : Nat) (f : Tile → Tile) (hf : w.drives t → ∀ x j, ((f x).driver j).settling = (x.driver j).settling) :
    LoopFrame w s (s.modTile t f) := by
  refine { refl s with drives := fun i hi j => ?_ }
  rcases s.tile_modTile t i f with h | ⟨rfl, h⟩
  · simp only [State.driver, h]
  · simp only [State.driver, h, hf hi]

/-- A change of a driver that leaves its settling. -/
theorem modDriver (t j : Nat) (f : Driver → Driver) (hf : w.drives t → ∀ x, (f x).settling = x.settling) :
    LoopFrame w s (s.modDriver t j f) := by
  refine modTile t _ fun ht x i => ?_
  by_cases hi : j = i
  · subst hi
    by_cases h6 : j < 6
    · simp [Tile.driver, h6, hf ht]
    · simp [Tile.driver, h6]
  · simp [Tile.driver, hi]

end LoopFrame

end Sys2Proof.Machine
end

section
/-! PROOFS. Events, streams and lasers leave alone what a statement watches over a boundary (R214 to R231, R251, R363 to R375). -/

namespace Sys2Proof.Machine

/-! ### Sub-entries that are only shown -/

def laserKeys (l : Nat) : List Nat :=
  [Reg.segExec l, Reg.stopSeg l, Reg.stopReason l, Reg.stopPartial l, Reg.segDoneCount l, Reg.stopLt l,
    Reg.afState l, Reg.afOffset l, Reg.afResult l, Reg.corrDx l, Reg.corrDy l, Reg.corrSrc l, Reg.corrFrame l]

/-- Those of the device. -/
def deviceKeys : List Nat :=
  [Reg.lostCount, Reg.axesFaulted, Reg.faultSummary, Reg.peakPending, Reg.lateCount, Reg.lastLateness, Reg.refusedCount, Reg.mergeCount,
    Reg.layerInUse, Reg.modeStatus, Reg.lastErrAddr, Reg.lastErrKind, Reg.ueCount, Reg.ceCount0, Reg.ceCount1, Reg.rereadRecovered,
    Reg.trajLatMax, Reg.visStatus, Reg.timeState, Reg.activeDomain, Reg.freqEst, Reg.rateInUse, Reg.stepState, Reg.lkTriggerSeq]

def axisKeys (a : Nat) : List Nat :=
  [Reg.lawStatus a, Reg.parkState a, Reg.parkCause a, Reg.supStatus a, Reg.coastCount a, Reg.linTempUsed a, Reg.feedMiss a,
    Reg.lastFault a, Reg.faultCount a]

def tileKeys (t : Nat) : List Nat := Reg.calValid t :: (List.range 6).map (Reg.excStatus t)

theorem lockKey_shown : (∀ k, k ∈ deviceKeys → lockKey k = false) ∧ (∀ l, l < 16 → ∀ k, k ∈ laserKeys l → lockKey k = false) ∧
    (∀ a, a < 48 → ∀ k, k ∈ axisKeys a → lockKey k = false) ∧ (∀ t, t < 8 → ∀ k, k ∈ tileKeys t → lockKey k = false) ∧
    (∀ c, c < 32 → lockKey (Reg.camCorrOutranked c) = false) ∧ (∀ k, k < 4 → lockKey (Reg.trigState k) = false) ∧
    ∀ k, k < 8 → lockKey (Reg.encStatus k) = false ∧ lockKey (Reg.encCount k) = false := by decide +kernel

section
variable {w : Watched} (hw : w.Lawful)
include hw

theorem Watched.Lawful.device {k : Nat} (hk : k ∈ deviceKeys) : ¬ w.regs k := hw.not_regs (lockKey_shown.1 k hk)
theorem Watched.Lawful.laser {l k : Nat} (hl : l < 16) (hk : k ∈ laserKeys l) : ¬ w.regs k := hw.not_regs (lockKey_shown.2.1 l hl k hk)
theorem Watched.Lawful.axis {a k : Nat} (ha : a < 48) (hk : k ∈ axisKeys a) : ¬ w.regs k := hw.not_regs (lockKey_shown.2.2.1 a ha k hk)
theorem Watched.Lawful.tile {t k : Nat} (ht : t < 8) (hk : k ∈ tileKeys t) : ¬ w.regs k := hw.not_regs (lockKey_shown.2.2.2.1 t ht k hk)
theorem Watched.Lawful.camera {c : Nat} (hc : c < 32) : ¬ w.regs (Reg.camCorrOutranked c) := hw.not_regs (lockKey_shown.2.2.2.2.1 c hc)
theorem Watched.Lawful.trigger {k : Nat} (hk : k < 4) : ¬ w.regs (Reg.trigState k) := hw.not_regs (lockKey_shown.2.2.2.2.2.1 k hk)
theorem Watched.Lawful.enc {k : Nat} (hk : k < 8) : ¬ w.regs (Reg.encStatus k) ∧ ¬ w.regs (Reg.encCount k) :=
  ⟨hw.not_regs (lockKey_shown.2.2.2.2.2.2 k hk).1, hw.not_regs (lockKey_shown.2.2.2.2.2.2 k hk).2⟩

end

/-- A segment begins. -/
def State.segBegins (s : State) (l : Nat) (x : Seg) : State :=
  let s := s.wr (Reg.segExec l) x.s
  let s := match x.late with
    | some d => s.raiseFull 1 0x3517 cLASER l (dU 4 x.s ++ dI 4 d) x.t0 []
    | none => s
  if x.search then s.afStart l x.t0 else s

/-- The segments that begin by `t`. -/
def State.segsBegin (s : State) (l : Nat) (t : Lt) : State :=
  ((s.laser l).stream.segs.filter fun x => decide (x.t0 ≤ t) && !x.begun).foldl (fun s x => s.segBegins l x) s

/-- A segment that has begun by `t` is marked so. -/
def Seg.marked (x : Seg) (t : Lt) : Seg := if x.t0 ≤ t then { x with begun := true } else x

/-- The segments that have ended by `t` leave the stream. -/
def Stream.progressed (m : Stream) (t : Lt) : Stream := { m with segs := (m.segs.filter fun x => !decide (x.t2 ≤ t)).map fun x => x.marked t }

def State.segsEnd (s : State) (l : Nat) (t : Lt) : State :=
  (s.wr (Reg.segDoneCount l) (min (s.rd (Reg.segDoneCount l) +
    (((s.laser l).stream.segs.filter fun x => decide (x.t2 ≤ t)).filter fun x => x.ty != 0).length) (2 ^ 32 - 1))).modStream l fun m => m.progressed t

theorem State.streamProgress_eq (s : State) (l : Nat) (t : Lt) : s.streamProgress l t =
    let r := s.segsBegin l t
    match ((r.laser l).stream.segs.filter fun x => decide (x.t2 ≤ t)).find? fun x => x.ty == 7 with
    | some x => (((r.segsEnd l t).modLaser l fun y =>
        { y with gate := false, value := 0, play := none, stream := { y.stream with finished := true } }).wr (Reg.streamState l) 3).raiseFull 0
          0x3512 cLASER l (dU 4 ((((r.segsEnd l t).modLaser l fun y =>
        { y with gate := false, value := 0, play := none, stream := { y.stream with finished := true } }).wr (Reg.streamState l) 3).rd
            (Reg.segDoneCount l))) x.t2 []
    | none => r.segsEnd l t := rfl

/-- Nothing of the course of the stream of laser l is watched. -/
structure Watched.Off (w : Watched) (l : Nat) : Prop where
  stream : ¬ w.streams l
  state : ¬ w.regs (Reg.streamState l)

/-- Nothing of the course of the layer is watched. -/
structure Watched.LayerFree (w : Watched) : Prop where
  off : ∀ l, l < 16 → w.Off l
  layer : ¬ w.regs Reg.layerState

/-- Nothing of what a reaction changes is watched. -/
structure Watched.Open (w : Watched) : Prop where
  rest : ¬ w.rest
  lock : ¬ w.lock
  transition : ¬ w.pounds pTransition
  mode : ¬ w.regs Reg.mode
  course : w.LayerFree

theorem Watched.layerFree_none : Watched.none.LayerFree := ⟨fun _ _ => ⟨id, id⟩, id⟩
theorem Watched.open_none : Watched.none.Open := ⟨id, id, id, id, Watched.layerFree_none⟩

namespace LoopFrame

theorem iteFst {w : Watched} {s : State} {α : Type} {c : Prop} [Decidable c] {x y : State × α} (h : c → LoopFrame w s x.1)
    (h' : ¬ c → LoopFrame w s y.1) : LoopFrame w s (if c then x else y).1 := by
  split
  · exact h ‹_›
  · exact h' ‹_›

/-! ### Events (R399, R400) -/

section
variable {w : Watched} (hw : w.Lawful) (s : State)
include hw

theorem deliver (e : Event) : LoopFrame w s (s.deliver e) := by
  unfold State.deliver
  refine ite (fun _ => modLog _) fun _ => ?_
  exact LoopFrame.trans (otherwise fun _ => bump _ _ (hw.device (by simp [deviceKeys]))) (modLog _)

theorem latch (e : Event) (hu : e.level = 2 → ¬ w.regs (Reg.lastFault e.unit) ∧ ¬ w.regs (Reg.faultCount e.unit)) :
    LoopFrame w s (s.latch e) := by
  have hlatched : LoopFrame w s (if e.level = 2 then
      ((s.wr Reg.axesFaulted (Nat.lor (s.rd Reg.axesFaulted) (2 ^ e.unit))).wr (Reg.lastFault e.unit) e.code).bump 32 (Reg.faultCount e.unit)
    else if e.level = 3 then
      if e.unit < 16 then s.wr Reg.faultSummary (Nat.lor (s.rd Reg.faultSummary) (2 ^ e.unit)) else s
    else if e.level = 4 then
      (s.wr Reg.faultSummary (Nat.lor (s.rd Reg.faultSummary) (2 ^ 16))).modLock fun k => { k with deviceLatched := k.deviceLatched ++ [e.code] }
    else s) := by
    refine ite (fun h2 => ?_) fun _ => ite (fun _ => when fun _ => wr _ _ (hw.device (by simp [deviceKeys]))) fun _ => when fun _ => ?_
    · exact ((wr _ _ (hw.device (by simp [deviceKeys]))).trans (wr _ _ (hu h2).1)).trans (bump _ _ (hu h2).2)
    · exact (wr _ _ (hw.device (by simp [deviceKeys]))).trans (modLock _ (by intros; rfl))
  exact hlatched.trans (when fun _ => modLock _ (by intros; rfl))

theorem raiseUnit (lv code cls inst unit : Nat) (data : List Nat) (ts : Lt) (trig : List (Nat × Nat))
    (hu : lv = 2 → ¬ w.regs (Reg.lastFault unit) ∧ ¬ w.regs (Reg.faultCount unit)) :
    LoopFrame w s (s.raiseUnit lv code cls inst unit data ts trig) := by
  unfold State.raiseUnit
  exact otherwise fun _ => ((modLog _).trans (deliver hw _ _)).trans (latch hw _ _ hu)

/-- An event of another level than 2 latches no axis. -/
theorem raiseFull (lv code cls inst : Nat) (data : List Nat) (ts : Lt) (trig : List (Nat × Nat)) (hlv : lv ≠ 2) :
    LoopFrame w s (s.raiseFull lv code cls inst data ts trig) := raiseUnit hw s _ _ _ _ _ _ _ _ fun h => (hlv h).elim

theorem raise (code cls inst : Nat) (data : List Nat) (hlv : levelOf code ≠ 2) :
    LoopFrame w s (s.raise code cls inst data) := raiseFull hw s _ _ _ _ _ _ _ hlv

theorem raiseIf (b : Bool) (code cls inst : Nat) (data : List Nat) (hlv : levelOf code ≠ 2) :
    LoopFrame w s (s.raiseIf b code cls inst data) := when fun _ => raise hw s code cls inst data hlv

end

/-! ### Streams (R214 to R231, R251) -/

section
variable {w : Watched} (hw : w.Lawful) (s : State) {l : Nat} (hl : l < 16)
include hw

theorem notePending : LoopFrame w s s.notePending := wr _ _ (hw.device (by simp [deviceKeys]))

omit hw in
theorem actLaser (x : Action) : LoopFrame w s (s.actLaser l x) := by
  unfold State.actLaser
  split
  · exact modLaserBeside _ _ (by intros; exact ⟨rfl, rfl⟩)
  · exact modLaserBeside _ _ (by intros; exact ⟨rfl, rfl⟩)
  · exact modLaserBeside _ _ fun y => by split <;> exact ⟨rfl, rfl⟩
  · exact modLaserBeside _ _ (by intros; exact ⟨rfl, rfl⟩)

theorem lateAction (x : Action) : LoopFrame w s (s.lateAction l x) := by
  unfold State.lateAction
  refine ite (fun _ => ?_) fun _ => (bump _ _ (hw.device (by simp [deviceKeys]))).trans (raise hw _ _ _ _ _ (by decide))
  refine LoopFrame.trans ?_ (when fun _ => modLaserBeside _ _ (by intros; exact ⟨rfl, rfl⟩))
  refine LoopFrame.trans ?_ (actLaser _ _)
  exact ((bump _ _ (hw.device (by simp [deviceKeys]))).trans (wr _ _ (hw.device (by simp [deviceKeys])))).trans (raise hw _ _ _ _ _ (by decide))

theorem enterActs (xs : List Action) : LoopFrame w s (s.enterActs l xs) := by
  refine foldl _ fun r x _ => ite (fun _ => lateAction hw r x) fun _ => ?_
  refine LoopFrame.trans ?_ (notePending hw _)
  exact (modLaserBeside _ _ (by intros; exact ⟨rfl, rfl⟩)).trans (otherwise fun _ => wr _ _ (hw.device (by simp [deviceKeys])))

theorem closeForStop (seg : Nat) (t : Lt) : LoopFrame w s (s.closeForStop l seg t) := when fun _ => enterActs hw s _

theorem usePlan (plan : List Action) : LoopFrame w s (s.usePlan l plan) := (modLaserBeside _ _ (by intros; exact ⟨rfl, rfl⟩)).trans (enterActs hw _ _)

section
variable (hstream : ¬ w.streams l)
include hstream

omit hw in
/-- A change of a laser whose stream is not watched. -/
theorem anyLaser (f : Laser → Laser) (hf : ∀ x, (f x).cands = x.cands) : LoopFrame w s (s.modLaser l f) :=
  modLaser l f (fun h => (hstream h).elim) fun x _ h => hf x ▸ h

theorem addStop (seg reason : Nat) : LoopFrame w s (s.addStop l seg reason) := by
  unfold State.addStop
  dsimp only
  split
  · exact modStream l _ hstream
  · exact ((modStream l _ hstream).trans (anyLaser _ hstream _ (by intros; rfl))).trans (closeForStop hw _ _ _)

theorem decodeNext (base : Lt) : LoopFrame w s (s.decodeNext l base).1 := by
  have hstop (seg reason : Nat) : LoopFrame w s (s.addStop l seg reason) := addStop hw s hstream seg reason
  unfold State.decodeNext
  refine iteFst (fun _ => refl s) fun _ => iteFst (fun _ => hstop _ _) fun _ => ?_
  split
  · exact iteFst (fun _ => hstop _ _) fun _ => refl s
  · refine iteFst (fun _ => hstop _ _) fun _ => iteFst (fun _ => ?_) fun _ => iteFst (fun _ => hstop _ _) fun _ => refl s
    dsimp only
    refine LoopFrame.trans ?_ (modStream l _ hstream)
    refine LoopFrame.trans ?_ (usePlan hw _ _)
    exact when fun _ => modStream l _ hstream

theorem decodeMany (base : Lt) (n : Nat) : LoopFrame w s (State.decodeMany s l base n) := by
  induction n generalizing s with
  | zero => exact refl s
  | succ n ih => exact ite (fun _ => (decodeNext hw s hstream base).trans (ih _)) fun _ => decodeNext hw s hstream base

omit hw in
theorem refill : LoopFrame w s (s.refill l) := by
  unfold State.refill
  exact otherwise fun _ => when fun _ => modStream l _ hstream

end

include hl

theorem laserWr {k : Nat} (v : Nat) (hk : k ∈ laserKeys l) : LoopFrame w s (s.wr k v) := wr k v (hw.laser hl hk)

theorem afStart (t : Lt) : LoopFrame w s (s.afStart l t) := by
  unfold State.afStart
  dsimp only
  split
  · refine ite (fun _ => ?_) fun _ => raiseFull hw _ _ _ _ _ _ _ _ (by decide)
    exact ((modLaserBeside _ _ (by intros; exact ⟨rfl, rfl⟩)).trans (laserWr hw _ hl _ (by simp [laserKeys]))).trans (raiseFull hw _ _ _ _ _ _ _ _ (by decide))
  · exact raiseFull hw _ _ _ _ _ _ _ _ (by decide)

/-- A segment that has begun. -/
theorem segBegins (x : Seg) : LoopFrame w s (s.segBegins l x) := by
  have hexec : LoopFrame w s (s.wr (Reg.segExec l) x.s) := laserWr hw s hl _ (by simp [laserKeys])
  have hlate : LoopFrame w s (match x.late with
      | some d => (s.wr (Reg.segExec l) x.s).raiseFull 1 0x3517 cLASER l (dU 4 x.s ++ dI 4 d) x.t0 []
      | none => s.wr (Reg.segExec l) x.s) := by
    split
    · exact hexec.trans (raiseFull hw _ _ _ _ _ _ _ _ (by decide))
    · exact hexec
  exact ite (fun _ => hlate.trans (afStart hw _ hl _)) fun _ => hlate

theorem corrZero : LoopFrame w s (s.corrZero l) :=
  ((modLaserBeside _ _ (by intros; exact ⟨rfl, rfl⟩)).trans (laserWr hw _ hl _ (by simp [laserKeys]))).trans (laserWr hw _ hl _ (by simp [laserKeys]))

theorem afAbandon (cause : Nat) : LoopFrame w s (s.afAbandon l cause) := by
  unfold State.afAbandon
  split
  · exact refl s
  · exact (((modLaserBeside _ _ (by intros; exact ⟨rfl, rfl⟩)).trans (wrS _ _ _ (hw.laser hl (by simp [laserKeys])))).trans (laserWr hw _ hl _ (by simp [laserKeys]))).trans
      (raise hw _ _ _ _ _ (by decide))

section
variable (hoff : w.Off l)
include hoff

theorem streamProgress (t : Lt) : LoopFrame w s (s.streamProgress l t) := by
  have hbegin := foldl (w := w) (s := s) ((s.laser l).stream.segs.filter fun x => decide (x.t0 ≤ t) && !x.begun)
    fun r x _ => segBegins hw r hl x
  have hdone (r : State) (v : Nat) (f : Stream → Stream) : LoopFrame w r ((r.wr (Reg.segDoneCount l) v).modStream l f) :=
    (laserWr hw _ hl _ (by simp [laserKeys])).trans (modStream l _ hoff.stream)
  rw [State.streamProgress_eq]
  dsimp only
  split
  · refine LoopFrame.trans ?_ (raiseFull hw _ _ _ _ _ _ _ _ (by decide))
    refine LoopFrame.trans ?_ (wr _ _ hoff.state)
    exact (hbegin.trans (hdone _ _ _)).trans (anyLaser _ hoff.stream _ (by intros; rfl))
  · exact hbegin.trans (hdone _ _ _)

theorem streamStopped (x : Stop) (t : Lt) (partly : Bool) : LoopFrame w s (s.streamStopped l x t partly) := by
  unfold State.streamStopped
  refine LoopFrame.trans ?_ (foldl _ fun r y _ => raiseFull hw r _ _ _ _ _ _ _ (by split <;> decide))
  refine LoopFrame.trans ?_ (afAbandon hw _ hl _)
  refine LoopFrame.trans ?_ (corrZero hw _ hl)
  refine LoopFrame.trans ?_ (modStream l _ hoff.stream)
  exact ((((wr _ _ hoff.state).trans (laserWr hw _ hl _ (by simp [laserKeys]))).trans
    (laserWr hw _ hl _ (by simp [laserKeys]))).trans (laserWr hw _ hl _ (by simp [laserKeys]))).trans (laserWr hw _ hl _ (by simp [laserKeys]))

theorem stopIfDue (t : Lt) : LoopFrame w s (s.stopIfDue l t) := by
  unfold State.stopIfDue
  dsimp only
  split
  · exact refl s
  · exact when fun _ => (closeForStop hw s _ _).trans (streamStopped hw _ hl hoff _ _ _)

theorem streamCatch : LoopFrame w s (s.streamCatch l) := by
  unfold State.streamCatch
  refine otherwise fun _ => ?_
  exact (streamProgress hw s hl hoff _).trans (when fun _ => stopIfDue hw _ hl hoff _)

theorem stopWithin (reason : Nat) (t : Lt) : LoopFrame w s (s.stopWithin l reason t) := by
  have hchange (r : State) (f : Laser → Laser) (hf : ∀ x, (f x).cands = x.cands) : LoopFrame w r (r.modLaser l f) := anyLaser r hoff.stream f hf
  unfold State.stopWithin
  refine otherwise fun _ => otherwise fun _ => ?_
  have hprogress := streamProgress hw s hl hoff t
  refine ite (fun _ => hprogress) fun _ => ?_
  refine hprogress.trans (LoopFrame.trans ?_ (streamStopped hw _ hl hoff _ _ _))
  exact ite (fun _ => (hchange _ _ (by intros; rfl)).trans (hchange _ _ (by intros; rfl))) fun _ => ite (fun _ => (hchange _ _ (by intros; rfl)).trans (enterActs hw _ _)) fun _ => hchange _ _ (by intros; rfl)

theorem laserLeft : LoopFrame w s (s.laserLeft l) :=
  ((stopWithin hw s hl hoff _ _).trans (modLaserBeside _ _ (by intros; exact ⟨rfl, rfl⟩))).trans (afAbandon hw _ hl _)

theorem streamFresh : LoopFrame w s (s.streamFresh l) :=
  (((((wr _ _ hoff.state).trans (laserWr hw _ hl _ (by simp [laserKeys]))).trans
    (laserWr hw _ hl _ (by simp [laserKeys]))).trans (laserWr hw _ hl _ (by simp [laserKeys]))).trans
    (laserWr hw _ hl _ (by simp [laserKeys]))).trans (laserWr hw _ hl _ (by simp [laserKeys]))

theorem armStream (ref want : Lt) : LoopFrame w s (s.armStream l ref want) :=
  ((anyLaser _ hoff.stream _ (by intros; rfl)).trans (streamFresh hw _ hl hoff)).trans (refill _ hoff.stream)

end

end

/-! ### Layers (R213 to R215) -/

section
variable {w : Watched} (hw : w.Lawful) (s : State)
include hw

theorem streamsCatch (hoff : ∀ l, l < 16 → w.Off l) : LoopFrame w s s.streamsCatch := each fun r l hl => streamCatch hw r hl (hoff l hl)

omit hw in
theorem reform : LoopFrame w s s.reform := by
  unfold State.reform
  exact LoopFrame.trans (modLog _) (modLock _ (by intros; rfl))

theorem layerEnd (hlayer : ¬ w.regs Reg.layerState) : LoopFrame w s s.layerEnd := when fun _ => (wr _ _ hlayer).trans (raise hw _ _ _ _ _ (by decide))

variable (hfree : w.LayerFree)
include hfree

theorem layerWaits : LoopFrame w s s.layerWaits := by
  unfold State.layerWaits
  refine LoopFrame.trans ?_ (wr _ _ hfree.layer)
  exact (modLayer _).trans (each fun r l hl => (modStream l _ (hfree.off l hl).stream).trans (streamFresh hw _ hl (hfree.off l hl)))

theorem layerLeft : LoopFrame w s s.layerLeft := when fun _ => layerWaits hw s hfree

theorem buildLeft : LoopFrame w s s.buildLeft := (each fun r l hl => laserLeft hw r hl (hfree.off l hl)).trans (layerLeft hw _ hfree)

theorem startLayer (ref : Lt) : LoopFrame w s (s.startLayer ref) := by
  unfold State.startLayer
  refine LoopFrame.trans ?_ (when fun _ => raise hw _ _ _ _ _ (by decide))
  refine LoopFrame.trans ?_ (wr _ _ hfree.layer)
  exact (modLayer _).trans (each fun r l hl => armStream hw r hl (hfree.off l hl) _ _)

theorem layerAtBuild : LoopFrame w s s.layerAtBuild := when fun _ => startLayer hw s hfree _

theorem layerInto (old : Nat) : LoopFrame w s (s.layerInto old) := by
  unfold State.layerInto
  refine LoopFrame.trans ?_ (ite (fun _ => startLayer hw _ hfree _) fun _ => layerWaits hw _ hfree)
  refine LoopFrame.trans ?_ (reform _)
  exact LoopFrame.trans (when fun _ => raise hw _ _ _ _ _ (by decide)) (wr _ _ (hw.device (by simp [deviceKeys])))

omit hfree in
/-- A resumed stream, whatever its number. -/
theorem resumeStream {l : Nat} (hoff : w.Off l) : LoopFrame w s (s.resumeStream l) := by
  unfold State.resumeStream
  exact when fun _ => (((modStream l _ hoff.stream).trans (wr _ _ hoff.state)).trans (raise hw _ _ _ _ _ (by decide))).trans (refill _ hoff.stream)

end

end LoopFrame

end Sys2Proof.Machine
end

section
/-! PROOFS. The lock-keeper and the units leave alone what a statement watches over a boundary (R410 to R419, R425 to R430). -/

namespace Sys2Proof.Machine

namespace LoopFrame

/-! ### Reactions (R410 to R415) -/

section
variable {w : Watched} (hw : w.Lawful) (ho : w.Open) (s : State)

theorem anyLock (f : LockKeeper → LockKeeper) (hlock : ¬ w.lock) : LoopFrame w s (s.modLock f) := modLock f fun h => (hlock h).elim

theorem darken (l : Nat) : LoopFrame w s (s.darken l) := modLaserBeside _ _ (by intros; exact ⟨rfl, rfl⟩)

theorem markRecord (uid : Nat) (f : Event → Event) : LoopFrame w s (s.markRecord uid f) := by
  unfold State.markRecord
  exact modLog _

include hw

theorem holdStep1 (ho : w.Open) : LoopFrame w s s.holdStep1 := by
  unfold State.holdStep1
  refine LoopFrame.trans ?_ (when fun _ => (wr _ _ ho.mode).trans (reform _))
  exact (each fun r l _ => darken r l).trans (buildLeft hw _ ho.course)

omit hw in
theorem cancelTransition (htransition : ¬ w.pounds pTransition) : LoopFrame w s s.cancelTransition := modPound _ _ htransition

include ho

theorem startSequence (k : Reaction) (t0 : Lt) (trigger : Nat) (faulted : List Nat) (cause : Nat) (announce : Bool) :
    LoopFrame w s (s.startSequence k t0 trigger faulted cause announce) := by
  unfold State.startSequence
  have htold : LoopFrame w s (if announce then
      s.raiseFull 0 0x2020 cDEVICE 0 (dU 1 k.order ++ dU 4 0) (t0 + ns 20) [(1, trigger)] else s) := when fun _ => raiseFull hw _ _ _ _ _ _ _ _ (by decide)
  refine htold.trans (LoopFrame.trans (anyLock _ (fun x => { x with triggerUid := some trigger }) ho.lock) ?_)
  cases k with
  | axisSafe a => exact anyLock _ _ ho.lock
  | laserSafe l => exact (darken _ l).trans (anyLock _ _ ho.lock)
  | deviceHold =>
    refine LoopFrame.trans ?_ (anyLock _ _ ho.lock)
    refine LoopFrame.trans ?_ (when fun _ => wr _ _ (hw.device (by simp [deviceKeys])))
    refine LoopFrame.trans ?_ (holdStep1 hw _ ho)
    exact ite (fun _ => (modMode _ ho.rest).trans (cancelTransition _ ho.transition)) fun _ => when fun _ => cancelTransition _ ho.transition

theorem react (k : Reaction) (cls inst uid : Nat) (ts : Lt) (faulted : List Nat) (cause : Nat) :
    LoopFrame w s (s.react k cls inst uid ts faulted cause) := by
  unfold State.react
  split
  · exact startSequence hw ho s _ _ _ _ _ _
  · refine ite (fun _ => ?_) fun _ => ?_
    · refine LoopFrame.trans ?_ (startSequence hw ho _ _ _ _ _ _ _)
      exact ((raiseFull hw _ _ _ _ _ _ _ _ (by decide)).trans (markRecord _ _ _)).trans (anyLock _ _ ho.lock)
    · refine ite (fun _ => ?_) fun _ => ?_
      · exact ((markRecord _ _ _).trans (anyLock _ _ ho.lock)).trans (raiseFull hw _ _ _ _ _ _ _ _ (by decide))
      · exact ((markRecord _ _ _).trans (anyLock _ _ ho.lock)).trans (raiseFull hw _ _ _ _ _ _ _ _ (by decide))

omit hw ho in
/-- What happens at an earlier instant is carried to the present. -/
theorem carried {r : State} {t : Lt} (ht : t ≤ s.lt) (h : LoopFrame w { s with lt := t } r) : LoopFrame w s (r.goTo s.lt) where
  lt := by
    have hlt : r.lt = t := h.lt
    show max r.lt s.lt = s.lt
    rw [hlt]
    exact max_eq_right ht
  beats := h.beats
  regs := h.regs
  pounds := h.pounds
  laws := h.laws
  ranges := h.ranges
  drives := h.drives
  rest := h.rest
  lock := h.lock
  mem := h.mem
  cams := h.cams
  held := h.held
  streams := h.streams
  plans := h.plans
  cands := h.cands

theorem meetFault (e : Event) (builds : Bool) : LoopFrame w s (s.meetFault e builds) := by
  unfold State.meetFault
  refine carried s (min_le_left _ e.ts) ?_
  have hdark : LoopFrame w { s with lt := min s.lt e.ts }
      (if e.level = 3 ∧ e.unit < 16 then ({ s with lt := min s.lt e.ts } : State).darken e.unit else { s with lt := min s.lt e.ts }) :=
    when fun _ => darken _ _
  dsimp only
  split
  · exact hdark
  · exact hdark.trans (react hw ho _ _ _ _ _ _ _ _)

theorem meetFaults : LoopFrame w s s.meetFaults := by
  unfold State.meetFaults
  refine LoopFrame.trans ?_ (foldl _ fun r x _ => meetFault hw ho r _ _)
  exact (streamsCatch hw s ho.course.off).trans (anyLock _ _ ho.lock)

theorem detect : LoopFrame w s s.detect := otherwise fun _ => meetFaults hw ho s

end

/-! ### Laws and the codes of the outputs (R170, R247, R410) -/

section
variable {w : Watched} (s : State) (a : Nat)

theorem noteCode : LoopFrame w s (s.noteCode a) := by
  unfold State.noteCode
  exact modAxo _ _ (by intros; rfl)

theorem setCode (c : Int) : LoopFrame w s (s.setCode a c) := by
  unfold State.setCode
  exact LoopFrame.trans (modAxo a _ (by intros; rfl)) (noteCode _ _)

theorem noteTest : LoopFrame w s s.noteTest := by
  unfold State.noteTest
  exact when fun _ => noteCode _ _

variable (hw : w.Lawful) (hlaw : ¬ w.laws a) (hkey : ¬ w.regs (Reg.lawStatus a))
include hlaw hkey

include hw in
theorem stopLaw : LoopFrame w s (s.stopLaw a) := by
  unfold State.stopLaw
  refine otherwise fun _ => ?_
  refine LoopFrame.trans ?_ (wrField _ _ _ _ hkey)
  refine LoopFrame.trans ?_ (otherwise fun _ => setCode _ _ _)
  refine LoopFrame.trans ?_ (modAxisBeside a _ (by intros; exact ⟨rfl, rfl⟩))
  exact (modLaw a _ hlaw).trans (raiseIf hw _ _ _ _ _ _ (by decide))

theorem startLaw (braking : Bool) : LoopFrame w s (s.startLaw a braking) := by
  have hboth (f : Law → Law) (g : Weir → Weir) {r : State} :
      LoopFrame w r (r.modAxis a fun x => { x with law := f x.law, weir := g x.weir }) :=
    modAxis a _ (fun h => (hlaw h).elim) fun _ _ => rfl
  unfold State.startLaw
  refine ite (fun _ => ?_) fun _ => ite (fun _ => otherwise fun _ => hboth (fun l => { l with run := .braking }) fun x => { x with brake := none }) fun _ => hboth (fun l => { l with run := .live }) fun x => { x with brake := none }
  refine LoopFrame.trans ?_ (wrField _ _ _ _ hkey)
  exact (modLaw a _ hlaw).trans (modAxisBeside a _ (by intros; exact ⟨rfl, rfl⟩))

include hw in
theorem pinStop : LoopFrame w s (s.pinStop a) :=
  otherwise fun _ => (stopLaw s a hw hlaw hkey).trans (modAxo a _ (by intros; rfl))

include hw in
theorem holdAxis : LoopFrame w s (s.holdAxis a) :=
  otherwise fun _ => ite (fun _ => startLaw s a hlaw hkey true) fun _ => stopLaw s a hw hlaw hkey

include hw in
theorem lawBoundary (m : Nat) (b : Lt) : LoopFrame w s (s.lawBoundary a m b) := by
  have hwait {r : State} : LoopFrame w r (r.modAxis a fun y => { y with holdWait := false }) := modAxisBeside a _ (by intros; exact ⟨rfl, rfl⟩)
  unfold State.lawBoundary
  refine ite (fun _ => ?_) fun _ => ?_
  · refine ite (fun _ => ite (fun _ => (stopLaw s a hw hlaw hkey).trans hwait) fun _ => when fun _ => hwait) fun _ => ?_
    refine ite (fun _ => when fun _ => ?_) fun _ => hwait
    exact (startLaw s a hlaw hkey true).trans (modAxisBeside a _ (by intros; exact ⟨rfl, rfl⟩))
  · refine LoopFrame.trans hwait ?_
    refine ite (fun _ => ?_) fun _ => (stopLaw _ a hw hlaw hkey).trans (modAxo a _ (by intros; rfl))
    refine LoopFrame.trans ?_ (otherwise fun _ => modAxo a _ (by intros; rfl))
    exact ite (fun _ => when fun _ => startLaw _ a hlaw hkey false) fun _ => when fun _ => startLaw _ a hlaw hkey false

end

end LoopFrame

end Sys2Proof.Machine
end

section
/-! PROOFS. Units that park and return, transitions and the lock-keeper's steps at a boundary (R411, R425 to R430, R438). -/

namespace Sys2Proof.Machine

theorem lt_of_mem_axesOf {t a : Nat} (ht : t < 8) (h : a ∈ axesOf t) : a < 48 := by
  simp only [axesOf, List.mem_cons, List.not_mem_nil, or_false] at h
  omega

namespace LoopFrame

/-! ### An axis that is back in service (R429) -/

section
variable {w : Watched} (hw : w.Lawful) (s : State) {a : Nat} (hkeys : ∀ k, k ∈ axisKeys a → ¬ w.regs k)
include hw hkeys

theorem axisBack (since : Lt) : LoopFrame w s (s.axisBack a since) := by
  unfold State.axisBack
  refine LoopFrame.trans ?_ (raise hw _ _ _ _ _ (by decide))
  refine LoopFrame.trans ?_ (when fun _ => wr _ _ (hw.device (by simp [deviceKeys])))
  refine LoopFrame.trans ?_ (modAxisBeside a _ (by intros; exact ⟨rfl, rfl⟩))
  exact (wr _ _ (hkeys _ (by simp [axisKeys]))).trans (wr _ _ (hkeys _ (by simp [axisKeys])))

end

theorem returnsDone {w : Watched} (hw : w.Lawful) (s : State) {t : Nat} (ht : t < 8)
    (hall : (s.engine t).returnCls ≠ none → (∀ k, ¬ w.regs k) ∧ ¬ w.plans) : LoopFrame w s (s.returnsDone t) := by
  unfold State.returnsDone
  dsimp only
  refine LoopFrame.trans ?_ (foldl _ fun r a ha => when fun _ => axisBack hw r (fun k hk => hw.axis (lt_of_mem_axesOf ht ha) hk) _)
  split
  · next cls u hcls =>
    obtain ⟨hno, hplans⟩ := hall (by rw [hcls]; exact Option.some_ne_none _)
    refine when fun _ => ?_
    refine LoopFrame.trans ?_ (raiseIf hw _ _ _ _ _ _ (by decide))
    refine LoopFrame.trans ?_ (raise hw _ _ _ _ _ (by decide))
    exact LoopFrame.trans (foldl _ fun r a _ => axisBack hw r (fun k _ => hno k) _) (modEngine t _ (by intros; rfl) fun h => (hplans h).elim)
  · exact refl s

/-! ### Units that park and return (R426 to R430) -/

/-- Nothing of the registers or the units is watched. -/
theorem not_none (k : Nat) : ¬ Watched.none.regs k := fun h => h

section
variable (s : State)

theorem parkAxis (a cause : Nat) (alone : Bool) : LoopFrame Watched.none s (s.parkAxis a cause alone) := by
  unfold State.parkAxis
  refine otherwise fun _ => ?_
  refine LoopFrame.trans ?_ (raiseIf Watched.lawful_none _ _ _ _ _ _ (by decide))
  refine LoopFrame.trans ?_ (raise Watched.lawful_none _ _ _ _ _ (by decide))
  refine LoopFrame.trans ?_ (modEngine _ _ (by intros; rfl) fun h => h.elim)
  refine LoopFrame.trans ?_ (modAxisBeside a _ (by intros; exact ⟨rfl, rfl⟩))
  exact ((((stopLaw s a Watched.lawful_none id (not_none _)).trans (wr _ _ (not_none _))).trans (wr _ _ (not_none _))).trans
    (wr _ _ (not_none _))).trans (wr _ _ (not_none _))

theorem parkAxes (as : List Nat) (cause : Nat) : LoopFrame Watched.none s (as.foldl (fun s a => s.parkAxis a cause false) s) :=
  foldl _ fun r a _ => parkAxis r a cause false

theorem parkEngine (t cause axisCause : Nat) : LoopFrame Watched.none s (s.parkEngine t cause axisCause) := by
  unfold State.parkEngine
  refine otherwise fun _ => ?_
  exact ((wrField _ _ _ _ (not_none _)).trans (raise Watched.lawful_none _ _ _ _ _ (by decide))).trans (parkAxes _ _ _)

theorem endReturn (t cls : Nat) (back : Option Nat) (since : Lt) : LoopFrame Watched.none s (s.endReturn t cls back since) := by
  unfold State.endReturn
  dsimp only
  split
  · exact modEngine _ _ (by intros; rfl) fun h => h.elim
  · refine LoopFrame.trans ?_ (raiseIf Watched.lawful_none _ _ _ _ _ _ (by decide))
    exact LoopFrame.trans (modEngine t _ (by intros; rfl) fun h => h.elim) (raise Watched.lawful_none _ _ _ _ _ (by decide))

theorem anyTile (t : Nat) (f : Tile → Tile) : LoopFrame Watched.none s (s.modTile t f) := modTile t f fun h => h.elim

theorem stopDriver (t j : Nat) : LoopFrame Watched.none s (s.stopDriver t j) := by
  unfold State.stopDriver State.modDriver
  exact anyTile s t _

theorem startDriver (t j : Nat) : LoopFrame Watched.none s (s.startDriver t j) := by
  unfold State.startDriver State.modDriver
  exact when fun _ => anyTile s t _

theorem tileOn (t : Nat) : LoopFrame Watched.none s (s.tileOn t) := by
  unfold State.tileOn
  exact anyTile s t _

theorem parkTile (t : Nat) : LoopFrame Watched.none s (s.parkTile t) := by
  unfold State.parkTile
  refine otherwise fun _ => ?_
  refine LoopFrame.trans ?_ (parkEngine _ _ _ _)
  refine LoopFrame.trans ?_ (anyTile _ _ _)
  exact ((wrField _ _ _ _ (not_none _)).trans (raise Watched.lawful_none _ _ _ _ _ (by decide))).trans (each fun r j _ => stopDriver r t j)

theorem parkUnit (cls inst : Nat) : LoopFrame Watched.none s (s.parkUnit cls inst) := by
  unfold State.parkUnit
  refine ite (fun _ => parkAxis s _ _ _) fun _ => ite (fun _ => ?_) fun _ => when fun _ => ?_
  · exact ((parkEngine s _ _ _).trans (parkAxes _ _ _)).trans (endReturn _ _ _ _ _)
  · exact ((parkTile s _).trans (parkAxes _ _ _)).trans (endReturn _ _ _ _ _)

theorem axisReturns (a cause : Nat) (alone : Bool) : LoopFrame Watched.none s (s.axisReturns a cause alone) := by
  unfold State.axisReturns
  refine LoopFrame.trans (raise Watched.lawful_none s 0x2031 cAXIS a [] (by decide)) ?_
  refine ite (fun _ => axisBack Watched.lawful_none _ (fun k _ => not_none k) _) fun _ => ?_
  exact LoopFrame.trans (wr _ _ (not_none _)) (modAxisBeside a _ (by intros; exact ⟨rfl, rfl⟩))

theorem returnBegins (t : Nat) (l : List Nat) (c : Option (Nat × Nat)) (x : Lt) :
    LoopFrame Watched.none s (s.modEngine t fun e => { e with returning := l, returnCls := c, returnFrom := x }) := modEngine t _ (by intros; rfl) fun h => h.elim

theorem returnUnit (cls inst : Nat) : LoopFrame Watched.none s (s.returnUnit cls inst) := by
  unfold State.returnUnit
  refine ite (fun _ => when fun _ => axisReturns s _ _ _) fun _ => when fun _ => ?_
  dsimp only
  refine LoopFrame.trans ?_ (when fun _ => ?_)
  · refine LoopFrame.trans ?_ (returnBegins _ inst _ _ _)
    refine LoopFrame.trans ?_ (foldl _ fun r a _ => axisReturns r a _ false)
    refine LoopFrame.trans ?_ (raiseIf Watched.lawful_none _ _ _ _ _ _ (by decide))
    refine LoopFrame.trans ?_ (wrField _ _ _ _ (not_none _))
    refine LoopFrame.trans (raise Watched.lawful_none s 0x2031 cls inst [] (by decide)) (when fun _ => ?_)
    refine LoopFrame.trans ?_ (when fun _ => each fun r j _ => when fun _ => startDriver r inst j)
    exact (wrField _ _ _ _ (not_none _)).trans (tileOn _ _)
  · refine LoopFrame.trans ?_ (raiseIf Watched.lawful_none _ _ _ _ _ _ (by decide))
    refine LoopFrame.trans ?_ (raise Watched.lawful_none _ _ _ _ _ (by decide))
    refine LoopFrame.trans ?_ (modEngine inst _ (by intros; rfl) fun h => h.elim)
    exact foldl _ fun r a _ => axisBack Watched.lawful_none r (fun k _ => not_none k) _

theorem actDue (d : Due) : LoopFrame Watched.none s (s.actDue d) := by
  cases d with
  | park cls inst cause => exact parkUnit s cls inst
  | ret cls inst => exact returnUnit s cls inst
  | resume l => exact resumeStream Watched.lawful_none s ⟨id, id⟩

theorem dueBoundary (t : Nat) (b : Lt) : LoopFrame Watched.none s (s.dueBoundary t b) :=
  LoopFrame.trans (modEngine t _ (by intros; rfl) fun h => h.elim) (foldl _ fun r x _ => actDue r x.2)

end

end LoopFrame

end Sys2Proof.Machine
end

section
/-! PROOFS. Latches, lasers, cameras and values in use leave alone what a statement watches over a boundary (R43, R168, R188 to R190,
R363 to R375, R383). -/

namespace Sys2Proof.Machine

/-! ### The parts of a laser's boundary (R220, R230) -/

/-- The offsets and the set-points of laser l that its boundary puts in use. -/
def State.laserShows (s : State) (l : Nat) (t : Lt) : State :=
  let s := s.modLaser l fun y => { y with corrNow := y.corr, stream := { y.stream with now := y.stream.cur } }
  ((s.wrS 32 (Reg.corrDx l) (s.laser l).corr.1).wrS 32 (Reg.corrDy l) (s.laser l).corr.2).tagOffsets l t

/-- The stream of laser l comes to the boundary. -/
def State.laserReaches (s : State) (l : Nat) (t : Lt) : State :=
  let s := s.laserShows l t
  if s.rd (Reg.streamState l) = 1 then (s.streamProgress l t).stopIfDue l t else s

/-- A stream that starts at the boundary. -/
def State.laserStarts (s : State) (l : Nat) (t : Lt) : State :=
  if s.laserBuilds l ∧ (s.laser l).stream.startAt = some t ∧ !(s.laser l).stream.finished then
    let s := (s.wr (Reg.streamState l) 1).corrZero l
    let s := s.modStream l fun m => { m with startAt := none }
    if s.layer.started then s else
      let s := (s.modLayer fun x => { x with started := true }).wr Reg.layerState 2
      s.raise 0x3510 cDEVICE 0 (dU 4 (s.rd Reg.layerInUse) ++ dU 1 (s.rd Reg.layerBuffer))
  else s

/-- A resumed stream whose records are back. -/
def State.laserResumes (s : State) (l : Nat) (t : Lt) (tns : Nat) : State :=
  let m := (s.laser l).stream
  match m.resumeSeg with
  | some seg =>
    if m.staging.any (fun r => r.1 == seg) then
      let t0 := t + ns tns
      if m.approach then
        let goal := m.stopPt
        let t1 := t0 + quarters (moveQuarters (pathLenSq m.point goal) (s.rd (Reg.resumeSpeed l)))
        let x : Seg := { s := seg, ty := 0, p0 := m.point, p1 := goal, t0 := t0, t1 := t1, t2 := t1, begun := true, prof := m.profile }
        s.modStream l fun m => { m with segs := [x], lastEnd := goal, lastTime := t1, resumeSeg := none, frozen := false }
      else s.modStream l fun m => { m with segs := [], lastEnd := m.stopPt, lastTime := t0, resumeSeg := none, frozen := false }
    else s
  | none => s

/-- The stream decodes for the next two periods. -/
def State.laserDecodes (s : State) (l : Nat) (t : Lt) (tns : Nat) : State :=
  let m := (s.laser l).stream
  if s.laserBuilds l ∧ !m.finished ∧ m.resumeSeg.isNone ∧ (s.rd (Reg.streamState l) = 1 ∨ m.startAt.isSome) then
    s.decodeMany l (t + ns (2 * tns)) 1536
  else s

theorem State.laserBoundary_eq (s : State) (l : Nat) (t : Lt) : s.laserBoundary l t =
    (((s.laserReaches l t).laserStarts l t).laserResumes l t (s.loopNs (l / 2))).laserDecodes l t (s.loopNs (l / 2)) := rfl

namespace LoopFrame

section
variable {w : Watched} (hw : w.Lawful) (s : State) {t : Nat} (ht : t < 8)
include hw ht

/-! ### Latches of a boundary (R34, R136, R168) -/

theorem boundaryLatch (ago : Nat) : LoopFrame w s (s.boundaryLatch t ago) := by
  unfold State.boundaryLatch
  refine LoopFrame.trans (each fun r j hj => wrField _ _ _ _ (hw.tile ht (by simp [tileKeys, hj]))) (foldl _ fun r a ha => ?_)
  refine otherwise fun _ => ?_
  exact LoopFrame.trans (when fun _ => bump _ _ (hw.axis (lt_of_mem_axesOf ht ha) (by simp [axisKeys]))) (modObs _ _)

theorem latchLate : LoopFrame w s (s.latchLate t) := by
  unfold State.latchLate
  split
  · exact LoopFrame.trans (boundaryLatch hw s ht 2) (modEngine t _ (by intros; rfl) (by intros; rfl))
  · exact refl s

omit hw ht in
theorem keepEarlier (b : Lt) : LoopFrame w s (s.keepEarlier t b) := otherwise fun _ => modEngine t _ (by intros; rfl) (by intros; rfl)

theorem tempLatch : LoopFrame w s (s.tempLatch t) := by
  unfold State.tempLatch
  refine foldl _ fun r a ha => otherwise fun _ => ?_
  refine LoopFrame.trans ?_ (modObs _ _)
  exact LoopFrame.trans (wrS _ _ _ (hw.axis (lt_of_mem_axesOf ht ha) (by simp [axisKeys]))) (raiseIf hw _ _ _ _ _ _ (by decide))

end

section
variable {w : Watched} (hw : w.Lawful) (s : State)

theorem sampleTarget (a : Nat) : LoopFrame w s (s.sampleTarget a) := by
  unfold State.sampleTarget
  exact modAxisBeside a _ (by intros; exact ⟨rfl, rfl⟩)

theorem feedAsked (a : Nat) : LoopFrame w s (s.feedAsked a) := by
  unfold State.feedAsked
  exact modObs a _

include hw

theorem staleCheck (t j : Nat) : LoopFrame w s (s.staleCheck t j) := by
  unfold State.staleCheck
  refine LoopFrame.trans ?_ (modDriver t j _ fun _ _ => rfl)
  exact raiseIf hw _ _ _ _ _ _ (by decide)

theorem chooseTrigger (c : Nat) (b : Lt) (hc : ¬ w.cams) : LoopFrame w s (s.chooseTrigger c b) := by
  unfold State.chooseTrigger
  exact otherwise fun _ => when fun _ => LoopFrame.trans (modCam c _ hc) (notePending hw _)

/-! ### Lasers at a boundary (R220, R221, R368 to R375, R383) -/

section
variable {l : Nat} (hl : l < 16) (b : Lt) (tns : Nat)
include hl

theorem laserShows (hstream : ¬ w.streams l) : LoopFrame w s (s.laserShows l b) := by
  have htold {r : State} : LoopFrame w r (r.tagOffsets l b) := vision _ rfl
  unfold State.laserShows
  refine LoopFrame.trans ?_ htold
  refine LoopFrame.trans ?_ (wrS _ _ _ (hw.laser hl (by simp [laserKeys])))
  refine LoopFrame.trans ?_ (wrS _ _ _ (hw.laser hl (by simp [laserKeys])))
  exact anyLaser _ hstream _ (by intros; rfl)

theorem laserReaches (hoff : w.Off l) : LoopFrame w s (s.laserReaches l b) :=
  (laserShows hw s hl b hoff.stream).trans (when fun _ => (streamProgress hw _ hl hoff _).trans (stopIfDue hw _ hl hoff _))

theorem laserStarts (hoff : w.Off l) (hlayer : ¬ w.regs Reg.layerState) : LoopFrame w s (s.laserStarts l b) := by
  unfold State.laserStarts
  refine when fun _ => ?_
  have hbegun : LoopFrame w s (((s.wr (Reg.streamState l) 1).corrZero l).modStream l fun m => { m with startAt := none }) :=
    ((wr _ _ hoff.state).trans (corrZero hw _ hl)).trans (modStream l _ hoff.stream)
  refine hbegun.trans (otherwise fun _ => ?_)
  exact ((modLayer _).trans (wr _ _ hlayer)).trans (raise hw _ _ _ _ _ (by decide))

omit hw hl in
theorem laserResumes (hstream : ¬ w.streams l) : LoopFrame w s (s.laserResumes l b tns) := by
  unfold State.laserResumes
  dsimp only
  split
  · exact when fun _ => ite (fun _ => modStream l _ hstream) fun _ => modStream l _ hstream
  · exact refl s

omit hl in
theorem laserDecodes (hstream : ¬ w.streams l) : LoopFrame w s (s.laserDecodes l b tns) := when fun _ => decodeMany hw s hstream _ _

end

theorem laserBoundary {l : Nat} (hl : l < 16) (b : Lt) (hoff : w.Off l) (hlayer : ¬ w.regs Reg.layerState) :
    LoopFrame w s (s.laserBoundary l b) := by
  rw [State.laserBoundary_eq]
  exact (((laserReaches hw s hl b hoff).trans (laserStarts hw _ hl b hoff hlayer)).trans (laserResumes _ b _ hoff.stream)).trans
    (laserDecodes hw _ b _ hoff.stream)

end

end LoopFrame

end Sys2Proof.Machine
end

section
/-! PROOFS. Offsets, searches, grids and set-points of a laser at a boundary (R220, R368 to R375, R383, R394). -/

namespace Sys2Proof.Machine

namespace LoopFrame

section
variable {w : Watched} (hw : w.Lawful) (s : State) {l : Nat} (hl : l < 16)
include hw hl

theorem corrBoundary (b : Lt) (hc : ∀ x, x ∈ (s.laser l).cands → ¬ w.regs (Reg.camCorrOutranked x.camera)) :
    LoopFrame w s (s.corrBoundary l b) := by
  have hkey {r : State} (k v : Nat) (hk : k ∈ laserKeys l) : LoopFrame w r (r.wr k v) := laserWr hw r hl v hk
  unfold State.corrBoundary
  refine LoopFrame.trans ?_ (modLaserBeside l _ (by intros; exact ⟨rfl, rfl⟩))
  refine LoopFrame.trans ?_ (when fun _ => when fun _ => ?_)
  · refine LoopFrame.trans (modLaser l (fun y => { y with cands := y.cands.filter fun x => !decide (x.use ≤ b) }) (by intros; rfl)
      fun _ _ => List.mem_of_mem_filter) ?_
    split
    · exact refl _
    · next x rest _ =>
      refine LoopFrame.trans ?_ (raiseIf hw _ _ _ _ _ _ (by decide))
      refine LoopFrame.trans ?_ (vision _ rfl)
      refine LoopFrame.trans ?_ (hkey _ _ (by simp [laserKeys]))
      refine LoopFrame.trans ?_ (hkey _ _ (by simp [laserKeys]))
      refine LoopFrame.trans ?_ (modLaserBeside l _ (by intros; exact ⟨rfl, rfl⟩))
      refine foldl _ fun r y hy => otherwise fun _ => bump _ _ (hc y ?_)
      exact List.mem_of_mem_filter hy
  · refine LoopFrame.trans ?_ (raise hw _ _ _ _ _ (by decide))
    exact LoopFrame.trans (modLaserBeside l _ (by intros; exact ⟨rfl, rfl⟩)) (hkey _ _ (by simp [laserKeys]))

theorem afBoundary (b : Lt) : LoopFrame w s (s.afBoundary l b) := by
  have hkey {r : State} (k v : Nat) (hk : k ∈ laserKeys l) : LoopFrame w r (r.wr k v) := laserWr hw r hl v hk
  have hoffset {r : State} (v : Int) : LoopFrame w r (r.wrS 32 (Reg.afOffset l) v) := hkey _ _ (by simp [laserKeys])
  unfold State.afBoundary
  split
  · exact refl s
  · refine ite (fun _ => modLaserBeside l _ (by intros; exact ⟨rfl, rfl⟩)) fun _ => ite (fun _ => ite (fun _ => modLaserBeside l _ (by intros; exact ⟨rfl, rfl⟩)) fun _ => ?_) fun _ => ite (fun _ => ?_) fun _ => modLaserBeside l _ (by intros; exact ⟨rfl, rfl⟩)
    · exact ((modLaserBeside l _ (by intros; exact ⟨rfl, rfl⟩)).trans (hoffset _)).trans (modLaserBeside l _ (by intros; exact ⟨rfl, rfl⟩))
    · split
      · refine ite (fun _ => ?_) fun _ => ?_
        · exact ((modLaserBeside l _ (by intros; exact ⟨rfl, rfl⟩)).trans (hkey _ _ (by simp [laserKeys]))).trans (afAbandon hw _ hl _)
        · have hfound {r : State} (h : LoopFrame w s r) (z : Int) (m : Nat) :
              LoopFrame w s (((r.wrS 32 (Reg.afOffset l) z).wr (Reg.afResult l) m).raise 0x3A09 cLASER l (dU 1 m ++ dI 4 z)) :=
            ((h.trans (hoffset _)).trans (hkey _ _ (by simp [laserKeys]))).trans (raise hw _ _ _ _ _ (by decide))
          have hover (x y : Option Search) :
              LoopFrame w s (((s.modLaser l fun z => { z with search := x }).modLaser l fun z => { z with search := y }).wr (Reg.afState l) 0) :=
            ((modLaserBeside _ _ (by intros; exact ⟨rfl, rfl⟩)).trans (modLaserBeside _ _ (by intros; exact ⟨rfl, rfl⟩))).trans (hkey _ _ (by simp [laserKeys]))
          dsimp only
          split
          · split
            · exact hfound ((hover _ _).trans (freeCount _)) _ _
            · exact hfound (hover _ _) _ _
          · exact hfound (hover _ _) _ _
      · exact ((modLaserBeside l _ (by intros; exact ⟨rfl, rfl⟩)).trans (hkey _ _ (by simp [laserKeys]))).trans (afAbandon hw _ hl _)

theorem laserSetpoint (b : Lt) (seg gridErr : Bool) (hoff : w.Off l) : LoopFrame w s (s.laserSetpoint l b seg gridErr) := by
  have hform (r : State) (f : Stream → Stream) : LoopFrame w r (r.modStream l f) := modStream l f hoff.stream
  unfold State.laserSetpoint
  refine LoopFrame.trans ?_ (refill _ hoff.stream)
  refine LoopFrame.trans ?_ (ite (fun _ => hform _ _) fun _ => hform _ _)
  refine LoopFrame.trans ?_ (when fun _ => stopWithin hw _ hl hoff _ _)
  refine when fun _ => ?_
  split
  · exact LoopFrame.trans (hform _ _) (addStop hw _ hoff.stream _ _)
  · exact refl s

end

/-! ### Bursts of the memory (R383, R393, R394) -/

section
variable {w : Watched} (hw : w.Lawful) (hm : ¬ w.mem) (s : State)
include hm

omit hm in
theorem memBurstBad (hw : w.Lawful) (cls burst kind : Nat) : LoopFrame w s (s.memBurstBad cls burst kind) :=
  (((wr _ _ (hw.device (by simp [deviceKeys]))).trans (wr _ _ (hw.device (by simp [deviceKeys])))).trans
    (bump _ _ (hw.device (by simp [deviceKeys])))).trans (raise hw _ _ _ _ _ (by decide))

theorem leaveBad (e : MemErr) : LoopFrame w s (s.leaveBad e) := otherwise fun _ => modMem _ hm

include hw

theorem memSingle (cls burst : Nat) : LoopFrame w s (s.memSingle cls burst) := by
  unfold State.memSingle
  refine LoopFrame.trans ?_ (raiseIf hw _ _ _ _ _ _ (by decide))
  refine LoopFrame.trans ?_ (modMem _ hm)
  refine LoopFrame.trans ?_ (bump _ _ ?_)
  · exact (wr _ _ (hw.device (by simp [deviceKeys]))).trans (wr _ _ (hw.device (by simp [deviceKeys])))
  · split <;> exact hw.device (by simp [deviceKeys])

theorem readBurst (cls k : Nat) (l : List MemErr) : LoopFrame w s (s.readBurst cls k l).1 := by
  have hsingle := foldl (w := w) (s := s) (l.filter fun e => s.errKind e == 1) fun r _ _ => memSingle hw hm r cls k
  unfold State.readBurst
  dsimp only
  split
  · exact hsingle
  · exact (hsingle.trans (memBurstBad _ hw _ _ _)).trans (foldl _ fun r e _ => leaveBad hm r e)

theorem trajBurst (k : Nat) (l : List MemErr) : LoopFrame w s (s.trajBurst k l).1 := by
  have hread := readBurst hw hm s clsTRAJ k l
  unfold State.trajBurst
  refine iteFst (fun _ => hread) fun _ => iteFst (fun _ => ?_) fun _ => ?_
  · exact (hread.trans (bump _ _ (hw.device (by simp [deviceKeys])))).trans (raise hw _ _ _ _ _ (by decide))
  · exact hread.trans (readBurst hw hm _ _ _ _)

theorem trajErrors (l : List MemErr) : LoopFrame w s (s.trajErrors l).1 := by
  have hpass (ks : List Nat) (x : State × List Nat) (hx : LoopFrame w s x.1) :
      LoopFrame w s (ks.foldl (init := x) fun (x : State × List Nat) k =>
        let r := x.1.trajBurst k (l.filter (·.burst == k))
        (r.1, if r.2 then k :: x.2 else x.2)).1 := by
    induction ks generalizing x with
    | nil => exact hx
    | cons k ks ih => exact ih _ (hx.trans (trajBurst hw hm _ _ _))
  exact hpass _ (s, []) (refl s)

omit hm in
theorem gridLatency (again : Bool) : LoopFrame w s (s.gridLatency again) :=
  LoopFrame.trans (freeCount _) (wr _ _ (hw.device (by simp [deviceKeys])))

theorem gridErrors (l : Nat) (next : Lt) (errs : List (Nat × MemErr)) : LoopFrame w s (s.gridErrors l next errs).1 := by
  unfold State.gridErrors
  exact iteFst (fun _ => (trajErrors hw hm s _).trans (gridLatency hw _ _)) fun _ => refl s

end

end LoopFrame

end Sys2Proof.Machine
end

section
/-! PROOFS. Values in use, swaps and pounds that lock leave alone what a statement watches beside them (R43, R46, R52, R188 to R190,
R241, R388). -/

namespace Sys2Proof.Machine

/-- What follows from a value of k stays off the units that `w` watches. -/
structure KeyApart (w : Watched) (k : Nat) : Prop where
  axis : 0x3000 ≤ keyIndex k → keyIndex k < 0x3C00 → ¬ w.laws ((keyIndex k - 0x3000) / 0x40) ∧ ¬ w.ranges ((keyIndex k - 0x3000) / 0x40)
  tile : 0x2100 ≤ keyIndex k → keyIndex k < 0x2180 → ¬ w.drives ((keyIndex k - 0x2100) / 0x10)

/-- Nothing that a lockage changes is watched, but what a boundary carries on. -/
structure Watched.Bare (w : Watched) : Prop where
  regs : ∀ k, ¬ w.regs k
  pounds : ∀ p, ¬ w.pounds p
  laws : ∀ a, ¬ w.laws a
  ranges : ∀ a, ¬ w.ranges a
  drives : ∀ t, ¬ w.drives t
  mem : ¬ w.mem
  streams : ∀ l, ¬ w.streams l

theorem Watched.bare_none : Watched.none.Bare := ⟨fun _ => id, fun _ => id, fun _ => id, fun _ => id, fun _ => id, id, fun _ => id⟩

namespace Watched.Bare

variable {w : Watched} (h : w.Bare)
include h

theorem lawful : w.Lawful := fun k hk => (h.regs k hk).elim

theorem layerFree : w.LayerFree := ⟨fun l _ => ⟨h.streams l, h.regs _⟩, h.regs _⟩

theorem keyApart (k : Nat) : KeyApart w k := ⟨fun _ _ => ⟨h.laws _, h.ranges _⟩, fun _ _ => h.drives _⟩

theorem swapApart (a : Nat) : ¬ w.laws a ∧ ¬ w.regs (Reg.swapCount a) ∧ ¬ w.regs (Reg.swapLostCount a) := ⟨h.laws a, h.regs _, h.regs _⟩

end Watched.Bare

/-- The lockage of pound p stays off what `w` watches. -/
structure PoundApart (w : Watched) (s : State) (p : Nat) : Prop where
  pound : ¬ w.pounds p
  keys : ∀ e, e ∈ (s.pound p).staged → ¬ w.regs e.1 ∧ KeyApart w e.1
  record : ¬ w.regs (poundKey p 5) ∧ ¬ w.regs (poundKey p 6)
  axis : p < 48 → ¬ w.laws p ∧ ¬ w.regs (Reg.swapCount p) ∧ ¬ w.regs (Reg.swapLostCount p)
  device : p = pDevice → ¬ w.regs Reg.memState
  layer : p = pDevice → (s.pound p).has Reg.layerNumber = true → w.LayerFree
  mem : ¬ w.mem

theorem PoundApart.bare {w : Watched} (h : w.Bare) (s : State) (p : Nat) : PoundApart w s p :=
  ⟨h.pounds p, fun _ _ => ⟨h.regs _, h.keyApart _⟩, ⟨h.regs _, h.regs _⟩, fun _ => h.swapApart p, fun _ => h.regs _, fun _ _ => h.layerFree, h.mem⟩

namespace LoopFrame

theorem memPort {w : Watched} {s : State} (x : MemPort) (hm : ¬ w.mem) : LoopFrame w s { s with memPort := x } := modMem (fun _ => x) hm

/-! ### A value comes into use -/

section
variable {w : Watched} (hw : w.Lawful) (s : State)
include hw

theorem startRange {a : Nat} (ha : a < 48) (h : ¬ w.laws a ∧ ¬ w.ranges a) : LoopFrame w s (s.startRange a) := by
  unfold State.startRange
  refine LoopFrame.trans ?_ (setCode _ _ _)
  refine LoopFrame.trans ?_ (modAxis a _ (fun hl => (h.1 hl).elim) fun hr => (h.2 hr).elim)
  exact LoopFrame.trans (stopLaw s a hw h.1 (hw.axis ha (by simp [axisKeys]))) (raiseIf hw _ _ _ _ _ _ (by decide))

omit hw in
theorem pulseFrom (a : Nat) : LoopFrame w s (s.pulseFrom a) := by
  unfold State.pulseFrom
  exact when fun _ => modAxisBeside a _ (by intros; exact ⟨rfl, rfl⟩)

omit hw in
theorem excitationChanged (t j : Nat) (ht : ¬ w.drives t) : LoopFrame w s (s.excitationChanged t j) := by
  unfold State.excitationChanged
  exact when fun _ => ite (fun _ => modDriver t j _ fun h => (ht h).elim) fun _ => when fun _ => modDriver t j _ fun h => (ht h).elim

theorem afterUse {k : Nat} (old : Nat) (hk : KeyApart w k) : LoopFrame w s (s.afterUse k old) := by
  have hdevice (i : Nat) (hi : i ∈ deviceKeys) {r : State} (v : Nat) : LoopFrame w r (r.wr i v) := wr _ _ (hw.device hi)
  unfold State.afterUse
  refine ite (fun haxis => ?_) fun _ => ite (fun htile => ?_) fun _ => ?_
  · have ha : (keyIndex k - 0x3000) / 0x40 < 48 := by omega
    have hapart := hk.axis haxis.1 haxis.2
    refine ite (fun _ => otherwise fun _ => startRange hw s ha hapart) fun _ => ite (fun _ => when fun _ => setCode _ _ _) fun _ => ?_
    refine ite (fun _ => pulseFrom s _) fun _ => ite (fun _ => modLaw _ _ hapart.1) fun _ => when fun _ => modAxisBeside _ _ (by intros; exact ⟨rfl, rfl⟩)
  · have ht : (keyIndex k - 0x2100) / 0x10 < 8 := by omega
    have hapart := hk.tile htile.1 htile.2
    refine ite (fun _ => otherwise fun _ => ?_) fun _ => when fun _ => (excitationChanged s _ _ hapart).trans (staleCheck hw _ _ _)
    exact LoopFrame.trans (wr _ _ (hw.tile ht (by simp [tileKeys]))) (modTile _ _ fun h => (hapart h).elim)
  · refine ite (fun _ => LoopFrame.trans (when fun _ => noteCode _ _) (noteTest _)) fun _ => ite (fun _ => noteTest s) fun _ => ?_
    refine ite (fun _ => otherwise fun _ => hdevice _ (by simp [deviceKeys]) _) fun _ => ite (fun _ => ?_) fun _ => when fun _ => hdevice _ (by simp [deviceKeys]) _
    refine LoopFrame.trans ?_ (when fun _ => LoopFrame.trans (hdevice _ (by simp [deviceKeys]) _) (hdevice _ (by simp [deviceKeys]) _))
    exact when fun _ => LoopFrame.trans (hdevice _ (by simp [deviceKeys]) _) (hdevice _ (by simp [deviceKeys]) _)

theorem putInUse {k : Nat} (v : Nat) (hk : ¬ w.regs k ∧ KeyApart w k) : LoopFrame w s (s.putInUse k v) :=
  LoopFrame.trans (wr k v hk.1) (afterUse hw _ _ hk.2)

/-! ### Swaps (R189, R190) -/

theorem beginSwap {a : Nat} (x : Swap) (h : ¬ w.laws a ∧ ¬ w.regs (Reg.swapCount a) ∧ ¬ w.regs (Reg.swapLostCount a)) :
    LoopFrame w s (s.beginSwap a x) := by
  obtain ⟨hlaw, hcount, hlost⟩ := h
  unfold State.beginSwap
  refine ite (fun _ => (bump _ _ hlost).trans (raise hw _ _ _ _ _ (by decide))) fun _ => ite (fun _ => ?_) fun _ => ?_
  · exact LoopFrame.trans (LoopFrame.trans (modLaw a _ hlaw) (bump _ _ hcount)) (raise hw _ _ _ _ _ (by decide))
  · exact LoopFrame.trans (LoopFrame.trans (modLaw a _ hlaw) (bump _ _ hcount)) (raise hw _ _ _ _ _ (by decide))

theorem lockSwap {a : Nat} (h : ¬ w.laws a ∧ ¬ w.regs (Reg.swapCount a) ∧ ¬ w.regs (Reg.swapLostCount a)) : LoopFrame w s (s.lockSwap a) := by
  obtain ⟨hlaw, hcount, hlost⟩ := h
  unfold State.lockSwap
  split
  · exact refl s
  · next x _ =>
    have htaken : LoopFrame w s (s.modLaw a fun l => { l with armed := none }) := modLaw a _ hlaw
    have hheld : LoopFrame w s (match ((s.modLaw a fun l => { l with armed := none }).axis a).law.held with
        | some h => (((s.modLaw a fun l => { l with armed := none }).modLaw a fun l => { l with held := none }).bump 32
            (Reg.swapLostCount a)).raise 0x3412 cAXIS a (dU 4 h.crc ++ dU 4 x.crc)
        | none => s.modLaw a fun l => { l with armed := none }) := by
      split
      · exact htaken.trans (LoopFrame.trans (LoopFrame.trans (modLaw a _ hlaw) (bump _ _ hlost)) (raise hw _ _ _ _ _ (by decide)))
      · exact htaken
    refine hheld.trans (ite (fun _ => ?_) fun _ => beginSwap hw _ x ⟨hlaw, hcount, hlost⟩)
    exact LoopFrame.trans (modLaw a _ hlaw) (raise hw _ _ _ _ _ (by decide))

theorem beginHeld {a : Nat} (h : ¬ w.laws a ∧ ¬ w.regs (Reg.swapCount a) ∧ ¬ w.regs (Reg.swapLostCount a)) : LoopFrame w s (s.beginHeld a) := by
  unfold State.beginHeld
  split
  · exact when fun _ => LoopFrame.trans (modLaw a _ h.1) (beginSwap hw _ _ h)
  · exact refl s

theorem startSwitch (rate : Nat) (h : ¬ w.regs Reg.memState) (hm : ¬ w.mem) : LoopFrame w s (s.startSwitch rate) := by
  unfold State.startSwitch
  refine LoopFrame.trans ?_ (raise hw _ _ _ _ _ (by decide))
  refine LoopFrame.trans ?_ (memPort _ hm)
  exact LoopFrame.trans (raiseIf hw _ _ _ _ _ _ (by decide)) (wr _ _ h)

/-! ### Pounds that lock (R41, R43, R47, R52) -/

theorem applyPound {p : Nat} (h : PoundApart w s p) : LoopFrame w s (s.applyPound p) := by
  unfold State.applyPound
  dsimp only
  have hvalues := foldl (w := w) (s := s) (s.pound p).staged fun r e he => putInUse hw r e.2 (h.keys e he)
  refine LoopFrame.trans ?_ (when fun hdevice => layerInto hw _ (h.layer hdevice.1 hdevice.2) _)
  refine LoopFrame.trans ?_ (when fun hdevice => startSwitch hw _ _ (h.device hdevice.1) h.mem)
  refine LoopFrame.trans ?_ (when fun hp => lockSwap hw _ (h.axis hp.1))
  refine LoopFrame.trans ?_ (when fun _ => pulseFrom _ _)
  exact ((hvalues.trans (modPound p _ h.pound)).trans (wr _ _ h.record.1)).trans (bump _ _ h.record.2)

omit hw in
theorem openStepEnd (hm : ¬ w.mem) : LoopFrame w s s.openStepEnd := by
  unfold State.openStepEnd
  exact when fun _ => LoopFrame.trans (freeCount _) (modMem (fun m => { m with stepEnd := _ }) hm)

theorem deferPound {p : Nat} (c : Nat) (hp : ¬ w.pounds p) (hm : ¬ w.mem) : LoopFrame w s (s.deferPound p c) := by
  unfold State.deferPound
  refine LoopFrame.trans ?_ (raise hw _ _ _ _ _ (by decide))
  exact LoopFrame.trans (when fun _ => openStepEnd s hm) (modPound p _ hp)

end

end LoopFrame

end Sys2Proof.Machine
end

section
/-! PROOFS. A LOOP boundary in its parts, and the grid on which boundaries fall (R29). Settles O12. -/

namespace Sys2Proof.Machine

/-! ### The parts of a boundary -/

/-- The instant of a boundary of ENGINE_t, up to its place on the grid. -/
def State.boundaryAt (s : State) (t : Nat) (b : Lt) : State :=
  ((s.goTo b).monReady.streamsCatch.detect).modEngine t fun x => { x with lastLoop := some b, before := x.lastLoop }

/-- What ENGINE_t latches at its boundary, and its lasers. -/
def State.boundaryLatches (s : State) (t : Nat) (b : Lt) : State :=
  let s := if (s.tile t).lastDemod = some b then (s.latchLate t).boundaryLatch t 1 else s.latchLate t
  ([2 * t, 2 * t + 1] : List Nat).foldl (fun s l => s.laserBoundary l b) s

/-- The pins of the axes of ENGINE_t at its boundary. -/
def State.boundaryPins (s : State) (t : Nat) : State :=
  (if s.pinStops t then (axesOf t).foldl State.pinStop s else s).modEngine t fun x => { x with pinFell := false }

/-- The offsets and the temperatures that the lasers and the axes of ENGINE_t take at its boundary. -/
def State.boundaryOffsets (s : State) (t : Nat) (b : Lt) : State :=
  let s := ([2 * t, 2 * t + 1] : List Nat).foldl (fun s l => (s.corrBoundary l b).afBoundary l b) s
  (each 6 s fun s j => s.staleCheck t j).tempLatch t

/-- The laws of ENGINE_t at its boundary. -/
def State.boundaryLaws (s : State) (t : Nat) (b : Lt) : State := (axesOf t).foldl (fun r a => r.lawBoundary a (s.engineMode t) b) s

/-- The targets and the next set-points at a boundary of ENGINE_t. -/
def State.boundaryNext (s : State) (t : Nat) (b : Lt) (grid : List (Nat × MemErr)) : State :=
  let s := (axesOf t).foldl (fun s a => (s.sampleTarget a).feedAsked a) s
  let s := ([2 * t, 2 * t + 1] : List Nat).foldl (init := s) fun s l =>
    let r := s.gridErrors l (b + ns (s.loopNs t)) grid
    r.1.laserSetpoint l b (s.segBoundary l b) r.2
  each 32 s fun s c => if s.camEngine c = t then s.chooseTrigger c b else s

/-- What follows the lockages at a boundary of ENGINE_t. -/
def State.boundaryEnds (s : State) (t : Nat) (b : Lt) (grid : List (Nat × MemErr)) : State :=
  ((s.boundaryOffsets t b).boundaryLaws t b).boundaryNext t b grid

theorem State.loopBoundary_eq (s : State) (t : Nat) : s.loopBoundary t [] [] =
    let b := nextGrid (ns (s.loopNs t)) s.lt (s.engine t).lastLoop
    let u := s.boundaryAt t b
    if u.modeCode = INIT then u else
      ((((((((u.boundaryLatches t b).dueBoundary t b).returnsDone t).boundaryPins t).transitionBoundary t b).keeperBoundary t).keepEarlier t b).lockages t
        b |>.boundaryEnds t b []).transitionEnd := rfl

/-! ### The parts of the lockages of a boundary (R32, R41) -/

/-- The pounds of the axes and of the engine, and the swaps that were held. -/
def State.lockAxes (s : State) (t : Nat) (k : Bool) : State :=
  let s := (axesOf t).foldl (fun s a => s.lockPound a k) s
  (axesOf t).foldl (fun s a => s.beginHeld a) (s.lockPound (pEngine t) k)

def State.lockLasers (s : State) (t : Nat) (b : Lt) (k : Bool) : State :=
  ([2 * t, 2 * t + 1] : List Nat).foldl (fun s l => if s.segBoundary l b then s.lockPound (pLaser l) k else s) s

def State.lockCameras (s : State) (t : Nat) (b : Lt) (k : Bool) : State :=
  each 32 s fun s c => if s.camEngine c = t ∧ s.frameBoundary c b then s.lockPound (pCamera c) k else s

/-- A LAYER_END that has been executed by `b` counts. -/
def State.layerEnds (s : State) (b : Lt) : State :=
  (each 16 s fun s l => if s.rd (Reg.streamState l) = 1 then s.streamProgress l b else s).layerEnd

/-- The pound of the device, once the layer has ended. -/
def State.lockLayer (s : State) (b : Lt) (k : Bool) : State :=
  if (s.layerEnds b).layerBoundary then (s.layerEnds b).lockPound pDevice k else s.layerEnds b

/-- A frequency switch that begins stops the taps into external memory. -/
def State.switchTaps (s : State) : State := if s.memState = memSWITCHING ∧ s.memPort.switchFrom = s.lt then s.stopDramTaps else s

def State.lockDevice (s : State) (b : Lt) (k : Bool) : State := (s.lockLayer b k).switchTaps

theorem State.lockages_eq (s : State) (t : Nat) (b : Lt) : s.lockages t b =
    let k := s.memStepRuns
    let r := ((s.lockAxes t k).lockLasers t b k).lockCameras t b k
    if t = 0 then r.lockDevice b k else r := by
  unfold State.lockages State.lockAxes State.lockLasers State.lockCameras State.lockDevice State.switchTaps State.lockLayer State.layerEnds
  dsimp only

/-! ### The parts of the end of a sequence, and of the lock-keeper's steps (R411) -/

/-- The record of a sequence that completes, and the end of its transition. -/
def State.sequenceEnds (s : State) (q : Sequence) : State :=
  let dur := lateNs q.t0 s.lt
  let s := s.wr Reg.lastReactionTime (Num.fitU 32 dur)
  let s := s.raiseFull 0 0x2021 cDEVICE 0 (dU 1 q.kind.order ++ dI 4 dur) (s.lt + ns 10) []
  match q.fromMode with
  | some m => ((s.wr Reg.modeStatus 0).wr Reg.lastModeLt (time80 s.lt)).raise 0x2000 cDEVICE 0 (dU 1 m ++ dU 1 HOLD ++ dU 1 q.cause)
  | none => s

/-- The next queued sequence begins. -/
def State.nextSequence (s : State) : State :=
  match s.lock.queue with
  | [] => s
  | q :: rest => (s.modLock fun x => { x with queue := rest }).startSequence q.kind s.lt q.trigger q.faulted q.cause true

theorem State.completeSequence_eq (s : State) : s.completeSequence = match s.lock.running with
    | none => s
    | some q => ((s.sequenceEnds q).modLock fun x =>
        { x with running := none, doneLt := some (s.sequenceEnds q).lt, triggerUid := none }).nextSequence := rfl

/-- The axes that sequences left at the boundary of ENGINE_t. -/
def State.leftoverDue (s : State) (t : Nat) : List (Nat × Lt) :=
  s.lock.leftover.filter fun (x : Nat × Lt) => x.1 / 6 == t && decide (x.2 + ns 1000 ≤ s.lt)

def State.leftoverParked (s : State) (t : Nat) : State :=
  (s.leftoverDue t).foldl (fun s (x : Nat × Lt) => s.parkAxis x.1 2 true)
    (s.modLock fun x => { x with leftover := x.leftover.filter fun (y : Nat × Lt) => !(s.leftoverDue t).contains y })

/-- The transition to HOLD at a boundary of ENGINE_t. -/
def State.holdRuns (s : State) (t : Nat) : State :=
  match s.lock.holdRun with
  | none => s
  | some q =>
    let r := s.step2 q t
    if r.2.engines.isEmpty then
      let s := r.1.modLock fun x => { x with holdRun := none }
      let s := (s.wr Reg.modeStatus 0).wr Reg.lastModeLt (time80 s.lt)
      let s := s.raise 0x2000 cDEVICE 0 (dU 1 (q.fromMode.getD HOLD) ++ dU 1 HOLD ++ dU 1 0)
      s.lockTransition
    else r.1.modLock fun x => { x with holdRun := some r.2 }

/-- The running sequence at a boundary of ENGINE_t. -/
def State.sequenceRuns (s : State) (t : Nat) : State :=
  match s.lock.running with
  | none => s
  | some q =>
    match q.kind with
    | .axisSafe a =>
      if a / 6 = t ∧ q.t0 + ns 1000 ≤ s.lt then (s.parkAxis a 2 true).completeSequence else s
    | .laserSafe _ => s
    | .deviceHold =>
      let r := s.step2 q t
      let s := r.1.modLock fun x => { x with running := some r.2 }
      if r.2.engines.isEmpty then s.completeSequence else s

theorem State.keeperBoundary_eq (s : State) (t : Nat) : s.keeperBoundary t = ((s.leftoverParked t).holdRuns t).sequenceRuns t := rfl

namespace LoopFrame

section
variable {w : Watched} (hw : w.Lawful) (s : State) {t : Nat} (ht : t < 8) (b : Lt)
include hw ht

omit hw in
theorem pair {f : State → Nat → State} (h : ∀ r l, l < 16 → LoopFrame w r (f r l)) : LoopFrame w s (([2 * t, 2 * t + 1] : List Nat).foldl f s) :=
  foldl _ fun r l hl => h r l (by simp only [List.mem_cons, List.not_mem_nil, or_false] at hl; omega)

theorem boundaryLatches (hfree : w.LayerFree) : LoopFrame w s (s.boundaryLatches t b) := by
  unfold State.boundaryLatches
  dsimp only
  refine LoopFrame.trans ?_ (pair _ ht fun r l hl => laserBoundary hw r hl b (hfree.off l hl) hfree.layer)
  exact ite (fun _ => (latchLate hw s ht).trans (boundaryLatch hw _ ht 1)) fun _ => latchLate hw s ht

theorem boundaryPins (hplans : ¬ w.plans) (hlaws : s.pinStops t = true → ∀ a, a ∈ axesOf t → ¬ w.laws a) : LoopFrame w s (s.boundaryPins t) := by
  unfold State.boundaryPins
  refine LoopFrame.trans (when fun hp => foldl _ fun r a ha => ?_) (modEngine t _ (by intros; rfl) fun h => (hplans h).elim)
  exact pinStop r a hw (hlaws hp a ha) (hw.axis (lt_of_mem_axesOf ht ha) (by simp [axisKeys]))

theorem boundaryOffsets (hcands : ∀ l, l < 16 → ∀ x, x ∈ (s.laser l).cands → ¬ w.regs (Reg.camCorrOutranked x.camera)) :
    LoopFrame w s (s.boundaryOffsets t b) := by
  have hlasers : LoopFrame w s (([2 * t, 2 * t + 1] : List Nat).foldl (fun s l => (s.corrBoundary l b).afBoundary l b) s) := by
    refine foldl_of (P := LoopFrame w s) _ (refl s) fun r l hl hr => hr.trans ?_
    have h16 : l < 16 := by simp only [List.mem_cons, List.not_mem_nil, or_false] at hl; omega
    exact (corrBoundary hw r h16 b fun x hx => hcands l h16 x (hr.cands l x hx)).trans (afBoundary hw _ h16 b)
  exact hlasers.trans ((each fun r j _ => staleCheck hw r t j).trans (tempLatch hw _ ht))

theorem boundaryLaws (hlaws : ∀ a, a ∈ axesOf t → ¬ w.laws a) : LoopFrame w s (s.boundaryLaws t b) :=
  foldl _ fun r a ha => lawBoundary r a hw (hlaws a ha) (hw.axis (lt_of_mem_axesOf ht ha) (by simp [axisKeys])) _ b

theorem boundaryNext (grid : List (Nat × MemErr)) (hmem : ¬ w.mem) (hcams : ¬ w.cams) (hoff : ∀ l, l < 16 → w.Off l) :
    LoopFrame w s (s.boundaryNext t b grid) := by
  unfold State.boundaryNext
  dsimp only
  refine LoopFrame.trans ?_ (each fun r c _ => when fun _ => chooseTrigger hw r c b hcams)
  refine LoopFrame.trans ?_ (pair _ ht fun r l hl => (gridErrors hw hmem r l _ _).trans (laserSetpoint hw _ hl _ _ _ (hoff l hl)))
  exact foldl _ fun r a _ => (sampleTarget r a).trans (feedAsked _ a)

theorem boundaryEnds (grid : List (Nat × MemErr)) (hcands : ∀ l, l < 16 → ∀ x, x ∈ (s.laser l).cands →
      ¬ w.regs (Reg.camCorrOutranked x.camera)) (hlaws : ∀ a, a ∈ axesOf t → ¬ w.laws a) (hmem : ¬ w.mem) (hcams : ¬ w.cams)
    (hoff : ∀ l, l < 16 → w.Off l) : LoopFrame w s (s.boundaryEnds t b grid) :=
  ((boundaryOffsets hw s ht b hcands).trans (boundaryLaws hw _ ht b hlaws)).trans (boundaryNext hw _ ht b grid hmem hcams hoff)

end

/-! ### Transitions and the lock-keeper's steps (R411, R438) -/

section
variable (s : State)

theorem applyAny (p : Nat) : LoopFrame Watched.none s (s.applyPound p) := applyPound Watched.lawful_none s (PoundApart.bare Watched.bare_none s p)

theorem lockTransition : LoopFrame Watched.none s s.lockTransition := by
  unfold State.lockTransition
  exact when fun _ => applyAny s _

theorem completeTransition (x : Transition) : LoopFrame Watched.none s (s.completeTransition x) := by
  unfold State.completeTransition
  refine LoopFrame.trans ?_ (when fun _ => lockTransition _)
  refine LoopFrame.trans ?_ (raise Watched.lawful_none _ _ _ _ _ (by decide))
  exact (((modMode _ id)).trans (wr _ _ (not_none _))).trans (wr _ _ (not_none _))

theorem laserEntered {l : Nat} (hl : l < 16) : LoopFrame Watched.none s (s.laserEntered l) := by
  have hentered (f : Laser → Laser) (g : Stream → Stream) (hf : ∀ x, (f x).cands = x.cands) : LoopFrame Watched.none s (((s.corrZero l).modLaser l f).modStream l g) :=
    ((corrZero Watched.lawful_none s hl).trans (anyLaser _ id f hf)).trans (modStream l g id)
  unfold State.laserEntered
  dsimp only
  split
  · exact (hentered _ _ (by intros; rfl)).trans (otherwise fun _ => armStream Watched.lawful_none _ hl ⟨id, id⟩ _ _)
  · exact hentered _ _ (by intros; rfl)

theorem transitionBoundary {t : Nat} (ht : t < 8) (b : Lt) : LoopFrame Watched.none s (s.transitionBoundary t b) := by
  have hfirst : 2 * t < 16 := by omega
  have hsecond : 2 * t + 1 < 16 := by omega
  unfold State.transitionBoundary
  split
  · exact refl s
  · next x _ =>
    have hgone : LoopFrame Watched.none s
        (s.modMode fun m => { m with transition := some { x with engines := x.engines.filter (· != t) } }) := modMode _ id
    refine when fun _ => ite (fun _ => ?_) fun _ => ite (fun _ => ?_) fun _ => ite (fun _ => ?_) fun _ => hgone
    · exact hgone.trans (each fun r j _ => stopDriver r t j)
    · exact (hgone.trans (laserEntered _ hfirst)).trans (laserEntered _ hsecond)
    · exact (hgone.trans (laserLeft Watched.lawful_none _ hfirst ⟨id, id⟩)).trans (laserLeft Watched.lawful_none _ hsecond ⟨id, id⟩)

theorem transitionEnd : LoopFrame Watched.none s s.transitionEnd := by
  unfold State.transitionEnd
  split
  · next x _ =>
    have hcompleted := completeTransition s x
    exact when fun _ => ite (fun _ => hcompleted.trans (layerAtBuild Watched.lawful_none _ Watched.layerFree_none)) fun _ =>
      ite (fun _ => hcompleted.trans (layerLeft Watched.lawful_none _ Watched.layerFree_none)) fun _ => hcompleted
  · exact refl s

theorem step2 (q : Sequence) (t : Nat) : LoopFrame Watched.none s (s.step2 q t).1 := by
  unfold State.step2
  exact iteFst (fun _ => foldl _ fun r a _ => ite (fun _ => parkAxis r a 2 true) fun _ => holdAxis r a Watched.lawful_none id (not_none _)) fun _ => refl s

theorem keeper (f : LockKeeper → LockKeeper) : LoopFrame Watched.none s (s.modLock f) := modLock f fun h => h.elim

theorem sequenceEnds (q : Sequence) : LoopFrame Watched.none s (s.sequenceEnds q) := by
  have htold (k n : Nat) (d : List Nat) (ts : Lt) : LoopFrame Watched.none s ((s.wr k n).raiseFull 0 0x2021 cDEVICE 0 d ts []) :=
    (wr _ _ (not_none _)).trans (raiseFull Watched.lawful_none _ _ _ _ _ _ _ _ (by decide))
  have hleft {r : State} (k n : Nat) (d : List Nat) : LoopFrame Watched.none r
      (((r.wr Reg.modeStatus k).wr Reg.lastModeLt n).raise 0x2000 cDEVICE 0 d) :=
    ((wr _ _ (not_none _)).trans (wr _ _ (not_none _))).trans (raise Watched.lawful_none _ _ _ _ _ (by decide))
  unfold State.sequenceEnds
  dsimp only
  split
  · exact (htold _ _ _ _).trans (hleft _ _ _)
  · exact htold _ _ _ _

theorem nextSequence : LoopFrame Watched.none s s.nextSequence := by
  unfold State.nextSequence
  split
  · exact refl s
  · exact (keeper s _).trans (startSequence Watched.lawful_none Watched.open_none _ _ _ _ _ _ _)

theorem completeSequence : LoopFrame Watched.none s s.completeSequence := by
  rw [State.completeSequence_eq]
  split
  · exact refl s
  · exact ((sequenceEnds s _).trans (keeper _ _)).trans (nextSequence _)

theorem leftoverParked (t : Nat) : LoopFrame Watched.none s (s.leftoverParked t) :=
  (keeper s _).trans (foldl _ fun r x _ => parkAxis r x.1 2 true)

theorem holdRuns (t : Nat) : LoopFrame Watched.none s (s.holdRuns t) := by
  unfold State.holdRuns
  split
  · exact refl s
  · refine ite (fun _ => ?_) fun _ => (step2 s _ t).trans (keeper _ _)
    refine LoopFrame.trans ?_ (lockTransition _)
    refine LoopFrame.trans ?_ (raise Watched.lawful_none _ _ _ _ _ (by decide))
    exact (((step2 s _ t).trans (keeper _ _)).trans (wr _ _ (not_none _))).trans (wr _ _ (not_none _))

theorem sequenceRuns (t : Nat) : LoopFrame Watched.none s (s.sequenceRuns t) := by
  unfold State.sequenceRuns
  split
  · exact refl s
  · next q _ =>
    have hstepped := (step2 s q t).trans (keeper _ fun x => { x with running := some (s.step2 q t).2 })
    split
    · exact when fun _ => (parkAxis s _ _ _).trans (completeSequence _)
    · exact refl s
    · exact ite (fun _ => hstepped.trans (completeSequence _)) fun _ => hstepped

theorem keeperBoundary (t : Nat) : LoopFrame Watched.none s (s.keeperBoundary t) := by
  rw [State.keeperBoundary_eq]
  exact ((leftoverParked s t).trans (holdRuns _ t)).trans (sequenceRuns _ t)

/-! ### Lockages -/

theorem modTap {w : Watched} (i : Nat) (f : Tap → Tap) : LoopFrame w s (s.modTap i f) := test _

theorem stopTaps {w : Watched} (hw : w.Lawful) {k : Nat} (hk : k < 4) (reason : Nat) (f : Nat → Bool) : LoopFrame w s (s.stopTaps k reason f) := by
  unfold State.stopTaps State.trigDone
  refine otherwise fun _ => otherwise fun _ => ?_
  refine LoopFrame.trans (foldl _ fun r i _ => modTap r i _) (when fun _ => ?_)
  exact (wr _ _ (hw.trigger hk)).trans (raise hw _ _ _ _ _ (by decide))

theorem stopDramTaps {w : Watched} (hw : w.Lawful) : LoopFrame w s s.stopDramTaps :=
  each fun r _ hk => when fun _ => stopTaps r hw hk 2 _

theorem layerEnds {w : Watched} (hw : w.Lawful) (hfree : w.LayerFree) (b : Lt) : LoopFrame w s (s.layerEnds b) :=
  LoopFrame.trans (each fun r l hl => when fun _ => streamProgress hw r hl (hfree.off l hl) b) (layerEnd hw _ hfree.layer)

theorem switchTaps {w : Watched} (hw : w.Lawful) : LoopFrame w s s.switchTaps := when fun _ => stopDramTaps s hw

section
variable {w : Watched} (hb : w.Bare) (t : Nat) (b : Lt) (k : Bool)
include hb

theorem lockPound (p : Nat) : LoopFrame w s (s.lockPound p k) := by
  unfold State.lockPound
  split
  · exact refl s
  · exact ite (fun _ => foldl _ fun r q _ => applyPound hb.lawful r (PoundApart.bare hb r q)) fun _ => when fun _ =>
      deferPound hb.lawful s _ (hb.pounds p) hb.mem

theorem lockAxes : LoopFrame w s (s.lockAxes t k) := by
  refine LoopFrame.trans ?_ (foldl _ fun r a _ => beginHeld hb.lawful r (hb.swapApart a))
  exact LoopFrame.trans (foldl _ fun r a _ => lockPound r hb k a) (lockPound _ hb k _)

theorem lockLasers : LoopFrame w s (s.lockLasers t b k) := foldl _ fun r l _ => when fun _ => lockPound r hb k (pLaser l)

theorem lockCameras : LoopFrame w s (s.lockCameras t b k) := each fun r c _ => when fun _ => lockPound r hb k (pCamera c)

theorem lockDevice : LoopFrame w s (s.lockDevice b k) := by
  have hended := layerEnds s hb.lawful hb.layerFree b
  have hlocked : LoopFrame w s (s.lockLayer b k) := ite (fun _ => hended.trans (lockPound _ hb k _)) fun _ => hended
  exact hlocked.trans (switchTaps _ hb.lawful)

theorem lockages : LoopFrame w s (s.lockages t b) := by
  rw [State.lockages_eq]
  have hscopes := ((lockAxes s hb t s.memStepRuns).trans (lockLasers _ hb t b s.memStepRuns)).trans (lockCameras _ hb t b s.memStepRuns)
  exact hscopes.trans (when fun _ => lockDevice _ hb b _)

end

end

end LoopFrame

/-! ### The boundaries of an engine (R29) -/

/-- What the grid of ENGINE_t shows once a boundary of it has fallen at `b`. -/
theorem State.boundaryAt_beats {s : State} {t : Nat} (hresults : s.monPending = []) (ht : t < 8) (b : Lt) :
    (s.boundaryAt t b).lt = max s.lt b ∧ ((s.boundaryAt t b).engine t).beat = (some b, (s.engine t).lastLoop) ∧
      (∀ i, i ≠ t → ((s.boundaryAt t b).engine i).beat = (s.engine i).beat) ∧ (s.boundaryAt t b).net.held = s.net.held := by
  have hmon : (s.goTo b).monReady = s.goTo b := State.monReady_of hresults
  have hframe : LoopFrame Watched.none (s.goTo b) (s.goTo b).streamsCatch.detect :=
    (LoopFrame.streamsCatch Watched.lawful_none _ Watched.layerFree_none.off).trans (LoopFrame.detect Watched.lawful_none Watched.open_none _)
  unfold State.boundaryAt
  rw [hmon]
  refine ⟨?_, ?_, fun i hi => ?_, ?_⟩
  · rw [State.modEngine_lt, hframe.lt]
    rfl
  · rw [State.engine_modEngine_self _ _ ht]
    have hlast : ((s.goTo b).streamsCatch.detect.engine t).lastLoop = (s.engine t).lastLoop := congrArg Prod.fst (hframe.beats t)
    simp only [Engine.beat, hlast]
  · rw [State.engine_modEngine_ne _ _ hi]
    exact hframe.beats i
  · rw [State.modEngine_net, hframe.held]
    rfl

theorem State.loopBoundary_frame (s : State) {t : Nat} (ht : t < 8) :
    LoopFrame Watched.none (s.boundaryAt t (nextGrid (ns (s.loopNs t)) s.lt (s.engine t).lastLoop)) (s.loopBoundary t [] []) := by
  have hnone := Watched.lawful_none
  rw [State.loopBoundary_eq]
  refine LoopFrame.otherwise fun _ => ?_
  refine LoopFrame.trans ?_ (LoopFrame.transitionEnd _)
  refine LoopFrame.trans ?_ (LoopFrame.boundaryEnds hnone _ ht _ [] (fun _ _ _ _ => id) (fun _ _ => id) id id Watched.layerFree_none.off)
  refine LoopFrame.trans ?_ (LoopFrame.lockages _ Watched.bare_none _ _)
  refine LoopFrame.trans ?_ (LoopFrame.keepEarlier _ _)
  refine LoopFrame.trans ?_ (LoopFrame.keeperBoundary _ _)
  refine LoopFrame.trans ?_ (LoopFrame.transitionBoundary _ ht _)
  refine LoopFrame.trans ?_ (LoopFrame.boundaryPins hnone _ ht id fun _ _ _ => id)
  refine LoopFrame.trans ?_ (LoopFrame.returnsDone hnone _ ht fun _ => ⟨fun _ => id, id⟩)
  exact (LoopFrame.boundaryLatches hnone _ ht _ Watched.layerFree_none).trans (LoopFrame.dueBoundary _ _ _)

theorem State.loopStep_unheld {s : State} {t : Nat} (ht : t < 8) (hheld : t = 0 → (s.loopBoundary t [] []).net.held = []) :
    s.loopStep t [] [] = (s.loopBoundary t [] []).modMem fun m => { m with spoiled := false } := by
  unfold State.loopStep
  refine (if_neg (Nat.not_le.2 ht)).trans ?_
  dsimp only
  split
  · next h0 =>
    unfold State.closeWindow
    rw [hheld h0]
    rfl
  · rfl

theorem exec_loopBoundary {s : State} (hcalm : s.calm = true) (t : Nat) :
    exec (.loopBoundary t [] []) s = .next (s.keep (s.loopStep t [] []).done) := by
  have hacts : s.pinsAct = true := by
    simp [State.pinsAct, ((State.calm_iff s).1 hcalm).running, ((State.calm_iff s).1 hcalm).begun]
  show Host.Outcome.next (s.up fun s => s.loopStep t [] []) = _
  rw [State.up, if_pos hacts]

/-- Settles O12: the boundary goes through its parts, none of which but the first changes the time or the grid of an engine. -/
theorem boundariesFall : Obligations.BoundariesFall := by
  unfold Obligations.BoundariesFall
  intro s t hcalm ht hheld
  obtain ⟨hlt, hbeat, hothers, hnet⟩ := State.boundaryAt_beats ((State.calm_iff s).1 hcalm).results ht (nextGrid (ns (s.loopNs t)) s.lt (s.engine t).lastLoop)
  have hframe := State.loopBoundary_frame s ht
  have hstep : s.loopStep t [] [] = (s.loopBoundary t [] []).modMem fun m => { m with spoiled := false } :=
    State.loopStep_unheld ht fun h0 => by rw [hframe.held, hnet, hheld h0]
  have hend : LoopFrame Watched.none (s.boundaryAt t (nextGrid (ns (s.loopNs t)) s.lt (s.engine t).lastLoop)) (s.loopStep t [] []) := by
    rw [hstep]
    exact hframe.trans (LoopFrame.modMem _ id)
  refine ⟨s.loopStep t [] [], ?_, hend.lt.trans hlt, ?_, ?_, fun i _ hi => ?_⟩
  · exact exec_loopBoundary hcalm t
  · exact congrArg Prod.fst ((hend.beats t).trans hbeat)
  · exact congrArg Prod.snd ((hend.beats t).trans hbeat)
  · exact congrArg Prod.fst ((hend.beats i).trans (hothers i hi))

end Sys2Proof.Machine
end

section
/-! PROOFS. What a statement watches over the lockages of a boundary, and what other pounds leave alone (R41, R43, R46, R52). -/

namespace Sys2Proof.Machine

/-! ### Sub-entries by their access (R37) -/

def accessOf (k : Nat) : Option Access := (Dict.row? k).map (·.access)

theorem accessOf_tables : (∀ p, p < 106 → accessOf (poundKey p 5) = some .ro ∧ accessOf (poundKey p 6) = some .ro) ∧
    (∀ a, a < 48 → accessOf (Reg.swapCount a) = some .ro ∧ accessOf (Reg.swapLostCount a) = some .ro) ∧
    (∀ l, l < 16 → accessOf (Reg.streamState l) = some .ro) ∧ accessOf Reg.layerState = some .ro ∧ accessOf Reg.memState = some .ro ∧
    accessOf Reg.mode = some .ro ∧ (∀ c, c < 32 → accessOf (Reg.camPin c) = some .rwc ∧ accessOf (Reg.camLaser c) = some .rwc) ∧
    ∀ t, t < 8 → accessOf (Reg.loopPeriod t) = some .rwc := by decide +kernel

theorem ne_of_accessOf {k j : Nat} {x y : Access} (hk : accessOf k = some x) (hj : accessOf j = some y) (hxy : x ≠ y) : k ≠ j := by
  rintro rfl
  exact hxy (Option.some.inj (hk.symm.trans hj))

theorem lockKey_of_accessOf {k : Nat} {x : Access} (hk : accessOf k = some x) (hx : x = .rws ∨ x = .rwc) : lockKey k = true := by
  simp only [accessOf, Option.map_eq_some_iff] at hk
  obtain ⟨row, hrow, rfl⟩ := hk
  rcases hx with hx | hx <;> simp [lockKey, hrow, hx]

/-! ### What belongs to the lockage of pounds `ps`, and to the swaps of axes `A` -/

def lockMine (ps : List Nat) (A : Nat → Prop) (k : Nat) : Prop :=
  accessOf k = some .rwc ∨ accessOf k = some .rws ∧ scopeOf k ∈ ps ∨
    (∃ q, q ∈ ps ∧ q < 106 ∧ (k = poundKey q 5 ∨ k = poundKey q 6)) ∨
    ∃ a, A a ∧ a < 48 ∧ (k = Reg.swapCount a ∨ k = Reg.swapLostCount a)

theorem lockKey_poundKey {q b : Nat} (hq : q < 106) (hb : b = 5 ∨ b = 6) : lockKey (poundKey q b) = true := by
  have hsub : keySub (poundKey q b) = b := by simp only [keySub, poundKey, regKey]; omega
  have hrecord : recordPound (keyIndex (poundKey q b)) = some q := recordPound_poundKey hq (by omega)
  simp only [lockKey, hsub, hrecord]
  rcases hb with rfl | rfl <;> simp

theorem lockKey_swap {a b : Nat} (ha : a < 48) (hb : b = 0x0B ∨ b = 0x0C) : lockKey (regKey (0x3026 + 0x40 * a) b) = true := by
  have hindex : keyIndex (regKey (0x3026 + 0x40 * a) b) = 0x3026 + 0x40 * a := by simp only [keyIndex, regKey]; omega
  have hsub : keySub (regKey (0x3026 + 0x40 * a) b) = b := by simp only [keySub, regKey]; omega
  have hmod : (0x3026 + 0x40 * a) % 0x40 = 0x26 := by omega
  have hin : 0x3000 ≤ 0x3026 + 0x40 * a ∧ 0x3026 + 0x40 * a < 0x3C00 := by omega
  simp only [lockKey, hindex, hsub, hmod, hin.1, hin.2]
  rcases hb with rfl | rfl <;> simp

theorem lockKey_lockMine {ps : List Nat} {A : Nat → Prop} {k : Nat} (h : lockMine ps A k) : lockKey k = true := by
  rcases h with h | ⟨h, -⟩ | ⟨q, -, hq, rfl | rfl⟩ | ⟨a, -, ha, rfl | rfl⟩
  · exact lockKey_of_accessOf h (Or.inr rfl)
  · exact lockKey_of_accessOf h (Or.inl rfl)
  · exact lockKey_poundKey hq (Or.inl rfl)
  · exact lockKey_poundKey hq (Or.inr rfl)
  · exact lockKey_swap ha (Or.inl rfl)
  · exact lockKey_swap ha (Or.inr rfl)

section
variable {ps : List Nat} {A : Nat → Prop} {k : Nat}

/-- A staged value of another scope is not theirs. -/
theorem not_lockMine_rws (hk : accessOf k = some .rws) (hscope : scopeOf k ∉ ps) : ¬ lockMine ps A k := by
  rintro (h | ⟨-, h⟩ | ⟨q, -, hq, h⟩ | ⟨a, -, ha, h⟩)
  · rw [hk] at h; cases h
  · exact hscope h
  · obtain ⟨h5, h6⟩ := accessOf_tables.1 q hq
    exact h.elim (ne_of_accessOf hk h5 (by decide)) (ne_of_accessOf hk h6 (by decide))
  · obtain ⟨hcount, hlost⟩ := accessOf_tables.2.1 a ha
    exact h.elim (ne_of_accessOf hk hcount (by decide)) (ne_of_accessOf hk hlost (by decide))

/-- A sub-entry that is only shown is theirs only as a record or a count. -/
theorem not_lockMine_ro (hk : accessOf k = some .ro) (hpound : ∀ q, q ∈ ps → q < 106 → k ≠ poundKey q 5 ∧ k ≠ poundKey q 6)
    (hswap : ∀ a, A a → a < 48 → k ≠ Reg.swapCount a ∧ k ≠ Reg.swapLostCount a) : ¬ lockMine ps A k := by
  rintro (h | ⟨h, -⟩ | ⟨q, hq, hlt, h⟩ | ⟨a, ha, hlt, h⟩)
  · rw [hk] at h; cases h
  · rw [hk] at h; cases h
  · exact h.elim (hpound q hq hlt).1 (hpound q hq hlt).2
  · exact h.elim (hswap a ha hlt).1 (hswap a ha hlt).2

/-- Sub-entries of the device are theirs only where they are configured. -/
theorem not_lockMine_device {i b : Nat} (hk : accessOf (regKey i b) = some .ro) (hb : b < 256)
    (hi : i < 0x2010 ∨ 0x2011 < i ∧ i < 0x3000 ∨ 0x4500 ≤ i ∨ 0x4100 ≤ i ∧ i < 0x4200 ∧ i % 0x10 ≠ 0xF) : ¬ lockMine ps A (regKey i b) := by
  refine not_lockMine_ro hk (fun q _ hq => ?_) fun a _ ha => ?_
  · have hrecord : i ≠ poundRecord q := by
      unfold poundRecord
      split_ifs <;> omega
    exact ⟨regKey_ne hb (by decide) (Or.inl hrecord), regKey_ne hb (by decide) (Or.inl hrecord)⟩
  · exact ⟨regKey_ne hb (by decide) (Or.inl (by omega)), regKey_ne hb (by decide) (Or.inl (by omega))⟩

end

/-- What is watched over the lockages. -/
def lockWatched (ps : List Nat) (A : Nat → Prop) : Watched :=
  { regs := fun k => lockMine ps A k ∨ k = Reg.mode, pounds := fun p => p ∈ ps, laws := A, ranges := fun a => a ∈ ps
    drives := fun t => pEngine t ∈ ps, rest := True, lock := True, mem := False, cams := True, streams := fun _ => False, plans := False }

theorem lockWatched_lawful (ps : List Nat) (A : Nat → Prop) : (lockWatched ps A).Lawful := by
  rintro k (h | rfl)
  · exact lockKey_lockMine h
  · simp [lockKey]

theorem lockWatched_layerFree {ps : List Nat} {A : Nat → Prop} : (lockWatched ps A).LayerFree := by
  obtain ⟨-, -, hstream, hlayer, -⟩ := accessOf_tables
  refine ⟨fun l hl => ⟨id, ?_⟩, ?_⟩
  · rintro (h | h)
    · exact not_lockMine_device (hstream l hl) (by decide) (by omega) h
    · revert h; unfold Reg.streamState Reg.mode regKey; omega
  · rintro (h | h)
    · exact not_lockMine_device hlayer (by decide) (by omega) h
    · revert h; unfold Reg.layerState Reg.mode regKey; omega

/-! ### Pounds that other lockages empty or leave (R43, R46) -/

/-- Every staged value is one of its pound's scope (R35). -/
def State.Keyed (s : State) : Prop := ∀ p e, p < 106 → e ∈ (s.pound p).staged → scopeOf e.1 = p ∧ accessOf e.1 = some .rws

/-- From `v` to `r` each pound is emptied or keeps its values and its commit. -/
def Shrinks (v r : State) : Prop := ∀ p, r.pound p = {} ∨
  (r.pound p).staged = (v.pound p).staged ∧ (r.pound p).armed = (v.pound p).armed ∧ (r.pound p).bundle = (v.pound p).bundle

namespace Shrinks

variable {v r u : State}

theorem refl (v : State) : Shrinks v v := fun _ => Or.inr ⟨rfl, rfl, rfl⟩

theorem of_pounds (h : Shrinks v r) (hp : ∀ p, u.pound p = r.pound p) : Shrinks v u := fun p => by rw [hp p]; exact h p

theorem staged (h : Shrinks v r) (p : Nat) {e : Nat × Nat} (he : e ∈ (r.pound p).staged) : e ∈ (v.pound p).staged := by
  rcases h p with hp | ⟨hp, -⟩
  · rw [hp] at he; cases he
  · rwa [hp] at he

theorem keyed (h : Shrinks v r) (hv : v.Keyed) : r.Keyed := fun p e hp he => hv p e hp (h.staged p he)

end Shrinks

/-- Only the pounds. -/
def Watched.onlyPounds (P : Nat → Prop) : Watched := { Watched.none with pounds := P }

theorem Watched.lawful_onlyPounds (P : Nat → Prop) : (Watched.onlyPounds P).Lawful := fun _ h => h.elim

section
variable {P : Nat → Prop} {s : State} {p : Nat}

theorem PoundApart.onlyPounds (hp : ¬ P p) : PoundApart (Watched.onlyPounds P) s p :=
  ⟨hp, fun _ _ => ⟨id, fun _ _ => ⟨id, id⟩, fun _ _ => id⟩, ⟨id, id⟩, fun _ => ⟨id, id, id⟩, fun _ => id, fun _ _ => ⟨fun _ _ => ⟨id, id⟩, id⟩, id⟩

theorem State.pound_applyPound_ne {q : Nat} (hq : q ≠ p) : (s.applyPound p).pound q = s.pound q :=
  (LoopFrame.applyPound (Watched.lawful_onlyPounds (· = q)) s (PoundApart.onlyPounds (P := (· = q)) hq.symm)).pounds q rfl

end

/-! ### The parts of a lockage (R43, R46, R50) -/

/-- Staged values in use. -/
def State.valuesUsed (s : State) (p : Nat) : State := (s.pound p).staged.foldl (fun s e => s.putInUse e.1 e.2) s

/-- The pound is empty, and its record tells the lockage. -/
def State.poundLocked (s : State) (p : Nat) : State :=
  (((s.valuesUsed p).modPound p fun _ => {}).wr (poundKey p 5) (time80 (s.valuesUsed p).lt)).bump 32 (poundKey p 6)

/-- What follows from the values that pound p held. -/
def State.lockEffects (r s : State) (p : Nat) : State :=
  let x := s.pound p
  let r := if p < 48 ∧ x.has (Reg.spSource p) then r.pulseFrom p else r
  let r := if p < 48 ∧ x.has (Reg.bankSwap p) then r.lockSwap p else r
  let r := if p = pDevice ∧ x.has Reg.memFreqSel ∧ r.rd Reg.memFreqSel ≠ s.rd Reg.memFreqSel then r.startSwitch s.rateChosen else r
  if p = pDevice ∧ x.has Reg.layerNumber then r.layerInto (s.rd Reg.layerNumber) else r

theorem State.applyPound_eq (s : State) (p : Nat) : s.applyPound p = (s.poundLocked p).lockEffects s p := rfl

/-- What pound p's lockage does beyond its pound, its record and its values stays off what `w` watches. -/
structure EffectsApart (w : Watched) (s : State) (p : Nat) : Prop where
  axis : p < 48 → ¬ w.laws p ∧ ¬ w.regs (Reg.swapCount p) ∧ ¬ w.regs (Reg.swapLostCount p)
  device : p = pDevice → ¬ w.regs Reg.memState
  layer : p = pDevice → (s.pound p).has Reg.layerNumber = true → w.LayerFree
  mem : ¬ w.mem

theorem LoopFrame.lockEffects {w : Watched} (hw : w.Lawful) (r s : State) {p : Nat} (h : EffectsApart w s p) :
    LoopFrame w r (r.lockEffects s p) := by
  unfold State.lockEffects
  dsimp only
  refine LoopFrame.trans ?_ (when fun hdevice => layerInto hw _ (h.layer hdevice.1 hdevice.2) _)
  refine LoopFrame.trans ?_ (when fun hdevice => startSwitch hw _ _ (h.device hdevice.1) h.mem)
  refine LoopFrame.trans ?_ (when fun hp => lockSwap hw _ (h.axis hp.1))
  exact when fun _ => pulseFrom _ _

end Sys2Proof.Machine
end

section
/-! PROOFS. The lockage of pounds that one commit armed (R41, R43, R46, R52). -/

namespace Sys2Proof.Machine

/-! ### What a lockage leaves of its pound (R43, R46) -/

/-- Only registers. -/
def Watched.onlyRegs (K : Nat → Prop) : Watched := { Watched.none with regs := K }

theorem KeyApart.onlyRegs (K : Nat → Prop) (k : Nat) : KeyApart (Watched.onlyRegs K) k := ⟨fun _ _ => ⟨id, id⟩, fun _ _ => id⟩

section
variable {k v : Nat}

theorem Watched.lawful_onlyReg (hk : lockKey k = true) : (Watched.onlyRegs (· = k)).Lawful := fun j hj => by
  rw [show j = k from hj]; exact hk

/-- A value that is configured is in use as it is written. -/
theorem State.rd_putInUse_self (s : State) (hk : lockKey k = true) : (s.putInUse k v).rd k = v :=
  ((LoopFrame.afterUse (Watched.lawful_onlyReg hk) (s.wr k v) (s.rd k) (KeyApart.onlyRegs (· = k) k)).regs k rfl).trans (State.rd_wr_self _ _ _)

theorem State.rd_putInUse_ne (s : State) {j : Nat} (hk : lockKey k = true) (h : k ≠ j) : (s.putInUse j v).rd k = s.rd k :=
  (LoopFrame.putInUse (Watched.lawful_onlyReg hk) s v ⟨fun e => h e.symm, KeyApart.onlyRegs (· = k) j⟩).regs k rfl

end

theorem State.rd_putAll_ne {k : Nat} (hk : lockKey k = true) (l : List (Nat × Nat)) (hl : ∀ e, e ∈ l → k ≠ e.1) (s : State) :
    (l.foldl (fun s e => s.putInUse e.1 e.2) s).rd k = s.rd k :=
  foldl_of (P := fun r => r.rd k = s.rd k) l rfl fun r e he hr => (r.rd_putInUse_ne hk (hl e he)).trans hr

theorem State.rd_putAll {l : List (Nat × Nat)} (hnodup : (l.map fun e => e.1).Nodup) (hk : ∀ e, e ∈ l → lockKey e.1 = true) (s : State)
    {e : Nat × Nat} (he : e ∈ l) : (l.foldl (fun s e => s.putInUse e.1 e.2) s).rd e.1 = e.2 := by
  obtain ⟨l₁, l₂, rfl⟩ := List.append_of_mem he
  have hkey : lockKey e.1 = true := hk e he
  have hlater : ∀ x, x ∈ l₂ → e.1 ≠ x.1 := fun x hx heq => by
    rw [List.map_append, List.map_cons] at hnodup
    exact (List.nodup_cons.1 (List.nodup_append.1 hnodup).2.1).1 (heq ▸ List.mem_map_of_mem hx)
  rw [List.foldl_append, List.foldl_cons, State.rd_putAll_ne hkey l₂ hlater, State.rd_putInUse_self _ hkey]

section
variable {s : State} {p : Nat}

theorem State.valuesUsed_frame {w : Watched} (hw : w.Lawful) (h : ∀ e, e ∈ (s.pound p).staged → ¬ w.regs e.1 ∧ KeyApart w e.1) :
    LoopFrame w s (s.valuesUsed p) := LoopFrame.foldl _ fun r e he => LoopFrame.putInUse hw r e.2 (h e he)

theorem State.lt_valuesUsed : (s.valuesUsed p).lt = s.lt := (State.valuesUsed_frame Watched.lawful_none fun _ _ => ⟨id, Watched.bare_none.keyApart _⟩).lt

theorem EffectsApart.onlyPounds (P : Nat → Prop) (s : State) (p : Nat) : EffectsApart (Watched.onlyPounds P) s p :=
  ⟨fun _ => ⟨id, id, id⟩, fun _ => id, fun _ _ => ⟨fun _ _ => ⟨id, id⟩, id⟩, id⟩

theorem State.pound_poundLocked (hp : p < 106) : (s.poundLocked p).pound p = {} := by
  have hmarked (r : State) (n : Nat) : LoopFrame (Watched.onlyPounds (· = p)) r ((r.wr (poundKey p 5) n).bump 32 (poundKey p 6)) :=
    (LoopFrame.wr _ _ id).trans (LoopFrame.bump _ _ id)
  exact ((hmarked ((s.valuesUsed p).modPound p fun _ => {}) _).pounds p rfl).trans (State.pound_modPound_self _ _ hp)

theorem State.pound_applyPound_self (hp : p < 106) : (s.applyPound p).pound p = {} := by
  rw [State.applyPound_eq, (LoopFrame.lockEffects (Watched.lawful_onlyPounds (· = p)) (s.poundLocked p) s (EffectsApart.onlyPounds (· = p) s p)).pounds p rfl]
  exact State.pound_poundLocked hp

end

/-- Emptied pounds are as `Shrinks` says. -/
theorem Shrinks.applyPound {v r : State} {p : Nat} (hp : p < 106) (h : Shrinks v r) : Shrinks v (r.applyPound p) := fun q => by
  by_cases hq : q = p
  · subst hq; exact Or.inl (State.pound_applyPound_self hp)
  · rw [State.pound_applyPound_ne hq]; exact h q

/-- The lockage of pound q has happened since `v`: it is empty, its record tells the lockage, and its values are in use. -/
structure LockDone (v : State) (q : Nat) (r : State) : Prop where
  pound : r.pound q = {}
  told : r.rd (poundKey q 5) = time80 v.lt
  count : r.rd (poundKey q 6) = min (v.rd (poundKey q 6) + 1) (2 ^ 32 - 1)
  values : ∀ e, e ∈ (v.pound q).staged → r.rd e.1 = e.2

section
variable {ps : List Nat} {A : Nat → Prop} {v r u : State} {q : Nat}

theorem lockWatched_pound5 (hq : q ∈ ps) (hlt : q < 106) : (lockWatched ps A).regs (poundKey q 5) := Or.inl (Or.inr (Or.inr (Or.inl ⟨q, hq, hlt, Or.inl rfl⟩)))
theorem lockWatched_pound6 (hq : q ∈ ps) (hlt : q < 106) : (lockWatched ps A).regs (poundKey q 6) := Or.inl (Or.inr (Or.inr (Or.inl ⟨q, hq, hlt, Or.inr rfl⟩)))

theorem lockWatched_value (hv : v.Keyed) (hq : q ∈ ps) (hlt : q < 106) {e : Nat × Nat} (he : e ∈ (v.pound q).staged) :
    (lockWatched ps A).regs e.1 := Or.inl (Or.inr (Or.inl ⟨(hv q e hlt he).2, (hv q e hlt he).1.symm ▸ hq⟩))

/-- What leaves the sub-entries and the pound alone keeps a lockage done. -/
theorem LockDone.of_frame {w : Watched} (hv : v.Keyed) (hlt : q < 106) (hregs : ∀ k, (lockWatched [q] fun _ => False).regs k → k ≠ Reg.mode → w.regs k)
    (hpound : w.pounds q) (h : LockDone v q r) (hu : LoopFrame w r u) : LockDone v q u := by
  have hmode {p b : Nat} (hp : p < 106) (hb : b < 256) : poundKey p b ≠ Reg.mode := by
    unfold poundKey poundRecord Reg.mode regKey
    split_ifs <;> omega
  have hone : q ∈ [q] := List.mem_singleton_self q
  refine ⟨(hu.pounds q hpound).trans h.pound, (hu.regs _ (hregs _ (lockWatched_pound5 hone hlt) (hmode hlt (by decide)))).trans h.told,
    (hu.regs _ (hregs _ (lockWatched_pound6 hone hlt) (hmode hlt (by decide)))).trans h.count, fun e he => ?_⟩
  refine (hu.regs _ (hregs _ (lockWatched_value hv hone hlt he) ?_)).trans (h.values e he)
  exact ne_of_accessOf (hv q e hlt he).2 accessOf_tables.2.2.2.2.2.1 (by decide)

theorem LockDone.of_lockWatched (hv : v.Keyed) (hlt : q < 106) (hq : q ∈ ps) (h : LockDone v q r) (hu : LoopFrame (lockWatched ps A) r u) :
    LockDone v q u := by
  refine h.of_frame hv hlt (fun k hk hmode => ?_) hq hu
  rcases hk.resolve_right hmode with hk | ⟨hk, hscope⟩ | ⟨p, hp, hk⟩ | ⟨a, ha, -⟩
  · exact Or.inl (Or.inl hk)
  · exact Or.inl (Or.inr (Or.inl ⟨hk, List.mem_singleton.1 hscope ▸ hq⟩))
  · exact Or.inl (Or.inr (Or.inr (Or.inl ⟨p, List.mem_singleton.1 hp ▸ hq, hk⟩)))
  · exact ha.elim

end

/-! ### What the lockage of one pound leaves of the others (R43, R46) -/

theorem poundKey_ne_device {p b i c : Nat} (hp : p < 106) (hb : b < 256) (hc : c < 256) (hi : i < 0x2010 ∨ 0x2011 < i ∧ i < 0x3000 ∨ 0x4500 ≤ i) :
    regKey i c ≠ poundKey p b := by
  refine regKey_ne hc hb (Or.inl ?_)
  unfold poundRecord
  split_ifs <;> omega

theorem poundKey_ne_swap {p a b c : Nat} (ha : a < 48) (hb : b < 256) (hc : c < 256) (hp : p < 106) : regKey (0x3026 + 0x40 * a) c ≠ poundKey p b := by
  refine regKey_ne hc hb (Or.inl ?_)
  unfold poundRecord
  split_ifs <;> omega

section
variable {ps : List Nat} {A : Nat → Prop} {p : Nat}

theorem not_lockWatched_swap (hp : p < 48) (hA : ¬ A p) :
    ¬ (lockWatched ps A).regs (Reg.swapCount p) ∧ ¬ (lockWatched ps A).regs (Reg.swapLostCount p) := by
  obtain ⟨hcount, hlost⟩ := accessOf_tables.2.1 p hp
  have hne {a b c : Nat} (ha : A a) (hb : b < 256) (hc : c < 256) : regKey (0x3026 + 0x40 * p) b ≠ regKey (0x3026 + 0x40 * a) c :=
    regKey_ne hb hc (Or.inl fun h => hA (by rwa [show p = a by omega]))
  have hmode {b : Nat} (hb : b < 256) : regKey (0x3026 + 0x40 * p) b ≠ Reg.mode := regKey_ne hb (by decide) (Or.inl (by omega))
  refine ⟨fun h => ?_, fun h => ?_⟩
  · refine not_lockMine_ro hcount (fun q _ hq => ?_) (fun a ha _ => ?_) (h.resolve_right (hmode (by decide)))
    · exact ⟨poundKey_ne_swap hp (by decide) (by decide) hq, poundKey_ne_swap hp (by decide) (by decide) hq⟩
    · exact ⟨hne ha (by decide) (by decide), hne ha (by decide) (by decide)⟩
  · refine not_lockMine_ro hlost (fun q _ hq => ?_) (fun a ha _ => ?_) (h.resolve_right (hmode (by decide)))
    · exact ⟨poundKey_ne_swap hp (by decide) (by decide) hq, poundKey_ne_swap hp (by decide) (by decide) hq⟩
    · exact ⟨hne ha (by decide) (by decide), hne ha (by decide) (by decide)⟩

theorem not_lockWatched_memState : ¬ (lockWatched ps A).regs Reg.memState := by
  rintro (h | h)
  · exact not_lockMine_device accessOf_tables.2.2.2.2.1 (by decide) (by omega) h
  · revert h; unfold Reg.memState Reg.mode regKey; omega

theorem EffectsApart.lockWatched (s : State) (hA : ¬ A p) : EffectsApart (lockWatched ps A) s p :=
  ⟨fun hp => ⟨hA, not_lockWatched_swap hp hA⟩, fun _ => not_lockWatched_memState, fun _ _ => lockWatched_layerFree, id⟩

/-- The tiles and axes that follow from a value are those of its scope. -/
theorem keyApart_lockWatched {k : Nat} (hp : scopeOf k ∉ ps) (hA : ¬ A (scopeOf k)) : KeyApart (lockWatched ps A) k where
  axis h h' := by
    have hscope : scopeOf k = (keyIndex k - 0x3000) / 0x40 := by simp only [scopeOf]; rw [if_pos ⟨h, h'⟩]
    rw [hscope] at hp hA
    exact ⟨hA, hp⟩
  tile h h' := by
    have hscope : scopeOf k = pEngine ((keyIndex k - 0x2100) / 0x10) := by
      simp only [scopeOf]
      rw [if_neg (by omega), if_pos ⟨h, h'⟩]
    rw [hscope] at hp
    exact hp

/-- The lockage of another pound stays off what is watched. -/
theorem PoundApart.lockWatched {s : State} (hs : s.Keyed) (hlt : p < 106) (hp : p ∉ ps) (hA : ¬ A p) : PoundApart (lockWatched ps A) s p := by
  have heffects := EffectsApart.lockWatched (ps := ps) s hA
  obtain ⟨h5, h6⟩ := accessOf_tables.1 p hlt
  have hrecord {b : Nat} (hb : b < 256) (ho : accessOf (poundKey p b) = some .ro) : ¬ (Machine.lockWatched ps A).regs (poundKey p b) := by
    rintro (h | h)
    · refine not_lockMine_ro ho (fun q hq hq' => ?_) (fun a _ ha => ?_) h
      · have hpq : p ≠ q := fun h => hp (h ▸ hq)
        exact ⟨poundKey_ne hlt hq' hb (by decide) (Or.inl hpq), poundKey_ne hlt hq' hb (by decide) (Or.inl hpq)⟩
      · exact ⟨(poundKey_ne_swap ha hb (by decide) hlt).symm, (poundKey_ne_swap ha hb (by decide) hlt).symm⟩
    · exact poundKey_ne_device hlt hb (by decide) (by omega) h.symm
  refine ⟨hp, fun e he => ?_, ⟨hrecord (by decide) h5, hrecord (by decide) h6⟩, heffects.axis, heffects.device, heffects.layer, heffects.mem⟩
  obtain ⟨hscope, haccess⟩ := hs p e hlt he
  refine ⟨fun h => ?_, keyApart_lockWatched (hscope.symm ▸ hp) (hscope.symm ▸ hA)⟩
  rcases h with h | h
  · exact not_lockMine_rws haccess (hscope.symm ▸ hp) h
  · exact ne_of_accessOf haccess accessOf_tables.2.2.2.2.2.1 (by decide) h

theorem LoopFrame.applyOther {s : State} (hs : s.Keyed) (hlt : p < 106) (hp : p ∉ ps) (hA : ¬ A p) :
    LoopFrame (lockWatched ps A) s (s.applyPound p) := LoopFrame.applyPound (lockWatched_lawful ps A) s (PoundApart.lockWatched hs hlt hp hA)

end

/-- The lockage of pound q, from a state in which `v`'s record of it still stands. -/
theorem LockDone.of_applyPound {v r : State} {q : Nat} (hv : v.Keyed) (hlt : q < 106) (hnodup : ((v.pound q).staged.map fun e => e.1).Nodup)
    (hr : LoopFrame (lockWatched [q] fun _ => False) v r) : LockDone v q (r.applyPound q) := by
  have hone : q ∈ [q] := List.mem_singleton_self q
  have hpound : r.pound q = v.pound q := hr.pounds q hone
  obtain ⟨h5, h6⟩ := accessOf_tables.1 q hlt
  have hrws : ∀ e, e ∈ (r.pound q).staged → accessOf e.1 = some .rws := fun e he => (hv q e hlt (hpound ▸ he)).2
  have hlt' : (r.valuesUsed q).lt = v.lt := State.lt_valuesUsed.trans hr.lt
  have hkey6 : (r.valuesUsed q).rd (poundKey q 6) = v.rd (poundKey q 6) :=
    (State.rd_putAll_ne (lockKey_poundKey hlt (Or.inr rfl)) _ (fun e he => (ne_of_accessOf (hrws e he) h6 (by decide)).symm) r).trans
      (hr.regs _ (lockWatched_pound6 hone hlt))
  have h56 : poundKey q 5 ≠ poundKey q 6 := poundKey_ne hlt hlt (by decide) (by decide) (Or.inr (by decide))
  have hvalue : ∀ e, e ∈ (r.pound q).staged → (r.valuesUsed q).rd e.1 = e.2 := fun e he =>
    State.rd_putAll (hpound ▸ hnodup) (fun x hx => lockKey_of_accessOf (hrws x hx) (Or.inl rfl)) r he
  have hlocked : LockDone v q (r.poundLocked q) := by
    refine ⟨State.pound_poundLocked hlt, ?_, ?_, fun e he => ?_⟩
    · rw [State.poundLocked, State.bump, State.rd_wr_ne _ _ h56, State.rd_wr_self, hlt']
    · rw [State.poundLocked, State.bump, State.rd_wr_self, State.rd_wr_ne _ _ h56.symm]
      exact congrArg (fun n => min (n + 1) (2 ^ 32 - 1)) hkey6
    · have he' : e ∈ (r.pound q).staged := hpound.symm ▸ he
      rw [State.poundLocked, State.bump, State.rd_wr_ne _ _ (ne_of_accessOf (hrws e he') h6 (by decide)),
        State.rd_wr_ne _ _ (ne_of_accessOf (hrws e he') h5 (by decide))]
      exact hvalue e he'
  rw [State.applyPound_eq]
  exact hlocked.of_lockWatched hv hlt hone (LoopFrame.lockEffects (lockWatched_lawful _ _) _ r (EffectsApart.lockWatched (A := fun _ => False) r fun h => h))

/-- Pounds that lock together: each of them is done at the end (R52). -/
theorem LockDone.of_all {v r : State} {q : Nat} {all : List Nat} (hv : v.Keyed) (hall : all.Nodup) (hlt : ∀ p, p ∈ all → p < 106) (hq : q ∈ all)
    (hnodup : ((v.pound q).staged.map fun e => e.1).Nodup) (hshrinks : Shrinks v r) (hr : LoopFrame (lockWatched [q] fun _ => False) v r) :
    LockDone v q (all.foldl State.applyPound r) := by
  obtain ⟨l₁, l₂, rfl⟩ := List.append_of_mem hq
  have hq' : q ∉ l₁ ∧ q ∉ l₂ := by
    have h := List.nodup_append.1 hall
    exact ⟨fun h' => h.2.2 q h' q (List.mem_cons_self ..) rfl, (List.nodup_cons.1 h.2.1).1⟩
  have hother : ∀ l : List Nat, q ∉ l → (∀ p, p ∈ l → p < 106) → ∀ r : State, Shrinks v r →
      Shrinks v (l.foldl State.applyPound r) ∧ LoopFrame (lockWatched [q] fun _ => False) r (l.foldl State.applyPound r) := by
    intro l hl hlt r hr
    refine foldl_of (P := fun u => Shrinks v u ∧ LoopFrame (lockWatched [q] fun _ => False) r u) l ⟨hr, LoopFrame.refl r⟩ fun u p hp hu => ?_
    have hpq : p ∉ [q] := fun h => hl (List.mem_singleton.1 h ▸ hp)
    exact ⟨hu.1.applyPound (hlt p hp), hu.2.trans (LoopFrame.applyOther (hu.1.keyed hv) (hlt p hp) hpq id)⟩
  have hlq : q < 106 := hlt q hq
  obtain ⟨hs₁, hf₁⟩ := hother l₁ hq'.1 (fun p hp => hlt p (List.mem_append_left _ hp)) r hshrinks
  rw [List.foldl_append, List.foldl_cons]
  obtain ⟨-, hf₂⟩ := hother l₂ hq'.2 (fun p hp => hlt p (List.mem_append_right _ (List.mem_cons_of_mem _ hp))) _ (hs₁.applyPound hlq)
  exact (LockDone.of_applyPound hv hlq hnodup (hr.trans hf₁)).of_lockWatched hv hlq (List.mem_singleton_self q) hf₂

end Sys2Proof.Machine
end

section
/-! PROOFS. The pass of a boundary over its pounds: pounds that one commit armed lock together, or wait (R41, R46, R47, R52). -/

namespace Sys2Proof.Machine

/-! ### The cases of R47 -/

theorem Pound.mem_of_value {x : Pound} {k n : Nat} (h : x.value k = some n) : ∃ e, e ∈ x.staged ∧ e.1 = k := by
  simp only [Pound.value, Option.map_eq_some_iff] at h
  obtain ⟨e, he, -⟩ := h
  exact ⟨e, List.mem_of_find?_eq_some he, by simpa using List.find?_some he⟩

section
variable {ps : List Nat} {A : Nat → Prop} {v r : State} {q : Nat} (hv : v.Keyed) (hq : q ∈ ps) (hlt : q < 106) (hr : LoopFrame (lockWatched ps A) v r)
include hv hq hlt hr

theorem poundChanges_lockWatched (k : Nat) : r.poundChanges q k = v.poundChanges q k := by
  simp only [State.poundChanges, hr.pounds q hq]
  split
  · next n hn =>
    obtain ⟨e, he, rfl⟩ := Pound.mem_of_value hn
    rw [hr.regs _ (lockWatched_value hv hq hlt he)]
  · rfl

/-- No case of R47 begins or ends. -/
theorem deferCaseOf_lockWatched (k : Bool) : r.deferCaseOf q k = v.deferCaseOf q k := by
  have hreacting : r.reacting = v.reacting := by
    have hlock := hr.lock trivial
    simp only [State.keeping, Prod.mk.injEq] at hlock
    obtain ⟨hrun, hqueue, hdone, -, -⟩ := hlock
    simp only [State.reacting, hrun, hqueue, hdone, hr.lt]
  have hbusy : r.rangeBusy q = v.rangeBusy q := by simp only [State.rangeBusy, hr.ranges q hq]
  have hsettling (h : 48 ≤ q ∧ q < 56) (j : Nat) : r.driverSettling (q - 48) j = v.driverSettling (q - 48) j := by
    refine hr.drives (q - 48) ?_ j
    show 48 + (q - 48) ∈ ps
    rwa [Nat.add_sub_cancel' h.1]
  simp only [State.deferCaseOf, hreacting, hbusy, hr.pounds q hq, poundChanges_lockWatched hv hq hlt hr]
  refine if_congr (and_congr_right fun h => and_congr_right fun h' => ?_) rfl rfl
  simp only [hsettling ⟨h, h'⟩]

end

theorem State.deferCase_zero {s : State} {p : Nat} {k : Bool} (h : ∀ q, q ∈ p :: (s.pound p).bundle → s.deferCaseOf q k = 0) :
    s.deferCase p k = 0 := by
  have hfold : ∀ l : List Nat, (∀ q, q ∈ l → s.deferCaseOf q k = 0) →
      l.foldl (fun c q => if c ≠ 0 then c else s.deferCaseOf q k) 0 = 0 := by
    intro l hl
    induction l with
    | nil => rfl
    | cons q l ih =>
      rw [List.foldl_cons, if_neg (by simp), hl q (List.mem_cons_self ..)]
      exact ih fun x hx => hl x (List.mem_cons_of_mem _ hx)
  exact hfold _ h

theorem Shrinks.deferPound {v r : State} {p : Nat} (c : Nat) (hp : r.pound p ≠ {}) (h : Shrinks v r) : Shrinks v (r.deferPound p c) := fun q => by
  by_cases hq : q = p
  · subst hq
    have hframe := PoundFrame.deferPound (W := fun _ => True) (A := fun _ => False) (s := r) q c trivial
    obtain ⟨hstaged, harmed, hbundle⟩ := (h q).resolve_left hp
    exact Or.inr ⟨(hframe.staged q).trans hstaged, (hframe.armed q id).1.trans harmed, (hframe.armed q id).2.trans hbundle⟩
  · have hframe := LoopFrame.deferPound (Watched.lawful_onlyPounds (· = q)) r (p := p) c (fun h => hq h.symm) id
    rw [hframe.pounds q rfl]
    exact h q

/-- The lockage of a pound, by those that lock with it. -/
theorem LoopFrame.lockPoundWith {w : Watched} (hw : w.Lawful) {v r : State} {p : Nat} {k : Bool} (hv : v.Keyed) (hr : Shrinks v r) (hp : ¬ w.pounds p)
    (hm : ¬ w.mem) (hall : (v.pound p).armed ≠ none → ∀ q, q ∈ p :: (v.pound p).bundle → q < 106 ∧ ∀ u : State, u.Keyed → PoundApart w u q) :
    Shrinks v (r.lockPound p k) ∧ LoopFrame w r (r.lockPound p k) := by
  unfold State.lockPound
  split
  · exact ⟨hr, LoopFrame.refl r⟩
  · next t1 harmed =>
    have hne : r.pound p ≠ {} := fun he => by rw [he] at harmed; cases harmed
    obtain ⟨-, harmed', hbundle⟩ := (hr p).resolve_left hne
    split
    · refine foldl_of (P := fun u => Shrinks v u ∧ LoopFrame w r u) _ ⟨hr, LoopFrame.refl r⟩ fun u q hq hu => ?_
      obtain ⟨hlt, hapart⟩ := hall (by rw [← harmed', harmed]; exact Option.some_ne_none _) q (hbundle ▸ hq)
      exact ⟨hu.1.applyPound hlt, hu.2.trans (LoopFrame.applyPound hw u (hapart u (hu.1.keyed hv)))⟩
    · split
      · exact ⟨hr.deferPound _ hne, LoopFrame.deferPound hw r _ hp hm⟩
      · exact ⟨hr, LoopFrame.refl r⟩

/-! ### Pounds that lock together (R41, R52) -/

/-- The pounds `ps` were armed together at `t0`, no case of R47 holds them, and no other commit holds them in its bundle. -/
structure ArmedTogether (v : State) (ps : List Nat) (k : Bool) (t0 : Lt) : Prop where
  keyed : v.Keyed
  nodup : ps.Nodup
  bounded : ∀ q, q ∈ ps → q < 105
  foreign : ∀ p q, p < 105 → p ∉ ps → (v.pound p).armed ≠ none → q ∈ (v.pound p).bundle → q ∉ ps ∧ q < 105
  own : ∀ q, q ∈ ps → (v.pound q).armed = some t0 ∧ (v.pound q).bundle = ps.filter (fun p => p != q) ∧ v.deferCaseOf q k = 0

/-- Such pounds, and `D`, which their lockage leaves. -/
structure LockPlan (v : State) (ps : List Nat) (A : Nat → Prop) (k : Bool) (t0 : Lt) (D : State → Prop) : Prop extends ArmedTogether v ps k t0 where
  axes : ∀ a, A a → a ∈ ps
  keep : ∀ r u, LoopFrame (lockWatched ps A) r u → D r → D u
  empty : ∀ r, D r → ∀ q, q ∈ ps → r.pound q = {}
  apply : t0 + ns 1000 ≤ v.lt → ∀ p, p ∈ ps → ∀ r, Shrinks v r → LoopFrame (lockWatched ps A) v r →
    D ((p :: ps.filter fun x => x != p).foldl State.applyPound r)

/-- The pounds `ps` have locked, or nothing of them has changed. -/
def Stage (v : State) (ps : List Nat) (A : Nat → Prop) (D : State → Prop) (r : State) : Prop :=
  Shrinks v r ∧ (LoopFrame (lockWatched ps A) v r ∨ D r)

namespace LockPlan

variable {v r u : State} {ps : List Nat} {A : Nat → Prop} {k : Bool} {t0 : Lt} {D : State → Prop} (h : LockPlan v ps A k t0 D)
include h

theorem stage_frame (hr : Stage v ps A D r) (hu : LoopFrame (lockWatched ps A) r u) (hshrinks : Shrinks v u) : Stage v ps A D u :=
  ⟨hshrinks, hr.2.imp (fun hf => hf.trans hu) (h.keep r u hu)⟩

/-- The lockage of a pound that is not among them. -/
theorem frame_other (hr : Shrinks v r) {p : Nat} (hp : p ∉ ps) (hlt : p < 105) :
    Shrinks v (r.lockPound p k) ∧ LoopFrame (lockWatched ps A) r (r.lockPound p k) := by
  refine LoopFrame.lockPoundWith (lockWatched_lawful ps A) h.keyed hr hp id fun harmed q hq => ?_
  have hq' : q ∉ ps ∧ q < 105 := by
    rcases List.mem_cons.1 hq with rfl | hq
    · exact ⟨hp, hlt⟩
    · exact h.foreign p q hlt hp harmed hq
  exact ⟨Nat.lt_succ_of_lt hq'.2, fun u hu => PoundApart.lockWatched hu (Nat.lt_succ_of_lt hq'.2) hq'.1 fun ha => hq'.1 (h.axes q ha)⟩

/-- The lockage of one of them. -/
theorem stage_own (hr : Stage v ps A D r) {p : Nat} (hp : p ∈ ps) :
    Stage v ps A D (r.lockPound p k) ∧ (t0 + ns 1000 ≤ v.lt → D (r.lockPound p k)) := by
  obtain ⟨hshrinks, hf | hd⟩ := hr
  · obtain ⟨harmed, hbundle, -⟩ := h.own p hp
    have hpound : r.pound p = v.pound p := hf.pounds p hp
    have hcase : r.deferCase p k = 0 := by
      refine State.deferCase_zero fun q hq => ?_
      have hq' : q ∈ ps := by
        rcases List.mem_cons.1 hq with rfl | hq
        · exact hp
        · rw [hpound, hbundle] at hq; exact List.mem_of_mem_filter hq
      rw [deferCaseOf_lockWatched h.keyed hq' (by have := h.bounded q hq'; omega) hf]
      exact (h.own q hq').2.2
    have hlocked : r.lockPound p k = if t0 + ns 1000 ≤ v.lt then (p :: ps.filter fun x => x != p).foldl State.applyPound r else r := by
      simp only [State.lockPound, hpound, harmed, hbundle, hcase, hf.lt, and_true, ne_eq, not_true, and_false, if_false]
    rw [hlocked]
    split
    · next hdue =>
      have hdone := h.apply hdue p hp r hshrinks hf
      refine ⟨⟨?_, Or.inr hdone⟩, fun _ => hdone⟩
      refine foldl_of (P := Shrinks v) _ hshrinks fun u q hq hu => hu.applyPound ?_
      have hq' : q ∈ ps := by
        rcases List.mem_cons.1 hq with rfl | hq
        · exact hp
        · exact List.mem_of_mem_filter hq
      have := h.bounded q hq'
      omega
    · next hdue => exact ⟨⟨hshrinks, Or.inl hf⟩, fun hdue' => (hdue hdue').elim⟩
  · have hid : r.lockPound p k = r := by simp only [State.lockPound, h.empty r hd p hp]
    rw [hid]
    exact ⟨⟨hshrinks, Or.inr hd⟩, fun _ => hd⟩

theorem stage_lockPound (hr : Stage v ps A D r) {p : Nat} (hlt : p < 105) : Stage v ps A D (r.lockPound p k) := by
  by_cases hp : p ∈ ps
  · exact (h.stage_own hr hp).1
  · obtain ⟨hshrinks, hframe⟩ := h.frame_other hr.1 hp hlt
    exact h.stage_frame hr hframe hshrinks

/-- Once they have locked, the lockage of a pound keeps it so. -/
theorem done_lockPound (hr : Stage v ps A D r) (hd : D r) {p : Nat} (hlt : p < 105) : D (r.lockPound p k) := by
  by_cases hp : p ∈ ps
  · rwa [show r.lockPound p k = r by simp only [State.lockPound, h.empty r hd p hp]]
  · exact h.keep _ _ (h.frame_other hr.1 hp hlt).2 hd

end LockPlan

/-! ### The pass of a boundary -/

/-- A step over which pounds `ps` lock, wait or stay as they are. -/
def Keeps (v : State) (ps : List Nat) (A : Nat → Prop) (D : State → Prop) (f : State → State) : Prop :=
  ∀ r, Stage v ps A D r → Stage v ps A D (f r) ∧ (D r → D (f r))

namespace Keeps

variable {v : State} {ps : List Nat} {A : Nat → Prop} {D : State → Prop} {f g : State → State}

theorem comp (hf : Keeps v ps A D f) (hg : Keeps v ps A D g) : Keeps v ps A D fun r => g (f r) := fun r hr =>
  ⟨(hg _ (hf r hr).1).1, fun hd => (hg _ (hf r hr).1).2 ((hf r hr).2 hd)⟩

theorem foldl {α : Type} {f : State → α → State} (l : List α) (hf : ∀ a, a ∈ l → Keeps v ps A D fun r => f r a) :
    Keeps v ps A D fun r => l.foldl f r := by
  induction l with
  | nil => exact fun r hr => ⟨hr, id⟩
  | cons a l ih => exact comp (hf a (List.mem_cons_self ..)) (ih fun x hx => hf x (List.mem_cons_of_mem _ hx))

theorem each {n : Nat} {f : State → Nat → State} (hf : ∀ i, i < n → Keeps v ps A D fun r => f r i) : Keeps v ps A D fun r => Machine.each n r f :=
  foldl (List.range n) fun i hi => hf i (List.mem_range.1 hi)

theorem when {c : State → Prop} [∀ r, Decidable (c r)] (hf : Keeps v ps A D f) : Keeps v ps A D fun r => if c r then f r else r := fun r hr => by
  dsimp only
  split
  · exact hf r hr
  · exact ⟨hr, id⟩

/-- A step that leaves alone what is watched, and every pound. -/
theorem of_frame {k : Bool} {t0 : Lt} (h : LockPlan v ps A k t0 D)
    (hf : ∀ r, Stage v ps A D r → LoopFrame (lockWatched ps A) r (f r) ∧ ∀ p, (f r).pound p = r.pound p) : Keeps v ps A D f := fun r hr =>
  ⟨h.stage_frame hr (hf r hr).1 (hr.1.of_pounds (hf r hr).2), h.keep _ _ (hf r hr).1⟩

theorem lockPound {k : Bool} {t0 : Lt} (h : LockPlan v ps A k t0 D) {p : Nat} (hp : p < 105) : Keeps v ps A D fun r => r.lockPound p k := fun _ hr =>
  ⟨h.stage_lockPound hr hp, fun hd => h.done_lockPound hr hd hp⟩

/-- In a pass in which each step keeps them so, one step locks them. -/
theorem reach {α : Type} {P : State → Prop} {f : State → α → State} {l : List α} {a : α} (ha : a ∈ l) (hf : ∀ b, b ∈ l → Keeps v ps A D fun r => f r b)
    (hP : ∀ r b, b ∈ l → Stage v ps A D r → P r → P (f r b)) (hdone : ∀ r, Stage v ps A D r → P r → D (f r a)) {r : State}
    (hr : Stage v ps A D r) (h0 : P r) : D (l.foldl f r) :=
  foldl_reach (P := fun u => Stage v ps A D u ∧ P u) ha ⟨hr, h0⟩ (fun u b hb hu => ⟨(hf b hb u hu.1).1, hP u b hb hu.1 hu.2⟩)
    (fun u hu => hdone u hu.1 hu.2) fun u b hb hu hd => (hf b hb u hu.1).2 hd

end Keeps

section
variable {v : State} {ps : List Nat} {A : Nat → Prop} {k : Bool} {t0 : Lt} {D : State → Prop} (h : LockPlan v ps A k t0 D)
  (hheld : ∀ r a, a < 48 → Stage v ps A D r → LoopFrame (lockWatched ps A) r (r.beginHeld a)) {t : Nat} (ht : t < 8) (b : Lt)
include h

include hheld in
theorem keeps_beginHeld {a : Nat} (ha : a < 48) : Keeps v ps A D fun r => r.beginHeld a :=
  Keeps.of_frame h fun r hr => ⟨hheld r a ha hr, fun p =>
    (LoopFrame.beginHeld (Watched.lawful_onlyPounds fun _ => True) r (a := a) ⟨id, id, id⟩).pounds p trivial⟩

include hheld ht in
theorem keeps_lockAxes : Keeps v ps A D fun r => r.lockAxes t k := by
  have haxis {a : Nat} (ha : a ∈ axesOf t) : a < 48 := lt_of_mem_axesOf ht ha
  have hpounds := Keeps.foldl (f := fun s a => s.lockPound a k) (axesOf t) fun a ha => Keeps.lockPound h (p := a) (by have := haxis ha; omega)
  have hengine := Keeps.lockPound h (p := pEngine t) (by unfold pEngine; omega)
  exact (hpounds.comp hengine).comp (Keeps.foldl (f := fun s a => s.beginHeld a) (axesOf t) fun a ha => keeps_beginHeld h hheld (haxis ha))

include ht in
theorem keeps_lockLasers : Keeps v ps A D fun r => r.lockLasers t b k :=
  Keeps.foldl _ fun l hl => Keeps.when (Keeps.lockPound h (p := pLaser l) (by
    simp only [List.mem_cons, List.not_mem_nil, or_false] at hl; unfold pLaser; omega))

theorem keeps_lockCameras : Keeps v ps A D fun r => r.lockCameras t b k :=
  Keeps.each fun c hc => Keeps.when (c := fun r => r.camEngine c = t ∧ r.frameBoundary c b = true) (Keeps.lockPound h (p := pCamera c) (by unfold pCamera; omega))

theorem keeps_layerEnds : Keeps v ps A D fun r => r.layerEnds b :=
  Keeps.of_frame h fun r _ => ⟨LoopFrame.layerEnds r (lockWatched_lawful ps A) lockWatched_layerFree b, fun p =>
    (LoopFrame.layerEnds r (Watched.lawful_onlyPounds fun _ => True) ⟨fun _ _ => ⟨id, id⟩, id⟩ b).pounds p trivial⟩

theorem keeps_lockLayer : Keeps v ps A D fun r => r.lockLayer b k := by
  have hlocked := (keeps_layerEnds h b).comp (Keeps.when (c := fun r => r.layerBoundary = true) (Keeps.lockPound h (p := pDevice) (by decide)))
  unfold State.lockLayer
  exact hlocked

theorem keeps_switchTaps : Keeps v ps A D State.switchTaps :=
  Keeps.of_frame h fun r _ => ⟨LoopFrame.switchTaps r (lockWatched_lawful ps A), fun p =>
    (LoopFrame.switchTaps r (Watched.lawful_onlyPounds fun _ => True)).pounds p trivial⟩

theorem keeps_lockDevice : Keeps v ps A D fun r => r.lockDevice b k := by
  have hlocked := (keeps_lockLayer h b).comp (keeps_switchTaps h)
  unfold State.lockDevice
  exact hlocked

end

end Sys2Proof.Machine
end

section
/-! PROOFS. The boundaries of the pounds' kinds: SEGMENT and LAYER boundaries stay what they are until their lockage (R30, R32). -/

namespace Sys2Proof.Machine

/-! ### SEGMENT boundaries (R30) -/

/-- The course of the stream of laser l, and the period it is decoded with. -/
def segWatched (l : Nat) : Watched :=
  { Watched.none with regs := fun k => k = Reg.streamState l ∨ k = Reg.loopPeriod (l / 2), streams := (· = l) }

theorem lockKey_streamState {l : Nat} (hl : l < 16) : lockKey (Reg.streamState l) = true := by
  have hany : (List.range 16).any (fun j => Reg.streamState l == Reg.streamState j) = true := List.any_eq_true.2 ⟨l, List.mem_range.2 hl, beq_self_eq_true _⟩
  simp only [lockKey, hany, Bool.or_true]

theorem segWatched_lawful {l : Nat} (hl : l < 16) : (segWatched l).Lawful := by
  rintro k (rfl | rfl)
  · exact lockKey_streamState hl
  · exact lockKey_of_accessOf (accessOf_tables.2.2.2.2.2.2.2 _ (by omega)) (Or.inr rfl)

theorem LoopFrame.segBoundary {s r : State} {l : Nat} (h : LoopFrame (segWatched l) s r) (b : Lt) : r.segBoundary l b = s.segBoundary l b := by
  unfold State.segBoundary State.loopNs
  rw [h.regs _ (Or.inl rfl), h.regs _ (Or.inr rfl), h.streams l rfl]

theorem State.segBoundary_of_idle {s : State} {l : Nat} (h : s.rd (Reg.streamState l) ≠ 1) (b : Lt) : s.segBoundary l b = true := by
  simp only [State.segBoundary, if_neg h]

section
variable {l : Nat} (hl : l < 16)
include hl

omit hl in
theorem streamState_ne {j : Nat} (hj : j ≠ l) : Reg.streamState j ≠ Reg.streamState l := regKey_ne (by decide) (by decide) (Or.inl (by omega))

/-- A stream that is set up anew does not run. -/
theorem State.rd_streamFresh (s : State) : (s.streamFresh l).rd (Reg.streamState l) = 0 := by
  have hw : (Watched.onlyRegs (· = Reg.streamState l)).Lawful := Watched.lawful_onlyReg (lockKey_streamState hl)
  have hshown {r : State} {k : Nat} (hk : k ∈ laserKeys l) : LoopFrame (Watched.onlyRegs (· = Reg.streamState l)) r (r.wr k 0) :=
    LoopFrame.laserWr hw r hl 0 hk
  have hrest := ((((hshown (r := s.wr (Reg.streamState l) 0) (k := Reg.segExec l) (by simp [laserKeys])).trans (hshown (k := Reg.stopSeg l) (by simp [laserKeys]))).trans
    (hshown (k := Reg.stopReason l) (by simp [laserKeys]))).trans (hshown (k := Reg.stopPartial l) (by simp [laserKeys]))).trans (hshown (k := Reg.segDoneCount l) (by simp [laserKeys]))
  exact (hrest.regs _ rfl).trans (State.rd_wr_self _ _ _)

/-- A pass over the lasers that sets each stream up anew. -/
theorem State.rd_each_fresh {f : State → Nat → State} {s : State} (hself : ∀ r, (f r l).rd (Reg.streamState l) = 0)
    (hother : ∀ r j, j < 16 → j ≠ l → LoopFrame (Watched.onlyRegs (· = Reg.streamState l)) r (f r j)) : (each 16 s f).rd (Reg.streamState l) = 0 :=
  each_reach (P := fun _ => True) (Q := fun r => r.rd (Reg.streamState l) = 0) hl trivial (fun _ _ _ _ _ => trivial) (fun r _ => hself r)
    fun r j hj hjl hr => ((hother r j hj hjl).regs _ rfl).trans hr

omit hl in
theorem offOther {j : Nat} (hj : j ≠ l) : (Watched.onlyRegs (· = Reg.streamState l)).Off j := ⟨id, streamState_ne hj⟩

theorem State.rd_layerWaits (s : State) : s.layerWaits.rd (Reg.streamState l) = 0 := by
  have hw : (Watched.onlyRegs (· = Reg.streamState l)).Lawful := Watched.lawful_onlyReg (lockKey_streamState hl)
  unfold State.layerWaits
  rw [State.rd_wr_ne _ _ (regKey_ne (by decide) (by decide) (Or.inl (by omega)))]
  refine State.rd_each_fresh hl (fun r => State.rd_streamFresh hl _) fun r j hj hjl => ?_
  exact (LoopFrame.modStream j _ id).trans (LoopFrame.streamFresh hw _ hj (offOther hjl))

theorem State.rd_startLayer (s : State) (ref : Lt) : (s.startLayer ref).rd (Reg.streamState l) = 0 := by
  have hw : (Watched.onlyRegs (· = Reg.streamState l)).Lawful := Watched.lawful_onlyReg (lockKey_streamState hl)
  have hlate (r : State) (c : Prop) [Decidable c] (d : List Nat) : LoopFrame (Watched.onlyRegs (· = Reg.streamState l)) r
      (if c then r.raise 0x3516 cDEVICE 0 d else r) := LoopFrame.when fun _ => LoopFrame.raise hw _ _ _ _ _ (by decide)
  unfold State.startLayer
  refine ((hlate _ _ _).regs _ rfl).trans ?_
  rw [State.rd_wr_ne _ _ (regKey_ne (by decide) (by decide) (Or.inl (by omega)))]
  refine State.rd_each_fresh hl (fun r => ?_) fun r j hj hjl => LoopFrame.armStream hw r hj (offOther hjl) _ _
  exact ((LoopFrame.refill (w := Watched.onlyRegs (· = Reg.streamState l)) _ id).regs _ rfl).trans (State.rd_streamFresh hl _)

/-- A layer that comes into use sets every stream up anew. -/
theorem State.rd_layerInto (s : State) (old : Nat) : (s.layerInto old).rd (Reg.streamState l) = 0 := by
  have hboth (r : State) (c : Prop) [Decidable c] : (if c then r.startLayer r.lt else r.layerWaits).rd (Reg.streamState l) = 0 := by
    split
    · exact State.rd_startLayer hl _ _
    · exact State.rd_layerWaits hl _
  unfold State.layerInto
  exact hboth _ _

/-- A pound's lockage leaves a SEGMENT boundary one, and a layer that comes into use makes it one. -/
theorem State.segBoundary_applyPound {s : State} (hs : s.Keyed) {p : Nat} (hp : p < 106) {b : Lt} (h : s.segBoundary l b = true) :
    (s.applyPound p).segBoundary l b = true := by
  by_cases hlayer : p = pDevice ∧ (s.pound p).has Reg.layerNumber = true
  · refine State.segBoundary_of_idle ?_ b
    rw [State.applyPound_eq]
    unfold State.lockEffects
    dsimp only
    rw [if_pos hlayer, State.rd_layerInto hl]
    decide
  · have hne {i c : Nat} (hc : c < 256) (hi : i < 0x4000 ∨ i % 0x10 = 0xF ∨ 0x4200 ≤ i) : ¬ (segWatched l).regs (regKey i c) := by
      rintro (h | h)
      · exact regKey_ne hc (by decide) (Or.inl (by omega)) h
      · exact regKey_ne hc (by decide) (Or.inl (by omega)) h
    have hrecord : poundRecord p < 0x4000 ∨ poundRecord p % 0x10 = 0xF ∨ 0x4200 ≤ poundRecord p := by
      unfold poundRecord
      split_ifs <;> omega
    have hapart : PoundApart (segWatched l) s p := by
      refine ⟨id, fun e he => ⟨?_, fun _ _ => ⟨id, id⟩, fun _ _ => id⟩, ⟨hne (by decide) hrecord, hne (by decide) hrecord⟩,
        fun hp => ⟨id, hne (by decide) (by omega), hne (by decide) (by omega)⟩, fun _ => hne (by decide) (by omega), fun hd hn => (hlayer ⟨hd, hn⟩).elim, id⟩
      obtain ⟨-, haccess⟩ := hs p e hp he
      rintro (h | h)
      · exact ne_of_accessOf haccess (accessOf_tables.2.2.1 l hl) (by decide) h
      · exact ne_of_accessOf haccess (accessOf_tables.2.2.2.2.2.2.2 (l / 2) (by omega)) (by decide) h
    rw [(LoopFrame.applyPound (segWatched_lawful hl) s hapart).segBoundary b]
    exact h

/-- So does the lockage or the deferral of pounds that lock together. -/
theorem State.segBoundary_lockPound {v s : State} (hv : v.Keyed) (hs : Shrinks v s) {p : Nat} {k : Bool} {b : Lt}
    (hall : (s.pound p).armed ≠ none → ∀ q, q ∈ p :: (s.pound p).bundle → q < 106) (h : s.segBoundary l b = true) :
    (s.lockPound p k).segBoundary l b = true := by
  unfold State.lockPound
  split
  · exact h
  · next t1 harmed =>
    split
    · refine (foldl_of (P := fun u => Shrinks v u ∧ u.segBoundary l b = true) _ ⟨hs, h⟩ fun u q hq hu => ?_).2
      have hlt : q < 106 := hall (by rw [harmed]; exact Option.some_ne_none _) q hq
      exact ⟨hu.1.applyPound hlt, State.segBoundary_applyPound hl (hu.1.keyed hv) hlt hu.2⟩
    · split
      · rw [(LoopFrame.deferPound (segWatched_lawful hl) s (p := p) _ id id).segBoundary b]
        exact h
      · exact h

end

/-! ### LAYER boundaries (R32) -/

/-- The course of the layer. -/
def layerWatched : Watched := { Watched.none with regs := (· = Reg.layerState), streams := fun _ => True }

theorem layerWatched_lawful : layerWatched.Lawful := fun k hk => by
  rw [show k = Reg.layerState from hk]
  simp [lockKey]

theorem State.layerBoundary_iff (s : State) : s.layerBoundary = true ↔
    s.rd Reg.layerState ≠ 2 ∨ ∀ l, l < 16 → (s.laser l).stream.finished = true := by
  simp only [State.layerBoundary, State.layerOpen, Bool.or_eq_true, bne_iff_ne, Bool.not_eq_true', List.any_eq_false, List.mem_range, Bool.not_eq_false, ne_eq]

theorem LoopFrame.layerBoundary {s r : State} (h : LoopFrame layerWatched s r) (hs : s.layerBoundary = true) : r.layerBoundary = true := by
  rw [State.layerBoundary_iff] at hs ⊢
  refine hs.imp (fun hne => ?_) fun hall l hl => ?_
  · rwa [h.regs _ rfl]
  · rw [h.streams l trivial]; exact hall l hl

end Sys2Proof.Machine
end

section
/-! PROOFS. What a boundary makes of the stream of its own laser (R214, R216 to R220, R228, R230). -/

namespace Sys2Proof.Machine

/-- Only the stream of laser l. -/
def Watched.streamOf (l : Nat) : Watched := { Watched.none with streams := (· = l) }

theorem Watched.lawful_streamOf (l : Nat) : (Watched.streamOf l).Lawful := fun _ h => h.elim

/-- The stream of laser l has a property. -/
def State.Streams (s : State) (l : Nat) (P : Stream → Prop) : Prop := P (s.laser l).stream

theorem State.Streams.iteFst {l : Nat} {P : Stream → Prop} {α : Type} {c : Prop} [Decidable c] {x y : State × α} (h : c → x.1.Streams l P)
    (h' : ¬ c → y.1.Streams l P) : (if c then x else y).1.Streams l P := by
  split
  · exact h ‹_›
  · exact h' ‹_›

/-- A property of a stream that decoding keeps: stops that are found, what they withdraw, and segments that are decoded (R228). -/
structure Stream.Decodable (P : Stream → Prop) : Prop where
  stops : ∀ m xs, P m → P { m with stops := xs }
  profile : ∀ m p, P m → P { m with profile := p }
  back : ∀ m seg x n, P m → seg = m.decodeNext ∨ seg = m.len → x ∈ m.segs → seg ≤ x.s → P { m with
    segs := m.segs.filter (fun y => decide (y.s < seg) || y.ty == 0), decodeNext := seg, lastEnd := x.p0, lastTime := x.t0, ended := false
    profile := x.prof, withdrawn := n }
  next : ∀ m x e st, P m → x.s = m.decodeNext → x.t0 = m.lastTime → x.t0 ≤ x.t2 → P { m with
    segs := m.segs ++ [x], decodeNext := m.decodeNext + 1, lastEnd := x.p1, lastTime := x.t2, ended := e, staging := st }

theorem decodeSeg_times (b : List Nat) (i : Nat) (p : Pt) (t : Lt) : (decodeSeg b i p t).s = i ∧ (decodeSeg b i p t).t0 = t ∧ t ≤ (decodeSeg b i p t).t2 := by
  unfold decodeSeg
  dsimp only
  split
  · exact ⟨rfl, rfl, Nat.le_add_right _ _⟩
  · exact ⟨rfl, rfl, (Nat.le_add_right _ _).trans (Nat.le_add_right _ _)⟩
  · exact ⟨rfl, rfl, Nat.le_add_right _ _⟩
  · exact ⟨rfl, rfl, le_max_left _ _⟩
  · exact ⟨rfl, rfl, Nat.le_add_right _ _⟩
  · exact ⟨rfl, rfl, le_refl _⟩

section
variable {l : Nat}

theorem LoopFrame.stream {s r : State} (h : LoopFrame (Watched.streamOf l) s r) : (r.laser l).stream = (s.laser l).stream := h.streams l rfl

variable (hl : l < 16) (s : State)
include hl

theorem State.stream_modLaser (f : Laser → Laser) : ((s.modLaser l f).laser l).stream = (f (s.laser l)).stream :=
  congrArg Laser.stream (State.laser_modLaser_self s f hl)

theorem State.stream_modStream (f : Stream → Stream) : ((s.modStream l f).laser l).stream = f (s.laser l).stream := State.stream_modLaser hl s _

/-! ### Decoding (R17, R228) -/

section
variable {P : Stream → Prop} (hP : Stream.Decodable P) (h : s.Streams l P)
include hP h

theorem State.Streams.addStop {seg : Nat} (reason : Nat) (hseg : seg = (s.laser l).stream.decodeNext ∨ seg = (s.laser l).stream.len) :
    (s.addStop l seg reason).Streams l P := by
  have hfound := State.stream_modStream hl s fun m => { m with stops := m.stops ++ [{ seg := seg, reason := reason }] }
  have hstopped := hP.stops _ ((s.laser l).stream.stops ++ [{ seg := seg, reason := reason }]) h
  unfold State.addStop State.Streams
  dsimp only
  split
  · rw [hfound]; exact hstopped
  · next x hx =>
    rw [hfound] at hx ⊢
    rw [(LoopFrame.closeForStop (Watched.lawful_streamOf l) _ seg x.t0).stream, State.stream_modLaser hl]
    have hle := List.find?_some hx
    simp only [Bool.and_eq_true, decide_eq_true_eq] at hle
    exact hP.back _ seg x _ hstopped hseg (List.mem_of_find?_eq_some hx) hle.1

theorem State.Streams.decodeNext (base : Lt) : (s.decodeNext l base).1.Streams l P := by
  have hstop {seg : Nat} (reason : Nat) (hseg : seg = (s.laser l).stream.decodeNext ∨ seg = (s.laser l).stream.len) :=
    State.Streams.addStop hl s hP h reason hseg
  unfold State.decodeNext
  refine iteFst (fun _ => h) fun _ => iteFst (fun _ => hstop _ (Or.inr rfl)) fun _ => ?_
  split
  · exact iteFst (fun _ => hstop _ (Or.inl rfl)) fun _ => h
  · next i b hi =>
    have hnext : i = (s.laser l).stream.decodeNext := by simpa using List.find?_some hi
    refine iteFst (fun _ => hstop _ (Or.inl hnext)) fun _ => iteFst (fun _ => ?_) fun _ => iteFst (fun _ => hstop _ (Or.inl hnext)) fun _ => h
    subst hnext
    obtain ⟨hs, ht0, ht2⟩ := decodeSeg_times b (s.laser l).stream.decodeNext (s.laser l).stream.lastEnd (s.laser l).stream.lastTime
    have hprofile (c : Prop) [Decidable c] (p : Option (Nat × Nat × Int)) :
        ∃ q, ((if c then s.modStream l fun m => { m with profile := p } else s).laser l).stream = { (s.laser l).stream with profile := q } := by
      split
      · exact ⟨p, State.stream_modStream hl s _⟩
      · exact ⟨_, rfl⟩
    dsimp only
    unfold State.Streams
    rw [State.stream_modStream hl, (LoopFrame.usePlan (Watched.lawful_streamOf l) _ _).stream]
    obtain ⟨q, hq⟩ := hprofile ((decodeSeg b (s.laser l).stream.decodeNext (s.laser l).stream.lastEnd (s.laser l).stream.lastTime).ty = 5) _
    rw [hq]
    exact hP.next { (s.laser l).stream with profile := q } _ _ _ (hP.profile _ q h) hs ht0 (ht0.symm ▸ ht2)

theorem State.Streams.decodeMany (base : Lt) (n : Nat) : (State.decodeMany s l base n).Streams l P := by
  induction n generalizing s with
  | zero => exact h
  | succ n ih =>
    have hnext := State.Streams.decodeNext hl s hP h base
    unfold State.decodeMany
    dsimp only
    split
    · exact ih _ hnext
    · exact hnext

end

/-! ### Progress and stops (R219, R228) -/

theorem State.stream_segsBegin (t : Lt) : ((s.segsBegin l t).laser l).stream = (s.laser l).stream :=
  (LoopFrame.foldl (w := Watched.streamOf l) _ fun r x _ => LoopFrame.segBegins (Watched.lawful_streamOf l) r hl x).stream

theorem State.stream_segsEnd (t : Lt) : ((s.segsEnd l t).laser l).stream = (s.laser l).stream.progressed t := State.stream_modStream hl _ _

/-- A stream whose segments have not ended goes on with them. -/
theorem State.stream_streamProgress {t : Lt} (hsegs : ∀ x, x ∈ (s.laser l).stream.segs → t < x.t2) :
    ((s.streamProgress l t).laser l).stream = (s.laser l).stream.progressed t := by
  have hnone : ((s.laser l).stream.segs.filter fun x => decide (x.t2 ≤ t)) = [] := by
    rw [List.filter_eq_nil_iff]
    intro x hx
    simpa using hsegs x hx
  rw [State.streamProgress_eq]
  dsimp only
  rw [State.stream_segsBegin hl, hnone]
  exact (State.stream_segsEnd hl _ t).trans (congrArg (·.progressed t) (State.stream_segsBegin hl s t))

/-- At its progress a stream gets no start, and stays finished once it is. -/
theorem State.streamProgress_onward (t : Lt) : ((s.streamProgress l t).laser l).stream.startAt = (s.laser l).stream.startAt ∧
    ((s.laser l).stream.finished = true → ((s.streamProgress l t).laser l).stream.finished = true) := by
  have hend : (((s.segsBegin l t).segsEnd l t).laser l).stream = (s.laser l).stream.progressed t :=
    (State.stream_segsEnd hl _ t).trans (congrArg (·.progressed t) (State.stream_segsBegin hl s t))
  rw [State.streamProgress_eq]
  dsimp only
  split
  · rw [(LoopFrame.raiseFull (Watched.lawful_streamOf l) _ 0 0x3512 _ _ _ _ _ (by decide)).stream]
    rw [(LoopFrame.wr (w := Watched.streamOf l) _ _ id).stream, State.stream_modLaser hl]
    dsimp only
    rw [hend]
    exact ⟨rfl, fun _ => rfl⟩
  · rw [hend]
    exact ⟨rfl, id⟩

theorem State.stream_streamStopped (x : Stop) (t : Lt) (partly : Bool) :
    ((s.streamStopped l x t partly).laser l).stream.startAt = (s.laser l).stream.startAt ∧
      ((s.streamStopped l x t partly).laser l).stream.finished = (s.laser l).stream.finished := by
  have hw := Watched.lawful_streamOf l
  have hshown {r : State} {k : Nat} (v : Nat) : LoopFrame (Watched.streamOf l) r (r.wr k v) := LoopFrame.wr k v id
  have htold (r : State) (m : Stream) : LoopFrame (Watched.streamOf l) r (m.stops.foldl (init := (r.corrZero l).afAbandon l 3) fun s y =>
      let fault := y.reason != 6 && y.reason != 7
      s.raiseFull (if fault then 3 else 0) (if fault then 0x3513 else 0x3514) cLASER l
        (dU 4 y.seg ++ dU 1 y.reason ++ dU 1 (bit (partly && y.seg == x.seg)) ++ dU 1 m.withdrawn) t []) :=
    ((LoopFrame.corrZero hw r hl).trans (LoopFrame.afAbandon hw _ hl _)).trans
      (LoopFrame.foldl _ fun r y _ => LoopFrame.raiseFull hw r _ _ _ _ _ _ _ (by split <;> decide))
  unfold State.streamStopped
  dsimp only
  rw [(htold _ _).stream, State.stream_modStream hl, (hshown _).stream, (hshown _).stream, (hshown _).stream, (hshown _).stream, (hshown _).stream]
  exact ⟨rfl, rfl⟩

omit hl in
/-- A stream that has segments before it does not stop yet. -/
theorem State.stopIfDue_of_segs {s : State} {t : Lt} (h : (s.laser l).stream.segs ≠ []) : s.stopIfDue l t = s := by
  unfold State.stopIfDue
  dsimp only
  split
  · rfl
  · refine if_neg fun hdue => h ?_
    simpa using hdue.2.1

theorem State.stopIfDue_onward (t : Lt) : ((s.stopIfDue l t).laser l).stream.startAt = (s.laser l).stream.startAt ∧
    ((s.stopIfDue l t).laser l).stream.finished = (s.laser l).stream.finished := by
  unfold State.stopIfDue
  dsimp only
  split
  · exact ⟨rfl, rfl⟩
  · next x _ =>
    split
    · have hclose := (LoopFrame.closeForStop (Watched.lawful_streamOf l) s (l := l) x.seg (s.laser l).stream.lastTime).stream
      obtain ⟨hstart, hfinished⟩ := State.stream_streamStopped hl (s.closeForStop l x.seg (s.laser l).stream.lastTime) x (s.laser l).stream.lastTime
        ((s.laser l).stream.backWithin && (s.laser l).stream.resumeSeg == some x.seg)
      rw [hclose] at hstart hfinished
      exact ⟨hstart, hfinished⟩
    · exact ⟨rfl, rfl⟩

/-! ### The boundary of a laser (R214, R220, R230) -/

theorem State.stream_laserShows (b : Lt) : ((s.laserShows l b).laser l).stream = { (s.laser l).stream with now := (s.laser l).stream.cur } := by
  have htold (r : State) : LoopFrame (Watched.streamOf l) r (r.tagOffsets l b) := LoopFrame.vision _ rfl
  unfold State.laserShows
  dsimp only
  rw [(htold _).stream, (LoopFrame.wrS (w := Watched.streamOf l) _ _ _ id).stream, (LoopFrame.wrS (w := Watched.streamOf l) _ _ _ id).stream,
    State.stream_modLaser hl]

omit hl in
theorem State.laserStarts_of_unstarted {s : State} {b : Lt} (h : (s.laser l).stream.startAt ≠ some b) : s.laserStarts l b = s :=
  if_neg fun hstart => h hstart.2.1

omit hl in
theorem State.laserResumes_of_none {s : State} {b : Lt} {tns : Nat} (h : (s.laser l).stream.resumeSeg = none) : s.laserResumes l b tns = s := by
  unfold State.laserResumes
  dsimp only
  split
  · next seg hseg => rw [h] at hseg; cases hseg
  · rfl

theorem State.laserResumes_onward (b : Lt) (tns : Nat) : ((s.laserResumes l b tns).laser l).stream.startAt = (s.laser l).stream.startAt ∧
    ((s.laserResumes l b tns).laser l).stream.finished = (s.laser l).stream.finished := by
  unfold State.laserResumes
  dsimp only
  split
  · split
    · split
      · rw [State.stream_modStream hl]; exact ⟨rfl, rfl⟩
      · rw [State.stream_modStream hl]; exact ⟨rfl, rfl⟩
    · exact ⟨rfl, rfl⟩
  · exact ⟨rfl, rfl⟩

theorem State.Streams.laserDecodes {P : Stream → Prop} (hP : Stream.Decodable P) (h : s.Streams l P) (b : Lt) (tns : Nat) :
    (s.laserDecodes l b tns).Streams l P := by
  unfold State.laserDecodes
  dsimp only
  split
  · exact State.Streams.decodeMany hl s hP h _ _
  · exact h

end

end Sys2Proof.Machine
end

section
/-! PROOFS. SEGMENT and LAYER boundaries stand over the boundaries of the lasers (R30, R32). -/

namespace Sys2Proof.Machine

/-! ### Streams that do not start at the boundary (R214) -/

/-- A stream does not start at `b`, and has finished where `F` holds. -/
def Stream.Waits (b : Lt) (F : Prop) (m : Stream) : Prop := m.startAt ≠ some b ∧ (F → m.finished = true)

theorem Stream.Waits.onward {b : Lt} {F : Prop} {m n : Stream} (h : m.Waits b F) (hstart : n.startAt = m.startAt)
    (hfinished : m.finished = true → n.finished = true) : n.Waits b F := ⟨hstart ▸ h.1, fun hf => hfinished (h.2 hf)⟩

theorem Stream.Waits.decodable (b : Lt) (F : Prop) : Stream.Decodable (Stream.Waits b F) :=
  ⟨fun _ _ h => h, fun _ _ h => h, fun _ _ _ _ h _ _ _ => h, fun _ _ _ _ h _ _ _ => h⟩

theorem Seg.marked_times (x : Seg) (t : Lt) : (x.marked t).s = x.s ∧ (x.marked t).t0 = x.t0 ∧ (x.marked t).t2 = x.t2 := by
  unfold Seg.marked
  split
  · exact ⟨rfl, rfl, rfl⟩
  · exact ⟨rfl, rfl, rfl⟩

/-- The segment in hand at `next` is another than that of the latest set-point, and no stop withdraws it (R30, R228). -/
structure Stream.Holds (next b : Lt) (m : Stream) : Prop where
  segs : ∃ y rest, m.segs = y :: rest ∧ y.t0 ≤ next ∧ next < y.t2 ∧ (∀ x, x ∈ rest → next < x.t0 ∧ x.t0 ≤ x.t2) ∧ y.s ≠ m.segUsed ∧
    y.s < m.decodeNext ∧ y.s < m.len
  last : next < m.lastTime
  start : m.startAt ≠ some b
  resume : m.resumeSeg = none

namespace Stream.Holds

variable {next b : Lt} {m : Stream}

theorem segAt (h : m.Holds next b) : ∃ y, m.segAt next = some y ∧ y.s ≠ m.segUsed := by
  obtain ⟨y, rest, hsegs, hy0, -, hrest, hused, -⟩ := h.segs
  refine ⟨y, ?_, hused⟩
  have hnone : rest.filter (fun x => decide (x.t0 ≤ next)) = [] := by
    rw [List.filter_eq_nil_iff]
    intro x hx
    simpa using (hrest x hx).1
  simp [Stream.segAt, hsegs, hy0, hnone]

theorem of_segs (h : m.Holds next b) {x : Seg} (hx : x ∈ m.segs) : next < x.t2 := by
  obtain ⟨y, rest, hsegs, -, hy2, hrest, -⟩ := h.segs
  rw [hsegs] at hx
  rcases List.mem_cons.1 hx with rfl | hx
  · exact hy2
  · exact (hrest x hx).1.trans_le (hrest x hx).2

theorem progressed (h : m.Holds next b) {t : Lt} (ht : t ≤ next) : (m.progressed t).Holds next b := by
  have hall : m.segs.filter (fun x => !decide (x.t2 ≤ t)) = m.segs := by
    rw [List.filter_eq_self]
    intro x hx
    simpa using ht.trans_lt (h.of_segs hx)
  obtain ⟨y, rest, hsegs, hy0, hy2, hrest, hy⟩ := h.segs
  obtain ⟨hs, h0, h2⟩ := y.marked_times t
  refine ⟨⟨y.marked t, rest.map fun x => x.marked t, ?_, h0.symm ▸ hy0, h2.symm ▸ hy2, fun x hx => ?_, hs.symm ▸ hy⟩, h.last, h.start, h.resume⟩
  · exact (congrArg (List.map _) (hall.trans hsegs)).trans List.map_cons
  · obtain ⟨z, hz, rfl⟩ := List.mem_map.1 hx
    obtain ⟨-, hz0, hz2⟩ := z.marked_times t
    rw [hz0, hz2]
    exact hrest z hz

theorem decodable (next b : Lt) : Stream.Decodable (Stream.Holds next b) where
  stops _ _ h := ⟨h.segs, h.last, h.start, h.resume⟩
  profile _ _ h := ⟨h.segs, h.last, h.start, h.resume⟩
  back m seg x n h hseg hx hle := by
    obtain ⟨y, rest, hsegs, hy0, hy2, hrest, hused, hdecode, hlen⟩ := h.segs
    have hlt : y.s < seg := hseg.elim (fun e => e ▸ hdecode) fun e => e ▸ hlen
    have hx' : x ∈ rest := by
      rw [hsegs] at hx
      rcases List.mem_cons.1 hx with rfl | hx
      · exact absurd hle (Nat.not_le.2 hlt)
      · exact hx
    refine ⟨⟨y, rest.filter fun z => decide (z.s < seg) || z.ty == 0, ?_, hy0, hy2, fun z hz => hrest z (List.mem_of_mem_filter hz), hused, hlt, hlen⟩,
      (hrest x hx').1, h.start, h.resume⟩
    dsimp only
    rw [hsegs, List.filter_cons_of_pos (by simp [hlt])]
  next m x e st h hs h0 h2 := by
    obtain ⟨y, rest, hsegs, hy0, hy2, hrest, hused, hdecode, hlen⟩ := h.segs
    have hx : next < x.t0 := h0 ▸ h.last
    refine ⟨⟨y, rest ++ [x], ?_, hy0, hy2, fun z hz => ?_, hused, Nat.lt_succ_of_lt hdecode, hlen⟩, hx.trans_le h2, h.start, h.resume⟩
    · dsimp only
      rw [hsegs, List.cons_append]
    · rcases List.mem_append.1 hz with hz | hz
      · exact hrest z hz
      · rw [List.mem_singleton.1 hz]
        exact ⟨hx, h2⟩

end Stream.Holds

/-! ### The boundary of the laser itself -/

section
variable {l : Nat} (hl : l < 16) (s : State) {b : Lt}
include hl

theorem State.laserReaches_waits {F : Prop} (h : s.Streams l (Stream.Waits b F)) : (s.laserReaches l b).Streams l (Stream.Waits b F) := by
  have hshown : (s.laserShows l b).Streams l (Stream.Waits b F) := by
    unfold State.Streams
    rw [State.stream_laserShows hl]
    exact h
  unfold State.laserReaches
  dsimp only
  split
  · obtain ⟨hstart, hfinished⟩ := State.streamProgress_onward hl (s.laserShows l b) b
    obtain ⟨hstart', hfinished'⟩ := State.stopIfDue_onward hl ((s.laserShows l b).streamProgress l b) b
    exact hshown.onward (hstart'.trans hstart) fun hf => hfinished'.trans (hfinished hf)
  · exact hshown

/-- The boundary of a laser whose stream does not start at it. -/
theorem State.laserBoundary_waits {F : Prop} (h : s.Streams l (Stream.Waits b F)) : (s.laserBoundary l b).Streams l (Stream.Waits b F) := by
  have hreached := State.laserReaches_waits hl s h
  obtain ⟨hstart, hfinished⟩ := State.laserResumes_onward hl (s.laserReaches l b) b (s.loopNs (l / 2))
  rw [State.laserBoundary_eq, State.laserStarts_of_unstarted hreached.1]
  exact State.Streams.laserDecodes hl _ (Stream.Waits.decodable b F) (hreached.onward hstart fun hf => hfinished.trans hf) b _

theorem LoopFrame.laserBoundary_unstarted {w : Watched} (hw : w.Lawful) (hoff : w.Off l) (h : s.Streams l (Stream.Waits b False)) :
    LoopFrame w s (s.laserBoundary l b) := by
  rw [State.laserBoundary_eq, State.laserStarts_of_unstarted (State.laserReaches_waits hl s h).1]
  exact ((laserReaches hw s hl b hoff).trans (laserResumes _ b _ hoff.stream)).trans (laserDecodes hw _ b _ hoff.stream)

/-- A stream that neither runs nor starts at the boundary does not run after it. -/
theorem State.laserBoundary_idle (h : s.rd (Reg.streamState l) ≠ 1) (hstart : (s.laser l).stream.startAt ≠ some b) :
    (s.laserBoundary l b).rd (Reg.streamState l) = s.rd (Reg.streamState l) := by
  have hw : (Watched.onlyRegs (· = Reg.streamState l)).Lawful := Watched.lawful_onlyReg (lockKey_streamState hl)
  have hshown := LoopFrame.laserShows hw s hl b id
  have hreaches : s.laserReaches l b = s.laserShows l b := by
    unfold State.laserReaches
    exact if_neg fun hrun => h ((hshown.regs _ rfl).symm.trans hrun)
  have hreached := State.laserReaches_waits hl s (b := b) (F := False) ⟨hstart, False.elim⟩
  rw [State.laserBoundary_eq, State.laserStarts_of_unstarted hreached.1, hreaches]
  exact ((hshown.trans (LoopFrame.laserResumes _ b _ id)).trans (LoopFrame.laserDecodes hw _ b _ id)).regs _ rfl

/-- A stream that holds its segment over the next boundary goes on holding it. -/
theorem State.laserBoundary_holds {next : Lt} (hb : b ≤ next) (h : s.Streams l (Stream.Holds next b)) : (s.laserBoundary l b).Streams l (Stream.Holds next b) := by
  have hshown : (s.laserShows l b).Streams l (Stream.Holds next b) := by
    unfold State.Streams
    rw [State.stream_laserShows hl]
    exact ⟨h.segs, h.last, h.start, h.resume⟩
  have hreached : (s.laserReaches l b).Streams l (Stream.Holds next b) := by
    unfold State.laserReaches
    dsimp only
    split
    · have hgone : ((s.laserShows l b).streamProgress l b).Streams l (Stream.Holds next b) := by
        unfold State.Streams
        rw [State.stream_streamProgress hl _ fun x hx => hb.trans_lt (hshown.of_segs hx)]
        exact hshown.progressed hb
      rwa [State.stopIfDue_of_segs (by obtain ⟨y, rest, hsegs, -⟩ := hgone.segs; rw [hsegs]; exact List.cons_ne_nil _ _)]
    · exact hshown
  rw [State.laserBoundary_eq, State.laserStarts_of_unstarted hreached.start, State.laserResumes_of_none hreached.resume]
  exact State.Streams.laserDecodes hl _ (Stream.Holds.decodable next b) hreached b _

end

end Sys2Proof.Machine
end

section
/-! PROOFS. SEGMENT and LAYER boundaries stand over what an engine latches at its boundary (R30, R32). -/

namespace Sys2Proof.Machine

/-! ### A SEGMENT boundary over the boundaries of the lasers (R30) -/

/-- The stream of laser l stays between segments up to the set-point that the boundary at `b` forms. -/
def State.SegReady (s : State) (l : Nat) (b : Lt) : Prop :=
  s.rd (Reg.streamState l) ≠ 1 ∧ (s.laser l).stream.startAt ≠ some b ∨ s.Streams l (Stream.Holds (b + ns (s.loopNs (l / 2))) b)

section
variable {l : Nat} {b : Lt} {s r : State}

theorem State.SegReady.segBoundary (h : s.SegReady l b) : s.segBoundary l b = true := by
  by_cases hrun : s.rd (Reg.streamState l) = 1
  · obtain ⟨y, hy, hused⟩ := (h.resolve_left fun hidle => hidle.1 hrun).segAt
    unfold State.segBoundary
    dsimp only
    rw [if_pos hrun, hy]
    exact bne_iff_ne.2 hused
  · exact State.segBoundary_of_idle hrun b

theorem State.SegReady.frame (h : s.SegReady l b) (hr : LoopFrame (segWatched l) s r) : r.SegReady l b := by
  unfold State.SegReady State.Streams State.loopNs
  rw [hr.regs _ (Or.inl rfl), hr.regs _ (Or.inr rfl), hr.streams l rfl]
  exact h

theorem segWatched_off {j : Nat} (hj : j ≠ l) : (segWatched l).Off j := by
  refine ⟨hj, ?_⟩
  rintro (h | h)
  · exact streamState_ne hj h
  · exact regKey_ne (by decide) (by decide) (Or.inl (by omega)) h

theorem segWatched_layer : ¬ (segWatched l).regs Reg.layerState := by
  rintro (h | h)
  · exact regKey_ne (by decide) (by decide) (Or.inl (by omega)) h
  · exact regKey_ne (by decide) (by decide) (Or.inl (by omega)) h

theorem State.SegReady.laserBoundary (hl : l < 16) {j : Nat} (hj : j < 16) (h : s.SegReady l b) : (s.laserBoundary j b).SegReady l b := by
  by_cases hjl : j = l
  · subst hjl
    have hperiod : (s.laserBoundary j b).loopNs (j / 2) = s.loopNs (j / 2) := by
      have hkey : lockKey (Reg.loopPeriod (j / 2)) = true := lockKey_of_accessOf (accessOf_tables.2.2.2.2.2.2.2 _ (by omega)) (Or.inr rfl)
      refine (LoopFrame.laserBoundary (Watched.lawful_onlyReg hkey) s hl b ⟨id, ?_⟩ ?_).regs _ rfl
      · exact regKey_ne (by decide) (by decide) (Or.inl (by omega))
      · exact regKey_ne (by decide) (by decide) (Or.inl (by omega))
    rcases h with ⟨hidle, hstart⟩ | hholds
    · refine Or.inl ⟨?_, (State.laserBoundary_waits hl s (F := False) ⟨hstart, False.elim⟩).1⟩
      rwa [State.laserBoundary_idle hl s hidle hstart]
    · refine Or.inr ?_
      rw [hperiod]
      exact State.laserBoundary_holds hl s (Nat.le_add_right _ _) hholds
  · exact h.frame (LoopFrame.laserBoundary (segWatched_lawful hl) s hj b (segWatched_off hjl) segWatched_layer)

end

/-! ### A LAYER boundary over the boundaries of the lasers (R32) -/

/-- No stream starts at `b`, and none is unfinished in a layer that is being built. -/
def State.LayerReady (s : State) (b : Lt) : Prop := ∃ F : Prop, (s.rd Reg.layerState = 2 → F) ∧ ∀ l, l < 16 → s.Streams l (Stream.Waits b F)

section
variable {b : Lt} {s r : State}

theorem State.LayerReady.layerBoundary (h : s.LayerReady b) : s.layerBoundary = true := by
  obtain ⟨F, hF, hall⟩ := h
  rw [State.layerBoundary_iff]
  by_cases hstate : s.rd Reg.layerState = 2
  · exact Or.inr fun l hl => (hall l hl).2 (hF hstate)
  · exact Or.inl hstate

theorem State.LayerReady.of_layerBoundary (h : s.layerBoundary = true) (hstart : ∀ l, l < 16 → (s.laser l).stream.startAt ≠ some b) : s.LayerReady b := by
  refine ⟨s.rd Reg.layerState = 2, id, fun l hl => ⟨hstart l hl, fun hstate => ?_⟩⟩
  exact ((State.layerBoundary_iff s).1 h).resolve_left (fun hne => hne hstate) l hl

theorem State.LayerReady.frame (h : s.LayerReady b) (hr : LoopFrame layerWatched s r) : r.LayerReady b := by
  obtain ⟨F, hF, hall⟩ := h
  refine ⟨F, fun hstate => hF ((hr.regs _ rfl).symm.trans hstate), fun l hl => ?_⟩
  unfold State.Streams
  rw [hr.streams l trivial]
  exact hall l hl

theorem streamState_ne_layer (l : Nat) : Reg.streamState l ≠ Reg.layerState := regKey_ne (by decide) (by decide) (Or.inl (by omega))

theorem State.LayerReady.laserBoundary {j : Nat} (hj : j < 16) (h : s.LayerReady b) : (s.laserBoundary j b).LayerReady b := by
  obtain ⟨F, hF, hall⟩ := h
  have hlayer : (Watched.onlyRegs (· = Reg.layerState)).Lawful := Watched.lawful_onlyReg (layerWatched_lawful Reg.layerState rfl)
  have hstate := LoopFrame.laserBoundary_unstarted hj s hlayer ⟨id, streamState_ne_layer j⟩ (b := b) ⟨(hall j hj).1, False.elim⟩
  refine ⟨F, fun h => hF ((hstate.regs _ rfl).symm.trans h), fun l hl => ?_⟩
  by_cases hlj : j = l
  · subst hlj
    exact State.laserBoundary_waits hl s (hall j hl)
  · unfold State.Streams
    rw [(LoopFrame.laserBoundary (Watched.lawful_streamOf l) s hj b ⟨hlj, id⟩ id).stream]
    exact hall l hl

end

/-! ### Over what an engine latches -/

section
variable {s : State} {t : Nat} (ht : t < 8) {b : Lt}
include ht

/-- What every latch and every boundary of a laser of ENGINE_t keeps, the latches of ENGINE_t keep. -/
theorem State.boundaryLatches_of {P : State → Prop} {w : Watched} (hw : w.Lawful) (hframe : ∀ s r, LoopFrame w s r → P s → P r)
    (hlaser : ∀ s j, j < 16 → P s → P (s.laserBoundary j b)) (h : P s) : P (s.boundaryLatches t b) := by
  have hlatched : LoopFrame w s (if (s.tile t).lastDemod = some b then (s.latchLate t).boundaryLatch t 1 else s.latchLate t) :=
    LoopFrame.ite (fun _ => (LoopFrame.latchLate hw s ht).trans (LoopFrame.boundaryLatch hw _ ht 1)) fun _ => LoopFrame.latchLate hw s ht
  unfold State.boundaryLatches
  refine foldl_of (P := P) _ (hframe _ _ hlatched h) fun r j hj hr => hlaser r j ?_ hr
  simp only [List.mem_cons, List.not_mem_nil, or_false] at hj
  omega

theorem State.SegReady.boundaryLatches {l : Nat} (hl : l < 16) (h : s.SegReady l b) : (s.boundaryLatches t b).SegReady l b :=
  State.boundaryLatches_of ht (P := fun r => r.SegReady l b) (segWatched_lawful hl) (fun _ _ hr h => h.frame hr) (fun _ _ hj h => h.laserBoundary hl hj) h

theorem State.LayerReady.boundaryLatches (h : s.LayerReady b) : (s.boundaryLatches t b).LayerReady b :=
  State.boundaryLatches_of ht (P := fun r => r.LayerReady b) layerWatched_lawful (fun _ _ hr h => h.frame hr) (fun _ _ hj h => h.laserBoundary hj) h

end

end Sys2Proof.Machine
end

section
/-! PROOFS. The lockages of a boundary: the pass reaches the pounds that are due (R30 to R32, R41). -/

namespace Sys2Proof.Machine

/-! ### LAYER boundaries over the lockages before the device's -/

theorem PoundApart.layerWatched {s : State} (hs : s.Keyed) {p : Nat} (hlt : p < 106) (hp : p ≠ pDevice) : PoundApart layerWatched s p := by
  have hrecord {b : Nat} (hb : b < 256) : ¬ Machine.layerWatched.regs (poundKey p b) := fun h =>
    poundKey_ne_device hlt hb (by decide) (by omega) (Eq.symm h)
  refine ⟨id, fun e he => ⟨fun h => ?_, ⟨fun _ _ => ⟨id, id⟩, fun _ _ => id⟩⟩, ⟨hrecord (by decide), hrecord (by decide)⟩, fun _ => ⟨id, ?_, ?_⟩,
    fun h => (hp h).elim, fun h => (hp h).elim, id⟩
  · exact ne_of_accessOf (hs p e hlt he).2 accessOf_tables.2.2.2.1 (by decide) h
  · exact regKey_ne (by decide) (by decide) (Or.inl (by omega))
  · exact regKey_ne (by decide) (by decide) (Or.inl (by omega))

theorem State.layerBoundary_layerEnds {s : State} (b : Lt) (h : s.layerBoundary = true) : (s.layerEnds b).layerBoundary = true := by
  have hlayer : (Watched.onlyRegs (· = Reg.layerState)).Lawful := Watched.lawful_onlyReg (layerWatched_lawful Reg.layerState rfl)
  have hprogress : (each 16 s fun s l => if s.rd (Reg.streamState l) = 1 then s.streamProgress l b else s).layerBoundary = true := by
    refine each_of (P := fun r => r.layerBoundary = true) h fun r l hl hr => ?_
    split
    · rw [State.layerBoundary_iff] at hr ⊢
      refine hr.imp (fun hstate => ?_) fun hall j hj => ?_
      · rwa [(LoopFrame.streamProgress hlayer r hl ⟨id, streamState_ne_layer l⟩ b).regs _ rfl]
      · by_cases hjl : l = j
        · subst hjl
          exact (State.streamProgress_onward hl r b).2 (hall l hl)
        · rw [(LoopFrame.streamProgress (Watched.lawful_streamOf j) r hl ⟨hjl, id⟩ b).stream]
          exact hall j hj
    · exact hr
  unfold State.layerEnds State.layerEnd
  split
  · rw [State.layerBoundary_iff]
    refine Or.inl ?_
    rw [(LoopFrame.raise hlayer _ _ _ _ _ (by decide)).regs _ rfl, State.rd_wr_self]
    decide
  · exact hprogress

/-! ### The pounds that are due at a boundary (R30 to R32) -/

/-- The boundary at `b` of ENGINE_t is one of the kind of the pounds `ps`. -/
def State.BoundaryOf (v : State) (t : Nat) (b : Lt) (ps : List Nat) : Prop :=
  (∀ q, q ∈ ps → q ∈ axesOf t ∨ q = pEngine t) ∨ (∃ l, ps = [pLaser l] ∧ l < 16 ∧ l / 2 = t ∧ v.segBoundary l b = true) ∨
    (∃ c, ps = [pCamera c] ∧ c < 32 ∧ v.camEngine c = t ∧ v.frameBoundary c b = true) ∨
    ps = [pDevice] ∧ t = 0 ∧ v.layerBoundary = true

namespace LockPlan

variable {v r : State} {ps : List Nat} {A : Nat → Prop} {k : Bool} {t0 : Lt} {D : State → Prop} (h : LockPlan v ps A k t0 D)
include h

theorem bundle_lt (hr : Shrinks v r) {p : Nat} (hp : p < 105) (harmed : (r.pound p).armed ≠ none) : ∀ q, q ∈ p :: (r.pound p).bundle → q < 105 := by
  obtain ⟨-, harmed', hbundle⟩ := (hr p).resolve_left fun he => harmed (by rw [he])
  intro q hq
  rcases List.mem_cons.1 hq with rfl | hq
  · exact hp
  · rw [hbundle] at hq
    by_cases hps : p ∈ ps
    · rw [(h.own p hps).2.1] at hq
      exact h.bounded q (List.mem_of_mem_filter hq)
    · exact (h.foreign p q hp hps (harmed' ▸ harmed) hq).2

theorem segBoundary_lockPound {l : Nat} (hl : l < 16) {b : Lt} (hr : Shrinks v r) {p : Nat} (hp : p < 105) (hb : r.segBoundary l b = true) :
    (r.lockPound p k).segBoundary l b = true :=
  State.segBoundary_lockPound hl h.keyed hr (fun harmed q hq => Nat.lt_succ_of_lt (h.bundle_lt hr hp harmed q hq)) hb

theorem layerBoundary_lockPound (hps : ps = [pDevice]) (hr : Shrinks v r) {p : Nat} (hp : p < 104) (hb : r.layerBoundary = true) :
    (r.lockPound p k).layerBoundary = true := by
  have hother {q : Nat} (hq : q ∉ ps) : q ≠ pDevice := fun he => hq (by rw [hps, he]; exact List.mem_singleton_self _)
  have hp' : p ∉ ps := by
    rw [hps, List.mem_singleton]
    unfold pDevice
    omega
  have hframe := LoopFrame.lockPoundWith (k := k) layerWatched_lawful h.keyed hr (p := p) id id fun harmed q hq => by
    have hq' : q ∉ ps ∧ q < 105 := by
      rcases List.mem_cons.1 hq with rfl | hq
      · exact ⟨hp', by omega⟩
      · exact h.foreign p q (by omega) hp' harmed hq
    exact ⟨Nat.lt_succ_of_lt hq'.2, fun u hu => PoundApart.layerWatched hu (Nat.lt_succ_of_lt hq'.2) (hother hq'.1)⟩
  exact hframe.2.layerBoundary hb

end LockPlan

end Sys2Proof.Machine
end

section
/-! PROOFS. Pounds that are due lock at their boundary, and pounds that are not stay (R30 to R32, R41). -/

namespace Sys2Proof.Machine

section
variable {v : State} {ps : List Nat} {A : Nat → Prop} {k : Bool} {t0 : Lt} {D : State → Prop} (h : LockPlan v ps A k t0 D)
  (hheld : ∀ r a, a < 48 → Stage v ps A D r → LoopFrame (lockWatched ps A) r (r.beginHeld a)) {t : Nat} (ht : t < 8) (b : Lt)

/-! ### What stands over a part of the lockages -/

/-- What every lockage and every held swap of a part keeps, the part keeps. -/
structure Stands (v : State) (ps : List Nat) (A : Nat → Prop) (k : Bool) (D : State → Prop) (n : Nat) (P : State → Prop) : Prop where
  lock : ∀ r p, p < n → Stage v ps A D r → P r → P (r.lockPound p k)
  held : ∀ r a, a < 48 → P r → P (r.beginHeld a)

include h

theorem stands_segBoundary {l : Nat} (hl : l < 16) : Stands v ps A k D 104 fun r => r.segBoundary l b = true where
  lock _ _ hp hr hb := h.segBoundary_lockPound hl hr.1 (Nat.lt_succ_of_lt hp) hb
  held r a _ hb := by
    have hne {i : Nat} (hi : i < 256) : ¬ (segWatched l).regs (regKey (0x3026 + 0x40 * a) i) := by
      rintro (h | h)
      · exact regKey_ne hi (by decide) (Or.inl (by omega)) h
      · exact regKey_ne hi (by decide) (Or.inl (by omega)) h
    rw [(LoopFrame.beginHeld (segWatched_lawful hl) r (a := a) ⟨id, hne (by decide), hne (by decide)⟩).segBoundary b]
    exact hb

theorem stands_layerBoundary (hps : ps = [pDevice]) : Stands v ps A k D 104 fun r => r.layerBoundary = true where
  lock _ _ hp hr hb := h.layerBoundary_lockPound hps hr.1 hp hb
  held r a _ hb := by
    have hne {i : Nat} (hi : i < 256) : ¬ layerWatched.regs (regKey (0x3026 + 0x40 * a) i) := regKey_ne hi (by decide) (Or.inl (by omega))
    exact (LoopFrame.beginHeld layerWatched_lawful r (a := a) ⟨id, hne (by decide), hne (by decide)⟩).layerBoundary hb

section
variable {P : State → Prop} (hP : Stands v ps A k D 104 P) {r : State} (hr : Stage v ps A D r) (hp : P r)
include hP hr hp

include hheld ht in
theorem lockAxes_stands : Stage v ps A D (r.lockAxes t k) ∧ P (r.lockAxes t k) := by
  have haxis {a : Nat} (ha : a ∈ axesOf t) : a < 48 := lt_of_mem_axesOf ht ha
  have hlock (u : State) (p : Nat) (hlt : p < 104) (hu : Stage v ps A D u ∧ P u) : Stage v ps A D (u.lockPound p k) ∧ P (u.lockPound p k) :=
    ⟨h.stage_lockPound hu.1 (Nat.lt_succ_of_lt hlt), hP.lock u p hlt hu.1 hu.2⟩
  have haxes := foldl_of (P := fun u => Stage v ps A D u ∧ P u) (f := fun s a => s.lockPound a k) (axesOf t) ⟨hr, hp⟩ fun u a ha hu =>
    hlock u a (by have := haxis ha; omega) hu
  have hengine := hlock _ (pEngine t) (by unfold pEngine; omega) haxes
  unfold State.lockAxes
  exact foldl_of (P := fun u => Stage v ps A D u ∧ P u) (f := fun s a => s.beginHeld a) (axesOf t) hengine fun u a ha hu =>
    ⟨(keeps_beginHeld h hheld (haxis ha) u hu.1).1, hP.held u a (haxis ha) hu.2⟩

include ht in
theorem lockLasers_stands : Stage v ps A D (r.lockLasers t b k) ∧ P (r.lockLasers t b k) := by
  unfold State.lockLasers
  refine foldl_of (P := fun u => Stage v ps A D u ∧ P u) _ ⟨hr, hp⟩ fun u l hl hu => ?_
  have hlt : pLaser l < 104 := by
    simp only [List.mem_cons, List.not_mem_nil, or_false] at hl
    unfold pLaser
    omega
  split
  · exact ⟨h.stage_lockPound hu.1 (Nat.lt_succ_of_lt hlt), hP.lock u _ hlt hu.1 hu.2⟩
  · exact hu

theorem lockCameras_stands : Stage v ps A D (r.lockCameras t b k) ∧ P (r.lockCameras t b k) := by
  unfold State.lockCameras
  refine each_of (P := fun u => Stage v ps A D u ∧ P u) ⟨hr, hp⟩ fun u c hc hu => ?_
  have hlt : pCamera c < 104 := by unfold pCamera; omega
  split
  · exact ⟨h.stage_lockPound hu.1 (Nat.lt_succ_of_lt hlt), hP.lock u _ hlt hu.1 hu.2⟩
  · exact hu

end

/-! ### The pounds that are due -/

section
variable (hdue : t0 + ns 1000 ≤ v.lt) {r : State} (hr : Stage v ps A D r)
include hdue hr

include hheld ht in
theorem lockAxes_done {q : Nat} (hq : q ∈ ps) (hof : q ∈ axesOf t ∨ q = pEngine t) : D (r.lockAxes t k) := by
  have haxis {a : Nat} (ha : a ∈ axesOf t) : a < 48 := lt_of_mem_axesOf ht ha
  have hpound {a : Nat} (ha : a ∈ axesOf t) : Keeps v ps A D fun r => r.lockPound a k := Keeps.lockPound h (by have := haxis ha; omega)
  have hengine : Keeps v ps A D fun r => r.lockPound (pEngine t) k := Keeps.lockPound h (by unfold pEngine; omega)
  have hpounds := Keeps.foldl (f := fun s a => s.lockPound a k) (axesOf t) fun a ha => hpound ha
  have hhelds := Keeps.foldl (f := fun s a => s.beginHeld a) (axesOf t) fun a ha => keeps_beginHeld h hheld (haxis ha)
  have haxes := (hpounds r hr).1
  unfold State.lockAxes
  rcases hof with hax | rfl
  · refine (hhelds _ (hengine _ haxes).1).2 ((hengine _ haxes).2 ?_)
    exact Keeps.reach (P := fun _ => True) hax (fun a ha => hpound ha) (fun _ _ _ _ _ => trivial) (fun u hu _ => (h.stage_own hu hq).2 hdue) hr trivial
  · exact (hhelds _ (hengine _ haxes).1).2 ((h.stage_own haxes hq).2 hdue)

include ht in
theorem lockLasers_done {l : Nat} (hl : l < 16) (hlt : l / 2 = t) (hq : pLaser l ∈ ps) (hb : r.segBoundary l b = true) : D (r.lockLasers t b k) := by
  have hbound {j : Nat} (hj : j ∈ [2 * t, 2 * t + 1]) : pLaser j < 104 := by
    simp only [List.mem_cons, List.not_mem_nil, or_false] at hj
    unfold pLaser
    omega
  have hstands := stands_segBoundary h b hl
  unfold State.lockLasers
  refine Keeps.reach (P := fun u => u.segBoundary l b = true) (a := l) (by simp only [List.mem_cons, List.not_mem_nil, or_false]; omega)
    (fun j hj => Keeps.when (c := fun u => u.segBoundary j b = true) (Keeps.lockPound h (Nat.lt_succ_of_lt (hbound hj)))) (fun u j hj hu hub => ?_)
    (fun u hu hub => ?_) hr hb
  · split
    · exact hstands.lock u _ (hbound hj) hu hub
    · exact hub
  · rw [if_pos hub]
    exact (h.stage_own hu hq).2 hdue

theorem lockCameras_done {c : Nat} (hc : c < 32) (hq : pCamera c ∈ ps) (hb : ∀ u, LoopFrame (lockWatched ps A) v u → u.camEngine c = t ∧ u.frameBoundary c b = true) :
    D (r.lockCameras t b k) := by
  have hkeeps {i : Nat} (hi : i < 32) : Keeps v ps A D fun r => if r.camEngine i = t ∧ r.frameBoundary i b = true then r.lockPound (pCamera i) k else r :=
    Keeps.when (c := fun r => r.camEngine i = t ∧ r.frameBoundary i b = true) (Keeps.lockPound h (p := pCamera i) (by unfold pCamera; omega))
  unfold State.lockCameras
  refine Keeps.reach (P := fun _ => True) (List.mem_range.2 hc) (fun i hi => hkeeps (List.mem_range.1 hi)) (fun _ _ _ _ _ => trivial) (fun u hu _ => ?_) hr trivial
  rcases hu.2 with hf | hd
  · rw [if_pos (hb u hf)]
    exact (h.stage_own hu hq).2 hdue
  · exact (hkeeps hc u hu).2 hd

theorem lockDevice_done (hq : pDevice ∈ ps) (hb : r.layerBoundary = true) : D (r.lockDevice b k) := by
  have hended := (keeps_layerEnds h b r hr).1
  have hlocked := h.stage_own hended hq
  have heq : r.lockLayer b k = (r.layerEnds b).lockPound pDevice k := if_pos (State.layerBoundary_layerEnds b hb)
  unfold State.lockDevice
  rw [heq]
  exact (keeps_switchTaps h _ hlocked.1).2 (hlocked.2 hdue)

end

end

end Sys2Proof.Machine
end

section
/-! PROOFS. The lockages of a boundary as one (R30 to R32, R41). -/

namespace Sys2Proof.Machine

/-! ### FRAME boundaries (R31) -/

section
variable {ps : List Nat} {A : Nat → Prop} {v u : State} (h : LoopFrame (lockWatched ps A) v u) {c : Nat} (hc : c < 32)
include h

theorem rd_rwc_lockWatched {k : Nat} (hk : accessOf k = some .rwc) : u.rd k = v.rd k := h.regs k (Or.inl (Or.inl hk))

include hc

theorem leadOf_lockWatched : u.leadOf c = v.leadOf c := by
  obtain ⟨-, -, -, -, -, -, hcam, -⟩ := accessOf_tables
  unfold State.leadOf
  rw [rd_rwc_lockWatched h (hcam c hc).1]

theorem camEngine_lockWatched : u.camEngine c = v.camEngine c := by
  obtain ⟨-, -, -, -, -, -, hcam, -⟩ := accessOf_tables
  have hlead : (v.leadOf c).getD c < 32 := by
    unfold State.leadOf
    dsimp only
    split_ifs
    · exact hc
    · rw [Option.getD_some]; omega
    · exact hc
  unfold State.camEngine
  rw [leadOf_lockWatched h hc, rd_rwc_lockWatched h (hcam _ hlead).2]

theorem frameBoundary_lockWatched (b : Lt) : u.frameBoundary c b = v.frameBoundary c b := by
  have hcams := h.cams trivial
  unfold State.frameBoundary State.cam
  rw [leadOf_lockWatched h hc, hcams]

end

/-! ### All lockages of a boundary -/

theorem Stage.refl (v : State) (ps : List Nat) (A : Nat → Prop) (D : State → Prop) : Stage v ps A D v := ⟨Shrinks.refl v, Or.inl (LoopFrame.refl v)⟩

section
variable {v : State} {ps : List Nat} {A : Nat → Prop} {k : Bool} {t0 : Lt} {D : State → Prop} (h : LockPlan v ps A k t0 D)
  (hheld : ∀ r a, a < 48 → Stage v ps A D r → LoopFrame (lockWatched ps A) r (r.beginHeld a)) {t : Nat} (ht : t < 8) (b : Lt)
  (hk : v.memStepRuns = k)
include h hheld ht hk

/-- Over the lockages the pounds have locked, or nothing of them has changed. -/
theorem stage_lockages : Stage v ps A D (v.lockages t b) := by
  have hpass := ((keeps_lockAxes h hheld ht).comp (keeps_lockLasers h ht b)).comp (keeps_lockCameras (t := t) h b)
  have hdevice := Keeps.when (c := fun _ => t = 0) (keeps_lockDevice h b)
  rw [State.lockages_eq, hk]
  exact ((hpass.comp hdevice) v (Stage.refl v ps A D)).1

/-- Pounds that are due lock. -/
theorem done_lockages (hdue : t0 + ns 1000 ≤ v.lt) (hne : ps ≠ []) (hready : v.BoundaryOf t b ps) : D (v.lockages t b) := by
  have hdevice := Keeps.when (c := fun _ => t = 0) (keeps_lockDevice h b)
  have hlasers := keeps_lockLasers h ht b
  have hcameras := keeps_lockCameras (t := t) h b
  have haxes := (keeps_lockAxes h hheld ht v (Stage.refl v ps A D)).1
  have hlocked := (hlasers _ haxes).1
  have hcamera := (hcameras _ hlocked).1
  rw [State.lockages_eq, hk]
  rcases hready with hall | ⟨l, rfl, hl, hlt, hb⟩ | ⟨c, rfl, hc, heng, hb⟩ | ⟨rfl, rfl, hb⟩
  · obtain ⟨q, hq⟩ := List.exists_mem_of_ne_nil ps hne
    have hdone := lockAxes_done h hheld ht hdue (Stage.refl v ps A D) hq (hall q hq)
    exact (hdevice _ hcamera).2 ((hcameras _ hlocked).2 ((hlasers _ haxes).2 hdone))
  · have hstands := lockAxes_stands h hheld ht (stands_segBoundary h b hl) (Stage.refl v _ A D) hb
    have hdone := lockLasers_done h ht b hdue haxes hl hlt (List.mem_singleton_self _) hstands.2
    exact (hdevice _ hcamera).2 ((hcameras _ hlocked).2 hdone)
  · refine (hdevice _ hcamera).2 (lockCameras_done h b hdue hlocked hc (List.mem_singleton_self _) fun u hu => ?_)
    rw [camEngine_lockWatched hu hc, frameBoundary_lockWatched hu hc]
    exact ⟨heng, hb⟩
  · have hstands := stands_layerBoundary h (k := k) rfl
    have haxes' := lockAxes_stands h hheld ht hstands (Stage.refl v _ A D) hb
    have hlasers' := lockLasers_stands h ht b hstands haxes'.1 haxes'.2
    have hcameras' := lockCameras_stands (t := 0) h b hstands hlasers'.1 hlasers'.2
    rw [if_pos rfl]
    exact lockDevice_done h b hdue hcameras'.1 (List.mem_singleton_self _) hcameras'.2

end

/-! ### The values of the pounds (R43, R46, R52) -/

/-- What `w` watches is watched by `w'`. -/
structure Watched.Within (w w' : Watched) : Prop where
  regs : ∀ k, w.regs k → w'.regs k
  pounds : ∀ p, w.pounds p → w'.pounds p
  laws : ∀ a, w.laws a → w'.laws a
  ranges : ∀ a, w.ranges a → w'.ranges a
  drives : ∀ t, w.drives t → w'.drives t
  rest : w.rest → w'.rest
  lock : w.lock → w'.lock
  mem : w.mem → w'.mem
  cams : w.cams → w'.cams
  streams : ∀ l, w.streams l → w'.streams l
  plans : w.plans → w'.plans

theorem LoopFrame.mono {w w' : Watched} {s r : State} (h : LoopFrame w' s r) (hw : w.Within w') : LoopFrame w s r where
  lt := h.lt
  beats := h.beats
  regs k hk := h.regs k (hw.regs k hk)
  pounds p hp := h.pounds p (hw.pounds p hp)
  laws a ha := h.laws a (hw.laws a ha)
  ranges a ha := h.ranges a (hw.ranges a ha)
  drives t ht := h.drives t (hw.drives t ht)
  rest hr := h.rest (hw.rest hr)
  lock hl := h.lock (hw.lock hl)
  mem hm := h.mem (hw.mem hm)
  cams hc := h.cams (hw.cams hc)
  held := h.held
  streams l hl := h.streams l (hw.streams l hl)
  plans hp := h.plans (hw.plans hp)
  cands := h.cands

theorem lockWatched_within {ps qs : List Nat} {A B : Nat → Prop} (hps : ∀ q, q ∈ qs → q ∈ ps) (hA : ∀ a, B a → A a) :
    (lockWatched qs B).Within (lockWatched ps A) where
  regs k hk := by
    rcases hk with (hk | ⟨hk, hscope⟩ | ⟨q, hq, hk⟩ | ⟨a, ha, hk⟩) | hk
    · exact Or.inl (Or.inl hk)
    · exact Or.inl (Or.inr (Or.inl ⟨hk, hps _ hscope⟩))
    · exact Or.inl (Or.inr (Or.inr (Or.inl ⟨q, hps q hq, hk⟩)))
    · exact Or.inl (Or.inr (Or.inr (Or.inr ⟨a, hA a ha, hk⟩)))
    · exact Or.inr hk
  pounds p hp := hps p hp
  laws a ha := hA a ha
  ranges a ha := hps a ha
  drives _ ht := hps _ ht
  rest := id
  lock := id
  mem := id
  cams := id
  streams _ := id
  plans := id

section
variable {v : State} {ps : List Nat} {k : Bool} {t0 : Lt} (h : ArmedTogether v ps k t0)
include h

/-- Pounds that are not due yet do not lock. -/
theorem ArmedTogether.early {A : Nat → Prop} (hA : ∀ a, A a → a ∈ ps) (hearly : v.lt < t0 + ns 1000) : LockPlan v ps A k t0 fun _ => False :=
  { h with axes := hA, keep := fun _ _ _ => id, empty := fun _ h => h.elim, apply := fun hdue => absurd hdue (Nat.not_le.2 hearly) }

/-- The lockage of pounds that one commit armed puts their values in use (R52). -/
theorem ArmedTogether.values (hstaged : ∀ q, q ∈ ps → ((v.pound q).staged.map fun e => e.1).Nodup) :
    LockPlan v ps (fun _ => False) k t0 fun r => ∀ q, q ∈ ps → LockDone v q r :=
  { h with
    axes := fun _ h => h.elim
    keep := fun r u hu hr q hq => (hr q hq).of_lockWatched h.keyed (Nat.lt_succ_of_lt (h.bounded q hq)) hq hu
    empty := fun _ hr q hq => (hr q hq).pound
    apply := fun _ p hp r hshrinks hr q hq => by
      have hall : (p :: ps.filter fun x => x != p).Nodup :=
        List.nodup_cons.2 ⟨fun hmem => by simp at hmem, h.nodup.filter _⟩
      have hin : q ∈ p :: ps.filter fun x => x != p := by
        by_cases hqp : q = p
        · exact hqp ▸ List.mem_cons_self ..
        · exact List.mem_cons_of_mem _ (List.mem_filter.2 ⟨hq, bne_iff_ne.2 hqp⟩)
      have hbound : ∀ x, x ∈ p :: (ps.filter fun x => x != p) → x < 106 := fun x hx =>
        Nat.lt_succ_of_lt (h.bounded x ((List.mem_cons.1 hx).elim (fun he => he ▸ hp) List.mem_of_mem_filter))
      refine LockDone.of_all h.keyed hall hbound hin (hstaged q hq) hshrinks (hr.mono (lockWatched_within ?_ fun _ => id))
      exact fun x hx => List.mem_singleton.1 hx ▸ hq }

end

theorem LoopFrame.beginHeld_lockWatched {ps : List Nat} (r : State) {a : Nat} (ha : a < 48) :
    LoopFrame (lockWatched ps fun _ => False) r (r.beginHeld a) :=
  LoopFrame.beginHeld (lockWatched_lawful _ _) r ⟨id, not_lockWatched_swap ha id⟩

end Sys2Proof.Machine
end

section
/-! PROOFS. Up to the lockages of a boundary nothing of the pounds changes (R29, R41, R47). -/

namespace Sys2Proof.Machine

/-! ### What the parts of a boundary before its lockages leave alone -/

/-- What is watched up to the lockages. -/
def preWatched (ps : List Nat) (A : Nat → Prop) : Watched :=
  { lockWatched ps A with regs := fun k => (lockWatched ps A).regs k ∨ k = Reg.memState, pounds := fun _ => True, mem := True }

section
variable {ps : List Nat} {A : Nat → Prop}

theorem preWatched_lawful : (preWatched ps A).Lawful := by
  rintro k (h | rfl)
  · exact lockWatched_lawful ps A k h
  · simp [lockKey]

theorem preWatched_layerFree : (preWatched ps A).LayerFree := by
  refine ⟨fun l hl => ⟨id, ?_⟩, ?_⟩
  · rintro (h | h)
    · exact (lockWatched_layerFree.off l hl).state h
    · revert h; unfold Reg.streamState Reg.memState regKey; omega
  · rintro (h | h)
    · exact lockWatched_layerFree.layer h
    · revert h; unfold Reg.layerState Reg.memState regKey; omega

theorem lockWatched_within_pre : (lockWatched ps A).Within (preWatched ps A) :=
  ⟨fun _ => Or.inl, fun _ _ => trivial, fun _ => id, fun _ => id, fun _ => id, id, id, False.elim, id, fun _ => id, False.elim⟩

end

/-- The state at a boundary of ENGINE_t up to its lockages. -/
def State.beforeLockages (s : State) (t : Nat) (b : Lt) : State :=
  ((((((s.boundaryLatches t b).dueBoundary t b).returnsDone t).boundaryPins t).transitionBoundary t b).keeperBoundary t).keepEarlier t b

/-- Nothing but the lockages falls due at a boundary of ENGINE_t. -/
structure State.Quiet (s : State) (t : Nat) (b : Lt) : Prop where
  due : ∀ e, e ∈ (s.engine t).due → b < e.1
  returns : (s.engine t).returnCls = none
  transition : s.mode.transition = none
  leftover : s.lock.leftover = []
  hold : s.lock.holdRun = none
  running : s.lock.running = none

theorem State.dueBoundary_later {s : State} {t : Nat} {b : Lt} (h : ∀ e, e ∈ (s.engine t).due → b < e.1) :
    s.dueBoundary t b = s.modEngine t fun e => { e with due := e.due.filter fun (x : Lt × Due) => decide (b < x.1) } := by
  have hnone : (s.engine t).due.filter (fun (x : Lt × Due) => decide (x.1 ≤ b)) = [] := by
    rw [List.filter_eq_nil_iff]
    intro e he
    simpa using h e he
  unfold State.dueBoundary
  dsimp only
  rw [hnone]
  rfl

theorem State.transitionBoundary_none {s : State} (h : s.mode.transition = none) (t : Nat) (b : Lt) : s.transitionBoundary t b = s := by
  unfold State.transitionBoundary
  rw [h]

theorem State.transitionEnd_none {s : State} (h : s.mode.transition = none) : s.transitionEnd = s := by
  unfold State.transitionEnd
  rw [h]

theorem State.modLock_of_eq {s : State} {f : LockKeeper → LockKeeper} (h : f s.lock = s.lock) : s.modLock f = s := by
  unfold State.modLock
  rw [h]

theorem State.leftoverParked_none {s : State} (h : s.lock.leftover = []) (t : Nat) : s.leftoverParked t = s := by
  have hdue : s.leftoverDue t = [] := by
    unfold State.leftoverDue
    rw [h, List.filter_nil]
  unfold State.leftoverParked
  rw [hdue, List.foldl_nil]
  refine State.modLock_of_eq ?_
  rw [h, List.filter_nil, ← h]

theorem State.keeperBoundary_idle {s : State} (hleft : s.lock.leftover = []) (hhold : s.lock.holdRun = none) (hrun : s.lock.running = none) (t : Nat) :
    s.keeperBoundary t = s := by
  rw [State.keeperBoundary_eq, State.leftoverParked_none hleft]
  unfold State.holdRuns
  rw [hhold]
  unfold State.sequenceRuns
  rw [hrun]

/-- What ENGINE_t has before it, the mode and the lock-keeper. -/
def courseWatched : Watched := { Watched.none with rest := True, lock := True, plans := True }

theorem courseWatched_lawful : courseWatched.Lawful := fun _ h => h.elim
theorem courseWatched_layerFree : courseWatched.LayerFree := ⟨fun _ _ => ⟨id, id⟩, id⟩

section
variable {s : State} {t : Nat} (ht : t < 8) {b : Lt} (hquiet : s.Quiet t b)
include ht hquiet

/-- The commands of ENGINE_t at its boundary leave it with what it latches. -/
theorem State.dueBoundary_quiet : (s.boundaryLatches t b).dueBoundary t b =
      (s.boundaryLatches t b).modEngine t (fun e => { e with due := e.due.filter fun (x : Lt × Due) => decide (b < x.1) }) ∧
    (((s.boundaryLatches t b).dueBoundary t b).engine t).returnCls = none ∧
    (((s.boundaryLatches t b).dueBoundary t b).engine t).pinFell = (s.engine t).pinFell := by
  have hplan := (LoopFrame.boundaryLatches courseWatched_lawful s ht b courseWatched_layerFree).plans trivial t
  simp only [Engine.plan, Prod.mk.injEq] at hplan
  obtain ⟨hdue, hreturns, hpin⟩ := hplan
  have hfallen := State.dueBoundary_later (s := s.boundaryLatches t b) (t := t) (b := b) (hdue ▸ hquiet.due)
  refine ⟨hfallen, ?_, ?_⟩
  · rw [hfallen, State.engine_modEngine_self _ _ ht]
    exact hreturns.trans hquiet.returns
  · rw [hfallen, State.engine_modEngine_self _ _ ht]
    exact hpin

theorem State.returnsDone_quiet {w : Watched} (hw : w.Lawful) :
    LoopFrame w ((s.boundaryLatches t b).dueBoundary t b) (((s.boundaryLatches t b).dueBoundary t b).returnsDone t) :=
  LoopFrame.returnsDone hw _ ht fun h => (h (State.dueBoundary_quiet ht hquiet).2.1).elim

/-- The pins stop the laws of ENGINE_t as they did before. -/
theorem State.pinStops_quiet : (((s.boundaryLatches t b).dueBoundary t b).returnsDone t).pinStops t = s.pinStops t := by
  obtain ⟨hfallen, -, hpin⟩ := State.dueBoundary_quiet ht hquiet
  have hlatched := LoopFrame.boundaryLatches courseWatched_lawful s ht b courseWatched_layerFree
  have hreturned := State.returnsDone_quiet ht hquiet courseWatched_lawful
  have hplan := hreturned.plans trivial t
  have hmode := hreturned.rest trivial
  rw [hfallen] at hmode
  have hmode' := congrArg Prod.fst (hmode.trans (hlatched.rest trivial))
  simp only [Engine.plan, Prod.mk.injEq] at hplan
  simp only [State.carrying] at hmode'
  unfold State.pinStops
  rw [hplan.2.2, hpin]
  rw [← hmode', ← hfallen]

section
variable {w : Watched} (hw : w.Lawful) (hplans : ¬ w.plans)
include hw hplans

theorem State.returnsDone_latched : LoopFrame w (s.boundaryLatches t b) (((s.boundaryLatches t b).dueBoundary t b).returnsDone t) := by
  have hfell : LoopFrame w (s.boundaryLatches t b) ((s.boundaryLatches t b).dueBoundary t b) := by
    rw [(State.dueBoundary_quiet ht hquiet).1]
    exact LoopFrame.modEngine t _ (by intros; rfl) fun h => (hplans h).elim
  exact hfell.trans (State.returnsDone_quiet ht hquiet hw)

theorem State.boundaryPins_quiet (hlaws : s.pinStops t = true → ∀ a, a ∈ axesOf t → ¬ w.laws a) :
    LoopFrame w (s.boundaryLatches t b) ((((s.boundaryLatches t b).dueBoundary t b).returnsDone t).boundaryPins t) :=
  (State.returnsDone_latched ht hquiet hw hplans).trans (LoopFrame.boundaryPins hw _ ht hplans fun h => hlaws (State.pinStops_quiet ht hquiet ▸ h))

end

/-- Neither a transition nor the lock-keeper has a step before the lockages. -/
theorem State.beforeLockages_eq :
    s.beforeLockages t b = ((((s.boundaryLatches t b).dueBoundary t b).returnsDone t).boundaryPins t).keepEarlier t b := by
  have hcourse := (LoopFrame.boundaryLatches (w := { Watched.none with rest := True, lock := True }) (fun _ h => h.elim) s ht b
    ⟨fun _ _ => ⟨id, id⟩, id⟩).trans (State.boundaryPins_quiet ht hquiet (fun _ h => h.elim) id fun _ _ _ => id)
  have hmode := congrArg Prod.fst (hcourse.rest trivial)
  have hkeeping := hcourse.lock trivial
  simp only [State.carrying] at hmode
  simp only [State.keeping, Prod.mk.injEq] at hkeeping
  obtain ⟨hrunning, -, -, hhold, hleft⟩ := hkeeping
  unfold State.beforeLockages
  rw [State.transitionBoundary_none (by rw [hmode]; exact hquiet.transition),
    State.keeperBoundary_idle (hleft.trans hquiet.leftover) (hhold.trans hquiet.hold) (hrunning.trans hquiet.running)]

/-- From what ENGINE_t latches up to the lockages. -/
theorem State.beforeLockages_frame {w : Watched} (hw : w.Lawful) (hplans : ¬ w.plans) (hlaws : s.pinStops t = true → ∀ a, a ∈ axesOf t → ¬ w.laws a) :
    LoopFrame w (s.boundaryLatches t b) (s.beforeLockages t b) := by
  rw [State.beforeLockages_eq ht hquiet]
  exact (State.boundaryPins_quiet ht hquiet hw hplans hlaws).trans (LoopFrame.keepEarlier _ b)

end

section
variable {s : State} {t : Nat} (ht : t < 8) {b : Lt} (hquiet : s.Quiet t b)
include ht hquiet

/-- Up to the lockages nothing that they turn on changes. -/
theorem State.beforeLockages_pre {ps : List Nat} {A : Nat → Prop} (hlaws : s.pinStops t = true → ∀ a, a ∈ axesOf t → ¬ A a) :
    LoopFrame (preWatched ps A) s (s.beforeLockages t b) :=
  (LoopFrame.boundaryLatches preWatched_lawful s ht b preWatched_layerFree).trans
    (State.beforeLockages_frame ht hquiet preWatched_lawful id hlaws)

theorem State.SegReady.beforeLockages {l : Nat} (hl : l < 16) (h : s.SegReady l b) : (s.beforeLockages t b).segBoundary l b = true :=
  ((h.boundaryLatches ht hl).frame (State.beforeLockages_frame ht hquiet (segWatched_lawful hl) id fun _ _ _ => id)).segBoundary

theorem State.LayerReady.beforeLockages (h : s.LayerReady b) : (s.beforeLockages t b).layerBoundary = true :=
  ((h.boundaryLatches ht).frame (State.beforeLockages_frame ht hquiet layerWatched_lawful id fun _ _ _ => id)).layerBoundary

end

end Sys2Proof.Machine
end

section
/-! PROOFS. The end of a boundary and of its command leaves alone what the lockages have done (R46, R47, R263 to R270). -/

namespace Sys2Proof.Machine

/-! ### What the end of a command changes -/

namespace LoopFrame

section
variable {w : Watched} (s : State)

theorem modEnc (k : Nat) (f : Enc → Enc) (hr : ¬ w.rest) : LoopFrame w s (s.modEnc k f) := { refl s with rest := fun h => (hr h).elim }

variable (hw : w.Lawful)

include hw in
theorem showEnc {k : Nat} (hk : k < 8) : LoopFrame w s (s.showEnc k) := (wr _ _ (hw.enc hk).1).trans (wr _ _ (hw.enc hk).2)

theorem encStart (k : Nat) (hr : ¬ w.rest) : LoopFrame w s (s.encStart k) := by
  unfold State.encStart State.encPreset
  exact (modEnc s k _ hr).trans (ite (fun _ => modEnc _ k _ hr) fun _ => modEnc _ k _ hr)

include hw in
theorem encFollow (hr : ¬ w.rest) : LoopFrame w s s.encFollow := by
  refine each fun r k hk => ite (fun _ => ?_) fun _ => ite (fun _ => ?_) fun _ => when fun _ => ?_
  · exact (encStart r k hr).trans (showEnc _ hw hk)
  · exact LoopFrame.trans (modEnc r k _ hr) (showEnc _ hw hk)
  · exact (modEnc r k _ hr).trans (showEnc _ hw hk)

theorem calAdvance (hd : ∀ t, ¬ w.drives t) : LoopFrame w s s.calAdvance := by
  unfold State.calAdvance
  refine otherwise fun _ => each fun r t _ => when fun _ => ?_
  exact (modTile t _ fun h => (hd t h).elim).trans (foldl _ fun r a _ => modObs a _)

include hw in
theorem updateDeferrals (hm : ¬ w.mem) (hp : ∀ p, w.pounds p → (s.pound p).armed = none) : LoopFrame w s s.updateDeferrals := by
  refine each_of (P := LoopFrame w s) (refl s) fun r p _ hr => hr.trans (when fun harmed => otherwise fun _ => ?_)
  refine deferPound hw r _ (fun hwp => ?_) hm
  have hsome := harmed.1
  rw [hr.pounds p hwp, hp p hwp] at hsome
  cases hsome

include hw in
theorem syncTrigger : LoopFrame w s s.syncTrigger := by
  unfold State.syncTrigger
  split
  · exact refl s
  · split
    · exact wr _ _ (hw.device (by simp [deviceKeys]))
    · exact refl s

end

end LoopFrame

/-- Nothing waits at the end of a command but faults and deferrals. -/
structure State.Settled (s : State) : Prop where
  results : s.monPending = []
  transition : s.mode.transition = none
  words : ∀ e, (s.enc e).words = []

section
variable {s : State} (h : s.Settled)
include h

theorem State.Settled.done_eq : s.done = s.encFollow.calAdvance.finish := by
  have hfollow := UseFrame.encFollow (k := Reg.canCfg) (fun _ => shownOnly_canCfg) s
  have hwords : s.encFollow.encWords = s.encFollow := each_id fun e _ => by
    dsimp only
    rw [hfollow.words h.words e]
  have hrest := (hfollow.trans (UseFrame.calAdvance _)).rest
  simp only [Prod.mk.injEq] at hrest
  have hsettle : s.encFollow.calAdvance.settleMode = s.encFollow.calAdvance := by rw [State.settleMode, hrest.1, h.transition]
  rw [State.done, State.monReady_of h.results, hwords, hsettle]

variable {w : Watched} (hw : w.Lawful) (ho : w.Open) (hd : ∀ t, ¬ w.drives t)
include hw ho hd

omit h in
theorem State.detected_frame : LoopFrame w s s.encFollow.calAdvance.detect :=
  ((LoopFrame.encFollow s hw ho.rest).trans (LoopFrame.calAdvance _ hd)).trans (LoopFrame.detect hw ho _)

/-- The end of the command leaves alone what is watched, where no pound of it is armed. -/
theorem State.Settled.done_frame (hm : ¬ w.mem) (hp : ∀ p, w.pounds p → (s.pound p).armed = none) : LoopFrame w s s.done := by
  have hdetected := State.detected_frame (s := s) hw ho hd
  rw [State.Settled.done_eq h]
  refine (hdetected.trans (LoopFrame.updateDeferrals _ hw hm fun p hwp => ?_)).trans (LoopFrame.syncTrigger _ hw)
  rw [hdetected.pounds p hwp, hp p hwp]

/-- An armed pound that it watches stays armed, with its values. -/
theorem State.Settled.done_pound {p : Nat} (hp : w.pounds p) :
    (s.done.pound p).armed = (s.pound p).armed ∧ (s.done.pound p).staged = (s.pound p).staged := by
  have hdetected := (State.detected_frame (s := s) hw ho hd).pounds p hp
  have hdeferred : PoundFrame (fun _ => True) (fun _ => False) s.encFollow.calAdvance.detect s.encFollow.calAdvance.detect.updateDeferrals :=
    PoundFrame.updateDeferrals trivial
  have hsync := (LoopFrame.syncTrigger s.encFollow.calAdvance.detect.updateDeferrals (Watched.lawful_onlyPounds (· = p))).pounds p rfl
  have hdone : s.done.pound p = s.encFollow.calAdvance.detect.updateDeferrals.pound p := by
    rw [State.Settled.done_eq h]
    exact hsync
  rw [hdone, (hdeferred.armed p id).1, hdeferred.staged p, hdetected]
  exact ⟨rfl, rfl⟩

end

end Sys2Proof.Machine
end

section
/-! PROOFS. A boundary at which the lockages are all that falls due (R29, R41, R46). -/

namespace Sys2Proof.Machine

/-! ### The command of a quiet boundary -/

/-- The state at a boundary of ENGINE_t is its instant, where nothing has fallen due before it. -/
theorem State.boundaryAt_calm {s : State} (hcalm : s.Calm) (t : Nat) {b : Lt} (hrests : ∀ l, l < 16 → (s.goTo b).streamRests l = true) :
    s.boundaryAt t b = (s.goTo b).modEngine t fun x => { x with lastLoop := some b, before := x.lastLoop } := by
  have hmon : (s.goTo b).monReady = s.goTo b := State.monReady_of hcalm.results
  have hcatch : (s.goTo b).streamsCatch = s.goTo b := each_id fun l hl => if_pos (hrests l hl)
  have hdetect : (s.goTo b).detect = s.goTo b := State.detect_of hcalm.inbox
  unfold State.boundaryAt
  rw [hmon, hcatch, hdetect]

/-- What the mode, the monitor results and the emulators show stays, while only the boundary goes on. -/
def restWatched : Watched := { Watched.none with rest := True }

theorem restWatched_bare : restWatched.Bare := ⟨fun _ => id, fun _ => id, fun _ => id, fun _ => id, fun _ => id, id, fun _ => id⟩

theorem State.Settled.of_carrying {s r : State} (h : s.Settled) (hr : r.carrying = s.carrying) : r.Settled := by
  simp only [State.carrying, Prod.mk.injEq] at hr
  obtain ⟨hmode, hmon, hlegacy, -⟩ := hr
  refine ⟨hmon.trans h.results, by rw [hmode]; exact h.transition, fun e => ?_⟩
  unfold State.enc
  rw [hlegacy]
  exact h.words e

theorem State.Calm.settled {s : State} (h : s.Calm) : s.Settled := by
  refine ⟨h.results, h.transition, fun e => ?_⟩
  by_cases he : e < 8
  · have hrests := h.emulators e he
    simp only [State.encRests, Bool.and_eq_true, List.isEmpty_iff] at hrests
    exact hrests.1.2
  · simp [State.enc, he]

/-- The state of a boundary of ENGINE_t after its lockages, at the end of its last part. -/
def State.afterLockages (s : State) (t : Nat) (b : Lt) : State := (s.boundaryEnds t b []).modMem fun m => { m with spoiled := false }

section
variable {s : State} {t : Nat} (ht : t < 8) {b : Lt} (hquiet : s.Quiet t b) (hcands : ∀ l, l < 16 → ∀ c, c ∈ (s.laser l).cands → c.camera < 32)
include ht hquiet

/-- The candidates of the lasers, and what the boundary carries on, over the lockages. -/
theorem State.lockages_rest : LoopFrame restWatched s ((s.beforeLockages t b).lockages t b) :=
  ((LoopFrame.boundaryLatches restWatched_bare.lawful s ht b restWatched_bare.layerFree).trans
    (State.beforeLockages_frame ht hquiet restWatched_bare.lawful id fun _ _ _ => id)).trans (LoopFrame.lockages _ restWatched_bare t b)

include hcands

/-- What follows the lockages leaves alone what is watched, but the laws of ENGINE_t. -/
theorem State.afterLockages_frame {w : Watched} (hw : w.Lawful) (hlaws : ∀ a, a ∈ axesOf t → ¬ w.laws a) (hmem : ¬ w.mem) (hcams : ¬ w.cams)
    (hoff : ∀ l, l < 16 → w.Off l) :
    LoopFrame w ((s.beforeLockages t b).lockages t b) (((s.beforeLockages t b).lockages t b).afterLockages t b) := by
  have hbefore := (State.lockages_rest ht hquiet).cands
  exact (LoopFrame.boundaryEnds hw _ ht b [] (fun l hl c hc => hw.camera (hcands l hl c (hbefore l c hc))) hlaws hmem hcams hoff).trans
    (LoopFrame.modMem _ hmem)

theorem State.afterLockages_rest : LoopFrame restWatched s (((s.beforeLockages t b).lockages t b).afterLockages t b) :=
  (State.lockages_rest ht hquiet).trans
    (State.afterLockages_frame ht hquiet hcands restWatched_bare.lawful (fun _ _ => id) id id restWatched_bare.layerFree.off)

end

theorem State.loopBoundary_parts {s : State} {t : Nat} {b : Lt} (hb : b = nextGrid (ns (s.loopNs t)) s.lt (s.engine t).lastLoop)
    (hmode : (s.boundaryAt t b).modeCode ≠ INIT) :
    s.loopBoundary t [] [] = ((((s.boundaryAt t b).beforeLockages t b).lockages t b).boundaryEnds t b []).transitionEnd := by
  rw [State.loopBoundary_eq, ← hb]
  unfold State.beforeLockages
  exact if_neg hmode

/-- A boundary at which the lockages are all that falls due. -/
theorem exec_quietBoundary {s : State} {t : Nat} (ht : t < 8) (hcalm : s.calm = true) (hheld : t = 0 → s.net.held = []) {b : Lt}
    (hb : b = nextGrid (ns (s.loopNs t)) s.lt (s.engine t).lastLoop) (hquiet : (s.boundaryAt t b).Quiet t b)
    (hat : (s.boundaryAt t b).carrying = s.carrying ∧ (s.boundaryAt t b).modeCode = s.modeCode)
    (hcands : ∀ l, l < 16 → ∀ c, c ∈ ((s.boundaryAt t b).laser l).cands → c.camera < 32) :
    exec (.loopBoundary t [] []) s =
      .next (s.keep ((((s.boundaryAt t b).beforeLockages t b).lockages t b).afterLockages t b).done) := by
  have hcalm' := (State.calm_iff s).1 hcalm
  have hend := State.afterLockages_rest ht hquiet hcands
  have hsettled := hcalm'.settled.of_carrying ((hend.rest trivial).trans hat.1)
  have hboundary : s.loopBoundary t [] [] = (((s.boundaryAt t b).beforeLockages t b).lockages t b).boundaryEnds t b [] := by
    have htransition := hsettled.transition
    unfold State.afterLockages at htransition
    rw [State.modMem_mode] at htransition
    rw [State.loopBoundary_parts hb (by rw [hat.2]; exact hcalm'.begun), State.transitionEnd_none htransition]
  have hheld' : t = 0 → (s.loopBoundary t [] []).net.held = [] := fun h0 => by
    have hcarrying := hat.1
    simp only [State.carrying, Prod.mk.injEq] at hcarrying
    have hlast : (s.loopBoundary t [] []).net.held = (s.boundaryAt t b).net.held := by
      have hends := hend.held
      unfold State.afterLockages at hends
      rw [State.modMem_net] at hends
      rw [hboundary, hends]
    rw [hlast, hcarrying.2.2.2, hheld h0]
  rw [exec_loopBoundary hcalm, State.loopStep_unheld ht hheld', hboundary]
  rfl

end Sys2Proof.Machine
end

section
/-! PROOFS. Pounds that one commit armed, at a boundary of their kind (R30 to R32, R41, R46, R47, R52). -/

namespace Sys2Proof.Machine

/-- The kind of the pounds `ps` fits the boundary at `b` of ENGINE_t (R29 to R32). -/
def State.KindFits (s : State) (t : Nat) (b : Lt) (ps : List Nat) : Prop :=
  (∀ q, q ∈ ps → q ∈ axesOf t ∨ q = 48 + t) ∨
    (∃ l, ps = [56 + l] ∧ l < 16 ∧ l / 2 = t ∧ (s.laser l).stream.startAt ≠ some b ∧
      (s.rd (Reg.streamState l) ≠ 1 ∨ ∃ y, (s.laser l).stream.segs = [y] ∧ y.t0 ≤ b + ns (s.loopNs t) ∧ b + ns (s.loopNs t) < y.t2 ∧
        y.t2 ≤ (s.laser l).stream.lastTime ∧ y.s ≠ (s.laser l).stream.segUsed ∧ y.s < (s.laser l).stream.decodeNext ∧
        y.s < (s.laser l).stream.len ∧ (s.laser l).stream.resumeSeg = none)) ∨
    (∃ c, ps = [72 + c] ∧ c < 32 ∧ s.camEngine c = t ∧ s.frameBoundary c b = true) ∨
    ps = [104] ∧ t = 0 ∧ s.layerBoundary = true ∧ ∀ l, l < 16 → (s.laser l).stream.startAt ≠ some b

/-- At the boundary at `b` of ENGINE_t the lockages are all that falls due, and `ps` are pounds that one commit armed at `t0` and that
no case of R47 holds. -/
structure State.Lockable (s : State) (t : Nat) (t0 b : Lt) (ps : List Nat) : Prop where
  calm : s.calm = true
  engine : t < 8
  grid : b = nextGrid (ns (s.loopNs t)) s.lt (s.engine t).lastLoop
  hold : s.lock.holdRun = none
  leftover : s.lock.leftover = []
  due : ∀ e, e ∈ (s.engine t).due → b < e.1
  returns : (s.engine t).returnCls = none
  held : t = 0 → s.net.held = []
  streams : ∀ l, l < 16 → (s.goTo b).streamRests l = true ∧ ∀ c, c ∈ (s.laser l).cands → c.camera < 32
  keyed : s.Keyed
  foreign : ∀ r q, r < 105 → r ∉ ps → (s.pound r).armed ≠ none → q ∈ (s.pound r).bundle → q ∉ ps ∧ q < 105
  nodup : ps.Nodup
  nonempty : ps ≠ []
  kind : s.KindFits t b ps
  own : ∀ q, q ∈ ps → (s.pound q).armed = some t0 ∧ (s.pound q).bundle = ps.filter (fun r => r != q) ∧
    ((s.pound q).staged.map fun e => e.1).Nodup ∧ (s.goTo b).deferCaseOf q (s.goTo b).memStepRuns = 0

theorem State.not_reacting {s : State} {q : Nat} {k : Bool} (h : s.deferCaseOf q k = 0) : s.reacting = false := by
  unfold State.deferCaseOf at h
  dsimp only at h
  split at h
  · cases h
  · split at h
    · cases h
    · next hr => simpa using hr

namespace State.Lockable

variable {s : State} {t : Nat} {t0 b : Lt} {ps : List Nat} (h : s.Lockable t t0 b ps)
include h

theorem at_eq : s.boundaryAt t b = (s.goTo b).modEngine t fun x => { x with lastLoop := some b, before := x.lastLoop } :=
  State.boundaryAt_calm ((State.calm_iff s).1 h.calm) t fun l hl => (h.streams l hl).1

theorem at_same : (∀ k, (s.boundaryAt t b).rd k = s.rd k) ∧ (∀ p, (s.boundaryAt t b).pound p = s.pound p) ∧ (s.boundaryAt t b).lock = s.lock ∧
    (s.boundaryAt t b).carrying = s.carrying ∧ (∀ l, (s.boundaryAt t b).laser l = s.laser l) ∧ (∀ a, (s.boundaryAt t b).axis a = s.axis a) ∧
    (s.boundaryAt t b).lt = (s.goTo b).lt := by
  rw [h.at_eq]
  exact ⟨fun _ => rfl, fun _ => rfl, rfl, rfl, fun _ => rfl, fun _ => rfl, rfl⟩

theorem bounded {q : Nat} (hq : q ∈ ps) : q < 105 := by
  have ht := h.engine
  rcases h.kind with hall | ⟨l, rfl, hl, -⟩ | ⟨c, rfl, hc, -⟩ | ⟨rfl, -⟩
  · rcases hall q hq with hax | rfl
    · have := lt_of_mem_axesOf ht hax; omega
    · omega
  · rw [List.mem_singleton.1 hq]; omega
  · rw [List.mem_singleton.1 hq]; omega
  · rw [List.mem_singleton.1 hq]; omega

theorem quiet : (s.boundaryAt t b).Quiet t b := by
  obtain ⟨-, -, hlock, hcarrying, -⟩ := h.at_same
  obtain ⟨q, hq⟩ := List.exists_mem_of_ne_nil ps h.nonempty
  have hreacting := State.not_reacting (h.own q hq).2.2.2
  simp only [State.carrying, Prod.mk.injEq] at hcarrying
  have hengine : ((s.boundaryAt t b).engine t).due = (s.engine t).due ∧ ((s.boundaryAt t b).engine t).returnCls = (s.engine t).returnCls := by
    rw [h.at_eq, State.engine_modEngine_self _ _ h.engine]
    exact ⟨rfl, rfl⟩
  refine ⟨by rw [hengine.1]; exact h.due, hengine.2.trans h.returns, ?_, ?_, ?_, ?_⟩
  · rw [hcarrying.1]; exact ((State.calm_iff s).1 h.calm).transition
  · rw [hlock]; exact h.leftover
  · rw [hlock]; exact h.hold
  · have hrun : s.lock.running.isSome = false := by
      simp only [State.reacting, Bool.or_eq_false_iff] at hreacting
      exact hreacting.1.1
    rw [hlock]
    simpa using hrun

theorem pinStops_at : (s.boundaryAt t b).pinStops t = s.pinStops t := by
  rw [h.at_eq]
  unfold State.pinStops
  rw [State.engine_modEngine_self _ _ h.engine]
  rfl

/-- The state of the boundary up to its lockages. -/
theorem pre : LoopFrame (preWatched ps fun _ => False) (s.boundaryAt t b) ((s.boundaryAt t b).beforeLockages t b) :=
  State.beforeLockages_pre h.engine h.quiet fun _ _ _ => id

theorem memStepRuns_before : ((s.boundaryAt t b).beforeLockages t b).memStepRuns = (s.goTo b).memStepRuns := by
  have hpre := h.pre
  have hstate : ((s.boundaryAt t b).beforeLockages t b).rd Reg.memState = (s.goTo b).rd Reg.memState := (hpre.regs _ (Or.inr rfl)).trans (h.at_same.1 _)
  have hport : ((s.boundaryAt t b).beforeLockages t b).memPort = (s.goTo b).memPort := (hpre.mem trivial).trans (by rw [h.at_eq]; rfl)
  have hlt : ((s.boundaryAt t b).beforeLockages t b).lt = (s.goTo b).lt := hpre.lt.trans h.at_same.2.2.2.2.2.2
  unfold State.memStepRuns State.memTracking
  rw [hstate, hport, hlt]

/-- Before the lockages the pounds are as before the command, armed and free to lock. -/
theorem armedTogether : ArmedTogether ((s.boundaryAt t b).beforeLockages t b) ps ((s.boundaryAt t b).beforeLockages t b).memStepRuns t0 := by
  have hpre := h.pre
  have hpound (p : Nat) : ((s.boundaryAt t b).beforeLockages t b).pound p = s.pound p := (hpre.pounds p trivial).trans (h.at_same.2.1 p)
  have hkeyed : (s.boundaryAt t b).Keyed := fun p e hp he => h.keyed p e hp (h.at_same.2.1 p ▸ he)
  refine ⟨fun p e hp he => h.keyed p e hp (hpound p ▸ he), h.nodup, fun q hq => h.bounded hq, fun p q hp hps harmed hq => ?_, fun q hq => ?_⟩
  · rw [hpound] at harmed hq
    exact h.foreign p q hp hps harmed hq
  · obtain ⟨harmed, hbundle, -, hcase⟩ := h.own q hq
    rw [hpound, h.memStepRuns_before, deferCaseOf_lockWatched hkeyed hq (Nat.lt_succ_of_lt (h.bounded hq)) (hpre.mono lockWatched_within_pre)]
    refine ⟨harmed, hbundle, ?_⟩
    rw [h.at_eq]
    exact hcase

/-- The boundary is of the kind of the pounds as it comes to their lockages. -/
theorem boundaryOf : ((s.boundaryAt t b).beforeLockages t b).BoundaryOf t b ps := by
  obtain ⟨hrd, -, -, -, hlaser, -⟩ := h.at_same
  have hpre := h.pre.mono lockWatched_within_pre
  rcases h.kind with hall | ⟨l, hps, hl, hlt, hstart, hseg⟩ | ⟨c, hps, hc, heng, hframe⟩ | ⟨hps, ht, hlayer, hstart⟩
  · exact Or.inl hall
  · refine Or.inr (Or.inl ⟨l, hps, hl, hlt, State.SegReady.beforeLockages h.engine h.quiet hl ?_⟩)
    unfold State.SegReady State.Streams State.loopNs
    rw [hrd, hrd, hlaser, hlt]
    rcases hseg with hidle | ⟨y, hsegs, hy0, hy2, hlast, hused, hdecode, hlen, hresume⟩
    · exact Or.inl ⟨hidle, hstart⟩
    · exact Or.inr ⟨⟨y, [], hsegs, hy0, hy2, fun x hx => absurd hx (List.not_mem_nil), hused, hdecode, hlen⟩, hy2.trans_le hlast, hstart, hresume⟩
  · refine Or.inr (Or.inr (Or.inl ⟨c, hps, hc, ?_, ?_⟩))
    · rw [camEngine_lockWatched hpre hc, h.at_eq]
      exact heng
    · rw [frameBoundary_lockWatched hpre hc, h.at_eq]
      exact hframe
  · have hready : (s.boundaryAt t b).LayerReady b := by
      rw [h.at_eq]
      exact State.LayerReady.of_layerBoundary hlayer hstart
    exact Or.inr (Or.inr (Or.inr ⟨hps, ht, State.LayerReady.beforeLockages h.engine h.quiet hready⟩))

theorem cands_lt : ∀ l, l < 16 → ∀ c, c ∈ ((s.boundaryAt t b).laser l).cands → c.camera < 32 := fun l hl c hc =>
  (h.streams l hl).2 c (h.at_same.2.2.2.2.1 l ▸ hc)

theorem exec_eq : exec (.loopBoundary t [] []) s =
    .next (s.keep ((((s.boundaryAt t b).beforeLockages t b).lockages t b).afterLockages t b).done) :=
  exec_quietBoundary h.engine h.calm h.held h.grid h.quiet ⟨h.at_same.2.2.2.1, h.at_same.1 Reg.mode⟩ h.cands_lt

theorem settled : ((((s.boundaryAt t b).beforeLockages t b).lockages t b).afterLockages t b).Settled :=
  ((State.calm_iff s).1 h.calm).settled.of_carrying
    (((State.afterLockages_rest h.engine h.quiet h.cands_lt).rest trivial).trans h.at_same.2.2.2.1)

end State.Lockable

end Sys2Proof.Machine
end

section
/-! PROOFS. The pounds of a lockage at the end of the command (R41, R43, R46, R52). -/

namespace Sys2Proof.Machine

/-- What is watched from the lockages to the end of the command: the pounds, their records and the values that they may hold. -/
def endWatched (ps : List Nat) : Watched := { Watched.none with regs := lockMine ps fun _ => False, pounds := fun p => p ∈ ps }

section
variable {ps : List Nat}

theorem endWatched_lawful : (endWatched ps).Lawful := fun _ => lockKey_lockMine

theorem endWatched_layerFree : (endWatched ps).LayerFree :=
  ⟨fun l hl => ⟨id, fun h => (lockWatched_layerFree.off l hl).state (Or.inl h)⟩, fun h => lockWatched_layerFree.layer (Or.inl h)⟩

theorem endWatched_open (hps : ∀ q, q ∈ ps → q < 105) : (endWatched ps).Open := by
  refine ⟨id, id, fun h => ?_, fun h => ?_, endWatched_layerFree⟩
  · exact absurd (hps pTransition h) (by decide)
  · exact not_lockMine_device accessOf_tables.2.2.2.2.2.1 (by decide) (by omega) h

theorem endWatched_within : (endWatched ps).Within (lockWatched ps fun _ => False) :=
  ⟨fun _ => Or.inl, fun _ => id, fun _ => False.elim, fun _ => False.elim, fun _ => False.elim, False.elim, False.elim, False.elim, False.elim,
    fun _ => False.elim, False.elim⟩

end

namespace State.Lockable

variable {s : State} {t : Nat} {t0 b : Lt} {ps : List Nat} (h : s.Lockable t t0 b ps)
include h

theorem after_frame {w : Watched} (hw : w.Lawful) (hlaws : ∀ a, a ∈ axesOf t → ¬ w.laws a) (hmem : ¬ w.mem) (hcams : ¬ w.cams)
    (hoff : ∀ l, l < 16 → w.Off l) : LoopFrame w (((s.boundaryAt t b).beforeLockages t b).lockages t b)
      ((((s.boundaryAt t b).beforeLockages t b).lockages t b).afterLockages t b) :=
  State.afterLockages_frame h.engine h.quiet h.cands_lt hw hlaws hmem hcams hoff

theorem lt_before : ((s.boundaryAt t b).beforeLockages t b).lt = (s.goTo b).lt := h.pre.lt.trans h.at_same.2.2.2.2.2.2

/-- Once 1 µs has passed since their commit, the pounds are locked when the command ends (R41). -/
theorem locked (hdue : t0 + ns 1000 ≤ (s.goTo b).lt) {q : Nat} (hq : q ∈ ps) : LockDone ((s.boundaryAt t b).beforeLockages t b) q
    ((((s.boundaryAt t b).beforeLockages t b).lockages t b).afterLockages t b).done := by
  have harmed := h.armedTogether
  have hstaged : ∀ q, q ∈ ps → ((((s.boundaryAt t b).beforeLockages t b).pound q).staged.map fun e => e.1).Nodup := fun q hq => by
    rw [h.pre.pounds q trivial, h.at_same.2.1]
    exact (h.own q hq).2.2.1
  have hlocked := done_lockages (harmed.values hstaged) (fun r a ha _ => LoopFrame.beginHeld_lockWatched r ha) h.engine b rfl (h.lt_before ▸ hdue) h.nonempty
    h.boundaryOf
  have hkeeps {p : Nat} (hp : p ∈ ps) {r u : State} (hr : LockDone ((s.boundaryAt t b).beforeLockages t b) p r) (hu : LoopFrame (endWatched ps) r u) :
      LockDone ((s.boundaryAt t b).beforeLockages t b) p u := by
    refine hr.of_frame harmed.keyed (Nat.lt_succ_of_lt (h.bounded hp)) (fun k hk hmode => ?_) hp hu
    rcases hk.resolve_right hmode with hk | ⟨hk, hscope⟩ | ⟨q, hq, hk⟩ | ⟨a, ha, -⟩
    · exact Or.inl hk
    · exact Or.inr (Or.inl ⟨hk, List.mem_singleton.1 hscope ▸ hp⟩)
    · exact Or.inr (Or.inr (Or.inl ⟨q, List.mem_singleton.1 hq ▸ hp, hk⟩))
    · exact ha.elim
  have hafter {p : Nat} (hp : p ∈ ps) := hkeeps hp (hlocked p hp) (h.after_frame endWatched_lawful (fun _ _ => id) id id endWatched_layerFree.off)
  refine hkeeps hq (hafter hq) (h.settled.done_frame endWatched_lawful (endWatched_open fun q => h.bounded) (fun _ => id) id fun p hp => ?_)
  rw [(hafter hp).pound]

/-- Up to then they stay armed with their values (R41). -/
theorem unlocked (hearly : (s.goTo b).lt < t0 + ns 1000) :
    LoopFrame (endWatched ps) (s.boundaryAt t b) ((((s.boundaryAt t b).beforeLockages t b).lockages t b).afterLockages t b) := by
  have hplan := h.armedTogether.early (A := fun _ => False) (fun _ h => h.elim) (h.lt_before.symm ▸ hearly)
  have hstage := (stage_lockages hplan (fun r a ha _ => LoopFrame.beginHeld_lockWatched r ha) h.engine b rfl).2.resolve_right id
  exact (((h.pre.mono lockWatched_within_pre).trans hstage).mono endWatched_within).trans
    (h.after_frame endWatched_lawful (fun _ _ => id) id id endWatched_layerFree.off)

/-- What the end of the command leaves of a pound that has not locked. -/
theorem unlocked_done (hearly : (s.goTo b).lt < t0 + ns 1000) {q : Nat} (hq : q ∈ ps) :
    (((((s.boundaryAt t b).beforeLockages t b).lockages t b).afterLockages t b).done.pound q).armed = some t0 ∧
      (((((s.boundaryAt t b).beforeLockages t b).lockages t b).afterLockages t b).done.pound q).staged = (s.pound q).staged ∧
      ∀ k, lockMine ps (fun _ => False) k → ((((s.boundaryAt t b).beforeLockages t b).lockages t b).afterLockages t b).done.rd k = s.rd k := by
  have hframe := h.unlocked hearly
  have hopen : (endWatched ps).Open := endWatched_open fun q => h.bounded
  have hregs : (Watched.onlyRegs (lockMine ps fun _ => False)).Open := ⟨id, id, id, hopen.mode, fun l hl => ⟨id, (hopen.course.off l hl).state⟩, hopen.course.layer⟩
  obtain ⟨harmed, hstaged⟩ := h.settled.done_pound endWatched_lawful hopen (fun _ => id) hq
  have hdone := h.settled.done_frame (w := Watched.onlyRegs (lockMine ps fun _ => False)) endWatched_lawful hregs (fun _ => id) id fun p hp => hp.elim
  have hpound := (hframe.pounds q hq).trans (h.at_same.2.1 q)
  refine ⟨?_, ?_, fun k hk => ?_⟩
  · rw [harmed, hpound]; exact (h.own q hq).1
  · rw [hstaged, hpound]
  · exact (hdone.regs k hk).trans ((hframe.regs k hk).trans (h.at_same.1 k))

end State.Lockable

end Sys2Proof.Machine
end

section
/-! PROOFS. What a boundary makes of the law of one axis (R190, R193, R208, R237, R242). -/

namespace Sys2Proof.Machine

/-- Only the law of AXIS_a. -/
def Watched.lawOf (a : Nat) : Watched := { Watched.none with laws := (· = a) }

theorem Watched.lawful_lawOf (a : Nat) : (Watched.lawOf a).Lawful := fun _ h => h.elim

/-- A law that stops: its fade completes (R193). -/
def Law.stopped (l : Law) : Law := if l.run = .stopped then l else { l.completeFade with run := .stopped, preset := false, presetIn := false }

/-- A law goes on at its boundary, with the fade that runs, or stops with the fade completed. -/
inductive Law.Goes (l l' : Law) : Prop
  | on (hactive : l'.active = l.active) (hincoming : l'.incoming = l.incoming) (hlen : l'.fadeLen = l.fadeLen) (hpos : l'.fadePos = l.fadePos)
      (hrun : l.run ≠ .stopped → l'.run ≠ .stopped)
  | off (hactive : l'.active = l.completeFade.active) (hincoming : l'.incoming = none) (hrun : l'.run = .stopped)

theorem Law.Goes.refl (l : Law) : l.Goes l := .on rfl rfl rfl rfl id

theorem Law.completeFade_none {l : Law} (h : l.incoming = none) : l.completeFade = l := by
  unfold Law.completeFade
  rw [h]

theorem Law.completeFade_incoming (l : Law) : l.completeFade.incoming = none := by
  unfold Law.completeFade
  split
  · assumption
  · rfl

theorem Law.goes_stopped (l : Law) : l.Goes l.stopped := by
  unfold Law.stopped
  split
  · exact .refl l
  · exact .off rfl l.completeFade_incoming rfl

section
variable {a : Nat} (ha : a < 48) (s : State)

theorem LoopFrame.law {r : State} (h : LoopFrame (Watched.lawOf a) s r) : (r.axis a).law = (s.axis a).law := h.laws a rfl

include ha

theorem State.law_modAxis (f : Axis → Axis) : ((s.modAxis a f).axis a).law = (f (s.axis a)).law :=
  congrArg Axis.law (State.axis_modAxis_self s f ha)

theorem State.law_modLaw (f : Law → Law) : ((s.modLaw a f).axis a).law = f (s.axis a).law := State.law_modAxis ha s _

theorem State.law_stopLaw : ((s.stopLaw a).axis a).law = (s.axis a).law.stopped := by
  have hcode (r : State) (c : Prop) [Decidable c] (n : Int) : LoopFrame (Watched.lawOf a) r (if c then r else r.setCode a n) :=
    LoopFrame.otherwise fun _ => LoopFrame.setCode _ _ _
  unfold State.stopLaw Law.stopped
  split
  · rfl
  · dsimp only
    rw [(LoopFrame.wrField (w := Watched.lawOf a) _ _ _ _ id).law, (hcode _ _ _).law, State.law_modAxis ha]
    dsimp only
    rw [(LoopFrame.raiseIf (Watched.lawful_lawOf a) _ _ _ _ _ _ (by decide)).law, State.law_modLaw ha]

theorem State.law_startLaw (braking : Bool) : (s.axis a).law.Goes ((s.startLaw a braking).axis a).law := by
  have hrun : (if braking = true then LawRun.braking else LawRun.live) ≠ .stopped := by split <;> decide
  unfold State.startLaw
  split
  · dsimp only
    rw [(LoopFrame.wrField (w := Watched.lawOf a) _ _ _ _ id).law, State.law_modAxis ha]
    dsimp only
    rw [State.law_modLaw ha]
    exact .on rfl rfl rfl rfl fun _ => hrun
  · split
    · split
      · exact .refl _
      · rw [State.law_modAxis ha]
        exact .on rfl rfl rfl rfl fun _ h => LawRun.noConfusion h
    · rw [State.law_modAxis ha]
      exact .on rfl rfl rfl rfl fun _ h => LawRun.noConfusion h

theorem State.law_lawBoundary (m : Nat) (b : Lt) : (s.axis a).law.Goes ((s.lawBoundary a m b).axis a).law := by
  have hbeside (r : State) (f : Axis → Axis) (hf : ∀ x, (f x).law = x.law) : ((r.modAxis a f).axis a).law = (r.axis a).law :=
    (State.law_modAxis ha r f).trans (hf _)
  have hstop (r : State) : (r.axis a).law.Goes ((r.stopLaw a).axis a).law := State.law_stopLaw ha r ▸ Law.goes_stopped _
  have hstart := State.law_startLaw ha
  unfold State.lawBoundary
  dsimp only
  split
  · split
    · split
      · rw [hbeside _ _ (by intros; rfl)]; exact hstop s
      · split
        · rw [hbeside _ _ (by intros; rfl)]; exact .refl _
        · exact .refl _
    · split
      · split
        · rw [hbeside _ _ (by intros; rfl)]; exact hstart s true
        · exact .refl _
      · rw [hbeside _ _ (by intros; rfl)]; exact .refl _
  · have hbegun (r : State) (k : LawRun) : (r.axis a).law.Goes (((if k = .stopped then if r.mayStart a b = true then r.startLaw a false else r
        else if k = .braking then r.startLaw a false else r).axis a).law) := by
      split_ifs
      · exact hstart r false
      · exact .refl _
      · exact hstart r false
      · exact .refl _
    have hrest (r : State) (c : Prop) [Decidable c] : LoopFrame (Watched.lawOf a) r
        (if c then r else r.modAxo a fun y => { y with clearedByPin := false, swWasRun := .stopped }) :=
      LoopFrame.otherwise fun _ => LoopFrame.modAxo a _ (by intros; rfl)
    rw [← hbeside s (fun y => { y with holdWait := false }) (by intros; rfl)]
    split
    · rw [(hrest _ _).law]
      exact hbegun _ _
    · rw [(LoopFrame.modAxo (w := Watched.lawOf a) a _ (by intros; rfl)).law]
      exact hstop _

end

end Sys2Proof.Machine
end

section
/-! PROOFS. A BANK_SWAP at its lockage (R189, R190). -/

namespace Sys2Proof.Machine

/-! ### What a swap makes of its law -/

/-- A law whose swap begins (R190). -/
def Law.begun (l : Law) (w : Swap) : Law :=
  if bankCrc l.pound ≠ w.crc then l else if l.run = .stopped then { l with active := l.pound }
    else { l with incoming := some l.pound, stIn := {}, fadePos := 0, fadeLen := w.len, presetIn := true }

/-- A law whose armed request has reached its lockage. -/
def Law.swapped (l : Law) (w : Swap) : Law := { l with armed := none }.begun w

/-- The swap of AXIS_a has begun, or was lost, since `v`; it is counted (R189, R190). -/
structure SwapDone (v : State) (a : Nat) (w : Swap) (r : State) : Prop where
  law : (r.axis a).law = (v.axis a).law.swapped w
  count : bankCrc (v.axis a).law.pound = w.crc → r.rd (Reg.swapCount a) = min (v.rd (Reg.swapCount a) + 1) (2 ^ 32 - 1)
  lost : bankCrc (v.axis a).law.pound ≠ w.crc → r.rd (Reg.swapLostCount a) = min (v.rd (Reg.swapLostCount a) + 1) (2 ^ 32 - 1)

theorem Law.held_swapped (l : Law) (w : Swap) : (l.swapped w).held = l.held := by
  unfold Law.swapped Law.begun
  split_ifs
  · rfl
  · rfl
  · rfl

/-- The law of AXIS_a and the counts of its swaps. -/
def swapWatched (a : Nat) : Watched :=
  { Watched.none with regs := fun k => k = Reg.swapCount a ∨ k = Reg.swapLostCount a, laws := (· = a) }

section
variable {a : Nat} (ha : a < 48)
include ha

theorem swapWatched_lawful : (swapWatched a).Lawful := by
  rintro k (rfl | rfl)
  · exact lockKey_swap ha (Or.inl rfl)
  · exact lockKey_swap ha (Or.inr rfl)

theorem swapWatched_layerFree : (swapWatched a).LayerFree := by
  have hne {i b : Nat} (hb : b < 256) (hi : 0x3C00 ≤ i ∨ i < 0x3000) : ¬ (swapWatched a).regs (regKey i b) := by
    rintro (h | h)
    · exact regKey_ne hb (by decide) (Or.inl (by omega)) h
    · exact regKey_ne hb (by decide) (Or.inl (by omega)) h
  exact ⟨fun l hl => ⟨id, hne (by decide) (by omega)⟩, hne (by decide) (by omega)⟩

theorem swapWatched_open : (swapWatched a).Open := by
  refine ⟨id, id, id, ?_, swapWatched_layerFree ha⟩
  rintro (h | h)
  · exact regKey_ne (by decide) (by decide) (Or.inl (by omega)) h
  · exact regKey_ne (by decide) (by decide) (Or.inl (by omega)) h

omit ha in
theorem SwapDone.of_frame {v r u : State} {w : Swap} (h : SwapDone v a w r) (hu : LoopFrame (swapWatched a) r u) : SwapDone v a w u :=
  ⟨(hu.laws a rfl).trans h.law, fun hc => (hu.regs _ (Or.inl rfl)).trans (h.count hc), fun hc => (hu.regs _ (Or.inr rfl)).trans (h.lost hc)⟩

theorem State.beginSwap_done (s : State) (w : Swap) : ((s.beginSwap a w).axis a).law = (s.axis a).law.begun w ∧
    (bankCrc (s.axis a).law.pound = w.crc → (s.beginSwap a w).rd (Reg.swapCount a) = min (s.rd (Reg.swapCount a) + 1) (2 ^ 32 - 1)) ∧
    (bankCrc (s.axis a).law.pound ≠ w.crc → (s.beginSwap a w).rd (Reg.swapLostCount a) = min (s.rd (Reg.swapLostCount a) + 1) (2 ^ 32 - 1)) := by
  have htold (r : State) (c : Nat) (d : List Nat) (hc : levelOf c ≠ 2) : LoopFrame (swapWatched a) r (r.raise c cAXIS a d) :=
    LoopFrame.raise (swapWatched_lawful ha) r c cAXIS a d hc
  have hcounted (r : State) (k : Nat) : LoopFrame (Watched.lawOf a) r (r.bump 32 k) := LoopFrame.bump 32 k id
  unfold State.beginSwap Law.begun
  dsimp only
  split
  · next hcrc =>
    have h := htold (s.bump 32 (Reg.swapLostCount a)) 0x3413 (dU 4 w.crc ++ dU 4 (bankCrc (s.axis a).law.pound)) (by decide)
    refine ⟨(h.laws a rfl).trans (hcounted s _).law, fun heq => absurd heq hcrc, fun _ => (h.regs _ (Or.inr rfl)).trans ?_⟩
    rw [State.bump, State.rd_wr_self]
  · next hcrc =>
    split
    · have h := htold ((s.modLaw a fun l => { l with active := l.pound }).bump 32 (Reg.swapCount a)) 0x3410 (dU 2 w.len ++ dU 4 w.crc) (by decide)
      refine ⟨((h.laws a rfl).trans (hcounted _ _).law).trans (State.law_modLaw ha s _), fun _ => (h.regs _ (Or.inl rfl)).trans ?_, fun hne => absurd hne hcrc⟩
      rw [State.bump, State.rd_wr_self]
      rfl
    · have h := htold ((s.modLaw a fun l => { l with incoming := some l.pound, stIn := {}, fadePos := 0, fadeLen := w.len, presetIn := true }).bump 32
        (Reg.swapCount a)) 0x3410 (dU 2 w.len ++ dU 4 w.crc) (by decide)
      refine ⟨((h.laws a rfl).trans (hcounted _ _).law).trans (State.law_modLaw ha s _), fun _ => (h.regs _ (Or.inl rfl)).trans ?_, fun hne => absurd hne hcrc⟩
      rw [State.bump, State.rd_wr_self]
      rfl

theorem State.lockSwap_done {s : State} {w : Swap} (harmed : (s.axis a).law.armed = some w) (hheld : (s.axis a).law.held = none)
    (hincoming : (s.axis a).law.incoming = none) : SwapDone s a w (s.lockSwap a) := by
  have hlaw := State.law_modLaw ha s fun l => { l with armed := none }
  have hlocked : s.lockSwap a = (s.modLaw a fun l => { l with armed := none }).beginSwap a w := by
    unfold State.lockSwap
    simp only [harmed, hlaw, hheld, hincoming, Option.isSome_none, Bool.false_eq_true, if_false]
  obtain ⟨hbegun, hcount, hlost⟩ := State.beginSwap_done ha (s.modLaw a fun l => { l with armed := none }) w
  rw [hlaw] at hbegun hcount hlost
  rw [hlocked]
  exact ⟨hbegun, hcount, hlost⟩

/-! ### The lockage of a pound that holds a BANK_SWAP -/

/-- Outside CONFIGURE the value of BANK_SWAP does nothing by itself. -/
theorem State.putInUse_bankSwap {s : State} (v : Nat) (hmode : s.modeCode ≠ CONFIGURE) : s.putInUse (Reg.bankSwap a) v = s.wr (Reg.bankSwap a) v := by
  obtain ⟨hindex, -⟩ := bankSwap_key ha
  have hmode' : (s.wr (Reg.bankSwap a) v).modeCode ≠ CONFIGURE := fun h =>
    hmode ((State.rd_wr_ne _ _ (regKey_ne (by decide) (by decide) (by omega))).symm.trans h)
  have hrange : Reg.bankSwap a ≠ Reg.axoRange a := regKey_ne (by decide) (by decide) (by omega)
  have hclear : Reg.bankSwap a ≠ Reg.clearCode a := regKey_ne (by decide) (by decide) (by omega)
  have hsource : Reg.bankSwap a ≠ Reg.spSource a := regKey_ne (by decide) (by decide) (by omega)
  have hhold : Reg.bankSwap a ≠ Reg.holdAction a := regKey_ne (by decide) (by decide) (by omega)
  have haxis : (0x3020 + 0x40 * a - 0x3000) / 0x40 = a := by omega
  unfold State.putInUse State.afterUse
  simp only [hindex, haxis]
  rw [if_pos (by omega), if_neg hrange, if_neg hclear, if_neg (fun h => h.elim hsource fun h => hmode' h.2), if_neg fun h => hmode' h.2,
    if_neg fun h => hhold h.1]

theorem State.poundLocked_swap {s : State} {n : Nat} (hstaged : (s.pound a).staged = [(Reg.bankSwap a, n)]) (hmode : s.modeCode ≠ CONFIGURE) :
    LoopFrame (swapWatched a) s (s.poundLocked a) := by
  have hne {k : Nat} (hk : Reg.swapCount a ≠ k ∧ Reg.swapLostCount a ≠ k) : ¬ (swapWatched a).regs k := fun h => h.elim (fun e => hk.1 e.symm) fun e => hk.2 e.symm
  have hused : s.valuesUsed a = s.wr (Reg.bankSwap a) n := by
    unfold State.valuesUsed
    rw [hstaged, List.foldl_cons, List.foldl_nil]
    exact State.putInUse_bankSwap ha n hmode
  have hrecord {b : Nat} (hb : b < 256) : ¬ (swapWatched a).regs (poundKey a b) :=
    hne ⟨poundKey_ne_swap ha hb (by decide) (by omega), poundKey_ne_swap ha hb (by decide) (by omega)⟩
  unfold State.poundLocked
  rw [hused]
  refine (((LoopFrame.wr _ _ (hne ⟨?_, ?_⟩)).trans (LoopFrame.modPound a _ id)).trans (LoopFrame.wr _ _ (hrecord (by decide)))).trans
    (LoopFrame.bump _ _ (hrecord (by decide)))
  · exact regKey_ne (by decide) (by decide) (Or.inl (by omega))
  · exact regKey_ne (by decide) (by decide) (Or.inl (by omega))

theorem State.applyPound_swap {s : State} {n : Nat} (hstaged : (s.pound a).staged = [(Reg.bankSwap a, n)]) :
    s.applyPound a = (s.poundLocked a).lockSwap a := by
  have hsource : (s.pound a).has (Reg.spSource a) = false := by simp [Pound.has, hstaged]
  have hswap : (s.pound a).has (Reg.bankSwap a) = true := by simp [Pound.has, hstaged]
  have hdevice : a ≠ pDevice := by unfold pDevice; omega
  rw [State.applyPound_eq]
  unfold State.lockEffects
  simp only [hsource, hswap, hdevice, ha, Bool.false_eq_true, and_false, and_self, false_and, if_false, if_true]

theorem swapWatched_within : (swapWatched a).Within (lockWatched [a] (· = a)) := by
  refine ⟨fun k hk => ?_, fun _ => False.elim, fun _ => id, fun _ => False.elim, fun _ => False.elim, False.elim, False.elim, False.elim, False.elim,
    fun _ => False.elim, False.elim⟩
  exact Or.inl (Or.inr (Or.inr (Or.inr ⟨a, rfl, ha, hk⟩)))

/-- The lockage of a pound whose BANK_SWAP is armed gives the swap to the law. -/
theorem ArmedTogether.swap {v : State} {k : Bool} {t0 : Lt} {w : Swap} (h : ArmedTogether v [a] k t0) (hstaged : (v.pound a).staged = [(Reg.bankSwap a, w.len)])
    (hmode : v.modeCode ≠ CONFIGURE) (harmed : (v.axis a).law.armed = some w) (hheld : (v.axis a).law.held = none)
    (hincoming : (v.axis a).law.incoming = none) : LockPlan v [a] (· = a) k t0 fun r => r.pound a = {} ∧ SwapDone v a w r :=
  { h with
    axes := fun _ hx => List.mem_singleton.2 hx
    keep := fun r u hu hr => ⟨(hu.pounds a (List.mem_singleton_self a)).trans hr.1, hr.2.of_frame (hu.mono (swapWatched_within ha))⟩
    empty := fun r hr q hq => by rw [List.mem_singleton.1 hq]; exact hr.1
    apply := fun _ p hp r _ hr => by
      obtain rfl := List.mem_singleton.1 hp
      have hpound : r.pound p = v.pound p := hr.pounds p hp
      have hlaw : (r.axis p).law = (v.axis p).law := hr.laws p rfl
      have hmode' : r.modeCode ≠ CONFIGURE := fun hr' => hmode ((hr.regs _ (Or.inr rfl)).symm.trans hr')
      have hlocked := State.poundLocked_swap ha (hpound ▸ hstaged) hmode'
      have hframe := (hr.mono (swapWatched_within ha)).trans hlocked
      have hlaw' : ((r.poundLocked p).axis p).law = (v.axis p).law := hframe.laws p rfl
      have hone : [p].filter (fun x => x != p) = [] := by simp
      obtain ⟨hswapped, hcount, hlost⟩ := State.lockSwap_done ha (s := r.poundLocked p) (w := w) (by rw [hlaw', harmed]) (by rw [hlaw', hheld])
        (by rw [hlaw', hincoming])
      rw [hlaw'] at hswapped hcount hlost
      rw [hframe.regs _ (Or.inl rfl)] at hcount
      rw [hframe.regs _ (Or.inr rfl)] at hlost
      rw [hone, List.foldl_cons, List.foldl_nil]
      refine ⟨State.pound_applyPound_self (by omega), ?_⟩
      rw [State.applyPound_swap ha (hpound ▸ hstaged)]
      exact ⟨hswapped, hcount, hlost⟩ }

/-- A swap that has begun leaves nothing held, so that nothing more begins. -/
theorem LoopFrame.beginHeld_swap {v r : State} {w : Swap} (hheld : (v.axis a).law.held = none)
    (hr : Stage v [a] (· = a) (fun r => r.pound a = {} ∧ SwapDone v a w r) r) {i : Nat} (hi : i < 48) :
    LoopFrame (lockWatched [a] (· = a)) r (r.beginHeld i) := by
  by_cases hia : i = a
  · subst hia
    have hnone : (r.axis i).law.held = none := by
      rcases hr.2 with hf | hd
      · rw [hf.laws i rfl, hheld]
      · rw [hd.2.law, Law.held_swapped, hheld]
    have hid : r.beginHeld i = r := by
      unfold State.beginHeld
      rw [hnone]
    rw [hid]
    exact LoopFrame.refl r
  · exact LoopFrame.beginHeld (lockWatched_lawful _ _) r ⟨hia, not_lockWatched_swap hi hia⟩

end

end Sys2Proof.Machine
end

section
/-! PROOFS. A BANK_SWAP over its boundary, up to the end of the command (R188 to R193, R242). -/

namespace Sys2Proof.Machine

/-! ### The law up to its lockage (R242) -/

theorem Law.stopped_stopped (l : Law) : l.stopped.stopped = l.stopped := by
  have hrun : l.stopped.run = .stopped := by
    unfold Law.stopped
    split
    · assumption
    · rfl
  exact if_pos hrun

/-- What a stop leaves of the requests of a law in which no fade runs. -/
theorem Law.stopped_requests {l : Law} (h : l.incoming = none) : l.stopped.pound = l.pound ∧ l.stopped.active = l.active ∧ l.stopped.incoming = none ∧
    l.stopped.armed = l.armed ∧ l.stopped.held = l.held ∧ l.stopped.run = .stopped := by
  unfold Law.stopped
  split
  · next hrun => exact ⟨rfl, rfl, h, rfl, rfl, hrun⟩
  · rw [Law.completeFade_none h]
    exact ⟨rfl, rfl, h, rfl, rfl, rfl⟩

section
variable {a : Nat} (ha : a < 48)
include ha

theorem State.law_pinStop (s : State) : ((s.pinStop a).axis a).law = (s.axis a).law.stopped := by
  unfold State.pinStop
  split
  · next hrun => rw [Law.stopped, if_pos hrun]
  · rw [(LoopFrame.modAxo (w := Watched.lawOf a) a _ (by intros; rfl)).law]
    exact State.law_stopLaw ha s

theorem State.law_boundaryPins (s : State) (t : Nat) : ((s.boundaryPins t).axis a).law = (s.axis a).law ∨
    s.pinStops t = true ∧ ((s.boundaryPins t).axis a).law = (s.axis a).law.stopped := by
  have hfold : (((axesOf t).foldl State.pinStop s).axis a).law = (s.axis a).law ∨ (((axesOf t).foldl State.pinStop s).axis a).law = (s.axis a).law.stopped := by
    refine foldl_of (P := fun r => (r.axis a).law = (s.axis a).law ∨ (r.axis a).law = (s.axis a).law.stopped) _ (Or.inl rfl) fun r i hi hr => ?_
    by_cases hia : i = a
    · subst hia
      rw [State.law_pinStop ha]
      rcases hr with hr | hr
      · rw [hr]; exact Or.inr rfl
      · rw [hr]; exact Or.inr (Law.stopped_stopped _)
    · rw [(LoopFrame.pinStop (w := Watched.lawOf a) r i (Watched.lawful_lawOf a) hia id).law]
      exact hr
  have hend (r : State) : ((r.modEngine t fun x => { x with pinFell := false }).axis a).law = (r.axis a).law := rfl
  unfold State.boundaryPins
  rw [hend]
  split
  · next hpins => exact hfold.imp id fun hr => ⟨hpins, hr⟩
  · exact Or.inl rfl

/-- Up to the lockages a law stays as it was, or stops by the pin. -/
theorem State.law_beforeLockages {s : State} {t : Nat} (ht : t < 8) {b : Lt} (hquiet : s.Quiet t b) :
    ((s.beforeLockages t b).axis a).law = (s.axis a).law ∨
      s.pinStops t = true ∧ ((s.beforeLockages t b).axis a).law = (s.axis a).law.stopped := by
  have hw := Watched.lawful_lawOf a
  have hlatched : LoopFrame (Watched.lawOf a) s (((s.boundaryLatches t b).dueBoundary t b).returnsDone t) :=
    (LoopFrame.boundaryLatches hw s ht b ⟨fun _ _ => ⟨id, id⟩, id⟩).trans (State.returnsDone_latched ht hquiet hw id)
  rw [State.beforeLockages_eq ht hquiet, (LoopFrame.keepEarlier (w := Watched.lawOf a) _ b).law, ← hlatched.law, ← State.pinStops_quiet ht hquiet]
  exact State.law_boundaryPins ha _ t

/-! ### The law after its lockage (R193, R208) -/

omit ha in
/-- A pass that takes each element once takes this one between steps of the others. -/
theorem LoopFrame.foldl_once {w : Watched} {f : State → Nat → State} {l : List Nat} {i : Nat} (hi : i ∈ l) (hl : l.Nodup)
    (h : ∀ r j, j ∈ l → j ≠ i → LoopFrame w r (f r j)) (s : State) : ∃ r, LoopFrame w s r ∧ LoopFrame w (f r i) (l.foldl f s) := by
  obtain ⟨l₁, l₂, rfl⟩ := List.append_of_mem hi
  have hparts := List.nodup_append.1 hl
  refine ⟨l₁.foldl f s, LoopFrame.foldl _ fun r j hj => h r j (List.mem_append_left _ hj) ?_, ?_⟩
  · exact hparts.2.2 j hj i (List.mem_cons_self ..)
  · rw [List.foldl_append, List.foldl_cons]
    refine LoopFrame.foldl _ fun r j hj => h r j (List.mem_append_right _ (List.mem_cons_of_mem _ hj)) ?_
    rintro rfl
    exact (List.nodup_cons.1 hparts.2.1).1 hj

omit ha in
theorem axesOf_nodup (t : Nat) : (axesOf t).Nodup := by
  simp [axesOf]

/-- After the lockages the law of an axis goes on at its boundary, or stops, and its swaps are counted no more. -/
theorem State.law_afterLockages {s : State} {t : Nat} (ht : t < 8) {b : Lt} (hat : a ∈ axesOf t)
    (hcands : ∀ l, l < 16 → ∀ c, c ∈ (s.laser l).cands → c.camera < 32) :
    (s.axis a).law.Goes ((s.afterLockages t b).axis a).law ∧ (s.afterLockages t b).rd (Reg.swapCount a) = s.rd (Reg.swapCount a) ∧
      (s.afterLockages t b).rd (Reg.swapLostCount a) = s.rd (Reg.swapLostCount a) := by
  have hw := swapWatched_lawful ha
  have hfree := swapWatched_layerFree ha
  have hoffsets := LoopFrame.boundaryOffsets hw s ht b fun l hl c hc => hw.camera (hcands l hl c hc)
  obtain ⟨r, hr, hlaws⟩ := LoopFrame.foldl_once (f := fun r i => r.lawBoundary i ((s.boundaryOffsets t b).engineMode t) b) hat (axesOf_nodup t)
    (fun r i hi hia => LoopFrame.lawBoundary r i hw hia (hw.axis (lt_of_mem_axesOf ht hi) (by simp [axisKeys])) _ b) (s.boundaryOffsets t b)
  have hafter : LoopFrame (swapWatched a) (r.lawBoundary a ((s.boundaryOffsets t b).engineMode t) b) (s.afterLockages t b) :=
    (LoopFrame.trans hlaws (LoopFrame.boundaryNext hw _ ht b [] id id hfree.off)).trans (LoopFrame.modMem _ id)
  have hbefore := hoffsets.trans hr
  have hregs : (Watched.onlyRegs (swapWatched a).regs).Lawful := fun k hk => hw k hk
  have hcounts : LoopFrame (Watched.onlyRegs (swapWatched a).regs) r (r.lawBoundary a ((s.boundaryOffsets t b).engineMode t) b) :=
    LoopFrame.lawBoundary r a hregs id (hregs.axis ha (by simp [axisKeys])) _ b
  refine ⟨?_, ?_, ?_⟩
  · rw [hafter.laws a rfl, ← hbefore.laws a rfl]
    exact State.law_lawBoundary ha r _ b
  · exact (hafter.regs _ (Or.inl rfl)).trans ((hcounts.regs _ (Or.inl rfl)).trans (hbefore.regs _ (Or.inl rfl)))
  · exact (hafter.regs _ (Or.inr rfl)).trans ((hcounts.regs _ (Or.inr rfl)).trans (hbefore.regs _ (Or.inr rfl)))

end

/-! ### The swap at the end of the command -/

/-- What the swap of a law `l` leaves when its boundary is over, where the pin may have stopped it before. -/
theorem Law.swap_ends {l m l' : Law} {w : Swap} {pins : Bool} (hm : m = l ∨ pins = true ∧ m = l.stopped) (hincoming : l.incoming = none)
    (hgoes : (m.swapped w).Goes l') :
    (bankCrc l.pound = w.crc → (l.run = .stopped → l'.active = l.pound ∧ l'.incoming = none) ∧
      (l.run ≠ .stopped → pins = false → if l'.run = .stopped then l'.active = l.pound ∧ l'.incoming = none
        else l'.incoming = some l.pound ∧ l'.fadeLen = w.len ∧ l'.fadePos = 0 ∧ l'.active = l.active)) ∧
    (bankCrc l.pound ≠ w.crc → l'.active = l.active ∧ l'.incoming = none) := by
  have hparts : m.pound = l.pound ∧ m.active = l.active ∧ m.incoming = none ∧ (l.run = .stopped → m.run = .stopped) ∧
      (pins = false → m.run = l.run) := by
    rcases hm with rfl | ⟨hpins, rfl⟩
    · exact ⟨rfl, rfl, hincoming, id, fun _ => rfl⟩
    · obtain ⟨hpound, hactive, hnone, -, -, hrun⟩ := Law.stopped_requests hincoming
      exact ⟨hpound, hactive, hnone, fun _ => hrun, fun h => by rw [h] at hpins; cases hpins⟩
  obtain ⟨hpound, hactive, hnone, hstopped, hruns⟩ := hparts
  have hquiet {x : Law} (hx : x.Goes l') (hnone : x.incoming = none) : l'.active = x.active ∧ l'.incoming = none := by
    cases hx with
    | on hactive hincoming _ _ _ => exact ⟨hactive, hincoming.trans hnone⟩
    | off hactive hincoming _ => exact ⟨hactive.trans (by rw [Law.completeFade_none hnone]), hincoming⟩
  refine ⟨fun hcrc => ⟨fun hrun => ?_, fun hrun hpins => ?_⟩, fun hcrc => ?_⟩
  · have hswapped : m.swapped w = { m with armed := none, active := m.pound } := by
      unfold Law.swapped Law.begun
      rw [if_neg (not_not.2 (hpound ▸ hcrc)), if_pos (hstopped hrun)]
    rw [hswapped] at hgoes
    obtain ⟨hend, hgone⟩ := hquiet hgoes hnone
    exact ⟨hend.trans hpound, hgone⟩
  · have hswapped : m.swapped w = { m with
        armed := none, incoming := some m.pound, stIn := {}, fadePos := 0, fadeLen := w.len, presetIn := true } := by
      unfold Law.swapped Law.begun
      rw [if_neg (not_not.2 (hpound ▸ hcrc)), if_neg fun h => hrun ((hruns hpins).symm.trans h)]
    rw [hswapped] at hgoes
    cases hgoes with
    | on hactive' hincoming' hlen hpos hon =>
      rw [if_neg (hon fun h => hrun ((hruns hpins).symm.trans h))]
      exact ⟨hincoming'.trans (congrArg some hpound), hlen, hpos, hactive'.trans hactive⟩
    | off hactive' hincoming' hoff =>
      rw [if_pos hoff]
      exact ⟨hactive'.trans hpound, hincoming'⟩
  · have hswapped : m.swapped w = { m with armed := none } := by
      unfold Law.swapped Law.begun
      rw [if_pos (hpound ▸ hcrc)]
    rw [hswapped] at hgoes
    obtain ⟨hend, hgone⟩ := hquiet hgoes hnone
    exact ⟨hend.trans hactive, hgone⟩

end Sys2Proof.Machine
end

section
/-! PROOFS. Lockages, and a BANK_SWAP among them (R30 to R32, R41, R43, R46, R52, R189, R190, R193). Settles O54. -/

namespace Sys2Proof.Machine

/-- The swap of AXIS_a has reached its lockage since `s`, at a boundary of ENGINE_t that is over: its law, as the pin may have stopped
it, got the swap and went on, and the swap counts. -/
structure SwapEnded (s : State) (t a : Nat) (w : Swap) (r : State) : Prop where
  law : ∃ m : Law, (m = (s.axis a).law ∨ s.pinStops t = true ∧ m = (s.axis a).law.stopped) ∧ (m.swapped w).Goes (r.axis a).law
  count : bankCrc (s.axis a).law.pound = w.crc → r.rd (Reg.swapCount a) = min (s.rd (Reg.swapCount a) + 1) (2 ^ 32 - 1)
  lost : bankCrc (s.axis a).law.pound ≠ w.crc → r.rd (Reg.swapLostCount a) = min (s.rd (Reg.swapLostCount a) + 1) (2 ^ 32 - 1)

theorem SwapEnded.keep {s r : State} {t a : Nat} {w : Swap} (h : SwapEnded s t a w r) : SwapEnded s t a w (s.keep r) := ⟨h.law, h.count, h.lost⟩

theorem SwapEnded.shows {s r : State} {t a : Nat} {w : Swap} (h : SwapEnded s t a w r) (hincoming : (s.axis a).law.incoming = none) :
    (bankCrc (s.axis a).law.pound = w.crc → r.rd (Reg.swapCount a) = min (s.rd (Reg.swapCount a) + 1) (2 ^ 32 - 1) ∧
      ((s.axis a).law.run = .stopped → (r.axis a).law.active = (s.axis a).law.pound ∧ (r.axis a).law.incoming = none) ∧
      ((s.axis a).law.run ≠ .stopped → s.pinStops t = false →
        if (r.axis a).law.run = .stopped then (r.axis a).law.active = (s.axis a).law.pound ∧ (r.axis a).law.incoming = none
        else (r.axis a).law.incoming = some (s.axis a).law.pound ∧ (r.axis a).law.fadeLen = w.len ∧ (r.axis a).law.fadePos = 0 ∧
          (r.axis a).law.active = (s.axis a).law.active)) ∧
    (bankCrc (s.axis a).law.pound ≠ w.crc → r.rd (Reg.swapLostCount a) = min (s.rd (Reg.swapLostCount a) + 1) (2 ^ 32 - 1) ∧
      (r.axis a).law.active = (s.axis a).law.active ∧ (r.axis a).law.incoming = none) := by
  obtain ⟨m, hm, hgoes⟩ := h.law
  obtain ⟨hgood, hbad⟩ := Law.swap_ends hm hincoming hgoes
  exact ⟨fun hcrc => ⟨h.count hcrc, hgood hcrc⟩, fun hcrc => ⟨h.lost hcrc, hbad hcrc⟩⟩

namespace State.Lockable

section
variable {s : State} {t a : Nat} {t0 b : Lt} (h : s.Lockable t t0 b [a]) (ha : a < 48)
include h ha

theorem mem_axesOf : a ∈ axesOf t := by
  rcases h.kind with hall | ⟨l, hps, -⟩ | ⟨c, hps, -⟩ | ⟨hps, -⟩
  · exact (hall a (List.mem_singleton_self a)).resolve_right (by omega)
  · have := List.head_eq_of_cons_eq hps; omega
  · have := List.head_eq_of_cons_eq hps; omega
  · have := List.head_eq_of_cons_eq hps; omega

/-- A BANK_SWAP that is due at the boundary. -/
theorem swapped {w : Swap} (hmode : s.modeCode ≠ CONFIGURE) (hdue : t0 + ns 1000 ≤ (s.goTo b).lt) (hstaged : (s.pound a).staged = [(Reg.bankSwap a, w.len)])
    (harmed : (s.axis a).law.armed = some w) (hheld : (s.axis a).law.held = none) (hincoming : (s.axis a).law.incoming = none) :
    SwapEnded s t a w ((((s.boundaryAt t b).beforeLockages t b).lockages t b).afterLockages t b).done := by
  obtain ⟨hrd, hpound, -, -, -, haxis, -⟩ := h.at_same
  have hlaw := State.law_beforeLockages ha h.engine h.quiet
  rw [h.pinStops_at, haxis] at hlaw
  have hrequests : (((s.boundaryAt t b).beforeLockages t b).axis a).law.pound = (s.axis a).law.pound ∧
      (((s.boundaryAt t b).beforeLockages t b).axis a).law.armed = some w ∧ (((s.boundaryAt t b).beforeLockages t b).axis a).law.held = none ∧
      (((s.boundaryAt t b).beforeLockages t b).axis a).law.incoming = none := by
    rcases hlaw with hl | ⟨-, hl⟩
    · rw [hl]; exact ⟨rfl, harmed, hheld, hincoming⟩
    · obtain ⟨hp, -, hi, ha', hh, -⟩ := Law.stopped_requests hincoming
      rw [hl]; exact ⟨hp, ha'.trans harmed, hh.trans hheld, hi⟩
  obtain ⟨hpound', harmed', hheld', hincoming'⟩ := hrequests
  have hregs : (Watched.onlyRegs (swapWatched a).regs).Lawful := fun k hk => swapWatched_lawful ha k hk
  have hcounts : LoopFrame (Watched.onlyRegs (swapWatched a).regs) (s.boundaryAt t b) ((s.boundaryAt t b).beforeLockages t b) :=
    (LoopFrame.boundaryLatches hregs _ h.engine b ⟨fun l hl => ⟨id, ((swapWatched_layerFree ha).off l hl).state⟩, (swapWatched_layerFree ha).layer⟩).trans
      (State.beforeLockages_frame h.engine h.quiet hregs id fun _ _ _ => id)
  have hstaged' : (((s.boundaryAt t b).beforeLockages t b).pound a).staged = [(Reg.bankSwap a, w.len)] := by
    rw [h.pre.pounds a trivial, hpound, hstaged]
  have hmode' : ((s.boundaryAt t b).beforeLockages t b).modeCode ≠ CONFIGURE := fun hc =>
    hmode (((h.pre.regs Reg.mode (Or.inl (Or.inr rfl))).trans (hrd _)).symm.trans hc)
  have hplan := h.armedTogether.swap ha hstaged' hmode' harmed' hheld' hincoming'
  obtain ⟨-, hdone⟩ := done_lockages hplan (fun r i hi hr => LoopFrame.beginHeld_swap ha hheld' hr hi) h.engine b rfl (h.lt_before ▸ hdue) h.nonempty h.boundaryOf
  have hcands := (State.lockages_rest h.engine h.quiet).cands
  obtain ⟨hgoes, hcount, hlost⟩ := State.law_afterLockages ha h.engine (h.mem_axesOf ha) (b := b) fun l hl c hc => h.cands_lt l hl c (hcands l c hc)
  have hend := h.settled.done_frame (swapWatched_lawful ha) (swapWatched_open ha) (fun _ => id) id fun p hp => hp.elim
  refine ⟨⟨_, hlaw, ?_⟩, fun hcrc => ?_, fun hcrc => ?_⟩
  · rw [hend.laws a rfl, ← hdone.law]
    exact hgoes
  · rw [hend.regs _ (Or.inl rfl), hcount, hdone.count (hpound' ▸ hcrc), hcounts.regs _ (Or.inl rfl), hrd]
  · rw [hend.regs _ (Or.inr rfl), hlost, hdone.lost (hpound' ▸ hcrc), hcounts.regs _ (Or.inr rfl), hrd]

end

end State.Lockable

theorem State.not_configure_of_runs {s : State} (h : s.inRunOrHold = true) : s.modeCode ≠ CONFIGURE := fun hmode => by
  rw [State.inRunOrHold, hmode] at h
  exact absurd h (by decide)

section
variable (s r : State)

theorem State.rd_keep (k : Nat) : (s.keep r).rd k = r.rd k := rfl
theorem State.pound_keep (p : Nat) : (s.keep r).pound p = r.pound p := rfl

end

/-- Settles O54: up to the lockages nothing that they turn on changes; their pass reaches the pounds at a boundary of their kind, and
what follows it leaves them alone. -/
theorem lockagesApply : Obligations.LockagesApply := by
  unfold Obligations.LockagesApply
  intro s t t0 ps hcalm hmode ht
  dsimp only
  intro hhold hleft hdue hreturns hheld hlasers hstaged hforeign hnodup hkind hown
  by_cases hps : ps = []
  · subst hps
    exact ⟨_, exec_loopBoundary hcalm t, fun q hq => absurd hq List.not_mem_nil, fun a w ha => absurd ha.symm (List.cons_ne_nil _ _)⟩
  have hkeyed : s.Keyed := fun r e hr he => by
    obtain ⟨hscope, row, hrow, haccess⟩ := hstaged r e hr he
    exact ⟨hscope, by simp only [accessOf, hrow, Option.map_some, haccess]⟩
  have h : s.Lockable t t0 (nextGrid (ns (s.loopNs t)) s.lt (s.engine t).lastLoop) ps :=
    ⟨hcalm, ht, rfl, hhold, hleft, hdue, hreturns, hheld, hlasers, hkeyed, hforeign, hnodup, hps, hkind, hown⟩
  generalize nextGrid (ns (s.loopNs t)) s.lt (s.engine t).lastLoop = b at h
  refine ⟨_, h.exec_eq, fun q hq => ?_, fun a w ha h48 hready hswap => ?_⟩
  · have hlt : q < 106 := Nat.lt_succ_of_lt (h.bounded hq)
    have hbefore : ((s.boundaryAt t b).beforeLockages t b).pound q = s.pound q := (h.pre.pounds q trivial).trans (h.at_same.2.1 q)
    have hmine5 : lockMine ps (fun _ => False) (poundKey q 5) := Or.inr (Or.inr (Or.inl ⟨q, hq, hlt, Or.inl rfl⟩))
    have hmine6 : lockMine ps (fun _ => False) (poundKey q 6) := Or.inr (Or.inr (Or.inl ⟨q, hq, hlt, Or.inr rfl⟩))
    simp only [State.rd_keep, State.pound_keep]
    refine ⟨fun hready => ?_, fun hearly => ?_⟩
    · obtain ⟨hempty, htold, hcount, hvalues⟩ := h.locked hready hq
      rw [h.lt_before] at htold
      rw [h.pre.regs _ (Or.inl (Or.inl hmine6)), h.at_same.1] at hcount
      rw [hbefore] at hvalues
      exact ⟨hempty, htold, hcount, hvalues⟩
    · obtain ⟨harmed, hsame, hregs⟩ := h.unlocked_done hearly hq
      refine ⟨harmed, hsame, hregs _ hmine5, hregs _ hmine6, fun e he => hregs _ ?_⟩
      obtain ⟨hscope, haccess⟩ := h.keyed q e hlt he
      exact Or.inr (Or.inl ⟨haccess, hscope.symm ▸ hq⟩)
  · subst ha
    intro harmed hheld hincoming
    have hended := h.swapped h48 (State.not_configure_of_runs hmode) hready hswap harmed hheld hincoming
    exact hended.keep.shows hincoming

end Sys2Proof.Machine
end

section
/-! PROOFS. The carriers of the drivers, their amplitude steps, reset switches and current limits (R63 to R80, R90, R103, R108). -/

namespace Sys2Proof.Machine

/-! ### Still states under the operations of a driver -/

theorem stillKey_excStatus {t j : Nat} (hj : j < 6) : stillKey (Reg.excStatus t j) = false :=
  stillKey_regKey (by omega) ⟨by omega, by omega, by omega⟩

section
variable (s : State)

/-- A field of EXC_STATUS is none of what a still state looks at. -/
theorem State.still_excStatus (t : Nat) {j : Nat} (lo w v : Nat) (hj : j < 6) :
    (s.wrField (Reg.excStatus t j) lo w v).still = s.still :=
  State.still_wr _ _ (stillKey_excStatus hj)

theorem State.modeCode_excStatus (t : Nat) {j : Nat} (lo w v : Nat) (hj : j < 6) :
    (s.wrField (Reg.excStatus t j) lo w v).modeCode = s.modeCode :=
  s.rd_wr_ne _ (regKey_ne (by decide) (by omega) (by omega))

theorem State.still_startDriver (t j : Nat) (hs : s.still = true) : (s.startDriver t j).still = true := by
  unfold State.startDriver
  split
  · exact State.still_modDriver _ _ _ _ hs
  · exact hs

@[simp] theorem State.outside_startDriver (t j : Nat) : (s.startDriver t j).outside = s.outside := by
  unfold State.startDriver
  split <;> rfl

theorem State.still_freshSwitches (t j : Nat) (hs : s.still = true) : (s.freshSwitches t j).still = true :=
  State.still_modTile _ _ _ (fun _ => ⟨rfl, rfl⟩) hs

@[simp] theorem State.outside_freshSwitches (t j : Nat) : (s.freshSwitches t j).outside = s.outside := id rfl

theorem State.still_flushed (t : Nat) (l : List Nat) (hs : s.still = true) :
    (l.foldl (fun r i => r.modChan t i Chan.flush) s).still = true :=
  foldl_of (P := fun r => r.still = true) l hs fun r i _ hr => r.still_modChan t i _ hr

theorem State.outside_flushed (t : Nat) (l : List Nat) :
    (l.foldl (fun r i => r.modChan t i Chan.flush) s).outside = s.outside :=
  foldl_of (P := fun r => r.outside = s.outside) l rfl fun r i _ hr => by rw [State.outside_modChan, hr]

end

/-! ### CARRIER_STOP -/

section
variable {s : State} {t j : Nat}

/-- The end of a driver that leaves the running state: what it is before it may start anew (R90). -/
def State.carrierOff (s : State) (t j : Nat) : State :=
  ((s.goTo (nextWrap (s.driver t j).freq (max s.lt (s.driver t j).since))).modDriver t j fun d =>
    { d with phase := .off, settling := false, amplPending := false }).wrField (Reg.excStatus t j) 1 2 0

theorem State.still_carrierOff (hs : s.still = true) (hj : j < 6) : (s.carrierOff t j).still = true := by
  rw [State.carrierOff, State.still_excStatus _ _ _ _ _ hj]
  exact State.still_modDriver _ _ _ _ hs

theorem State.supervised_carrierOff (hj : j < 6) : (s.carrierOff t j).supervised = s.supervised := by
  rw [State.supervised, State.carrierOff, State.modeCode_excStatus _ _ _ _ _ hj]
  rfl

theorem State.carrierStop_waitStop (h : (s.driver t j).phase = .waitStop) :
    let at_ := nextWrap (s.driver t j).freq (max s.lt (s.driver t j).since)
    s.carrierStop t j =
      (((s.goTo at_).modDriver t j fun d => { d with phase := .gap, since := at_, freq := s.rd (Reg.excFreq t j) }).wrField
        (Reg.excStatus t j) 1 1 0).setSettling t j none 2 := by
  simp only [State.carrierStop, h]
  rfl

theorem State.carrierStop_waitOff (h : (s.driver t j).phase = .waitOff) (hj : j < 6) :
    s.carrierStop t j = if s.supervised then (s.carrierOff t j).startDriver t j else s.carrierOff t j := by
  rw [← State.supervised_carrierOff hj]
  simp only [State.carrierStop, h]
  rfl

end

/-- Settles O7: from a still state CARRIER_STOP leaves a still one in either phase, so that its effect is all the command has. -/
theorem carrierStops : Obligations.CarrierStops := by
  unfold Obligations.CarrierStops
  intro s t j hs _ hj
  refine ⟨fun hstop => State.next_up hs (State.carrierStop_waitStop hstop) (State.still_setSettling _ _ _ _ _ ?_) ?_,
    fun hoff => ?_⟩
  · rw [State.still_excStatus _ _ _ _ _ hj]
    exact State.still_modDriver _ _ _ _ hs
  · rw [State.outside_setSettling]; rfl
  · refine State.next_up (r := if s.supervised then (s.carrierOff t j).startDriver t j else s.carrierOff t j) hs
      (State.carrierStop_waitOff hoff hj) ?_ ?_
    · split
      · exact State.still_startDriver _ _ _ (State.still_carrierOff hs hj)
      · exact State.still_carrierOff hs hj
    · split
      · rw [State.outside_startDriver]; rfl
      · rfl

/-! ### CARRIER_START and SETTLING -/

section
variable {s : State} {t j : Nat}

/-- The carrier of driver j starts (R63, R73): what CARRIER_START does in either phase in which it acts. -/
def State.carrierRuns (s : State) (t j cause : Nat) : State :=
  let f := s.rd (Reg.excFreq t j)
  let at_ := nextWrap f (max s.lt (s.driver t j).since)
  let r := ((s.goTo at_).modDriver t j fun d =>
    { d with phase := .on, freq := f, ampl := s.rd (Reg.excAmpl t j), amplPending := false, fresh := false,
             settling := !(s.driverAxes t j).isEmpty }).wrField (Reg.excStatus t j) 1 1 1
  (((r.excitedChans t j).foldl (fun r i => r.modChan t i Chan.flush) r).freshSwitches t j).setSettling t j (some at_) cause

theorem State.still_carrierRuns (cause : Nat) (hs : s.still = true) (hj : j < 6) : (s.carrierRuns t j cause).still = true := by
  unfold State.carrierRuns
  refine State.still_setSettling _ _ _ _ _ (State.still_freshSwitches _ _ _ (State.still_flushed _ _ _ ?_))
  rw [State.still_excStatus _ _ _ _ _ hj]
  exact State.still_modDriver _ _ _ _ hs

theorem State.outside_carrierRuns (cause : Nat) : (s.carrierRuns t j cause).outside = s.outside := by
  unfold State.carrierRuns
  rw [State.outside_setSettling, State.outside_freshSwitches, State.outside_flushed]
  rfl

theorem State.carrierStart_gap (h : (s.driver t j).phase = .gap) : s.carrierStart t j = s.carrierRuns t j 2 := by
  simp only [State.carrierStart, h]
  rfl

theorem State.carrierStart_waitStart (h : (s.driver t j).phase = .waitStart) : s.carrierStart t j = s.carrierRuns t j 1 := by
  simp only [State.carrierStart, h]
  rfl

end

section
variable (s : State) (fin : Option Nat) (cause : Nat)

/-- The observer of an axis that is flagged SETTLING up to `e`, where that is known (R108, R144). -/
def Obs.settle (cause : Nat) (e : Option Lt) (o : Obs) : Obs :=
  { o with
    settling := true, settleEnd := e
    acq := if cause = 1 then .waiting 1
           else match o.acq with
             | .idle => .idle
             | .waiting 1 => .waiting 1
             | _ => .waiting cause
    total := 0, lateLogged := false }

/-- AXIS_a is flagged SETTLING, and its end is told where that of the change is known (R108): one axis of `State.setSettling`. -/
def State.settleAxis (a : Nat) : State :=
  match fin with
  | some t0 => (s.modObs a (Obs.settle cause (some (t0 + ns (s.settleNs a))))).wr (Reg.settleEndLt a) (time80 (t0 + ns (s.settleNs a)))
  | none => s.modObs a (Obs.settle cause none)

theorem State.setSettling_eq (t j : Nat) :
    s.setSettling t j fin cause = (s.driverAxes t j).foldl (fun r a => r.settleAxis fin cause a) s := by
  cases fin <;> rfl

theorem State.axis_modObs_self {a : Nat} (f : Obs → Obs) (ha : a < 48) : ((s.modObs a f).axis a).obs = f (s.axis a).obs := by
  rw [State.modObs, s.axis_modAxis_self _ ha]

theorem State.axis_modObs_ne {a b : Nat} (f : Obs → Obs) (hb : b ≠ a) : (s.modObs a f).axis b = s.axis b := s.axis_modAxis_ne _ hb

@[simp] theorem State.axis_wr (k v b : Nat) : (s.wr k v).axis b = s.axis b := id rfl

theorem State.rd_settleAxis {k a : Nat} (hk : k ≠ Reg.settleEndLt a) : (s.settleAxis fin cause a).rd k = s.rd k := by
  cases fin with
  | none => exact State.rd_modObs ..
  | some t0 => rw [State.settleAxis, State.rd_wr_ne _ _ hk, State.rd_modObs]

theorem State.axis_settleAxis_ne {a b : Nat} (hb : b ≠ a) : (s.settleAxis fin cause a).axis b = s.axis b := by
  cases fin with
  | none => exact s.axis_modObs_ne _ hb
  | some t0 => rw [State.settleAxis, State.axis_wr, s.axis_modObs_ne _ hb]

/-- SETTLE_END_LT of one axis has no part in the settling interval of another (R108). -/
theorem State.settleNs_settleAxis (a b : Nat) : (s.settleAxis fin cause a).settleNs b = s.settleNs b := by
  have hlength : (s.settleAxis fin cause a).rd (Reg.maLength b) = s.rd (Reg.maLength b) :=
    s.rd_settleAxis fin cause (regKey_ne (by decide) (by decide) (Or.inr (by decide)))
  have hresponse : (s.settleAxis fin cause a).rd (Reg.response b) = s.rd (Reg.response b) :=
    s.rd_settleAxis fin cause (regKey_ne (by decide) (by decide) (Or.inr (by decide)))
  rw [State.settleNs, State.gdTabulatedOf, hlength, hresponse]
  rfl

/-- In `r` AXIS_a is SETTLING for a change from `s` on, whose end is told where it is known. -/
def State.SettlesFrom (a : Nat) (r : State) : Prop :=
  (r.axis a).obs.settling = true ∧ ∀ t0, fin = some t0 →
    (r.axis a).obs.settleEnd = some (t0 + ns (s.settleNs a)) ∧ r.rd (Reg.settleEndLt a) = time80 (t0 + ns (s.settleNs a))

variable {s fin cause}

theorem State.SettlesFrom.of_settleAxis {r : State} {a : Nat} (ha : a < 48) (hr : r.settleNs a = s.settleNs a) :
    s.SettlesFrom fin a (r.settleAxis fin cause a) := by
  rw [State.SettlesFrom, ← hr]
  cases fin with
  | none => exact ⟨congrArg Obs.settling (r.axis_modObs_self (Obs.settle cause none) ha), fun _ h => by cases h⟩
  | some t0 =>
    have hobs := r.axis_modObs_self (Obs.settle cause (some (t0 + ns (r.settleNs a)))) ha
    rw [State.settleAxis, State.axis_wr]
    refine ⟨congrArg Obs.settling hobs, fun t0' h => ?_⟩
    cases h
    exact ⟨congrArg Obs.settleEnd hobs, State.rd_wr_self _ _ _⟩

/-- Once an axis settles, the other axes of the driver leave it so. -/
theorem State.SettlesFrom.settleAxis_ne {r : State} {a b : Nat} (h : s.SettlesFrom fin a r) (hb : b ≠ a) :
    s.SettlesFrom fin a (r.settleAxis fin cause b) := by
  rw [State.SettlesFrom, State.axis_settleAxis_ne _ _ _ hb.symm,
    State.rd_settleAxis _ _ _ (by simp only [Reg.settleEndLt, regKey]; omega : Reg.settleEndLt a ≠ Reg.settleEndLt b)]
  exact h

/-- Every axis of a driver settles (R108). -/
theorem State.settlesFrom_setSettling {t j a : Nat} (ha : a < 48) (hmem : a ∈ s.driverAxes t j) :
    s.SettlesFrom fin a (s.setSettling t j fin cause) := by
  have hstep (r : State) (b : Nat) (hns : r.settleNs a = s.settleNs a) : (r.settleAxis fin cause b).settleNs a = s.settleNs a :=
    (r.settleNs_settleAxis fin cause b a).trans hns
  obtain ⟨before, after, hsplit⟩ := List.append_of_mem hmem
  rw [State.setSettling_eq, hsplit, List.foldl_append, List.foldl_cons]
  have hbefore : (before.foldl (fun r b => r.settleAxis fin cause b) s).settleNs a = s.settleNs a :=
    foldl_of (P := fun r => r.settleNs a = s.settleNs a) before rfl fun r b _ hr => hstep r b hr
  generalize before.foldl (fun r b => r.settleAxis fin cause b) s = u at hbefore
  refine (foldl_of (P := fun r => r.settleNs a = s.settleNs a ∧ s.SettlesFrom fin a r) after
    ⟨hstep u a hbefore, State.SettlesFrom.of_settleAxis ha hbefore⟩ fun r b _ hr => ?_).2
  obtain ⟨hns, hsettles⟩ := hr
  refine ⟨hstep r b hns, ?_⟩
  by_cases hb : b = a
  · subst hb; exact State.SettlesFrom.of_settleAxis ha hns
  · exact hsettles.settleAxis_ne hb

end

/-- Settles O8: the start leaves a still state still, so that its effect is all the command has; each axis of a driver settles as its
turn comes, and the others leave it so. -/
theorem carrierStarts : Obligations.CarrierStarts := by
  unfold Obligations.CarrierStarts
  refine ⟨fun s t j hs _ hj => ⟨fun h => ?_, fun h => ?_⟩, fun s t j cause fin a _ ha hmem => State.settlesFrom_setSettling ha hmem⟩
  · exact State.next_up hs (State.carrierStart_gap h) (State.still_carrierRuns 2 hs hj) (State.outside_carrierRuns 2)
  · exact State.next_up hs (State.carrierStart_waitStart h) (State.still_carrierRuns 1 hs hj) (State.outside_carrierRuns 1)

/-! ### Amplitude steps, reset switches and current limits -/

section
variable {s : State} {t j m : Nat}

theorem State.amplitudeStep_pending (hpending : (s.driver t j).amplPending = true) (hrun : (s.driver t j).running = true) :
    s.amplitudeStep t j = (s.goTo (nextWrap (s.driver t j).freq (max s.lt (s.driver t j).since))).modDriver t j fun d =>
      { d with ampl := s.rd (Reg.excAmpl t j), amplPending := false } := by
  simp only [State.amplitudeStep, hpending, hrun, Bool.and_self, if_true]

/-- An amplifier in CHARGE mode follows the driver of the axis that its pair serves (R78). -/
theorem State.chargeDriver_of {a : Nat} (hmode : s.ampMode t m = 2) (huser : s.pairUser t m = some a) :
    s.chargeDriver t m = some (s.driver t (s.rd (Reg.excDriver a))) := by
  rw [State.chargeDriver, if_pos hmode, huser, Option.map_some]

variable {d : Driver} (hd : s.chargeDriver t m = some d)
include hd

theorem State.resetClose_of_running (hrun : d.running = true) :
    let tc := nextReset d.freq (s.rd (Reg.ampReset t m)) s.lt
    s.resetClose t m = (s.goTo tc).modAmp t m fun x => { x with closed := true, closedAt := some tc } := by
  simp only [State.resetClose, hd, hrun, if_true]

theorem State.resetOpen_of_running {tc : Lt} (hrun : d.running = true) (hclosed : ((s.tile t).amp m).closed = true)
    (hat : ((s.tile t).amp m).closedAt = some tc) :
    s.resetOpen t m = (s.goTo (tc + ns (100 * resetWidth (s.rd (Reg.ampReset t m))))).modAmp t m fun x => { x with closed := false } := by
  simp only [State.resetOpen, hd, hat, hrun, hclosed, Bool.and_self, if_true]

/-- While its driver does not run the switch is closed (R80). -/
theorem State.switchClosed_of_not_running (hrun : d.running = false) : s.switchClosed t m = true := by
  simp only [State.switchClosed, hd, hrun, Bool.not_false, Bool.true_or]

theorem State.resetClose_of_not_running (hrun : d.running = false) : s.resetClose t m = s := by
  simp only [State.resetClose, hd, hrun, Bool.false_eq_true, if_false]

theorem State.resetOpen_of_not_running (hrun : d.running = false) : s.resetOpen t m = s := by
  unfold State.resetOpen
  rw [hd]
  split
  · next hsome =>
    cases hsome
    simp only [hrun, Bool.false_and, Bool.false_eq_true, if_false]
  · rfl

end

/-- A limit that begins is told in TRACK, SERVO, BUILD and HOLD (R103). -/
theorem State.driverIlimit_on (s : State) (t : Nat) {j : Nat} (hj : j < 6) :
    s.driverIlimit t j true = (s.wrField (Reg.excStatus t j) 2 1 1).raiseIf
      (!bitAt (s.rd (Reg.excStatus t j)) 2 && s.inRunOrHold) 0x3106 cDRIVER (6 * t + j) [] := by
  have hmode : (s.wrField (Reg.excStatus t j) 2 1 1).inRunOrHold = s.inRunOrHold := by
    simp only [State.inRunOrHold, s.modeCode_excStatus t _ _ _ hj]
  rw [← hmode]
  rfl

theorem State.driverIlimit_off (s : State) (t j : Nat) : s.driverIlimit t j false = s.wrField (Reg.excStatus t j) 2 1 0 := rfl

/-- Settles O9: each command leaves a still state still, so that its effect is all it has. -/
theorem driversFollow : Obligations.DriversFollow := by
  unfold Obligations.DriversFollow
  refine ⟨fun s t j hs _ _ hpending hrun => ?_, fun s t m hs _ _ => ⟨fun a hmode huser hrun => ⟨?_, fun tc hclosed hat => ?_⟩,
    fun a hmode huser hrun => ?_⟩, fun s dt t j hs _ hj => ⟨?_, ?_⟩⟩
  · exact State.next_up hs (State.amplitudeStep_pending hpending hrun) (State.still_modDriver _ _ _ _ hs) rfl
  · exact State.next_up hs (State.resetClose_of_running (State.chargeDriver_of hmode huser) hrun) (State.still_modAmp _ _ _ _ hs) rfl
  · exact State.next_up hs (State.resetOpen_of_running (State.chargeDriver_of hmode huser) hrun hclosed hat)
      (State.still_modAmp _ _ _ _ hs) rfl
  · have hd := State.chargeDriver_of hmode huser
    exact ⟨State.switchClosed_of_not_running hd hrun, State.next_up hs (State.resetClose_of_not_running hd hrun) hs rfl,
      State.next_up hs (State.resetOpen_of_not_running hd hrun) hs rfl⟩
  · have hlimit : ((s.advance dt).wrField (Reg.excStatus t j) 2 1 1).still = true := by rw [State.still_excStatus _ _ _ _ _ hj]; exact hs
    exact State.next_upAt hs ((s.advance dt).driverIlimit_on t hj) (State.still_raiseIf _ _ _ _ _ _ (by decide) hlimit)
      (State.outside_raiseIf _ _ _ _ _ _)
  · exact State.next_upAt hs ((s.advance dt).driverIlimit_off t j) (by rw [State.still_excStatus _ _ _ _ _ hj]; exact hs) rfl

end Sys2Proof.Machine
end

section
/-! PROOFS. The completion of INIT without a flash, over states in which a logic self-test runs (R89, R444, R455). -/

namespace Sys2Proof.Machine

/-! ### INIT during a logic self-test

INIT_COMPLETE gives every tile its supply by `State.tileOn`, under which a tile does not run while the scan of a logic self-test holds
it (R455). No device is in INIT with a self-test running, since reset ends it and one starts in TEST alone; but the statement is over
every state whose end of INIT would be still, and stillness looks at no self-test. -/

/-- INIT with every pin high, while a logic self-test is said to run. -/
def scannedRig : State :=
  { ({ mode := { inReset := false, resetPinLow := false } } : State).wr Reg.mode INIT with test := { running := some { cmd := 1, logic := true, start := 0 } } }

theorem scannedRig_ready : scannedRig.modeCode = INIT ∧ (scannedRig.wr Reg.mode CONFIGURE).still = true ∧
    scannedRig.rd Reg.bootTarget ≠ 1 ∧ scannedRig.mode.holdLow = false ∧ scannedRig.mode.clearAxLow = false ∧
    scannedRig.mode.clearLmLow = false ∧ scannedRig.mode.pfailLow = false := by decide +kernel

/-- TILE_0 runs in what a command answers. -/
def runsTile0 : Host.Outcome State Fault Refusal → Option Bool
  | .next r => some (r.tile 0).running
  | _ => none

theorem scannedRig_answer : runsTile0 (exec (.initComplete 0 0 0 0) scannedRig) = some false := by decide +kernel

/-- Refutes O23: in `scannedRig` INIT completes with its tiles held by the scan, where the statement has every tile running. -/
theorem not_initCompletes : ¬ Obligations.InitCompletes := by
  unfold Obligations.InitCompletes
  intro h
  obtain ⟨hmode, hstill, hboot, hhold, hclearAx, hclearLm, hpfail⟩ := scannedRig_ready
  obtain ⟨r, hexec, -, -, -, -, -, -, hruns, -⟩ := h scannedRig 0 0 0 hmode hstill hboot hhold hclearAx hclearLm hpfail
  have hanswer := scannedRig_answer
  rw [hexec, runsTile0, hruns 0 (by decide)] at hanswer
  exact absurd hanswer (by decide)

end Sys2Proof.Machine
end

section
/-! PROOFS. The ends of the calibration parts and CAL_DONE (R83, R91, R101, R126, R441). -/

namespace Sys2Proof.Machine

/-! ### Steps of a calibration that leave a still state still -/

/-- From `s` to `r` a still state stays still, and what holds the device in reset stays. -/
structure StillStep (s r : State) : Prop where
  still : s.still = true → r.still = true
  outside : r.outside = s.outside

namespace StillStep

variable {s r u : State}

theorem refl (s : State) : StillStep s s := ⟨id, rfl⟩

theorem trans (h : StillStep s r) (h' : StillStep r u) : StillStep s u := ⟨h'.still ∘ h.still, h'.outside.trans h.outside⟩

theorem ite {c : Prop} [Decidable c] (h : StillStep s r) (h' : StillStep s u) : StillStep s (if c then r else u) := by
  split
  · exact h
  · exact h'

theorem foldl {α : Type} {f : State → α → State} (l : List α) (h : ∀ r a, a ∈ l → StillStep r (f r a)) : StillStep s (l.foldl f s) :=
  foldl_of (P := StillStep s) l (refl s) fun r a ha hr => hr.trans (h r a ha)

theorem each {n : Nat} {f : State → Nat → State} (h : ∀ r i, i < n → StillStep r (f r i)) : StillStep s (each n s f) :=
  each_of (P := StillStep s) (refl s) fun r i hi hr => hr.trans (h r i hi)

theorem wr (k v : Nat) (hk : stillKey k = false) : StillStep s (s.wr k v) := ⟨fun h => by rw [s.still_wr v hk]; exact h, rfl⟩

theorem raise (code cls inst : Nat) (data : List Nat) (hc : levelOf code < 2) : StillStep s (s.raise code cls inst data) :=
  ⟨s.still_raise code cls inst data hc, s.outside_raise code cls inst data⟩

theorem raiseIf (b : Bool) (code cls inst : Nat) (data : List Nat) (hc : levelOf code < 2) :
    StillStep s (s.raiseIf b code cls inst data) :=
  ⟨s.still_raiseIf code cls inst data b hc, s.outside_raiseIf code cls inst data b⟩

theorem modObs (a : Nat) (f : Obs → Obs) : StillStep s (s.modObs a f) := ⟨id, rfl⟩

theorem modDriver (t j : Nat) (f : Driver → Driver) : StillStep s (s.modDriver t j f) := ⟨s.still_modDriver t j f, rfl⟩

/-- A tile whose calibration does not stand at its start asks nothing of the end of a command (R441). -/
theorem pastStart (t : Nat) (f : Tile → Tile) (hf : ∀ x, (f x).cal ≠ .start) : StillStep s (s.modTile t f) := by
  refine ⟨fun hs => ?_, rfl⟩
  have hcalm := State.Calm.of_still hs
  rw [State.still, Bool.and_eq_true] at hs ⊢
  refine ⟨(State.calm_iff _).2 { hcalm with cal := fun hmode i hi hstart => ?_ }, hs.2⟩
  rcases s.tile_modTile t i f with h | ⟨-, h⟩
  · rw [h] at hstart ⊢; exact hcalm.cal hmode i hi hstart
  · rw [h] at hstart; exact absurd hstart (hf _)

end StillStep

/-- A part of the calibration of a tile in CALIBRATE. -/
theorem State.calPartEnd_of {s : State} {t : Nat} (part : Nat) (gains : List Nat) (offsets : List Int) (sns devs : List Nat)
    (hmode : s.modeCode = CALIBRATE) (ht : t < 8) : s.calPartEnd t part gains offsets sns devs =
      if part = 2 then s.calGains t gains offsets sns else if part = 3 then s.calPhases t else if part = 4 then s.calDac t devs else s :=
  if_neg (by rintro (h | h) <;> omega)

/-! ### Part 2: the measured corrections (R83) -/

/-- From `s` to `r` nothing but tiles changes. -/
def State.TilesAlone (s r : State) : Prop := ∃ x : Vector Tile 8, r = { s with tiles := x }

namespace State.TilesAlone

variable {s r : State}

theorem refl (s : State) : s.TilesAlone s := ⟨s.tiles, rfl⟩

theorem modTile (h : s.TilesAlone r) (t : Nat) (f : Tile → Tile) : s.TilesAlone (r.modTile t f) := by
  obtain ⟨x, rfl⟩ := h
  exact ⟨_, rfl⟩

theorem regs (h : s.TilesAlone r) : r.regs = s.regs := by obtain ⟨x, rfl⟩ := h; rfl

/-- After a still state nothing but a calibration is to be carried on. -/
theorem settled (h : s.TilesAlone r) (hs : s.still = true) : r.Settled := by
  have hwords := State.words_of_still hs
  obtain ⟨x, rfl⟩ := h
  exact ⟨(State.still_running hs).2.2, (State.Calm.of_still hs).transition, hwords⟩

theorem inbox (h : s.TilesAlone r) (hs : s.still = true) : r.lock.inbox = [] := by
  obtain ⟨x, rfl⟩ := h
  exact (State.Calm.of_still hs).inbox

end State.TilesAlone

/-- What part 2 measured on a tile: that it has ended, and its amplifiers. -/
def Tile.gained (x : Tile) : Bool × Vector Amp 12 := (x.gainDone, x.amps)

section
variable (s : State) {t m : Nat}

theorem State.amp_modAmp_self (f : Amp → Amp) (ht : t < 8) (hm : m < 12) :
    ((s.modAmp t m f).tile t).amp m = f ((s.tile t).amp m) := by
  rw [State.modAmp, State.tile_modTile_self _ _ ht]
  simp [Tile.amp, hm]

theorem State.amp_modAmp_ne (f : Amp → Amp) (ht : t < 8) {i : Nat} (hm : m ≠ i) :
    ((s.modAmp t i f).tile t).amp m = (s.tile t).amp m := by
  rw [State.modAmp, State.tile_modTile_self _ _ ht]
  simp [Tile.amp, hm.symm]

variable {s} in
/-- Which amplifiers are in use is configured (R83). -/
theorem State.ampInUse_of_regs {r : State} (h : r.regs = s.regs) (t m : Nat) : r.ampInUse t m = s.ampInUse t m := by
  simp only [State.ampInUse, State.ampMode, State.pairUser, State.setpointUser, State.thermOn, State.readsPair, State.kind, State.rd, h]

variable (gains : List Nat) (offsets : List Int)

/-- An amplifier with its measured corrections. -/
def Amp.measured (gains : List Nat) (offsets : List Int) (m : Nat) (y : Amp) : Amp := { y with gain := gains[m]?, offset := offsets[m]? }

/-- Amplifier m takes its measured corrections where it is in use (R83): one amplifier of `State.calGains`. -/
def State.gainAmp (t m : Nat) : State := if !s.ampInUse t m then s else s.modAmp t m (Amp.measured gains offsets m)

/-- The tile once part 2 has ended, with the corrections of its sense receivers (R83). -/
def State.tileGains (t : Nat) (sns : List Nat) (x : Tile) : Tile :=
  { x with gainDone := true
           snsGain := Vector.ofFn fun (j : Fin 6) => if s.receiverInUse t j.val then sns[j.val]? else none
           snsOffset := Vector.ofFn fun (j : Fin 6) => if s.receiverInUse t j.val then offsets[12 + j.val]? else none }

theorem State.gained_tileGains (t : Nat) (sns : List Nat) (x : Tile) : (s.tileGains offsets t sns x).gained = (true, x.amps) := rfl

/-- Every amplifier of the tile, in ascending order. -/
def State.gainAmps (t : Nat) : State := each 12 s fun r m => r.gainAmp gains offsets t m

theorem State.calGains_of (sns : List Nat) (hcal : (s.tile t).cal = .start) (hgain : (s.tile t).gainDone = false) :
    s.calGains t gains offsets sns =
      (s.gainAmps gains offsets t).modTile t ((s.gainAmps gains offsets t).tileGains offsets t sns) := by
  unfold State.calGains
  rw [if_neg (by simp [hcal, hgain])]
  rfl

theorem State.gainAmp_used (h : s.ampInUse t m = true) : s.gainAmp gains offsets t m = s.modAmp t m (Amp.measured gains offsets m) := by
  simp [State.gainAmp, h]

theorem State.gainAmp_unused (h : s.ampInUse t m = false) : s.gainAmp gains offsets t m = s := by
  simp [State.gainAmp, h]

variable {s} in
theorem State.TilesAlone.gainAmp {r : State} (h : s.TilesAlone r) (i : Nat) : s.TilesAlone (r.gainAmp gains offsets t i) := by
  unfold State.gainAmp
  split
  · exact h
  · exact h.modTile t _

theorem State.tilesAlone_gainAmps : s.TilesAlone (s.gainAmps gains offsets t) :=
  each_of (P := s.TilesAlone) (.refl s) fun _ i _ hr => hr.gainAmp gains offsets i

theorem State.amp_gainAmp_ne (ht : t < 8) {i : Nat} (hm : m ≠ i) :
    ((s.gainAmp gains offsets t i).tile t).amp m = (s.tile t).amp m := by
  unfold State.gainAmp
  split
  · rfl
  · exact s.amp_modAmp_ne _ ht hm

/-- An amplifier in use has its measured corrections. -/
theorem State.amp_gainAmps_used (ht : t < 8) (hm : m < 12) (hused : s.ampInUse t m = true) :
    ((s.gainAmps gains offsets t).tile t).amp m = ((s.tile t).amp m).measured gains offsets m := by
  refine each_reach (P := fun r => s.TilesAlone r ∧ (r.tile t).amp m = (s.tile t).amp m)
    (Q := fun r => (r.tile t).amp m = ((s.tile t).amp m).measured gains offsets m) hm ⟨.refl s, rfl⟩
    (fun r i _ hi hr => ⟨hr.1.gainAmp gains offsets i, ?_⟩) (fun r hr => ?_) fun r i _ hi hr => ?_
  · rw [r.amp_gainAmp_ne _ _ ht hi.symm, hr.2]
  · rw [r.gainAmp_used _ _ ((State.ampInUse_of_regs hr.1.regs t m).trans hused), r.amp_modAmp_self _ ht hm, hr.2]
  · rw [r.amp_gainAmp_ne _ _ ht hi.symm, hr]

/-- An amplifier that is not in use stays as it was. -/
theorem State.amp_gainAmps_unused (ht : t < 8) (hunused : s.ampInUse t m = false) :
    ((s.gainAmps gains offsets t).tile t).amp m = (s.tile t).amp m := by
  refine (each_of (P := fun r => s.TilesAlone r ∧ (r.tile t).amp m = (s.tile t).amp m) ⟨.refl s, rfl⟩
    fun r i _ hr => ⟨hr.1.gainAmp gains offsets i, ?_⟩).2
  by_cases hi : m = i
  · subst hi
    rw [r.gainAmp_unused _ _ ((State.ampInUse_of_regs hr.1.regs t m).trans hunused), hr.2]
  · rw [r.amp_gainAmp_ne _ _ ht hi, hr.2]

end

/-! ### The end of the command that ends part 2 -/

section
variable (s : State)

theorem State.gained_modTile (t i : Nat) (f : Tile → Tile) (hf : ∀ x, (f x).gained = x.gained) :
    ((s.modTile t f).tile i).gained = (s.tile i).gained := by
  rcases s.tile_modTile t i f with h | ⟨-, h⟩
  · rw [h]
  · rw [h, hf]

theorem State.tiles_encFollow : s.encFollow.tiles = s.tiles := by
  refine each_of (P := fun r => r.tiles = s.tiles) rfl fun r k _ hr => ?_
  dsimp only
  have hstart : (r.encStart k).tiles = r.tiles := by unfold State.encStart; dsimp only; split <;> rfl
  split
  · exact hstart.trans hr
  · split
    · exact hr
    · split <;> exact hr

/-- The beginning of part 3 leaves what part 2 measured (R441). -/
theorem State.gained_calAdvance (i : Nat) : (s.calAdvance.tile i).gained = (s.tile i).gained := by
  unfold State.calAdvance
  split
  · rfl
  refine each_of (P := fun r => (r.tile i).gained = (s.tile i).gained) rfl fun r t _ hr => ?_
  dsimp only
  split
  · refine foldl_of (P := fun r => (r.tile i).gained = (s.tile i).gained) _ ?_ fun u a _ hu => hu
    refine (r.gained_modTile t i _ ?_).trans hr
    exact fun _ => rfl
  · exact hr

variable {s}

/-- Where nothing but the calibration waits, the end of a command leaves what part 2 measured. -/
theorem State.gained_done (h : s.Settled) (hinbox : s.lock.inbox = []) (i : Nat) : (s.done.tile i).gained = (s.tile i).gained := by
  have hdetect : s.encFollow.calAdvance.detect = s.encFollow.calAdvance := State.detect_of
    (((UseFrame.encFollow (k := Reg.canCfg) (fun _ => shownOnly_canCfg) s).trans (UseFrame.calAdvance _)).inbox hinbox)
  have hdefer : s.encFollow.calAdvance.updateDeferrals.tiles = s.encFollow.calAdvance.tiles := by
    have hframe : PoundFrame (fun _ => True) (fun _ => False) s.encFollow.calAdvance s.encFollow.calAdvance.updateDeferrals :=
      PoundFrame.updateDeferrals trivial
    have hrest := hframe.rest
    simp only [State.commitRest, Prod.mk.injEq] at hrest
    exact hrest.2.2.1
  have hsync (r : State) : r.syncTrigger.tiles = r.tiles := by
    unfold State.syncTrigger
    split
    · rfl
    · split <;> rfl
  have htiles : s.done.tiles = s.encFollow.calAdvance.tiles := by
    rw [State.Settled.done_eq h, State.finish, hdetect, hsync, hdefer]
  have htile {r u : State} (h : r.tiles = u.tiles) : r.tile i = u.tile i := by simp only [State.tile, h]
  rw [htile htiles, State.gained_calAdvance, htile s.tiles_encFollow]

@[simp] theorem State.tile_keep (s r : State) (i : Nat) : (s.keep r).tile i = r.tile i := id rfl

/-- CAL_PART_END of part 2, with the end of its command. -/
theorem State.calPartEnd_gains {t : Nat} (dt : Nat) (gains : List Nat) (offsets : List Int) (sns devs : List Nat) (hs : s.still = true)
    (hmode : s.modeCode = CALIBRATE) (ht : t < 8) (hcal : (s.tile t).cal = .start) (hgain : (s.tile t).gainDone = false) :
    ∃ r, exec (.calPartEnd dt t 2 gains offsets sns devs) s = .next r ∧ (r.tile t).gainDone = true ∧
      (r.tile t).amps = (((s.advance dt).gainAmps gains offsets t).tile t).amps := by
  have hpart : (s.advance dt).calPartEnd t 2 gains offsets sns devs =
      ((s.advance dt).gainAmps gains offsets t).modTile t (((s.advance dt).gainAmps gains offsets t).tileGains offsets t sns) :=
    ((s.advance dt).calPartEnd_of 2 gains offsets sns devs hmode ht).trans
      ((s.advance dt).calGains_of gains offsets sns hcal hgain)
  have halone := ((s.advance dt).tilesAlone_gainAmps gains offsets (t := t)).modTile t
    (((s.advance dt).gainAmps gains offsets t).tileGains offsets t sns)
  have hgained := State.gained_done (halone.settled hs) (halone.inbox hs) t
  rw [State.tile_modTile_self _ _ ht, State.gained_tileGains, Tile.gained, Prod.mk.injEq, ← hpart] at hgained
  refine ⟨_, congrArg Host.Outcome.next (State.upAt_of_still hs dt _), ?_, ?_⟩
  · rw [State.tile_keep]; exact hgained.1
  · rw [State.tile_keep]; exact hgained.2

end

/-! ### Part 3 (R101, R126) -/

section
variable (s : State)

theorem StillStep.calPhase (a key pair : Nat) (re im : Int) (hkey : stillKey key = false) :
    StillStep s (s.calPhase a key pair re im) := by
  unfold State.calPhase
  exact ite (raise _ _ _ _ (by decide)) (wr _ _ hkey)

theorem StillStep.staleCheck (t j : Nat) : StillStep s (s.staleCheck t j) := by
  unfold State.staleCheck
  exact (raiseIf _ _ _ _ _ (by decide)).trans (modDriver t j _)

theorem StillStep.reacquire (a : Nat) : StillStep s (s.reacquire a) := by
  unfold State.reacquire
  exact ite (refl s) (modObs a _)

/-- The mean phase of the sensed excitation of driver j comes into use, with the frequency it was taken at (R126). -/
def State.calDriver (t j : Nat) : State :=
  let d := s.driver t j
  if d.running then
    (s.wrS 16 (Reg.excPhaseCal t j) (Num.wrapTurn 16 (Num.rdiv (4096 * d.argRef + d.argSum) (4096 * 2 ^ 32)))).wr (Reg.calFreq t j)
      (s.rd (Reg.excFreq t j))
  else s

/-- The phases and amplitudes that AXIS_a has measured come into use (R101, R126). -/
def State.calAxis (a : Nat) : State :=
  if !s.axisLive a ∨ (s.axis a).obs.calSeen < 4096 then s else
    let o := (s.axis a).obs
    let s := s.calPhase a (Reg.demodPhaseCal a) (s.rd (Reg.pairPrimary a)) o.phRe o.phIm
    let s := s.wr (Reg.ampLearned a) (min (rootMean o.sumSq) (2 ^ 32 - 1))
    if s.kind a = 2 then
      let s := s.calPhase a (Reg.demodPhaseCalFine a) (s.rd (Reg.pairFine a)) o.phReF o.phImF
      s.wr (Reg.ampLearnedFine a) (min (rootMean o.sumSqFine) (2 ^ 32 - 1))
    else s

/-- What part 3 leaves, but for the part that follows. -/
def State.calMeasured (t : Nat) : State :=
  (axesOf t).foldl State.reacquire
    (each 6 ((axesOf t).foldl State.calAxis (each 6 s fun r j => r.calDriver t j)) fun r j => r.staleCheck t j)

theorem State.calPhases_of {t : Nat} (hcal : (s.tile t).cal = .phases) (hcount : 4096 ≤ (s.tile t).calCount) :
    s.calPhases t = (s.calMeasured t).modTile t fun x => { x with cal := .dac } := by
  unfold State.calPhases
  rw [if_neg (by rintro (h | h); exacts [h hcal, Nat.not_lt.2 hcount h])]
  rfl

theorem StillStep.calDriver {t j : Nat} (ht : t < 8) (hj : j < 6) : StillStep s (s.calDriver t j) := by
  unfold State.calDriver
  exact ite ((wr _ _ (stillKey_regKey (by omega) (by omega))).trans (wr _ _ (stillKey_regKey (by omega) (by omega)))) (refl s)

theorem StillStep.calAxis (a : Nat) : StillStep s (s.calAxis a) := by
  unfold State.calAxis
  refine ite (refl s) (trans ((calPhase s _ _ _ _ _ ?_).trans (wr _ _ ?_)) (ite ((calPhase _ _ _ _ _ _ ?_).trans (wr _ _ ?_)) (refl _)))
    <;> exact stillKey_regKey (by omega) (by omega)

theorem StillStep.calMeasured {t : Nat} (ht : t < 8) : StillStep s (s.calMeasured t) :=
  (((each fun r _ hj => calDriver r ht hj).trans (foldl _ fun r a _ => calAxis r a)).trans (each fun r j _ => staleCheck r t j)).trans
    (foldl _ fun r a _ => reacquire r a)

end

/-! ### Part 4: the self-check of the outputs (R91) -/

section
variable (s : State) (devs : List Nat) (t : Nat)

/-- The deviation of output k of the tile fails its check (R91). -/
def State.deviates (k : Nat) : Bool := decide (s.rd (Reg.rbLimit (6 * t + k)) * 1000 < 4 * devs.getD k 0)

/-- The check of output k, where it is driven: one output of `State.calDac`. -/
def State.checkOutput (k : Nat) : State :=
  if (s.axis (6 * t + k)).axo.highZ then s else
    (s.wr (Reg.axoCheck (6 * t + k)) (bit (s.deviates devs t k))).raiseIf (s.deviates devs t k) 0x3605 cAXIS (6 * t + k)
      (dU 4 (devs.getD k 0))

/-- Every output of the tile, in ascending order. -/
def State.checkOutputs : State := each 6 s fun r k => r.checkOutput devs t k

/-- What CAL_VALID and the corrections of a tile become as its calibration ends (R91). -/
def State.endCal (good : Bool) : State :=
  let r := s.modTile t fun x => { x with cal := .done }
  if good then r.wr (Reg.calValid t) 1 else if r.rd (Reg.calValid t) = 0 then r.dropGains t else r

variable {t} in
theorem State.calDac_of (hcal : (s.tile t).cal = .dac) :
    s.calDac t devs = (s.checkOutputs devs t).endCal t (!((s.checkOutputs devs t).tile t).calBad) := by
  unfold State.calDac
  rw [if_neg (not_not_intro hcal)]
  rfl

theorem State.checkOutput_driven {k : Nat} (h : (s.axis (6 * t + k)).axo.highZ = false) :
    s.checkOutput devs t k = (s.wr (Reg.axoCheck (6 * t + k)) (bit (s.deviates devs t k))).raiseIf (s.deviates devs t k) 0x3605 cAXIS
      (6 * t + k) (dU 4 (devs.getD k 0)) := by
  simp [State.checkOutput, h]

theorem StillStep.checkOutput (k : Nat) : StillStep s (s.checkOutput devs t k) := by
  unfold State.checkOutput
  exact ite (refl s) ((wr _ _ (stillKey_regKey (by omega) (by omega))).trans (raiseIf _ _ _ _ _ (by decide)))

theorem StillStep.checkOutputs : StillStep s (s.checkOutputs devs t) := each fun r k _ => checkOutput r devs t k

theorem StillStep.endCal (good : Bool) : StillStep s (s.endCal t good) := by
  have hdone : StillStep s (s.modTile t fun x => { x with cal := .done }) := pastStart t _ fun _ => nofun
  have hdrop (r : State) : StillStep r (r.dropGains t) := ⟨r.still_modTile t _ fun _ => ⟨rfl, rfl⟩, rfl⟩
  unfold State.endCal
  exact hdone.trans (ite (wr _ _ (stillKey_regKey (by omega) (by omega))) (ite (hdrop _) (refl _)))

/-- What the check of one output leaves of the tile's: its units, its limits and CAL_VALID, and the checks of the other outputs. -/
structure State.OutputsKept (P : Nat → Prop) (r : State) : Prop where
  axes : r.axes = s.axes
  tiles : r.tiles = s.tiles
  regs : ∀ k, k ≠ Reg.lostCount → ¬ P k → r.rd k = s.rd k

variable {s}

theorem State.OutputsKept.checkOutput {P : Nat → Prop} {r : State} (h : s.OutputsKept P r) {k : Nat} (hk : P (Reg.axoCheck (6 * t + k))) :
    s.OutputsKept P (r.checkOutput devs t k) := by
  cases hz : (r.axis (6 * t + k)).axo.highZ
  · rw [r.checkOutput_driven devs t hz]
    refine ⟨by simpa using h.axes, by simpa using h.tiles, fun j hlost hj => ?_⟩
    rw [State.rd_raiseIf _ _ _ _ _ _ (by decide) hlost, State.rd_wr_ne _ _ (by rintro rfl; exact hj hk), h.regs j hlost hj]
  · simpa [State.checkOutput, hz] using h

/-- The checks of the outputs write those alone. -/
theorem State.outputsKept_checkOutputs : s.OutputsKept (fun k => ∃ i, k = Reg.axoCheck (6 * t + i)) (s.checkOutputs devs t) :=
  each_of (P := s.OutputsKept _) ⟨rfl, rfl, fun _ _ _ => rfl⟩ fun _ k _ hr => hr.checkOutput devs t ⟨k, rfl⟩

/-- AXO_CHECK of a driven output tells whether it deviates (R91). -/
theorem State.axoCheck_checkOutputs {k : Nat} (hk : k < 6) (h : (s.axis (6 * t + k)).axo.highZ = false) :
    (s.checkOutputs devs t).rd (Reg.axoCheck (6 * t + k)) = bit (s.deviates devs t k) := by
  have hlost (i : Nat) : Reg.axoCheck i ≠ Reg.lostCount := regKey_ne (by decide) (by decide) (by omega)
  have hother {i : Nat} (hi : i ≠ k) : Reg.axoCheck (6 * t + k) ≠ Reg.axoCheck (6 * t + i) := by
    simp only [Reg.axoCheck, regKey]; omega
  have hlimit (i : Nat) : Reg.rbLimit (6 * t + k) ≠ Reg.axoCheck i := by simp only [Reg.axoCheck, Reg.rbLimit, regKey]; omega
  refine each_reach (P := s.OutputsKept fun j => ∃ i, j = Reg.axoCheck (6 * t + i))
    (Q := fun r => r.rd (Reg.axoCheck (6 * t + k)) = bit (s.deviates devs t k)) hk ⟨rfl, rfl, fun _ _ _ => rfl⟩
    (fun r i _ _ hr => hr.checkOutput devs t ⟨i, rfl⟩) (fun r hr => ?_) fun r i _ hi hr => ?_
  · have hdriven : (r.axis (6 * t + k)).axo.highZ = false := by simpa only [State.axis, hr.axes] using h
    have hdeviates : r.deviates devs t k = s.deviates devs t k := by
      rw [State.deviates, hr.regs _ (regKey_ne (by decide) (by decide) (by omega)) (by rintro ⟨i, hi⟩; exact hlimit _ hi)]
      rfl
    rw [r.checkOutput_driven devs t hdriven, State.rd_raiseIf _ _ _ _ _ _ (by decide) (hlost _), State.rd_wr_self, hdeviates]
  · have hkept := (⟨rfl, rfl, fun _ _ _ => rfl⟩ : r.OutputsKept (· = Reg.axoCheck (6 * t + i)) r).checkOutput devs t (k := i) rfl
    rw [hkept.regs _ (hlost _) (hother hi), hr]

variable (s) {t}

theorem State.cal_endCal (good : Bool) (ht : t < 8) : ((s.endCal t good).tile t).cal = .done := by
  have hdone : ((s.modTile t fun x => { x with cal := .done }).tile t).cal = .done := by rw [State.tile_modTile_self _ _ ht]
  unfold State.endCal
  dsimp only
  split
  · exact hdone
  · split
    · rw [State.dropGains, State.tile_modTile_self _ _ ht]; exact hdone
    · exact hdone

theorem State.rd_endCal_ne (good : Bool) {k : Nat} (hk : k ≠ Reg.calValid t) : (s.endCal t good).rd k = s.rd k := by
  unfold State.endCal
  dsimp only
  split
  · exact State.rd_wr_ne _ _ hk
  · split <;> rfl

theorem State.calValid_endCal_good : (s.endCal t true).rd (Reg.calValid t) = 1 := State.rd_wr_self _ _ _

theorem State.calValid_endCal_bad : (s.endCal t false).rd (Reg.calValid t) = s.rd (Reg.calValid t) := by
  unfold State.endCal
  dsimp only
  rw [if_neg (by decide)]
  split <;> rfl

end

/-! ### CAL_DONE -/

theorem State.calDone_of {s : State} (hmode : s.modeCode = CALIBRATE) (htiles : ∀ i, i < 8 → (s.tile i).cal = .done)
    (hstate : s.rd Reg.calState = 1) (hmem : s.memState ≠ memTRAINING) :
    s.calDone = (s.wr Reg.calState 2).raise 0x2008 cDEVICE 0 (dU 4 (lateNs s.mode.calStart s.lt / 1000)) := by
  have hall : ((List.range 8).all fun t => (s.tile t).cal == .done) = true := by
    simpa only [List.all_eq_true, List.mem_range, beq_iff_eq] using htiles
  exact if_pos ⟨hmode, hstate, hall, hmem⟩

/-- What a command answers whose effect leaves a still state still. -/
theorem StillStep.next_upAt {s r : State} {f : State → State} {dt : Nat} (h : StillStep (s.advance dt) r) (hs : s.still = true)
    (he : f (s.advance dt) = r) : (Host.Outcome.next (s.upAt dt f) : Host.Outcome State Fault Refusal) = .next r :=
  State.next_upAt hs he (h.still hs) h.outside

/-- Settles O24: the end of part 2 by what the end of its command leaves; those of parts 3 and 4 and CAL_DONE leave a still state
still, so that their effect is all the command has. -/
theorem calibrationEnds : Obligations.CalibrationEnds := by
  unfold Obligations.CalibrationEnds
  intro s dt t gains offsets sns devs hs hmode ht
  have hpart (part : Nat) := (s.advance dt).calPartEnd_of part gains offsets sns devs hmode ht
  refine ⟨fun hcal hgain => ?_, fun hcal hcount => ?_, fun hcal => ?_, fun htiles hstate hmem => ?_⟩
  · obtain ⟨r, hexec, hdone, hamps⟩ := State.calPartEnd_gains dt gains offsets sns devs hs hmode ht hcal hgain
    have hamp (m : Nat) : (r.tile t).amp m = (((s.advance dt).gainAmps gains offsets t).tile t).amp m := by
      simp only [Tile.amp, hamps]
    refine ⟨r, hexec, hdone, fun m hm hused => ?_, fun m _ hunused => ?_⟩
    · rw [hamp, State.amp_gainAmps_used (s.advance dt) gains offsets ht hm hused]
      exact ⟨rfl, rfl⟩
    · rw [hamp, State.amp_gainAmps_unused (s.advance dt) gains offsets ht hunused]
      rfl
  · have hstep := (StillStep.calMeasured (s.advance dt) ht).trans
      (StillStep.pastStart t (fun x => { x with cal := .dac }) fun _ => nofun)
    refine ⟨_, hstep.next_upAt hs ((hpart 3).trans ((s.advance dt).calPhases_of hcal hcount)), ?_⟩
    rw [State.tile_modTile_self _ _ ht]
  · have hkept := (s.advance dt).outputsKept_checkOutputs devs t
    have hbad : (((s.advance dt).checkOutputs devs t).tile t).calBad = (s.tile t).calBad := by
      simp only [State.tile, hkept.tiles]; rfl
    have hstep := (StillStep.checkOutputs (s.advance dt) devs t).trans (StillStep.endCal _ t (!(s.tile t).calBad))
    refine ⟨_, hstep.next_upAt hs ((hpart 4).trans (((s.advance dt).calDac_of devs hcal).trans (by rw [hbad]))),
      State.cal_endCal _ _ ht, fun hgood => ?_, fun hfault => ?_, fun k hk hdriven => ?_⟩
    · rw [hgood]; exact State.calValid_endCal_good _
    · rw [hfault]
      refine (State.calValid_endCal_bad _).trans (hkept.regs _ (regKey_ne (by decide) (by decide) (by omega)) ?_)
      rintro ⟨i, hi⟩
      simp only [Reg.calValid, Reg.axoCheck, regKey] at hi
      omega
    · rw [State.rd_endCal_ne _ _ (by simp only [Reg.calValid, Reg.axoCheck, regKey]; omega)]
      exact State.axoCheck_checkOutputs devs t hk hdriven
  · exact ((StillStep.wr Reg.calState 2 (stillKey_regKey (by decide) (by decide))).trans
      (StillStep.raise _ _ _ _ (by decide))).next_upAt hs (State.calDone_of (s := s.advance dt) hmode htiles hstate hmem)

end Sys2Proof.Machine
end

section
/-! PROOFS. What the units of a compute window and of its output instant leave alone (R165, R168, R184). -/

namespace Sys2Proof.Machine

/-! ### The registers and the axis of a unit -/

/-- What neither a unit nor what it reports changes, beside registers, axes, the log and the lock-keeper. -/
def State.windowRest (s : State) := (s.lt, s.mode, s.pounds, s.tiles, s.engines, s.legacy, s.monPending, s.pending)

/-- The registers that a unit of AXIS_a may write: those of the axis but for its service state, the axes with a latched fault and the
count of lost records. -/
def unitKey (a k : Nat) : Prop :=
  k = Reg.lostCount ∨ k = Reg.axesFaulted ∨ keyIndex k / 0x40 = 0xC0 + a ∧ k ≠ Reg.parkState a

theorem unitKey_axis {a i c : Nat} (hi : i / 0x40 = 0xC0 + a) (hc : c < 256) (hp : i ≠ 0x302C + 0x40 * a ∨ c ≠ 2) :
    unitKey a (regKey i c) :=
  Or.inr (Or.inr ⟨by simp only [keyIndex, regKey]; omega, regKey_ne hc (by decide) hp⟩)

/-- The units of other axes write no register of AXIS_a. -/
theorem not_unitKey_own {a b i c : Nat} (hi : i / 0x40 = 0xC0 + a) (hc : c < 256) (hb : b ≠ a) : ¬ unitKey b (regKey i c) := by
  simp only [unitKey, keyIndex, Reg.lostCount, Reg.axesFaulted, regKey]
  omega

/-- No unit writes a register that belongs to no axis, but for the two that they share. -/
theorem not_unitKey_shared {b i c : Nat} (hi : i < 0x3000 ∨ 0x3C00 ≤ i) (hc : c < 256) (hb : b < 48) (hs : i < 0x2020 ∨ 0x2021 < i) :
    ¬ unitKey b (regKey i c) := by
  simp only [unitKey, keyIndex, Reg.lostCount, Reg.axesFaulted, regKey]
  omega

theorem stillKey_of_unitKey {a k : Nat} (ha : a < 48) (h : unitKey a k) : stillKey k = false := by
  rcases h with rfl | rfl | ⟨hk, hp⟩
  · exact stillKey_lostCount
  · exact stillKey_regKey (by decide) (by omega)
  · obtain ⟨i, c, hc, rfl⟩ : ∃ i c, c < 256 ∧ k = regKey i c := ⟨k / 256, k % 256, Nat.mod_lt _ (by decide), (Nat.div_add_mod' k 256).symm⟩
    simp only [keyIndex, Reg.parkState, regKey, ne_eq] at hk hp
    exact stillKey_regKey hc ⟨by omega, by omega, by omega⟩

/-! ### Frames -/

/-- From `s` to `r` only units of axes in `A` act: no other axis and no register but theirs changes. Where `quiet` holds nothing
meets the lock-keeper. -/
structure UnitFrame (quiet : Prop) (A : Nat → Prop) (s r : State) : Prop where
  rest : r.windowRest = s.windowRest
  regs : ∀ k, (∀ a, A a → ¬ unitKey a k) → r.rd k = s.rd k
  axes : ∀ b, ¬ A b → r.axis b = s.axis b
  lock : quiet → r.lock = s.lock

namespace UnitFrame

variable {quiet : Prop} {A B : Nat → Prop} {s r u : State}

theorem refl (s : State) : UnitFrame quiet A s s := ⟨rfl, fun _ _ => rfl, fun _ _ => rfl, fun _ => rfl⟩

theorem trans (h : UnitFrame quiet A s r) (h' : UnitFrame quiet A r u) : UnitFrame quiet A s u where
  rest := h'.rest.trans h.rest
  regs k hk := (h'.regs k hk).trans (h.regs k hk)
  axes b hb := (h'.axes b hb).trans (h.axes b hb)
  lock hq := (h'.lock hq).trans (h.lock hq)

theorem mono (h : UnitFrame quiet A s r) (hAB : ∀ a, A a → B a) : UnitFrame quiet B s r where
  rest := h.rest
  regs k hk := h.regs k fun a ha => hk a (hAB a ha)
  axes b hb := h.axes b fun ha => hb (hAB b ha)
  lock := h.lock

theorem ite {c : Prop} [Decidable c] (h : c → UnitFrame quiet A s r) (h' : ¬ c → UnitFrame quiet A s u) :
    UnitFrame quiet A s (if c then r else u) := by
  split
  · exact h ‹_›
  · exact h' ‹_›

theorem when {c : Prop} [Decidable c] (h : c → UnitFrame quiet A s r) : UnitFrame quiet A s (if c then r else s) := ite h fun _ => refl s

theorem foldl {α : Type} {f : State → α → State} (l : List α) (h : ∀ r a, a ∈ l → UnitFrame quiet A r (f r a)) :
    UnitFrame quiet A s (l.foldl f s) :=
  foldl_of (P := UnitFrame quiet A s) l (refl s) fun r a ha hr => hr.trans (h r a ha)

theorem each {n : Nat} {f : State → Nat → State} (h : ∀ r i, i < n → UnitFrame quiet A r (f r i)) :
    UnitFrame quiet A s (each n s f) :=
  each_of (P := UnitFrame quiet A s) (refl s) fun r i hi hr => hr.trans (h r i hi)

theorem lt (h : UnitFrame quiet A s r) : r.lt = s.lt := congrArg (·.1) h.rest
theorem mode (h : UnitFrame quiet A s r) : r.mode = s.mode := congrArg (·.2.1) h.rest
theorem engines (h : UnitFrame quiet A s r) : r.engines = s.engines := congrArg (·.2.2.2.2.1) h.rest
theorem engine (h : UnitFrame quiet A s r) (t : Nat) : r.engine t = s.engine t := by simp only [State.engine, h.engines]

theorem outside (h : UnitFrame quiet A s r) : r.outside = s.outside :=
  congrArg (fun x => (x.2.2.2.2.2.2.2, x.2.1.inReset, x.2.1.resetPinLow, x.2.1.supplyBad)) h.rest

/-- A still state stays still under quiet units. -/
theorem still (h : UnitFrame quiet A s r) (hq : quiet) (hA : ∀ a, A a → a < 48) (hs : s.still = true) : r.still = true := by
  have hrest := h.rest
  simp only [State.windowRest, Prod.mk.injEq] at hrest
  obtain ⟨-, hmode, hpounds, htiles, -, hlegacy, hmon, -⟩ := hrest
  refine State.still_of hs (fun k hk => h.regs k fun a ha hu => ?_) (by rw [hmode]) (by rw [hmode]) hmon (by rw [h.lock hq])
    (by rw [h.lock hq]) (fun k => by simp only [State.enc, hlegacy, and_self]) (fun p => by simp only [State.pound, hpounds, and_self])
    fun i => by simp only [State.tile, htiles, and_self]
  rw [stillKey_of_unitKey (hA a ha) hu] at hk
  cases hk

/-- What the units of other axes leave of an axis, and of what belongs to none. -/
theorem rd_own {a i c : Nat} (h : UnitFrame quiet A s r) (hA : ∀ b, A b → b < 48 ∧ b ≠ a) (hi : i / 0x40 = 0xC0 + a) (hc : c < 256) :
    r.rd (regKey i c) = s.rd (regKey i c) :=
  h.regs _ fun b hb => not_unitKey_own hi hc (hA b hb).2

theorem rd_shared {i c : Nat} (h : UnitFrame quiet A s r) (hA : ∀ b, A b → b < 48) (hi : i < 0x2020 ∨ 0x2021 < i ∧ i < 0x3000 ∨ 0x3C00 ≤ i)
    (hc : c < 256) : r.rd (regKey i c) = s.rd (regKey i c) :=
  h.regs _ fun b hb => not_unitKey_shared (by omega) hc (hA b hb) (by omega)

/-! ### The operations of a unit -/

section
variable {a : Nat}

/-- A write of one of the axis's own registers. -/
theorem wr {i c : Nat} (v : Nat) (hi : i / 0x40 = 0xC0 + a := by omega) (hc : c < 256 := by decide)
    (hp : i ≠ 0x302C + 0x40 * a ∨ c ≠ 2 := by omega) : UnitFrame quiet (· = a) s (s.wr (regKey i c) v) where
  rest := id rfl
  regs j hj := s.rd_wr_ne v (by rintro rfl; exact hj a rfl (unitKey_axis hi hc hp))
  axes _ _ := rfl
  lock _ := rfl

theorem modAxis (f : Axis → Axis) : UnitFrame quiet (· = a) s (s.modAxis a f) where
  rest := id rfl
  regs _ _ := rfl
  axes _ hb := s.axis_modAxis_ne f hb
  lock _ := rfl

theorem setCode (c : Int) : UnitFrame quiet (· = a) s (s.setCode a c) := by
  unfold State.setCode State.noteCode State.modAxo
  exact (modAxis _).trans (modAxis _)

theorem raise (code cls inst : Nat) (data : List Nat) (hc : levelOf code < 2) :
    UnitFrame quiet (· = a) s (s.raise code cls inst data) where
  rest := by simp [State.windowRest]
  regs k hk := s.rd_raise code cls inst data hc (by rintro rfl; exact hk a rfl (Or.inl rfl))
  axes _ _ := by simp [State.axis]
  lock _ := s.lock_raise code cls inst data hc

theorem raiseIf (b : Bool) (code cls inst : Nat) (data : List Nat) (hc : levelOf code < 2) :
    UnitFrame quiet (· = a) s (s.raiseIf b code cls inst data) := when fun _ => raise code cls inst data hc

end

end UnitFrame

/-! ### The axes of an engine -/

theorem eq_of_mem_axesOf {t a : Nat} (h : a ∈ axesOf t) : ∃ k, k < 6 ∧ a = 6 * t + k := by
  simp only [axesOf, List.mem_cons, List.not_mem_nil, or_false] at h
  exact ⟨a - 6 * t, by omega, by omega⟩

/-- The axes but one. -/
def otherAxes (a b : Nat) : Prop := b < 48 ∧ b ≠ a

end Sys2Proof.Machine
end

section
/-! PROOFS. OUTPUT_INSTANT: completed, idle and abandoned units at t_out (R168, R184, R191, R236). -/

namespace Sys2Proof.Machine

section
variable {quiet : Prop} (s : State) {t a : Nat}

@[simp] theorem State.axis_raise (code cls inst : Nat) (data : List Nat) (b : Nat) : (s.raise code cls inst data).axis b = s.axis b := by
  simp [State.axis]

@[simp] theorem State.axis_raiseIf (c : Bool) (code cls inst : Nat) (data : List Nat) (b : Nat) :
    (s.raiseIf c code cls inst data).axis b = s.axis b := by
  simp [State.axis]

/-- A write of another sub-entry. -/
theorem State.rd_wr_apart {i c i' c' : Nat} (v : Nat) (hc : c < 256 := by decide) (hc' : c' < 256 := by decide)
    (h : i ≠ i' ∨ c ≠ c' := by omega) : (s.wr (regKey i' c') v).rd (regKey i c) = s.rd (regKey i c) :=
  s.rd_wr_ne v (regKey_ne hc hc' h)

/-! ### An abandoned unit (R184, R185) -/

/-- A fault of AXIS_a is kept in its fault record and among the axes with a fault, and changes no other register but LOST_COUNT. -/
theorem State.rd_raiseUnit_fault (code cls inst : Nat) (data : List Nat) (ts : Lt) (trig : List (Nat × Nat)) {j : Nat}
    (hlost : j ≠ Reg.lostCount) (hfaulted : j ≠ Reg.axesFaulted) (hlast : j ≠ Reg.lastFault a) (hcount : j ≠ Reg.faultCount a) :
    (s.raiseUnit 2 code cls inst a data ts trig).rd j = s.rd j := by
  have hlatch (r : State) (e : Event) (hlevel : e.level = 2) (hunit : e.unit = a) : (r.latch e).rd j = r.rd j := by
    unfold State.latch
    rw [if_pos hlevel, if_pos (by omega), hunit]
    exact (State.rd_wr_ne _ _ hcount).trans ((State.rd_wr_ne _ _ hlast).trans (State.rd_wr_ne _ _ hfaulted))
  have hdeliver (r : State) (e : Event) : (r.deliver e).rd j = r.rd j := by
    obtain ⟨regs, l, he, hregs, -⟩ := r.deliver_spec e
    rw [he]
    exact hregs j hlost
  unfold State.raiseUnit
  dsimp only
  split
  · rfl
  · exact (hlatch _ _ rfl rfl).trans (hdeliver _ _)

/-- Event 0x3401 is a fault of its axis. -/
theorem State.rd_raiseIf_missed (b : Bool) (data : List Nat) {j : Nat} (hlost : j ≠ Reg.lostCount) (hfaulted : j ≠ Reg.axesFaulted)
    (hlast : j ≠ Reg.lastFault a) (hcount : j ≠ Reg.faultCount a) : (s.raiseIf b 0x3401 cAXIS a data).rd j = s.rd j := by
  unfold State.raiseIf
  split
  · exact s.rd_raiseUnit_fault _ _ _ _ _ _ hlost hfaulted hlast hcount
  · rfl

theorem UnitFrame.raiseIf_missed (b : Bool) (data : List Nat) : UnitFrame False (· = a) s (s.raiseIf b 0x3401 cAXIS a data) where
  rest := by simp [State.windowRest]
  regs k hk := s.rd_raiseIf_missed b data (by rintro rfl; exact hk a rfl (Or.inl rfl)) (by rintro rfl; exact hk a rfl (Or.inr (Or.inl rfl)))
    (by rintro rfl; exact hk a rfl (unitKey_axis (by omega) (by decide) (by omega)))
    (by rintro rfl; exact hk a rfl (unitKey_axis (by omega) (by decide) (by omega)))
  axes _ _ := s.axis_raiseIf b _ _ _ _ _
  lock := False.elim

theorem UnitFrame.missAxis (t a : Nat) : UnitFrame False (· = a) s (s.missAxis t a) := by
  unfold State.missAxis
  exact (((((wr _).trans (wr _)).trans (wr _)).trans (modAxis _)).trans (raiseIf _ _ _ _ _ (by decide))).trans
    (UnitFrame.raiseIf_missed _ _ _)

/-- The axis of an abandoned unit keeps its states and its code. -/
theorem State.axis_missAxis (ha : a < 48) : (s.missAxis t a).axis a = { s.axis a with pending := none } := by
  simp only [State.missAxis, State.axis_raiseIf, State.axis_modAxis_self _ _ ha, State.bump, State.axis_wr]

theorem State.deadlineMiss_missAxis :
    (s.missAxis t a).rd (Reg.deadlineMiss a) = min (s.rd (Reg.deadlineMiss a) + 1) (2 ^ 32 - 1) := by
  have hshared {i : Nat} (hi : i < 0x3000) {c : Nat} (hc : c < 256) : Reg.deadlineMiss a ≠ regKey i c := regKey_ne (by decide) hc (by omega)
  have hown {i c : Nat} (hc : c < 256) (h : 0x3026 + 0x40 * a ≠ i ∨ 1 ≠ c) : Reg.deadlineMiss a ≠ regKey i c := regKey_ne (by decide) hc h
  unfold State.missAxis
  dsimp only
  rw [State.rd_raiseIf_missed _ _ _ (hshared (by decide) (by decide)) (hshared (by decide) (by decide)) (hown (by decide) (by omega))
      (hown (by decide) (by omega)), State.rd_raiseIf _ _ _ _ _ _ (by decide) (hshared (by decide) (by decide)), State.rd_modAxis,
    State.rd_wr_apart, State.bump, State.rd_wr_apart]
  exact State.rd_wr_self _ _ _

/-! ### A completed unit whose law does not run -/

theorem UnitFrame.idleAxis (a : Nat) : UnitFrame quiet (· = a) s (s.idleAxis a) := by
  unfold State.idleAxis
  exact (((wr _).trans (wr _)).trans (wr _)).trans (wr _)

theorem State.counts_idleAxis : (s.idleAxis a).rd (Reg.missRun a) = 0 ∧ (s.idleAxis a).rd (Reg.cyclesMeas a) = 4 := by
  unfold State.idleAxis
  dsimp only
  constructor
  · rw [State.rd_wr_apart, State.rd_wr_apart, State.rd_wr_apart, State.rd_wr_self]
  · rw [State.rd_wr_apart, State.rd_wr_apart, State.rd_wr_self]

/-! ### A completed unit of a law that runs, in its parts -/

/-- An axis with the states that its completed unit has left, of a law that still runs and has not started since. -/
def Axis.merged (x : Axis) (p : Pending) : Axis :=
  { x with
    pending := none
    law := mergeLaw x.law p.law
    weir := if x.law.run != .stopped && !x.law.preset then
        { p.weir with target := x.weir.target, targetVel := x.weir.targetVel, hold := x.weir.hold,
                      pulseBase := x.weir.pulseBase, pulseCount := x.weir.pulseCount,
                      brake := if x.law.run == .braking then (if x.weir.brake.isSome then x.weir.brake else p.weir.brake) else none }
      else x.weir }

/-- The output takes the code of a unit that nothing holds back (R236, R237, R243). -/
def State.driveUnit (s : State) (a : Nat) (c : Int) (free : Bool) : State :=
  if free && !(s.axis a).axo.highZ && !s.rangeBusy a then s.setCode a c else s

/-- The reports of a completed unit (R140, R185, R198). -/
def State.reportUnit (s : State) (a : Nat) (p : Pending) (status : Nat) : State :=
  let s := s.wr (Reg.lawStatus a) status
  let s := (s.wrS 32 (Reg.uCmd a) (Num.satI 32 (Num.rshift p.uk 12))).wrS 32 (Reg.aCmd a) (Num.fitI 32 (Num.rshift p.aCmd 16))
  let s := (s.wr (Reg.missRun a) 0).wr (Reg.cyclesMeas a) (min p.cycles 65535)
  s.wr (Reg.cyclesMax a) (max (s.rd (Reg.cyclesMax a)) (min p.cycles 65535))

/-- A fade whose last period completes ends (R191). -/
def State.endFade (s : State) (a : Nat) (p : Pending) : State :=
  if p.fadeDone && (s.axis a).law.incoming.isSome then
    let s := s.modLaw a Law.completeFade
    s.raise 0x3411 cAXIS a (dU 4 (bankCrc (s.axis a).law.active))
  else s

/-- The integrators of the law that is ACTIVE (R195). -/
def State.showInteg (s : State) (a : Nat) : State :=
  let st := (s.axis a).law.st
  (s.wrS 32 (Reg.integ1 a) (st.integ1 / 2 ^ 8)).wrS 32 (Reg.integ2 a) (st.integ2 / 2 ^ 8)

/-- The law of AXIS_a runs, has not started since its unit was computed, and CLEAR_AX_N does not hold its output. -/
def State.unitFree (s : State) (t a : Nat) : Bool := (s.axis a).law.run != .stopped && !(s.axis a).law.preset && !s.pinStops t

/-- LAW_STATUS of a completed unit. -/
def State.unitStatus (s : State) (a : Nat) (p : Pending) : Nat :=
  putBits p.status 2 1 (if p.preset then bitsAt p.status 2 1 else bitsAt (s.rd (Reg.lawStatus a)) 2 1) +
    2 * bit ((s.axis a).law.run != .stopped) + 1

/-- A_CMD of a completed unit waits for the observer (R140). -/
def State.feedUnit (s : State) (t a : Nat) (b : Lt) (p : Pending) : State :=
  s.modObs a fun o => { o with feed := ((b + ns (s.loopNs t), b + 2 * ns (s.loopNs t), p.aCmd) :: o.feed).take 4 }

theorem State.outputAxis_eq (b : Lt) (p : Pending) : s.outputAxis t a b p =
    ((((((s.modAxis a (·.merged p)).driveUnit a p.code (s.unitFree t a)).feedUnit t a b p).reportUnit a p (s.unitStatus a p)).endFade a
      p).showInteg a) := by
  rfl

theorem UnitFrame.driveUnit (c : Int) (free : Bool) : UnitFrame quiet (· = a) s (s.driveUnit a c free) := when fun _ => setCode c

theorem UnitFrame.reportUnit (p : Pending) (status : Nat) : UnitFrame quiet (· = a) s (s.reportUnit a p status) := by
  unfold State.reportUnit
  exact (((((wr _).trans (wr _)).trans (wr _)).trans (wr _)).trans (wr _)).trans (wr _)

theorem UnitFrame.endFade (p : Pending) : UnitFrame quiet (· = a) s (s.endFade a p) :=
  when fun _ => (modAxis _).trans (raise _ _ _ _ (by decide))

theorem UnitFrame.showInteg : UnitFrame quiet (· = a) s (s.showInteg a) := (wr _).trans (wr _)

theorem UnitFrame.outputAxis (t a : Nat) (b : Lt) (p : Pending) : UnitFrame quiet (· = a) s (s.outputAxis t a b p) := by
  rw [State.outputAxis_eq]
  exact (((((modAxis _).trans (driveUnit _ _ _)).trans (modAxis _)).trans (reportUnit _ _ _)).trans (endFade _ _)).trans (showInteg _)

/-! ### What a completed unit leaves of its axis -/

/-- The code of an output that is driven: neither high impedance nor in a change of its range. -/
theorem State.axis_driveUnit (c : Int) (free : Bool) (ha : a < 48) :
    ((s.driveUnit a c free).axis a).law = (s.axis a).law ∧ ((s.driveUnit a c free).axis a).pending = (s.axis a).pending ∧
      ((s.driveUnit a c free).axis a).axo.code =
        if free = true ∧ (s.axis a).axo.highZ = false ∧ (s.axis a).axo.rangePhase = 0 then c else (s.axis a).axo.code := by
  have hcond : (free && !(s.axis a).axo.highZ && !s.rangeBusy a) = true ↔
      free = true ∧ (s.axis a).axo.highZ = false ∧ (s.axis a).axo.rangePhase = 0 := by
    simp [State.rangeBusy, and_assoc]
  unfold State.driveUnit
  split
  · next h =>
    rw [if_pos (hcond.1 h)]
    unfold State.setCode State.noteCode State.modAxo
    rw [State.axis_modAxis_self _ _ ha, State.axis_modAxis_self _ _ ha]
    exact ⟨rfl, rfl, rfl⟩
  · next h =>
    rw [if_neg (h ∘ hcond.2)]
    exact ⟨rfl, rfl, rfl⟩

theorem State.axis_feedUnit (b : Lt) (p : Pending) (ha : a < 48) :
    ((s.feedUnit t a b p).axis a).law = (s.axis a).law ∧ ((s.feedUnit t a b p).axis a).pending = (s.axis a).pending ∧
      ((s.feedUnit t a b p).axis a).axo = (s.axis a).axo := by
  unfold State.feedUnit State.modObs
  rw [State.axis_modAxis_self _ _ ha]
  exact ⟨rfl, rfl, rfl⟩

theorem State.axis_reportUnit (p : Pending) (status b : Nat) : (s.reportUnit a p status).axis b = s.axis b := rfl

theorem State.counts_reportUnit (p : Pending) (status : Nat) : (s.reportUnit a p status).rd (Reg.missRun a) = 0 ∧
    (s.reportUnit a p status).rd (Reg.cyclesMeas a) = min p.cycles 65535 := by
  unfold State.reportUnit
  dsimp only
  constructor
  · rw [State.rd_wr_apart, State.rd_wr_apart, State.rd_wr_self]
  · rw [State.rd_wr_apart, State.rd_wr_self]

theorem State.axis_endFade (p : Pending) (ha : a < 48) :
    ((s.endFade a p).axis a).axo = (s.axis a).axo ∧ ((s.endFade a p).axis a).pending = (s.axis a).pending ∧
      ((s.endFade a p).axis a).law =
        if p.fadeDone = true ∧ (s.axis a).law.incoming.isSome = true then (s.axis a).law.completeFade else (s.axis a).law := by
  unfold State.endFade
  simp only [Bool.and_eq_true]
  split
  · rw [State.axis_raise, State.modLaw, State.axis_modAxis_self _ _ ha]
    exact ⟨rfl, rfl, rfl⟩
  · exact ⟨rfl, rfl, rfl⟩

theorem State.rd_endFade (p : Pending) {k : Nat} (hk : k ≠ Reg.lostCount) : (s.endFade a p).rd k = s.rd k := by
  unfold State.endFade
  split
  · exact State.rd_raise _ _ _ _ _ (by decide) hk
  · rfl

theorem State.axis_showInteg (b : Nat) : (s.showInteg a).axis b = s.axis b := rfl

theorem State.counts_showInteg : (s.showInteg a).rd (Reg.missRun a) = s.rd (Reg.missRun a) ∧
    (s.showInteg a).rd (Reg.cyclesMeas a) = s.rd (Reg.cyclesMeas a) := by
  unfold State.showInteg State.wrS
  constructor
  · rw [State.rd_wr_apart, State.rd_wr_apart]
  · rw [State.rd_wr_apart, State.rd_wr_apart]

/-- The states of a period stand under the buffers as they are at t_out. -/
theorem mergeLaw_banks (cur done : Law) : (mergeLaw cur done).active = cur.active ∧ (mergeLaw cur done).incoming = cur.incoming := by
  unfold mergeLaw
  dsimp only
  split <;> exact ⟨rfl, rfl⟩

theorem Law.completeFade_of {l : Law} {bank : List Nat} (h : l.incoming = some bank) :
    l.completeFade.active = bank ∧ l.completeFade.incoming = none := by
  unfold Law.completeFade
  rw [h]
  exact ⟨rfl, rfl⟩

/-- What a completed unit leaves of its axis (R168, R191, R236). -/
theorem State.axis_outputAxis (b : Lt) (p : Pending) (ha : a < 48) :
    let x := s.axis a
    let y := (s.outputAxis t a b p).axis a
    y.pending = none ∧
      y.law = (if p.fadeDone = true ∧ x.law.incoming.isSome = true then (mergeLaw x.law p.law).completeFade else mergeLaw x.law p.law) ∧
      y.axo.code = if s.unitFree t a = true ∧ x.axo.highZ = false ∧ x.axo.rangePhase = 0 then p.code else x.axo.code := by
  have hmerged : (s.modAxis a (·.merged p)).axis a = (s.axis a).merged p := State.axis_modAxis_self _ _ ha
  generalize hfree : s.unitFree t a = free
  generalize hstatus : s.unitStatus a p = status
  obtain ⟨hlaw, hpending, hcode⟩ := (s.modAxis a (·.merged p)).axis_driveUnit p.code free ha
  generalize hdriven : (s.modAxis a (·.merged p)).driveUnit a p.code free = driven at hlaw hpending hcode
  obtain ⟨hlaw', hpending', haxo'⟩ := driven.axis_feedUnit (t := t) b p ha
  obtain ⟨haxo'', hpending'', hlaw''⟩ := ((driven.feedUnit t a b p).reportUnit a p status).axis_endFade p ha
  rw [hmerged] at hlaw hpending hcode
  rw [State.axis_reportUnit] at haxo'' hpending'' hlaw''
  rw [hlaw', hlaw] at hlaw''
  rw [State.outputAxis_eq, hfree, hstatus, hdriven]
  simp only [State.axis_showInteg]
  refine ⟨(hpending''.trans (hpending'.trans hpending)), ?_, ?_⟩
  · rw [hlaw'']
    simp only [Axis.merged, (mergeLaw_banks _ _).2]
  · rw [haxo'', haxo', hcode]
    rfl

theorem State.counts_outputAxis (b : Lt) (p : Pending) : (s.outputAxis t a b p).rd (Reg.missRun a) = 0 ∧
    (s.outputAxis t a b p).rd (Reg.cyclesMeas a) = min p.cycles 65535 := by
  have hne {c : Nat} (hc : c < 256) : regKey (0x3026 + 0x40 * a) c ≠ Reg.lostCount := regKey_ne hc (by decide) (by omega)
  rw [State.outputAxis_eq, (State.counts_showInteg _).1, (State.counts_showInteg _).2, State.rd_endFade _ _ (hne (by decide)),
    State.rd_endFade _ _ (hne (by decide))]
  exact State.counts_reportUnit _ _ _

/-! ### The units of a window at t_out -/

/-- The unit of AXIS_a at t_out: abandoned, completed under a law that runs, or completed under one that does not. -/
def State.unitOut (s : State) (t : Nat) (b : Lt) (missed : List Nat) (a : Nat) : State :=
  if missed.contains a then s.missAxis t a
  else match (s.axis a).pending with
    | some p => s.outputAxis t a b p
    | none => s.idleAxis a

/-- The engine at t_out, before its units. -/
def State.atOut (s : State) (t : Nat) (b : Lt) : State :=
  (s.goTo (b + ns (s.outNs t))).modEngine t fun e => { e with windowOpen := none, missed := [] }

variable {s}

theorem State.outputInstant_of {b : Lt} (drops : List Nat) (h : (s.engine t).windowOpen = some b) : s.outputInstant t drops =
    (each 6 (s.atOut t b) fun r k => r.unitOut t b (s.engine t).missed (6 * t + k)).tapLoop t b (s.engine t).missed drops := by
  unfold State.outputInstant
  rw [h]
  rfl

theorem State.unitOut_missed {missed : List Nat} (b : Lt) (h : missed.contains a = true) : s.unitOut t b missed a = s.missAxis t a :=
  if_pos h

theorem State.unitOut_done {missed : List Nat} {p : Pending} (b : Lt) (h : missed.contains a = false)
    (hp : (s.axis a).pending = some p) : s.unitOut t b missed a = s.outputAxis t a b p := by
  unfold State.unitOut
  rw [h, hp]
  rfl

theorem State.unitOut_idle {missed : List Nat} (b : Lt) (h : missed.contains a = false) (hp : (s.axis a).pending = none) :
    s.unitOut t b missed a = s.idleAxis a := by
  unfold State.unitOut
  rw [h, hp]
  rfl

variable (s)

/-- Where no unit was abandoned, none meets the lock-keeper. -/
theorem UnitFrame.unitOut (t : Nat) (b : Lt) (missed : List Nat) (a : Nat) :
    UnitFrame (missed = []) (· = a) s (s.unitOut t b missed a) := by
  cases hm : missed.contains a
  · cases hp : (s.axis a).pending with
    | none => rw [State.unitOut_idle b hm hp]; exact UnitFrame.idleAxis s a
    | some p => rw [State.unitOut_done b hm hp]; exact UnitFrame.outputAxis s t a b p
  · rw [State.unitOut_missed b hm]
    have hloud : missed ≠ [] := by rintro rfl; cases hm
    exact { UnitFrame.missAxis s t a with lock := fun h => absurd h hloud }

/-- The taps of a loop period (R462). -/
theorem Quiet.tapLoop {T : Nat → Prop} (t : Nat) (b : Lt) (missed drops : List Nat) :
    Quiet sampleKey T s (s.tapLoop t b missed drops) := by
  unfold State.tapLoop
  refine Quiet.each fun r i _ _ => ?_
  dsimp only
  split
  · exact Quiet.refl r
  · split
    · exact Quiet.refl r
    · exact r.quiet_tapValue i _ _ _ _ _

end

/-! ### What t_out leaves of an axis -/

/-- What a pass of t_out from `s` to `r` leaves of AXIS_a: its code and its states where the unit was abandoned; where it completed,
its counts, its banks and its code (R168, R184, R191, R236). -/
def State.OutputOf (s : State) (t a : Nat) (missed : List Nat) (r : State) : Prop :=
  let x := s.axis a
  (missed.contains a = true → (r.axis a).axo = x.axo ∧ (r.axis a).law = x.law ∧ (r.axis a).pending = none ∧
    r.rd (Reg.deadlineMiss a) = min (s.rd (Reg.deadlineMiss a) + 1) (2 ^ 32 - 1)) ∧
  (missed.contains a = false →
    (x.pending = none → (r.axis a).axo = x.axo ∧ r.rd (Reg.missRun a) = 0 ∧ r.rd (Reg.cyclesMeas a) = 4) ∧
    ∀ p, x.pending = some p → (r.axis a).pending = none ∧ r.rd (Reg.missRun a) = 0 ∧ r.rd (Reg.cyclesMeas a) = min p.cycles 65535 ∧
      (∀ bank, x.law.incoming = some bank → p.fadeDone = true → (r.axis a).law.active = bank ∧ (r.axis a).law.incoming = none) ∧
      (x.law.incoming = none ∨ p.fadeDone = false →
        (r.axis a).law.active = x.law.active ∧ (r.axis a).law.incoming = x.law.incoming) ∧
      (r.axis a).axo.code =
        if x.law.run ≠ .stopped ∧ x.law.preset = false ∧ s.mode.clearAxLow = false ∧ (s.engine t).pinFell = false ∧
          x.axo.highZ = false ∧ x.axo.rangePhase = 0 then p.code
        else x.axo.code)

section
variable {s r u : State} {t a : Nat} {missed : List Nat}

/-- It is a matter of the axis, of its counts and of CLEAR_AX_N alone. -/
theorem State.OutputOf.of_same {s' r' : State} (h : s.OutputOf t a missed r) (haxis : s'.axis a = s.axis a)
    (hmiss : s'.rd (Reg.deadlineMiss a) = s.rd (Reg.deadlineMiss a)) (hmode : s'.mode = s.mode)
    (hfell : (s'.engine t).pinFell = (s.engine t).pinFell) (haxis' : r'.axis a = r.axis a)
    (hcounts : ∀ c, c < 256 → r'.rd (regKey (0x3026 + 0x40 * a) c) = r.rd (regKey (0x3026 + 0x40 * a) c)) :
    s'.OutputOf t a missed r' := by
  unfold State.OutputOf at h ⊢
  rw [haxis, hmiss, hmode, hfell, haxis', hcounts 1 (by decide), hcounts 2 (by decide), hcounts 4 (by decide)]
  exact h

theorem State.outputOf_unitOut (s : State) (t : Nat) (b : Lt) (missed : List Nat) (ha : a < 48) :
    s.OutputOf t a missed (s.unitOut t b missed a) := by
  refine ⟨fun hm => ?_, fun hm => ⟨fun hp => ?_, fun p hp => ?_⟩⟩
  · rw [State.unitOut_missed b hm, State.axis_missAxis s ha]
    exact ⟨rfl, rfl, rfl, State.deadlineMiss_missAxis s⟩
  · rw [State.unitOut_idle b hm hp]
    exact ⟨rfl, State.counts_idleAxis s⟩
  · obtain ⟨hpending, hlaw, hcode⟩ := s.axis_outputAxis (t := t) b p ha
    obtain ⟨hrun, hcycles⟩ := s.counts_outputAxis (t := t) (a := a) b p
    obtain ⟨hactive, hincoming⟩ := mergeLaw_banks (s.axis a).law p.law
    rw [State.unitOut_done b hm hp]
    refine ⟨hpending, hrun, hcycles, fun bank hbank hdone => ?_, fun hstays => ?_, ?_⟩
    · rw [hlaw, if_pos ⟨hdone, by rw [hbank]; rfl⟩]
      exact Law.completeFade_of (hincoming.trans hbank)
    · rw [hlaw, if_neg (by rintro ⟨hdone, hsome⟩; rcases hstays with h | h <;> simp [h] at hsome hdone)]
      exact ⟨hactive, hincoming⟩
    · rw [hcode]
      simp only [State.unitFree, State.pinStops, Bool.and_eq_true, bne_iff_ne, Bool.not_eq_true', Bool.or_eq_false_iff, and_assoc, ne_eq]

/-- The units of the other axes and the taps leave of an axis what its own unit has left. -/
theorem State.outputOf_outputInstant {b : Lt} (drops : List Nat) (h : (s.engine t).windowOpen = some b) (ht : t < 8)
    (ha : a ∈ axesOf t) : s.OutputOf t a (s.engine t).missed (s.outputInstant t drops) := by
  obtain ⟨k, hk, rfl⟩ := eq_of_mem_axesOf ha
  have hengine : ((s.atOut t b).engine t).pinFell = (s.engine t).pinFell := by
    rw [State.atOut, State.engine_modEngine_self _ _ ht]
    rfl
  have hother {r : State} {j : Nat} (hj : j < 6) (hjk : j ≠ k) :
      UnitFrame ((s.engine t).missed = []) (otherAxes (6 * t + k)) r (r.unitOut t b (s.engine t).missed (6 * t + j)) :=
    (UnitFrame.unitOut r t b _ _).mono fun c hc => by subst hc; exact ⟨by omega, by omega⟩
  have hunits : (s.atOut t b).OutputOf t (6 * t + k) (s.engine t).missed
      (each 6 (s.atOut t b) fun r j => r.unitOut t b (s.engine t).missed (6 * t + j)) :=
    each_reach (P := UnitFrame ((s.engine t).missed = []) (otherAxes (6 * t + k)) (s.atOut t b)) hk (UnitFrame.refl _)
      (fun r j hj hjk hr => hr.trans (hother hj hjk))
      (fun r hr => (r.outputOf_unitOut t b _ (by omega)).of_same (hr.axes _ fun hc => hc.2 rfl).symm
        (hr.rd_own (fun _ hc => hc) (by omega) (by decide)).symm hr.mode.symm (by rw [hr.engine]) rfl fun _ _ => rfl)
      fun r j hj hjk hr => hr.of_same rfl rfl rfl rfl ((hother hj hjk).axes _ fun hc => hc.2 rfl) fun c hc =>
        (hother hj hjk).rd_own (fun _ hc => hc) (by omega) hc
  rw [State.outputInstant_of drops h]
  have htaps := Quiet.tapLoop (T := fun _ => False) (each 6 (s.atOut t b) fun r j => r.unitOut t b (s.engine t).missed (6 * t + j)) t b
    (s.engine t).missed drops
  refine hunits.of_same rfl rfl rfl hengine.symm ?_ fun c hc => htaps.regs _ ?_
  · simp only [State.axis, htaps.axes]
  · simp only [sampleKey, Reg.lostCount, Reg.ampClipCount, Reg.cmStatus, Reg.trigState, regKey]
    rintro (h | ⟨t', m, ht', hm, h⟩ | ⟨t', ht', h⟩ | h) <;> omega

/-- What t_out leaves of the time and of its engine, and that it leaves a still state still where no unit was abandoned. -/
theorem State.outputInstant_spec {b : Lt} (drops : List Nat) (h : (s.engine t).windowOpen = some b) (ht : t < 8) :
    (s.outputInstant t drops).lt = max s.lt (b + ns (s.outNs t)) ∧ ((s.outputInstant t drops).engine t).windowOpen = none ∧
      (s.outputInstant t drops).outside = s.outside ∧
      ((s.engine t).missed = [] → s.still = true → (s.outputInstant t drops).still = true) := by
  rw [State.outputInstant_of drops h]
  generalize (s.engine t).missed = missed
  have hunits : UnitFrame (missed = []) (· < 48) (s.atOut t b) (each 6 (s.atOut t b) fun r k => r.unitOut t b missed (6 * t + k)) :=
    UnitFrame.each fun r k hk => (UnitFrame.unitOut r t b _ _).mono fun a ha => by omega
  have htaps := Quiet.tapLoop (T := fun _ => False) (each 6 (s.atOut t b) fun r k => r.unitOut t b missed (6 * t + k)) t b missed drops
  have hclosed : ((s.atOut t b).engine t).windowOpen = none := by rw [State.atOut, State.engine_modEngine_self _ _ ht]
  refine ⟨htaps.lt.trans hunits.lt, ?_, htaps.outside.trans hunits.outside, fun hm hs =>
    htaps.still (fun _ => stillKey_of_sampleKey) (hunits.still hm (fun _ => id) hs)⟩
  unfold State.engine at hclosed ⊢
  rw [htaps.engines, hunits.engines]
  exact hclosed

end

/-- Settles O14: each unit by what it leaves of its own axis, which the units of the other axes and the taps leave alone. -/
theorem outputsChange : Obligations.OutputsChange := by
  unfold Obligations.OutputsChange
  intro s t b drops hs ht hopen
  obtain ⟨hlt, hclosed, houtside, hstill⟩ := State.outputInstant_spec drops hopen ht
  obtain ⟨hreset, hinit, -⟩ := State.still_running hs
  have hact : s.pinsAct = true := by simp [State.pinsAct, hreset, hinit]
  refine ⟨s.outputInstant t drops, ?_, fun hm => ?_, hlt, hclosed, fun a ha => State.outputOf_outputInstant drops hopen ht ha⟩
  · change Host.Outcome.next (s.up fun s => s.outputInstant t drops) = _
    rw [State.up, if_pos hact]
  · rw [State.done_still (hstill hm hs), State.keep_of houtside]

end Sys2Proof.Machine
end

section
/-! PROOFS. COMPUTE_WINDOW: the units of a window within its budget (R165, R169, R182, R183). -/

namespace Sys2Proof.Machine

/-! ### What a unit reads -/

theorem busSel_lt (b : List Nat) : busSel b < 8 := Nat.mod_lt _ (by decide)

/-- A law looks at no more than the eight bus inputs. -/
theorem Law.unit_congr (l : Law) (i : LawIn) (clear : Int) {bus bus' : Nat → Int} (h : ∀ k, k < 8 → bus k = bus' k) :
    l.unit i bus clear = l.unit i bus' clear := by
  unfold Law.unit
  simp only [h _ (busSel_lt _)]

namespace UnitFrame

variable {quiet : Prop} {s r : State} {t a : Nat} (h : UnitFrame quiet (otherAxes a) s r)
include h

/-- The units of the other axes leave an axis alone. -/
theorem axis_own : r.axis a = s.axis a := h.axes a fun hc => hc.2 rfl

theorem own {i c : Nat} (hi : i / 0x40 = 0xC0 + a := by omega) (hc : c < 256 := by decide) : r.rd (regKey i c) = s.rd (regKey i c) :=
  h.rd_own (fun _ hb => hb) hi hc

theorem shared {i c : Nat} (hi : i < 0x2020 ∨ 0x2021 < i ∧ i < 0x3000 ∨ 0x3C00 ≤ i := by omega) (hc : c < 256 := by omega) :
    r.rd (regKey i c) = s.rd (regKey i c) :=
  h.rd_shared (fun _ hb => hb.1) hi hc

theorem loopNs : r.loopNs t = s.loopNs t := h.shared

theorem lawIn (now : Lt) : r.lawIn t a now = s.lawIn t a now := by
  simp only [State.lawIn, State.wordsAt, State.gdExactOf, h.axis_own, h.loopNs, h.own (i := 0x3002 + 0x40 * a) (c := 1),
    h.own (i := 0x3002 + 0x40 * a) (c := 2)]

theorem limits : r.limits a = s.limits a := by
  simp only [State.limits, h.own (i := 0x3018 + 0x40 * a) (c := 1), h.own (i := 0x3018 + 0x40 * a) (c := 2),
    h.own (i := 0x3018 + 0x40 * a) (c := 3)]

theorem spFaulted : r.spFaulted a = s.spFaulted a := by
  simp only [State.spFaulted, h.own (i := 0x300D + 0x40 * a) (c := 1)]

theorem spSource : r.rd (Reg.spSource a) = s.rd (Reg.spSource a) := h.own
theorem weirStatus : r.rd (Reg.weirStatus a) = s.rd (Reg.weirStatus a) := h.own

theorem targetVelocity : r.targetVelocity t a = s.targetVelocity t a := by
  simp only [State.targetVelocity, State.rdS, h.axis_own, h.loopNs, h.spFaulted, h.spSource, h.own (i := 0x3010 + 0x40 * a) (c := 3),
    h.own (i := 0x3010 + 0x40 * a) (c := 8)]

theorem weirPeriod (i : LawIn) (b : Lt) : r.weirPeriod t a i b = s.weirPeriod t a i b := by
  simp only [State.weirPeriod, h.axis_own, h.limits, h.spFaulted, h.spSource, h.weirStatus, h.targetVelocity]

theorem clearCode : r.clearCode a = s.clearCode a := by
  simp only [State.clearCode, State.rdS, h.own (i := 0x3028 + 0x40 * a) (c := 2)]

/-- A unit computes the same whichever units of other axes have been computed before it. -/
theorem axisUnit (b : Lt) (stall : Nat) : r.axisUnit t a b stall = s.axisUnit t a b stall := by
  have hbus (k : Nat) (hk : k < 8) : (r.rd (Reg.busValue k) : Int) = s.rd (Reg.busValue k) :=
    congrArg Nat.cast (h.shared (i := 0x2060) (c := 0x09 + k))
  simp only [State.axisUnit, h.lt, h.lawIn, h.weirPeriod, h.axis_own, h.clearCode, h.weirStatus, Law.unit_congr _ _ _ hbus]

end UnitFrame

/-! ### What a unit reports -/

section
variable {quiet : Prop} (s : State) {a : Nat}

/-- The objects of the weir, and a saturated write-back (R167, R198). -/
def State.reportWeir (s : State) (a : Nat) (p : Pending) : State :=
  let s := (s.wrS 32 (Reg.spTarget a) (Num.fitI 32 (Num.rshift p.target 32))).wrS 32 (Reg.spTargetVel a)
    (Num.fitI 32 (Num.rshift p.targetVel 52))
  let s := (s.wr (Reg.weirStatus a) p.weirStatus).wrS 32 (Reg.weirPos a) (Num.fitI 32 (Num.rshift p.weir.pos 32))
  let s := s.wrS 32 (Reg.weirVel a) (Num.fitI 32 (Num.rshift p.weir.vel 52))
  let s := if p.satElem ≠ 0 then s.bump 32 (Reg.accSatCount a) else s
  s.raiseIf (p.satElem != 0 && !bitAt (s.rd (Reg.lawStatus a)) 6) 0x3403 cAXIS a (dU 1 p.satElem)

/-- An overshoot that the period has seen (R207). -/
def State.reportShot (s : State) (a : Nat) : Option Int → State
  | some z => ((s.wr (Reg.weirOvershoot a) (Num.fitU 32 (Num.rshift z 32))).bump 32 (Reg.overshootCount a)).raise 0x3501 cAXIS a
      (dU 4 (Num.satU 32 (Num.rshift z 32)))
  | none => s

theorem State.unitReports_eq (p : Pending) : s.unitReports a p =
    p.presetDiff.foldl (fun r d => r.raise 0x3415 cAXIS a (dI 4 (Num.rshift d 12)))
      (((s.reportWeir a p).reportShot a p.shot).raiseIf p.fastNow 0x3502 cAXIS a (dI 4 (Num.rshift p.targetVel 52))) := by
  unfold State.unitReports State.reportShot
  rfl

theorem UnitFrame.reportWeir (p : Pending) : UnitFrame quiet (· = a) s (s.reportWeir a p) := by
  unfold State.reportWeir
  exact ((((((wr _).trans (wr _)).trans (wr _)).trans (wr _)).trans (wr _)).trans (when fun _ => wr _)).trans
    (raiseIf _ _ _ _ _ (by decide))

theorem UnitFrame.reportShot (shot : Option Int) : UnitFrame quiet (· = a) s (s.reportShot a shot) := by
  cases shot with
  | none => exact refl s
  | some z => exact ((wr _).trans (wr _)).trans (raise _ _ _ _ (by decide))

theorem UnitFrame.unitReports (p : Pending) : UnitFrame quiet (· = a) s (s.unitReports a p) := by
  rw [State.unitReports_eq]
  exact (((reportWeir s p).trans (reportShot _ _)).trans (raiseIf _ _ _ _ _ (by decide))).trans
    (foldl _ fun r d _ => raise _ _ _ _ (by decide))

theorem State.axis_reportWeir (p : Pending) (b : Nat) : (s.reportWeir a p).axis b = s.axis b := by
  unfold State.reportWeir
  dsimp only
  rw [State.axis_raiseIf]
  split <;> rfl

theorem State.axis_reportShot (shot : Option Int) (b : Nat) : (s.reportShot a shot).axis b = s.axis b := by
  cases shot with
  | none => rfl
  | some z => exact State.axis_raise _ _ _ _ _ _

/-- Reports change no axis. -/
theorem State.axis_unitReports (p : Pending) (b : Nat) : (s.unitReports a p).axis b = s.axis b := by
  rw [State.unitReports_eq]
  refine foldl_of (P := fun r => r.axis b = s.axis b) _ ?_ fun r d _ hr => (State.axis_raise _ _ _ _ _ _).trans hr
  rw [State.axis_raiseIf, State.axis_reportShot, State.axis_reportWeir]

/-! ### One unit that fits the budget -/

/-- The unit of AXIS_a in a window of ENGINE_t: computed where its law runs. -/
def State.computeUnit (s : State) (t a : Nat) (b : Lt) (stall : Nat) : State :=
  if (s.axis a).law.run != .stopped then
    (s.modAxis a fun x =>
      { x with pending := some (s.axisUnit t a b stall), law := { x.law with preset := false, presetIn := false } }).unitReports a
      (s.axisUnit t a b stall)
  else s

/-- Its cycles (R182). -/
def State.unitCost (s : State) (a stall : Nat) : Nat :=
  if (s.axis a).law.run != .stopped then (s.axis a).law.cycles true + stall else 4

theorem UnitFrame.computeUnit (t : Nat) (b : Lt) (stall : Nat) : UnitFrame quiet (· = a) s (s.computeUnit t a b stall) :=
  when fun _ => (modAxis _).trans (UnitFrame.unitReports _ _)

theorem State.axis_computeUnit {t : Nat} (b : Lt) (stall : Nat) (ha : a < 48) :
    ((s.computeUnit t a b stall).axis a).axo = (s.axis a).axo ∧ ((s.computeUnit t a b stall).axis a).pending =
      if (s.axis a).law.run != .stopped then some (s.axisUnit t a b stall) else (s.axis a).pending := by
  unfold State.computeUnit
  split
  · rw [State.axis_unitReports, State.axis_modAxis_self _ _ ha]
    exact ⟨rfl, rfl⟩
  · exact ⟨rfl, rfl⟩

end

/-! ### All units of a window within its budget -/

section
variable {quiet : Prop} {s : State} {t : Nat}

/-- The units of the listed axes, each with its position in the window. -/
def State.computeUnits (s : State) (t : Nat) (b : Lt) (stalls : List Nat) (l : List (Nat × Nat)) : State :=
  l.foldl (fun r e => r.computeUnit t e.1 b (stalls.getD e.2 0)) s

/-- Their cycles. -/
def State.unitCosts (s : State) (stalls : List Nat) (l : List (Nat × Nat)) : Nat := (l.map fun e => s.unitCost e.1 (stalls.getD e.2 0)).sum

theorem UnitFrame.budget {A : Nat → Prop} {r : State} (h : UnitFrame quiet A s r) (hA : ∀ b, A b → b < 48) : r.budget t = s.budget t := by
  have hperiod : r.rd (Reg.loopPeriod t) = s.rd (Reg.loopPeriod t) := h.rd_shared hA (by omega) (by decide)
  have hoffset : r.rd (Reg.outOffset t) = s.rd (Reg.outOffset t) := h.rd_shared hA (by omega) (by decide)
  unfold State.budget State.outNs State.loopNs
  rw [hperiod, hoffset]

theorem UnitFrame.engineParked {A : Nat → Prop} {r : State} (h : UnitFrame quiet A s r) (hA : ∀ b, A b → b < 48) :
    r.engineParked t = s.engineParked t := by
  simp only [State.engineParked, h.rd_shared hA (i := 0x2022) (c := 3) (by omega) (by decide)]

/-- Units that fit together are all computed, and count their cycles (R165, R182, R183). -/
theorem State.runUnits_of_fits (b : Lt) (stalls : List Nat) (l : List Nat) : ∀ {s : State} {k used : Nat}, l.Nodup → (∀ a, a ∈ l → a < 48) →
    s.engineParked t = false → used + s.unitCosts stalls (l.zipIdx k) ≤ s.budget t →
    s.runUnits t b stalls [] l k used = (s.computeUnits t b stalls (l.zipIdx k), [], used + s.unitCosts stalls (l.zipIdx k)) := by
  induction l with
  | nil => intros; rfl
  | cons a l ih =>
    intro s k used hnodup hlt hparked hfits
    obtain ⟨ha, hnodup⟩ := List.nodup_cons.1 hnodup
    have hframe : UnitFrame True (· = a) s (s.computeUnit t a b (stalls.getD k 0)) := UnitFrame.computeUnit s t b _
    have ha48 (c : Nat) (hc : c = a) : c < 48 := hc ▸ hlt a (List.mem_cons_self ..)
    have hcosts : (s.computeUnit t a b (stalls.getD k 0)).unitCosts stalls (l.zipIdx (k + 1)) = s.unitCosts stalls (l.zipIdx (k + 1)) := by
      refine congrArg List.sum (List.map_congr_left fun e he => ?_)
      have hne : e.1 ≠ a := by rintro rfl; exact ha (List.fst_mem_of_mem_zipIdx he)
      simp only [State.unitCost, hframe.axes _ hne]
    have hsplit : s.unitCosts stalls ((a :: l).zipIdx k) = s.unitCost a (stalls.getD k 0) + s.unitCosts stalls (l.zipIdx (k + 1)) := by
      simp [State.unitCosts]
    rw [hsplit] at hfits ⊢
    have hrest := ih (s := s.computeUnit t a b (stalls.getD k 0)) (k := k + 1) (used := used + s.unitCost a (stalls.getD k 0)) hnodup
      (fun c hc => hlt c (List.mem_cons_of_mem _ hc)) ((hframe.engineParked ha48).trans hparked)
      (by rw [hcosts, hframe.budget ha48]; omega)
    rw [hcosts] at hrest
    have hfirst : used + s.unitCost a (stalls.getD k 0) ≤ s.budget t := by omega
    have hunfold : s.runUnits t b stalls [] (a :: l) k used =
        (s.computeUnit t a b (stalls.getD k 0)).runUnits t b stalls [] l (k + 1) (used + s.unitCost a (stalls.getD k 0)) := by
      rw [State.runUnits]
      simp only [hparked, Bool.not_false, Bool.and_true, List.contains_nil, Bool.and_false, Bool.false_eq_true, if_false]
      exact if_pos hfirst
    rw [hunfold, hrest, Nat.add_assoc]
    rfl

end

end Sys2Proof.Machine
end

section
/-! PROOFS. The weir of a live law and the fade in a window (R167, R191, R203, R204). -/

namespace Sys2Proof.Machine

/-! ### The step of the weir (R203 to R205) -/

/-- Where no limit forbids it to take its target x with velocity v_x after `dt` ns (R204). -/
def Weir.Free (w : Weir) (lim : Limits) (x vx : Int) (dt : Nat) : Prop :=
  (vx.natAbs : Int) ≤ lim.vmax ∧ ((0 - w.acc).natAbs : Int) * 10 ^ 9 ≤ lim.jmax * dt ∧
    ((x - (w.pos + Num.rdiv (w.vel * dt) (10 ^ 9) + Num.rdiv (w.acc * dt * dt) (2 * 10 ^ 18))).natAbs : Int) * (6 * 10 ^ 27) ≤
      lim.jmax * dt * dt * dt ∧
    ((vx - (w.vel + Num.rdiv (w.acc * dt) (10 ^ 9))).natAbs : Int) * (2 * 10 ^ 18) ≤ lim.jmax * dt * dt

section
variable {w : Weir} {lim : Limits} {x vx : Int} {dt : Nat}

theorem Weir.advance_of_free (hamax : 0 ≤ lim.amax) (h : w.Free lim x vx dt) :
    w.advance lim x vx 0 dt = ({ w with pos := x, vel := vx, acc := 0 }, false) :=
  if_pos ⟨h.1, by simpa using hamax, h.2⟩

/-- A weir that cannot take its target follows its plan. -/
theorem Weir.advance_of_limited (h : ¬ w.Free lim x vx dt) : (w.advance lim x vx 0 dt).2 = true ∧
    ∃ a, (w.advance lim x vx 0 dt).1.acc = holdAcc lim w.acc a dt := by
  unfold Weir.advance
  dsimp only
  rw [if_neg (by rintro ⟨hv, -, hrest⟩; exact h ⟨hv, hrest⟩)]
  split <;> split <;> exact ⟨rfl, _, rfl⟩

/-- A value held within `step` of another is no further from it. -/
theorem Num.clampI_near {a step : Int} (hstep : 0 ≤ step) (z : Int) :
    ((Num.clampI (a - step) (a + step) z - a).natAbs : Int) ≤ step := by
  unfold Num.clampI
  split
  · omega
  · split <;> omega

/-- The acceleration changes by no more than the jerk limit allows (R203). -/
theorem holdAcc_jerk (hjmax : 0 ≤ lim.jmax) (a0 a : Int) :
    ((holdAcc lim a0 a dt - a0).natAbs : Int) * 10 ^ 9 ≤ lim.jmax * dt := by
  have hstep : 0 ≤ lim.jmax * (dt : Int) / 10 ^ 9 := Int.ediv_nonneg (mul_nonneg hjmax (Int.natCast_nonneg dt)) (by norm_num)
  calc ((holdAcc lim a0 a dt - a0).natAbs : Int) * 10 ^ 9
      ≤ lim.jmax * (dt : Int) / 10 ^ 9 * 10 ^ 9 := mul_le_mul_of_nonneg_right (Num.clampI_near hstep _) (by norm_num)
    _ ≤ lim.jmax * dt := Int.ediv_mul_le _ (by norm_num)

theorem Weir.advance_jerk (hamax : 0 ≤ lim.amax) (hjmax : 0 ≤ lim.jmax) :
    (((w.advance lim x vx 0 dt).1.acc - w.acc).natAbs : Int) * 10 ^ 9 ≤ lim.jmax * dt := by
  by_cases h : w.Free lim x vx dt
  · rw [Weir.advance_of_free hamax h]
    exact h.2.1
  · obtain ⟨-, a, ha⟩ := Weir.advance_of_limited h
    rw [ha]
    exact holdAcc_jerk hjmax _ _

end

/-- The tracking of an overshoot moves no weir. -/
theorem Weir.overshoot_state (w w' : Weir) (limiting : Bool) (x vx : Int) (dt : Nat) :
    (w.overshoot w' limiting x vx dt).1.pos = w'.pos ∧ (w.overshoot w' limiting x vx dt).1.vel = w'.vel ∧
      (w.overshoot w' limiting x vx dt).1.acc = w'.acc := by
  unfold Weir.overshoot
  dsimp only
  split
  · exact ⟨rfl, rfl, rfl⟩
  · split
    · exact ⟨rfl, rfl, rfl⟩
    · split
      · split <;> exact ⟨rfl, rfl, rfl⟩
      · exact ⟨rfl, rfl, rfl⟩

/-- LIMITING is bit 0 of WEIR_STATUS. -/
theorem bitAt_limiting (x y z u : Bool) : bitAt (bit x + 2 * bit y + 4 * bit z + 8 * bit u) 0 = x := by
  revert x y z u
  decide

section
variable {s : State} {t a : Nat} {b : Lt}

/-- A period of the weir of a live law is a step towards its target (R204). -/
theorem State.weirPeriod_live (i : LawIn) (hrun : (s.axis a).law.run = .live) (hinit : (s.axis a).weir.init = true)
    (hdone : (s.axis a).weir.doneAt < b) :
    let w := (s.axis a).weir
    let step := w.advance (s.limits a) w.target (s.targetVelocity t a) 0 (lateNs w.doneAt b)
    let r := s.weirPeriod t a i b
    r.1.pos = step.1.pos ∧ r.1.vel = step.1.vel ∧ r.1.acc = step.1.acc ∧ bitAt r.2.2.2.1 0 = step.2 := by
  have hbraking : (LawRun.live == LawRun.braking) = false := rfl
  unfold State.weirPeriod
  simp only [hrun, hbraking, hinit, hdone, Bool.false_and, Bool.false_eq_true, if_false, if_true, Bool.true_and, decide_true,
    bitAt_limiting, and_true]
  exact Weir.overshoot_state _ _ _ _ _ _

/-- The weir of a live law takes its target where no limit forbids it, and says LIMITING otherwise; its acceleration obeys the jerk
limit (R203, R204). -/
theorem State.weirPeriod_free (i : LawIn) (hrun : (s.axis a).law.run = .live) (hinit : (s.axis a).weir.init = true)
    (hdone : (s.axis a).weir.doneAt < b) :
    let w := (s.axis a).weir
    let dt := lateNs w.doneAt b
    let r := s.weirPeriod t a i b
    (w.Free (s.limits a) w.target (s.targetVelocity t a) dt → r.1.pos = w.target ∧ r.1.vel = s.targetVelocity t a ∧ r.1.acc = 0 ∧
      bitAt r.2.2.2.1 0 = false) ∧
    (¬ w.Free (s.limits a) w.target (s.targetVelocity t a) dt → bitAt r.2.2.2.1 0 = true) ∧
    ((r.1.acc - w.acc).natAbs : Int) * 10 ^ 9 ≤ (s.limits a).jmax * dt := by
  obtain ⟨hpos, hvel, hacc, hlimiting⟩ := s.weirPeriod_live (t := t) i hrun hinit hdone
  have hamax : 0 ≤ (s.limits a).amax := mul_nonneg (Int.natCast_nonneg _) (by norm_num)
  have hjmax : 0 ≤ (s.limits a).jmax := mul_nonneg (Int.natCast_nonneg _) (by norm_num)
  refine ⟨fun hfree => ?_, fun hlimited => ?_, ?_⟩
  · rw [Weir.advance_of_free hamax hfree] at hpos hvel hacc hlimiting
    exact ⟨hpos, hvel, hacc, hlimiting⟩
  · exact hlimiting.trans (Weir.advance_of_limited hlimited).1
  · simp only [hacc]
    exact Weir.advance_jerk hamax hjmax

end

/-! ### The fade (R191, R167) -/

/-- The value at a step of a fade between one of ACTIVE and one of INCOMING, each rounded to an operand (R167). -/
def fadeMix (step len : Nat) (x y : Int) : Int :=
  let wt := Num.rdiv ((step : Int) * 65536) len
  Num.rshift ((65536 - wt) * operand x + wt * operand y) 8

section
variable {l : Law} {i : LawIn} {bus : Nat → Int} {clear : Int} {bank : List Nat} (hbank : l.incoming = some bank)
include hbank

/-- A fade of one period is over at once. -/
theorem Law.unit_shortFade (hlen : l.fadeLen ≤ 1) : (l.unit i bus clear).fadeDone = true := by
  unfold Law.unit
  simp only [hbank, if_pos hlen]

/-- A longer fade goes one step on. -/
theorem Law.unit_longFade (hlen : 1 < l.fadeLen) : (l.unit i bus clear).fadeDone = decide (l.fadeLen ≤ l.fadePos + 1) ∧
    (l.unit i bus clear).law.fadePos = l.fadePos + 1 := by
  unfold Law.unit
  simp only [hbank, if_neg (Nat.not_le.2 hlen), and_true, ge_iff_le]

/-- It blends the commands of both laws, and their limits, by its weight. -/
theorem Law.unit_blend (hlen : 1 < l.fadeLen) (hpreset : l.preset = false) (hpresetIn : l.presetIn = false) :
    (l.unit i bus clear).uk =
      Num.clampI (fadeMix (l.fadePos + 1) l.fadeLen (uMin l.active) (uMin bank))
        (fadeMix (l.fadePos + 1) l.fadeLen (uMax l.active) (uMax bank))
        (Num.satI 40 (fadeMix (l.fadePos + 1) l.fadeLen (lawHalf l.active l.st i false).uc (lawHalf bank l.stIn i false).uc)) := by
  unfold Law.unit
  simp only [hbank, if_neg (Nat.not_le.2 hlen), hpreset, hpresetIn, Bool.false_eq_true, if_false]
  rfl

end

/-! ### The window -/

section
variable {s : State} {t b : Nat}

/-- The budget of the six units, and what they leave, in the order of their positions. -/
theorem State.unitCosts_axesOf (s : State) (stalls : List Nat) (t : Nat) : s.unitCosts stalls ((axesOf t).zipIdx 0) =
    s.unitCost (6 * t + 0) (stalls.getD 0 0) + s.unitCost (6 * t + 1) (stalls.getD 1 0) + s.unitCost (6 * t + 2) (stalls.getD 2 0) +
      s.unitCost (6 * t + 3) (stalls.getD 3 0) + s.unitCost (6 * t + 4) (stalls.getD 4 0) + s.unitCost (6 * t + 5) (stalls.getD 5 0) := by
  simp [State.unitCosts, axesOf, Nat.add_assoc]

theorem State.computeUnits_axesOf (s : State) (stalls : List Nat) (t : Nat) (b : Lt) : s.computeUnits t b stalls ((axesOf t).zipIdx 0) =
    each 6 s fun r k => r.computeUnit t (6 * t + k) b (stalls.getD k 0) := rfl

theorem nodup_axesOf (t : Nat) : (axesOf t).Nodup := by
  simp [axesOf]

/-- A window that has units to compute, none before it and no error (R165). -/
theorem State.computeWindow_of (stalls : List Nat) (hs : s.still = true) (hlast : (s.engine t).lastLoop = some b)
    (hcomputed : (s.engine t).computed ≠ some b) (hopen : (s.engine t).windowOpen = none) (hparked : s.engineParked t = false) :
    s.computeWindow t stalls [] =
      let r := (s.goTo (b + ns 300)).runUnits t b stalls [] (axesOf t) 0 windowOverhead
      let u := r.1.modEngine t fun e => { e with computed := some b, windowOpen := some b, missed := r.2.1 }
      (u.wr (Reg.cyclesUsed t) r.2.2).wr (Reg.cyclesPeak t) (max (u.rd (Reg.cyclesPeak t)) r.2.2) := by
  obtain ⟨-, hinit, hmon⟩ := State.still_running hs
  have hclosed : s.outputInstant t [] = s := by
    unfold State.outputInstant
    rw [hopen]
  have hnone : (s.goTo (b + ns 300)).monReady = s.goTo (b + ns 300) := State.monReady_of hmon
  unfold State.computeWindow
  simp only [hlast, hcomputed, hinit, hparked, hclosed, hnone, or_self, Bool.false_eq_true, if_false, List.foldl_nil, List.filter_nil,
    List.map_nil]

/-- Each unit leaves its axis what it computes alone (R165, R169). -/
theorem State.axis_computeUnits (s : State) (b : Lt) (stalls : List Nat) (ht : t < 8) {k : Nat} (hk : k < 6) :
    let r := s.computeUnits t b stalls ((axesOf t).zipIdx 0)
    (r.axis (6 * t + k)).axo = (s.axis (6 * t + k)).axo ∧ (r.axis (6 * t + k)).pending =
      if (s.axis (6 * t + k)).law.run != .stopped then some (s.axisUnit t (6 * t + k) b (stalls.getD k 0))
      else (s.axis (6 * t + k)).pending := by
  have hother {r : State} {j : Nat} (hj : j < 6) (hjk : j ≠ k) :
      UnitFrame True (otherAxes (6 * t + k)) r (r.computeUnit t (6 * t + j) b (stalls.getD j 0)) :=
    (UnitFrame.computeUnit r t b _).mono fun c hc => by subst hc; exact ⟨by omega, by omega⟩
  rw [State.computeUnits_axesOf]
  refine each_reach (P := UnitFrame True (otherAxes (6 * t + k)) s) (Q := fun r => (r.axis (6 * t + k)).axo = (s.axis (6 * t + k)).axo ∧
    (r.axis (6 * t + k)).pending = if (s.axis (6 * t + k)).law.run != .stopped then some (s.axisUnit t (6 * t + k) b (stalls.getD k 0))
      else (s.axis (6 * t + k)).pending) hk (UnitFrame.refl s) (fun r j hj hjk hr => hr.trans (hother hj hjk)) (fun r hr => ?_)
    fun r j hj hjk hr => ?_
  · have hunit := r.axis_computeUnit (t := t) b (stalls.getD k 0) (show 6 * t + k < 48 by omega)
    rwa [hr.axis_own, hr.axisUnit] at hunit
  · rwa [(hother hj hjk).axis_own]

theorem UnitFrame.computeUnits (s : State) (b : Lt) (stalls : List Nat) (ht : t < 8) :
    UnitFrame True (· < 48) s (s.computeUnits t b stalls ((axesOf t).zipIdx 0)) := by
  rw [State.computeUnits_axesOf]
  exact UnitFrame.each fun r k hk => (UnitFrame.computeUnit r t b _).mono fun a ha => by omega

/-- The engine after a window whose units have all completed. -/
def State.windowDone (s : State) (t : Nat) (b : Lt) (used : Nat) : State :=
  let u := s.modEngine t fun e => { e with computed := some b, windowOpen := some b, missed := [] }
  (u.wr (Reg.cyclesUsed t) used).wr (Reg.cyclesPeak t) (max (u.rd (Reg.cyclesPeak t)) used)

theorem State.engine_windowDone (s : State) (b : Lt) (used : Nat) (ht : t < 8) : ((s.windowDone t b used).engine t).windowOpen = some b ∧
    ((s.windowDone t b used).engine t).computed = some b ∧ ((s.windowDone t b used).engine t).missed = [] := by
  have hengine : (s.windowDone t b used).engine t =
      (s.modEngine t fun e => { e with computed := some b, windowOpen := some b, missed := [] }).engine t := rfl
  rw [hengine, State.engine_modEngine_self _ _ ht]
  exact ⟨rfl, rfl, rfl⟩

theorem State.cycles_windowDone (s : State) (t : Nat) (b : Lt) (used : Nat) : (s.windowDone t b used).rd (Reg.cyclesUsed t) = used ∧
    (s.windowDone t b used).rd (Reg.cyclesPeak t) = max (s.rd (Reg.cyclesPeak t)) used := by
  unfold State.windowDone
  dsimp only
  exact ⟨by rw [State.rd_wr_apart, State.rd_wr_self], State.rd_wr_self _ _ _⟩

theorem StillStep.windowDone (s : State) (b : Lt) (used : Nat) (ht : t < 8) : StillStep s (s.windowDone t b used) :=
  have hengine : StillStep s (s.modEngine t fun e => { e with computed := some b, windowOpen := some b, missed := [] }) := ⟨id, rfl⟩
  (hengine.trans (StillStep.wr _ _ (stillKey_regKey (by decide) (by omega)))).trans
    (StillStep.wr _ _ (stillKey_regKey (by decide) (by omega)))

end

/-- Settles O13: the units are computed one after the other, each from the state of its own axis; what each leaves is a step of its weir and
of its law. -/
theorem windowComputes : Obligations.WindowComputes := by
  unfold Obligations.WindowComputes
  intro s t b stalls hs ht hlast hcomputed hopen hparked runs cost used hfits
  have hcosts : windowOverhead + (s.goTo (b + ns 300)).unitCosts stalls ((axesOf t).zipIdx 0) = used := by
    rw [State.unitCosts_axesOf]
    simp only [← Nat.add_assoc]
    rfl
  have hrun := State.runUnits_of_fits b stalls (axesOf t) (s := s.goTo (b + ns 300)) (k := 0) (used := windowOverhead) (nodup_axesOf t)
    (fun a ha => lt_of_mem_axesOf ht ha) hparked (hcosts.trans_le hfits)
  rw [hcosts] at hrun
  have hframe := UnitFrame.computeUnits (s.goTo (b + ns 300)) b stalls ht
  have haxes (k : Nat) (hk : k < 6) := (s.goTo (b + ns 300)).axis_computeUnits b stalls ht hk
  generalize (s.goTo (b + ns 300)).computeUnits t b stalls ((axesOf t).zipIdx 0) = u at hrun hframe haxes
  have hwindow : s.computeWindow t stalls [] = u.windowDone t b used := by
    rw [State.computeWindow_of stalls hs hlast hcomputed hopen hparked, hrun]
    rfl
  have hdone := StillStep.windowDone u b used ht
  obtain ⟨hopened, hcomputed', hmissed⟩ := u.engine_windowDone b used ht
  obtain ⟨hused, hpeak⟩ := u.cycles_windowDone t b used
  have hpeak0 : u.rd (Reg.cyclesPeak t) = s.rd (Reg.cyclesPeak t) := hframe.rd_shared (fun _ hc => hc) (by omega) (by decide)
  refine ⟨u.windowDone t b used, State.next_up hs hwindow (hdone.still (hframe.still trivial (fun _ hc => hc) hs))
    (hdone.outside.trans hframe.outside), hframe.lt, hopened, hcomputed', hmissed, hused, by rw [hpeak, hpeak0], fun k hk => ?_⟩
  obtain ⟨haxo, hpending⟩ := haxes k hk
  refine ⟨haxo, hpending, fun p hruns hp => ?_⟩
  obtain rfl := Option.some.inj ((if_pos hruns).symm.trans (hpending.symm.trans hp))
  refine ⟨fun hlive hinit hbefore => State.weirPeriod_free _ hlive hinit hbefore, fun bank hbank => ⟨Law.unit_shortFade hbank, fun hlen =>
    ⟨(Law.unit_longFade hbank hlen).1, (Law.unit_longFade hbank hlen).2, Law.unit_blend hbank hlen⟩⟩⟩

end Sys2Proof.Machine
end

section
/-! PROOFS. The actions of the lasers at their LT (R225, R251 to R254, R313). Settles O27. -/

namespace Sys2Proof.Machine

section
variable (s : State) {l : Nat} (hl : l < 16)
include hl

/-- Two changes of a laser are one. -/
theorem State.modLaser_modLaser (f g : Laser → Laser) : (s.modLaser l f).modLaser l g = s.modLaser l fun y => g (f y) := by
  have hself : (s.modLaser l f).laser l = f (s.laser l) := State.laser_modLaser_self s f hl
  rw [State.modLaser, hself]
  simp [State.modLaser, Vector.setIfInBounds, Array.setIfInBounds_setIfInBounds]

omit hl in
theorem State.modLaser_congr {f g : Laser → Laser} (h : f (s.laser l) = g (s.laser l)) : s.modLaser l f = s.modLaser l g := by
  unfold State.modLaser
  rw [h]

end

/-- What an action does to its laser; `cleared` says that an open edge leaves the laser cleared (R252 to R254). -/
def Action.acted (x : Action) (cleared : Bool) (y : Laser) : Laser :=
  match x.kind with
  | .gateOpen => { y with gate := true, value := x.value.getD y.value, hold := y.hold && cleared }
  | .gateClose => { y with gate := false, value := 0, play := none, closeLt := some x.lt }
  | .lmoWrite => if y.closeLt = some x.lt then y else { y with value := x.value.getD y.value }
  | .profileStart => { y with play := some { profile := x.profile, scale := x.scale, start := x.lt, next := 0 } }

theorem State.actLaser_eq (s : State) (l : Nat) (x : Action) :
    s.actLaser l x = s.modLaser l (x.acted (s.mode.clearLmLow || s.laserLatched l)) := by
  unfold State.actLaser Action.acted
  cases x.kind <;> rfl

/-- The next action of a laser: it leaves the share and acts, but for a value that is not seen because another follows soon (R251). -/
def Action.taken (x : Action) (cleared later : Bool) (rest : List Action) (y : Laser) : Laser :=
  let z := x.acted cleared { y with acts := rest }
  if later then { z with value := y.value } else z

section
variable {x : Action} (c later : Bool) (rest : List Action) (y : Laser)

theorem Action.taken_gateOpen (hk : x.kind = .gateOpen) : x.taken c later rest y =
    { y with acts := rest, gate := true, value := if later then y.value else x.value.getD y.value, hold := y.hold && c } := by
  simp only [Action.taken, Action.acted, hk]
  cases later <;> rfl

theorem Action.taken_gateClose (hk : x.kind = .gateClose) : x.taken c later rest y =
    { y with acts := rest, gate := false, value := if later then y.value else 0, play := none, closeLt := some x.lt } := by
  simp only [Action.taken, Action.acted, hk]
  cases later <;> rfl

theorem Action.taken_lmoWrite (hk : x.kind = .lmoWrite) : x.taken c later rest y =
    { y with acts := rest, value := if later ∨ y.closeLt = some x.lt then y.value else x.value.getD y.value } := by
  simp only [Action.taken, Action.acted, hk]
  by_cases hclosed : y.closeLt = some x.lt
  · cases later <;> simp [hclosed]
  · cases later <;> simp [hclosed]

theorem Action.taken_profileStart (hk : x.kind = .profileStart) : x.taken c later rest y =
    { y with acts := rest, play := some { profile := x.profile, scale := x.scale, start := x.lt, next := 0 } } := by
  simp only [Action.taken, Action.acted, hk]
  cases later <;> rfl

end

/-- A write follows the action `x` of laser L soon; a close ends the playback. -/
def State.writesOver (s : State) (l : Nat) (x : Action) (rest : List Action) : Bool :=
  s.writesSoon rest (if x.kind = .gateClose then none else (s.laser l).play) x.lt

section
variable {s : State} {l : Nat} {x : Action} {rest : List Action}

theorem State.writesOver_gateClose (hk : x.kind = .gateClose) : s.writesOver l x rest = s.writesSoon rest none x.lt := by
  rw [State.writesOver, if_pos hk]

theorem State.writesOver_of_ne (hk : x.kind ≠ .gateClose) : s.writesOver l x rest = s.writesSoon rest (s.laser l).play x.lt := by
  rw [State.writesOver, if_neg hk]

variable (hl : l < 16)
include hl

theorem State.execAction_next (h : (s.laser l).acts = x :: rest) :
    s.execAction l x.kind = (s.goTo x.lt).modLaser l
      (x.taken (s.mode.clearLmLow || s.laserLatched l) ((s.goTo x.lt).writesOver l x rest) rest) := by
  have htaken : s.execAction l x.kind =
      let u := ((s.goTo x.lt).modLaser l fun y => { y with acts := rest }).actLaser l x
      if (s.goTo x.lt).writesOver l x rest then u.modLaser l fun y => { y with value := (s.laser l).value } else u := by
    unfold State.execAction
    rw [h]
    exact if_pos rfl
  rw [htaken, State.actLaser_eq, State.modLaser_modLaser _ hl]
  dsimp only
  split
  · next hlater =>
    rw [State.modLaser_modLaser _ hl]
    refine State.modLaser_congr _ ?_
    rw [Action.taken, if_pos hlater]
    rfl
  · next hlater =>
    refine State.modLaser_congr _ ?_
    rw [Action.taken, if_neg hlater]
    rfl

/-- The command of the next action of laser L, from a still state. -/
theorem State.next_action (hs : s.still = true) (h : (s.laser l).acts = x :: rest) {k : ActKind} (hk : x.kind = k) :
    (Host.Outcome.next (s.up fun s => s.execAction l k) : Host.Outcome State Fault Refusal) = .next ((s.goTo x.lt).modLaser l
      (x.taken (s.mode.clearLmLow || s.laserLatched l) ((s.goTo x.lt).writesOver l x rest) rest)) := by
  subst hk
  refine State.next_up hs (State.execAction_next hl h) ?_ ?_
  · rw [State.still_modLaser, State.still_goTo, hs]
  · rw [State.outside_modLaser, State.outside_goTo]

omit hl in
/-- The next sample of a playback, at its instant (R254). -/
theorem State.playSample_next {p : Playback} (h : (s.laser l).play = some p) (hp : p.next < s.rd (Reg.profileLen p.profile)) :
    s.playSample l = (s.goTo (s.sampleAt p)).modLaser l fun y =>
      { y with
        value := if (s.goTo (s.sampleAt p)).writesSoon ((s.goTo (s.sampleAt p)).laser l).acts none (s.sampleAt p) ∨ y.closeLt = some (s.sampleAt p)
          then y.value
          else min (Num.rdiv ((s.profileSample (s.rd (Reg.profileStart p.profile) + p.next) : Int) * p.scale) 65536).toNat 65535
        play := if p.next + 1 < s.rd (Reg.profileLen p.profile) then some { p with next := p.next + 1 } else none } := by
  unfold State.playSample
  rw [h]
  refine (if_neg (Nat.not_le.2 hp)).trans (State.modLaser_congr _ ?_)
  by_cases hlast : p.next + 1 < s.rd (Reg.profileLen p.profile)
  · simp [hlast, Nat.not_le.2 hlast]
  · simp [hlast, Nat.not_lt.1 hlast]

end

/-- Settles O27: from a still state the command of an action leaves a still state, so that what the action takes and does is all it has. -/
theorem laserActions : Obligations.LaserActions := by
  unfold Obligations.LaserActions
  intro s l hs hl
  refine ⟨fun x rest hacts => ?_, fun p hplay hp => ?_⟩
  · dsimp only
    refine ⟨fun hk => ?_, fun hk => ?_, fun hk => ?_, fun hk => ?_⟩
    · refine (State.next_action hl hs hacts hk).trans (congrArg _ (State.modLaser_congr _ ?_))
      rw [Action.taken_gateOpen _ _ _ _ hk, State.writesOver_of_ne (by rw [hk]; decide)]
    · refine (State.next_action hl hs hacts hk).trans (congrArg _ (State.modLaser_congr _ ?_))
      rw [Action.taken_gateClose _ _ _ _ hk, State.writesOver_gateClose hk]
    · refine (State.next_action hl hs hacts hk).trans (congrArg _ (State.modLaser_congr _ ?_))
      rw [Action.taken_lmoWrite _ _ _ _ hk, State.writesOver_of_ne (by rw [hk]; decide)]
    · refine (State.next_action hl hs hacts hk).trans (congrArg _ (State.modLaser_congr _ ?_))
      rw [Action.taken_profileStart _ _ _ _ hk]
  · refine State.next_up hs (State.playSample_next hplay hp) ?_ ?_
    · rw [State.still_modLaser, State.still_goTo, hs]
    · rw [State.outside_modLaser, State.outside_goTo]

end Sys2Proof.Machine
end

section
/-! PROOFS. RESUME, STOP and ABANDON of a stream (R230, R231). -/

namespace Sys2Proof.Machine

/-! ### STREAM_CMD as a command of a master -/

theorem streamCmd_command {l : Nat} (hl : l < 16) : isCommand (Reg.streamCmd l) 4 = true ∧ recordPound (keyIndex (Reg.streamCmd l)) = none := by
  have hall : ∀ l, l < 16 → isCommand (Reg.streamCmd l) 4 = true ∧ recordPound (keyIndex (Reg.streamCmd l)) = none := by decide +kernel
  exact hall l hl

theorem streamCmd_ne {l i b : Nat} (hb : b < 256) (hi : i < 0x4100 ∨ 0x4200 ≤ i) (hl : l < 16) : Reg.streamCmd l ≠ regKey i b :=
  regKey_ne (by decide) hb (Or.inl (by omega))

theorem needsToken_streamCmd {l : Nat} (hl : l < 16) (b : List Nat) : needsToken (Reg.streamCmd l) b = false := by
  have hpark : (Reg.streamCmd l == Reg.parkCmd) = false := beq_false_of_ne (streamCmd_ne (by decide) (by decide) hl)
  have hmode : (Reg.streamCmd l == Reg.modeCmd) = false := beq_false_of_ne (streamCmd_ne (by decide) (by decide) hl)
  rw [needsToken, hpark, hmode]
  rfl

theorem State.commandObject_streamCmd (s : State) {l v : Nat} (hl : l < 16) (hv : v < 2 ^ 32) (src : Option Nat) :
    s.commandObject (Reg.streamCmd l) (leBytes 4 v) src = s.streamCommand l v := by
  have hindex : keyIndex (Reg.streamCmd l) = 0x4100 + 0x10 * l := by simp only [keyIndex, Reg.streamCmd, regKey]; omega
  have hlaser : keyLaser (Reg.streamCmd l) = l := by simp only [keyLaser, hindex]; omega
  have hword : ofLeBytes (leBytes 4 v) = v := by rw [ofLeBytes_leBytes, Nat.mod_eq_of_lt (by omega)]
  unfold State.commandObject
  dsimp only
  rw [(streamCmd_command hl).2, hword, hlaser, hindex]
  dsimp only
  rw [if_neg (streamCmd_ne (by decide) (by decide) hl), if_neg (streamCmd_ne (by decide) (by decide) hl),
    if_neg (streamCmd_ne (by decide) (by decide) hl), if_neg (streamCmd_ne (by decide) (by decide) hl), if_pos (by omega), if_pos rfl]

/-- A STREAM_CMD of laser l from a still state: `w` tells the command in its byte 3 and a segment below it. -/
theorem exec_streamCmd {s t : State} {src : Source} {dt n l w c : Nat} (hs : s.still = true) (h : (s.advance dt).speaks src n = true)
    (hl : l < 16) (hw : w < 2 ^ 32) (hcmd : ((s.advance dt).received src).streamCommand l w = (t, c)) (ht : StillStep ((s.advance dt).received src) t) :
    (Host.Outcome.next (s.upAt dt fun s => s.hostWriteIn src 16 l (Reg.streamCmd l) 4 w) : Host.Outcome State Fault Refusal) =
      .next (t.answer c []) := by
  simp only [State.hostWriteIn, if_pos hl, State.hostWriteAs]
  exact State.next_command hs h (by rw [leBytes_length]; exact (streamCmd_command hl).1) (streamCmd_ne (by decide) (by decide) hl)
    (Or.inl (needsToken_streamCmd hl _)) ((State.commandObject_streamCmd _ hl hw _).trans hcmd) (ht.still (State.still_heard hs))
    (ht.outside.trans (State.outside_heard s dt src))

/-! ### A message to the stream (R333) -/

section
variable (s : State) (dt : Nat) (src : Source)

@[simp] theorem State.lasers_received : (s.received src).lasers = s.lasers :=
  s.received_of (P := fun t => t.lasers = s.lasers) src rfl (fun _ _ _ _ h => ⟨h, h⟩) fun _ _ _ h => h

@[simp] theorem State.lock_received : (s.received src).lock = s.lock :=
  s.received_of (P := fun t => t.lock = s.lock) src rfl (fun _ _ _ _ h => ⟨h, h⟩) fun _ _ _ h => h

@[simp] theorem State.laser_heard (l : Nat) : ((s.advance dt).received src).laser l = s.laser l := by
  rw [State.laser, State.lasers_received]
  rfl

/-- The objects of the lasers, and those of the device below them. -/
theorem State.rd_heard {i b : Nat} (hi : 0x2000 ≤ i) (hb : b < 256) : ((s.advance dt).received src).rd (regKey i b) = s.rd (regKey i b) :=
  (s.advance dt).rd_received src fun k _ => ⟨regKey_ne hb (by omega) (by omega), regKey_ne hb (by omega) (by omega)⟩

theorem State.laserLatched_heard (l : Nat) : ((s.advance dt).received src).laserLatched l = s.laserLatched l := by
  rw [State.laserLatched, State.rd_heard s dt src (by decide) (by decide)]
  rfl

theorem State.streamRests_heard {l : Nat} : ((s.advance dt).received src).streamRests l = (s.advance dt).streamRests l := by
  unfold State.streamRests
  rw [State.laser_heard, State.lt_received, State.rd_heard s dt src (by omega) (by decide)]
  rfl

end

/-! ### The commands where nothing of the stream has fallen due (R230, R231) -/

section
variable {s : State} {l : Nat} (hrests : s.streamRests l = true)
include hrests

theorem State.streamCatch_rests : s.streamCatch l = s := if_pos hrests

theorem State.streamCommand_resume {seg : Nat} (hseg : seg < 2 ^ 24) (hmode : s.modeCode = BUILD) (hrun : s.lock.running = none)
    (hqueue : s.lock.queue = []) (hstopped : s.rd (Reg.streamState l) = 2) (hstop : s.rd (Reg.stopSeg l) = seg)
    (hlatch : s.laserLatched l = false) : s.streamCommand l (0x01000000 + seg % 2 ^ 24) =
      (s.modEngine (l / 2) fun e => { e with due := e.due ++ [(s.lt + ns 1000, .resume l)] }, 0) := by
  have hcmd : bitsAt (0x01000000 + seg % 2 ^ 24) 24 8 = 1 := by unfold bitsAt; omega
  have hword : bitsAt (0x01000000 + seg % 2 ^ 24) 0 24 = seg := by unfold bitsAt; omega
  have hclear : s.laserLatchClears l = s := by rw [State.laserLatchClears, hlatch]; rfl
  unfold State.streamCommand
  rw [State.streamCatch_rests hrests, hcmd, hword]
  dsimp only
  rw [if_pos rfl, if_neg (not_not.2 hmode), if_neg (by simp [hrun, hqueue]), if_neg (by simp [hstop, hstopped]), hclear]

theorem State.streamCommand_stop : s.streamCommand l 0x02000000 =
    if s.rd (Reg.streamState l) = 1 then
      (if (s.laser l).stream.stops.isEmpty then s.modStream l fun m => { m with hostStop := true } else s, 0)
    else (s, 0xA012) := by
  have hcmd : bitsAt 0x02000000 24 8 = 2 := by decide
  have hword : bitsAt 0x02000000 0 24 = 0 := by decide
  unfold State.streamCommand
  rw [State.streamCatch_rests hrests, hcmd, hword]
  by_cases hrun : s.rd (Reg.streamState l) = 1
  · cases hstops : (s.laser l).stream.stops.isEmpty
    · simp [hrun, hstops]
    · simp [hrun, hstops]
  · simp [hrun]

theorem State.streamCommand_abandon : s.streamCommand l 0x03000000 = ((s.laserLatchClears l).abandonStream l, 0) := by
  have hcmd : bitsAt 0x03000000 24 8 = 3 := by decide
  have hword : bitsAt 0x03000000 0 24 = 0 := by decide
  unfold State.streamCommand
  rw [State.streamCatch_rests hrests, hcmd, hword]
  rfl

end

/-! ### What an abandoned stream leaves (R231) -/

section
variable (s : State) {l : Nat} (hl : l < 16)

/-- Objects of laser l that go with its offsets, and the count of lost records. -/
def offsetKeys (l : Nat) : List Nat := [Reg.corrDx l, Reg.corrDy l, Reg.afOffset l, Reg.afState l, Reg.lostCount]

include hl

/-- The search of a laser ends, if one runs. -/
theorem State.afAbandon_shows (cause : Nat) : (s.afAbandon l cause).laser l = { s.laser l with search := none } ∧
    (s.afAbandon l cause).axes = s.axes ∧ (∀ k, k ∉ offsetKeys l → (s.afAbandon l cause).rd k = s.rd k) ∧ StillStep s (s.afAbandon l cause) := by
  unfold State.afAbandon
  split
  · next hnone => exact ⟨by rw [← hnone], rfl, fun _ _ => rfl, StillStep.refl s⟩
  · next x _ =>
    refine ⟨?_, ?_, fun k hk => ?_, ?_⟩
    · rw [State.laser, State.raise_lasers]
      exact State.laser_modLaser_self s (fun y => { y with search := none }) hl
    · rw [State.raise_axes]
      rfl
    · simp only [offsetKeys, List.mem_cons, List.not_mem_nil, or_false, not_or] at hk
      obtain ⟨-, -, hoffset, hstate, hlost⟩ := hk
      rw [State.rd_raise _ _ _ _ _ (by decide) hlost, State.rd_wr_ne _ _ hstate, State.wrS, State.rd_wr_ne _ _ hoffset]
      rfl
    · refine StillStep.trans ?_ (StillStep.raise _ _ _ _ (by decide))
      refine StillStep.trans ?_ (StillStep.wr _ _ (stillKey_regKey (by decide) (by omega)))
      exact StillStep.trans ⟨fun hs => by rw [State.still_modLaser]; exact hs, State.outside_modLaser _ _ _⟩
        (StillStep.wr _ _ (stillKey_regKey (by decide) (by omega)))

/-- The offsets of a laser become 0. -/
theorem State.corrZero_shows : (s.corrZero l).laser l = { s.laser l with corr := (0, 0), corrNow := (0, 0), corrTarget := (0, 0) } ∧
    (s.corrZero l).axes = s.axes ∧ (∀ k, k ∉ offsetKeys l → (s.corrZero l).rd k = s.rd k) ∧ StillStep s (s.corrZero l) := by
  refine ⟨State.laser_modLaser_self s (fun y => { y with corr := (0, 0), corrNow := (0, 0), corrTarget := (0, 0) }) hl, rfl, fun k hk => ?_, ?_⟩
  · simp only [offsetKeys, List.mem_cons, List.not_mem_nil, or_false, not_or] at hk
    obtain ⟨hx, hy, -⟩ := hk
    rw [State.corrZero, State.rd_wr_ne _ _ hy, State.rd_wr_ne _ _ hx]
    rfl
  · refine StillStep.trans ?_ (StillStep.wr _ _ (stillKey_regKey (by decide) (by omega)))
    exact StillStep.trans ⟨fun hs => by rw [State.still_modLaser]; exact hs, State.outside_modLaser _ _ _⟩
      (StillStep.wr _ _ (stillKey_regKey (by decide) (by omega)))

/-- A laser as its stream is abandoned: its gate closes, its actions go, and its stream is over (R231). -/
def Laser.cutOff (y : Laser) : Laser :=
  { y with
    gate := false, value := 0, play := none, acts := []
    stream := { y.stream with
      segs := [], staging := [], fetching := none, stops := [], hostStop := false, resumeSeg := none, startAt := none, ended := false
      frozen := true, cur := atRest y.stream.cur, lastEnd := y.stream.point, finished := true
      abandoned := y.stream.abandoned || !y.stream.finished } }

/-- Then its offsets are 0, and it searches no focus (R370, R371). -/
def Laser.abandoned (y : Laser) : Laser :=
  { y.cutOff with corr := (0, 0), corrNow := (0, 0), corrTarget := (0, 0), search := none }

omit hl in
theorem not_offsetKeys : Reg.streamState l ∉ offsetKeys l ∧ Reg.mode ∉ offsetKeys l := by
  simp only [offsetKeys, Reg.streamState, Reg.mode, Reg.corrDx, Reg.corrDy, Reg.afOffset, Reg.afState, Reg.lostCount, regKey, List.mem_cons,
    List.not_mem_nil, or_false]
  omega

theorem State.abandonStream_shows : (s.abandonStream l).laser l = (s.laser l).abandoned ∧ (s.abandonStream l).axes = s.axes ∧
    (s.abandonStream l).rd (Reg.streamState l) = 0 ∧ (s.abandonStream l).modeCode = s.modeCode ∧ StillStep s (s.abandonStream l) := by
  set u := (s.modLaser l Laser.cutOff).wr (Reg.streamState l) 0 with hu
  have hcut : u.laser l = (s.laser l).cutOff := State.laser_modLaser_self s _ hl
  obtain ⟨hzero, haxes, hkeys, hstill⟩ := u.corrZero_shows hl
  obtain ⟨hlaser, haxes', hkeys', hstill'⟩ := (u.corrZero l).afAbandon_shows hl 3
  obtain ⟨hstate, hmode⟩ := not_offsetKeys (l := l)
  have habandon : s.abandonStream l = (u.corrZero l).afAbandon l 3 := rfl
  rw [habandon]
  refine ⟨?_, haxes'.trans haxes, ?_, ?_, StillStep.trans ?_ (hstill.trans hstill')⟩
  · rw [hlaser, hzero, hcut]
    rfl
  · rw [hkeys' _ hstate, hkeys _ hstate, hu, State.rd_wr_self]
  · rw [State.modeCode, hkeys' _ hmode, hkeys _ hmode, hu, State.rd_wr_ne _ _ (regKey_ne (by decide) (by decide) (by omega))]
    rfl
  · refine StillStep.trans ?_ (StillStep.wr _ _ (stillKey_regKey (by decide) (by omega)))
    exact ⟨fun hs => by rw [State.still_modLaser]; exact hs, State.outside_modLaser _ _ _⟩

omit hl in
/-- A latch that clears changes neither MODE nor an axis (R418). -/
theorem State.laserLatchClears_shows : (s.laserLatchClears l).axes = s.axes ∧ (s.laserLatchClears l).modeCode = s.modeCode ∧
    StillStep s (s.laserLatchClears l) := by
  unfold State.laserLatchClears
  split
  · refine ⟨rfl, State.rd_wr_ne _ _ (by decide), StillStep.trans (r := s.wrField Reg.faultSummary l 1 0) (StillStep.wr _ _ (by decide)) ?_⟩
    exact ⟨fun hs => by rw [State.still_darken]; exact hs, State.outside_darken _ _⟩
  · exact ⟨rfl, rfl, StillStep.refl s⟩

end

section
variable {s : State} {dt n l : Nat} {src : Source} (hs : s.still = true) (h : (s.advance dt).speaks src n = true) (hl : l < 16)
  (hrests : (s.advance dt).streamRests l = true)
include hs h hl hrests

theorem exec_resume (hmode : s.modeCode = BUILD) (hrun : s.lock.running = none) (hqueue : s.lock.queue = [])
    (hstopped : s.rd (Reg.streamState l) = 2) (hstop : s.rd (Reg.stopSeg l) < 2 ^ 24) (hlatch : s.laserLatched l = false) :
    exec (.resume dt src l (s.rd (Reg.stopSeg l))) s = .next ((((s.advance dt).received src).modEngine (l / 2) fun e =>
      { e with due := e.due ++ [(((s.advance dt).received src).lt + ns 1000, .resume l)] }).answer 0 []) := by
  refine exec_streamCmd hs h hl (by omega) (State.streamCommand_resume ((State.streamRests_heard s dt src).trans hrests) hstop ?_ ?_ ?_ ?_ ?_ ?_)
    ⟨fun hr => by rw [State.still_modEngine]; exact hr, State.outside_modEngine _ _ _⟩
  · rw [State.modeCode_heard, hmode]
  · rw [State.lock_received]; exact hrun
  · rw [State.lock_received]; exact hqueue
  · rw [State.rd_heard s dt src (by omega) (by decide), hstopped]
  · rw [State.rd_heard s dt src (by omega) (by decide)]
  · rw [State.laserLatched_heard, hlatch]

theorem exec_stop : exec (.stop dt src l) s = .next (if s.rd (Reg.streamState l) = 1 then
      (if (s.laser l).stream.stops.isEmpty then ((s.advance dt).received src).modStream l fun m => { m with hostStop := true }
        else (s.advance dt).received src).answer 0 []
    else ((s.advance dt).received src).answer 0xA012 []) := by
  have hcmd := State.streamCommand_stop ((State.streamRests_heard s dt src).trans hrests)
  rw [State.rd_heard s dt src (by omega) (by decide), State.laser_heard] at hcmd
  split
  · next hrun =>
    rw [if_pos hrun] at hcmd
    refine exec_streamCmd hs h hl (by decide) hcmd (StillStep.ite ⟨fun hr => ?_, State.outside_modStream _ _ _⟩ (StillStep.refl _))
    rw [State.still_modStream]; exact hr
  · next hrun =>
    rw [if_neg hrun] at hcmd
    exact exec_streamCmd hs h hl (by decide) hcmd (StillStep.refl _)

theorem exec_abandon : ∃ t : State, exec (.abandon dt src l) s = .next t ∧ t.net.reply.abort = 0 ∧ t.rd (Reg.streamState l) = 0 ∧
    (t.laser l).gate = false ∧ (t.laser l).value = 0 ∧ (t.laser l).acts = [] ∧ (t.laser l).play = none ∧ (t.laser l).stream.finished = true ∧
    (t.laser l).stream.segs = [] ∧ (t.laser l).stream.frozen = true ∧ t.axes = s.axes ∧ t.modeCode = s.modeCode := by
  set r := (s.advance dt).received src with hr
  obtain ⟨haxes, hmode, hstill⟩ := r.laserLatchClears_shows (l := l)
  obtain ⟨hlaser, haxes', hstate, hmode', hstill'⟩ := (r.laserLatchClears l).abandonStream_shows hl
  have hcmd := State.streamCommand_abandon ((State.streamRests_heard s dt src).trans hrests)
  refine ⟨_, exec_streamCmd hs h hl (by decide) hcmd (hstill.trans hstill'), rfl, hstate, ?_⟩
  have hanswered : ((((r.laserLatchClears l).abandonStream l).answer 0 []).laser l) = ((r.laserLatchClears l).laser l).abandoned := hlaser
  rw [hanswered]
  exact ⟨rfl, rfl, rfl, rfl, rfl, rfl, rfl, haxes'.trans (haxes.trans (State.axes_received (s.advance dt) src)),
    hmode'.trans (hmode.trans (State.modeCode_heard s dt src))⟩

end

end Sys2Proof.Machine
end

section
/-! PROOFS. A stream inside a segment at a boundary of its engine (R219, R220, R226). -/

namespace Sys2Proof.Machine

/-- The stream is inside the segment `x`, with `now` in use and `cur` formed, and neither starts, resumes nor stops; what is decoded
follows `x`. -/
structure Stream.Carries (x : Seg) (now cur : List Int) (m : Stream) : Prop where
  segs : ∃ rest, m.segs = x :: rest ∧ ∀ y, y ∈ rest → x.t2 ≤ y.t0 ∧ y.t0 ≤ y.t2
  last : x.t2 ≤ m.lastTime
  decoded : x.s < m.decodeNext
  within : x.s < m.len
  start : m.startAt = none
  resume : m.resumeSeg = none
  live : m.frozen = false
  going : m.hostStop = false
  used : m.now = now
  formed : m.cur = cur

/-- A segment that has begun by `t` is marked as begun. -/
def Seg.Told (x : Seg) (t : Lt) : Prop := x.begun = true ∨ t < x.t0

theorem Seg.Told.marked {x : Seg} {t : Lt} (h : x.Told t) : x.marked t = x := by
  unfold Seg.marked
  split
  · next hle =>
    have hbegun : x.begun = true := h.resolve_right (Nat.not_lt.2 hle)
    rw [← hbegun]
  · rfl

namespace Stream.Carries

variable {x : Seg} {now cur : List Int} {m : Stream}

theorem segAt (h : m.Carries x now cur) {t : Lt} (h0 : x.t0 ≤ t) (h2 : t < x.t2) : m.segAt t = some x := by
  obtain ⟨rest, hsegs, hrest⟩ := h.segs
  have hnone : rest.filter (fun y => decide (y.t0 ≤ t)) = [] := by
    rw [List.filter_eq_nil_iff]
    intro y hy
    simpa using h2.trans_le (hrest y hy).1
  simp [Stream.segAt, hsegs, h0, hnone]

theorem pointAt (h : m.Carries x now cur) {t : Lt} (h0 : x.t0 ≤ t) (h2 : t < x.t2) : m.pointAt t = x.at t := by
  unfold Stream.pointAt
  rw [h.segAt h0 h2]

theorem of_segs (h : m.Carries x now cur) {t : Lt} (h2 : t < x.t2) {y : Seg} (hy : y ∈ m.segs) : t < y.t2 := by
  obtain ⟨rest, hsegs, hrest⟩ := h.segs
  rw [hsegs] at hy
  rcases List.mem_cons.1 hy with rfl | hy
  · exact h2
  · exact h2.trans_le ((hrest y hy).1.trans (hrest y hy).2)

theorem segs_ne (h : m.Carries x now cur) : m.segs ≠ [] := by
  obtain ⟨rest, hsegs, -⟩ := h.segs
  rw [hsegs]
  exact List.cons_ne_nil _ _

theorem progressed (h : m.Carries x now cur) {t : Lt} (h2 : t < x.t2) (htold : x.Told t) : (m.progressed t).Carries x now cur := by
  have hall : m.segs.filter (fun y => !decide (y.t2 ≤ t)) = m.segs := by
    rw [List.filter_eq_self]
    intro y hy
    simpa using h.of_segs h2 hy
  obtain ⟨rest, hsegs, hrest⟩ := h.segs
  refine { h with segs := ⟨rest.map fun y => y.marked t, ?_, fun y hy => ?_⟩ }
  · refine (congrArg (List.map _) (hall.trans hsegs)).trans ?_
    rw [List.map_cons, htold.marked]
  · obtain ⟨z, hz, rfl⟩ := List.mem_map.1 hy
    obtain ⟨-, hz0, hz2⟩ := z.marked_times t
    rw [hz0, hz2]
    exact hrest z hz

theorem decodable (x : Seg) (now cur : List Int) : Stream.Decodable (Stream.Carries x now cur) where
  stops _ _ h := { h with }
  profile _ _ h := { h with }
  back m seg y n h hseg hy hle := by
    obtain ⟨rest, hsegs, hrest⟩ := h.segs
    have hlt : x.s < seg := hseg.elim (fun e => e ▸ h.decoded) fun e => e ▸ h.within
    have hy' : y ∈ rest := by
      rw [hsegs] at hy
      rcases List.mem_cons.1 hy with rfl | hy
      · exact absurd hle (Nat.not_le.2 hlt)
      · exact hy
    refine { h with segs := ⟨rest.filter fun z => decide (z.s < seg) || z.ty == 0, ?_, fun z hz => hrest z (List.mem_of_mem_filter hz)⟩
                    last := (hrest y hy').1, decoded := hlt }
    dsimp only
    rw [hsegs, List.filter_cons_of_pos (by simp [hlt])]
  next m y e st h hs h0 h2 := by
    obtain ⟨rest, hsegs, hrest⟩ := h.segs
    have hy : x.t2 ≤ y.t0 := h0 ▸ h.last
    refine { h with segs := ⟨rest ++ [y], ?_, fun z hz => ?_⟩, last := hy.trans h2, decoded := Nat.lt_succ_of_lt h.decoded }
    · dsimp only
      rw [hsegs, List.cons_append]
    · rcases List.mem_append.1 hz with hz | hz
      · exact hrest z hz
      · rw [List.mem_singleton.1 hz]
        exact ⟨hy, h2⟩

end Stream.Carries

section
variable {l : Nat} (hl : l < 16) (s : State) {x : Seg} {now cur : List Int} {b : Lt}
include hl

theorem State.streamProgress_carries (h2 : b < x.t2) (htold : x.Told b) (h : s.Streams l (Stream.Carries x now cur)) :
    (s.streamProgress l b).Streams l (Stream.Carries x now cur) := by
  unfold State.Streams
  rw [State.stream_streamProgress hl _ fun y hy => h.of_segs h2 hy]
  exact h.progressed h2 htold

/-- At the boundary the set-point that was formed comes into use. -/
theorem State.laserBoundary_carries (h2 : b < x.t2) (htold : x.Told b) (h : s.Streams l (Stream.Carries x now cur)) :
    (s.laserBoundary l b).Streams l (Stream.Carries x cur cur) := by
  have hshown : (s.laserShows l b).Streams l (Stream.Carries x cur cur) := by
    unfold State.Streams
    rw [State.stream_laserShows hl]
    exact { h with used := h.formed }
  have hreached : (s.laserReaches l b).Streams l (Stream.Carries x cur cur) := by
    unfold State.laserReaches
    dsimp only
    split
    · have hgone := State.streamProgress_carries hl _ h2 htold hshown
      rwa [State.stopIfDue_of_segs hgone.segs_ne]
    · exact hshown
  rw [State.laserBoundary_eq, State.laserStarts_of_unstarted (by rw [hreached.start]; exact (Option.some_ne_none b).symm),
    State.laserResumes_of_none hreached.resume]
  exact State.Streams.laserDecodes hl _ (Stream.Carries.decodable x cur cur) hreached b _

end

end Sys2Proof.Machine
end

section
/-! PROOFS. What the lasers do at a boundary, and the reads of external memory, leave another laser and the offset of its search
alone (R220, R228, R371, R383). -/

namespace Sys2Proof.Machine

/-- From `s` to `r` laser l stays as it is, and its AF_OFFSET. -/
structure LaserKept (l : Nat) (s r : State) : Prop where
  laser : r.laser l = s.laser l
  offset : r.rd (Reg.afOffset l) = s.rd (Reg.afOffset l)

theorem afOffset_apart {l : Nat} (hl : l < 16) : (∀ k, k ∈ deviceKeys → k ≠ Reg.afOffset l) ∧
    (∀ j, j < 16 → j ≠ l → ∀ k, k ∈ Reg.streamState j :: laserKeys j → k ≠ Reg.afOffset l) := by
  have hall : ∀ l, l < 16 → (∀ k, k ∈ deviceKeys → k ≠ Reg.afOffset l) ∧
      (∀ j, j < 16 → j ≠ l → ∀ k, k ∈ Reg.streamState j :: laserKeys j → k ≠ Reg.afOffset l) := by decide +kernel
  exact hall l hl

namespace LaserKept

variable {l : Nat} {s r u : State}

theorem refl (s : State) : LaserKept l s s := ⟨rfl, rfl⟩

theorem trans (h : LaserKept l s r) (h' : LaserKept l r u) : LaserKept l s u := ⟨h'.laser.trans h.laser, h'.offset.trans h.offset⟩

theorem ite {c : Prop} [Decidable c] (h : LaserKept l s r) (h' : LaserKept l s u) : LaserKept l s (if c then r else u) := by
  split
  · exact h
  · exact h'

theorem when {c : Prop} [Decidable c] (h : LaserKept l s r) : LaserKept l s (if c then r else s) := ite h (refl s)

theorem otherwise {c : Prop} [Decidable c] (h : LaserKept l s r) : LaserKept l s (if c then s else r) := ite (refl s) h

theorem iteFst {α : Type} {c : Prop} [Decidable c] {x y : State × α} (h : LaserKept l s x.1) (h' : LaserKept l s y.1) :
    LaserKept l s (if c then x else y).1 := by
  split
  · exact h
  · exact h'

theorem foldl {α : Type} {f : State → α → State} (as : List α) (h : ∀ r a, a ∈ as → LaserKept l r (f r a)) : LaserKept l s (as.foldl f s) :=
  foldl_of (P := LaserKept l s) as (refl s) fun r a ha hr => hr.trans (h r a ha)

/-- A change beside the lasers and the registers. -/
theorem beside (hlasers : r.lasers = s.lasers) (hregs : r.regs = s.regs) : LaserKept l s r :=
  ⟨by rw [State.laser, hlasers]; rfl, by rw [State.rd, hregs]; rfl⟩

theorem modLog (f : Log → Log) : LaserKept l s (s.modLog f) := beside rfl rfl
theorem modLock (f : LockKeeper → LockKeeper) : LaserKept l s (s.modLock f) := beside rfl rfl
theorem modCam (c : Nat) (f : Cam → Cam) : LaserKept l s (s.modCam c f) := beside rfl rfl
theorem modMem (f : MemPort → MemPort) : LaserKept l s (s.modMem f) := beside rfl rfl
theorem freeCount (n : Nat) : LaserKept l s { s with freeCount := n } := beside rfl rfl

theorem wr (k v : Nat) (hk : k ≠ Reg.afOffset l) : LaserKept l s (s.wr k v) := ⟨rfl, s.rd_wr_ne v hk.symm⟩

theorem modLaser (f : Laser → Laser) {j : Nat} (hj : j ≠ l) : LaserKept l s (s.modLaser j f) := ⟨s.laser_modLaser_ne f hj.symm, rfl⟩

section
variable (hl : l < 16) (s : State)
include hl

theorem wrDevice (k v : Nat) (hk : k ∈ deviceKeys) : LaserKept l s (s.wr k v) := wr k v ((afOffset_apart hl).1 k hk)

theorem bumpDevice (w k : Nat) (hk : k ∈ deviceKeys) : LaserKept l s (s.bump w k) := wrDevice hl s k _ hk

theorem deliver (e : Event) : LaserKept l s (s.deliver e) := by
  unfold State.deliver
  refine ite (modLog _) ?_
  exact trans (otherwise (bumpDevice hl _ _ _ (by simp [deviceKeys]))) (modLog _)

/-- An event latches units other than an axis, if any. -/
theorem latch {e : Event} (hlv : e.level ≠ 2) : LaserKept l s (s.latch e) := by
  have hlatched : LaserKept l s (if e.level = 3 then
      if e.unit < 16 then s.wr Reg.faultSummary (Nat.lor (s.rd Reg.faultSummary) (2 ^ e.unit)) else s
    else if e.level = 4 then
      (s.wr Reg.faultSummary (Nat.lor (s.rd Reg.faultSummary) (2 ^ 16))).modLock fun k => { k with deviceLatched := k.deviceLatched ++ [e.code] }
    else s) :=
    ite (when (wrDevice hl _ _ _ (by simp [deviceKeys]))) (when ((wrDevice hl _ _ _ (by simp [deviceKeys])).trans (modLock _)))
  unfold State.latch
  rw [if_neg hlv]
  exact hlatched.trans (when (modLock _))

theorem raiseFull (lv code cls inst : Nat) (data : List Nat) (ts : Lt) (trig : List (Nat × Nat)) (hlv : lv ≠ 2) :
    LaserKept l s (s.raiseFull lv code cls inst data ts trig) := by
  unfold State.raiseFull State.raiseUnit
  exact otherwise ((modLog _).trans ((deliver hl _ _).trans (latch hl _ hlv)))

theorem raise (code cls inst : Nat) (data : List Nat) (hlv : levelOf code ≠ 2) : LaserKept l s (s.raise code cls inst data) :=
  raiseFull hl s _ _ _ _ _ _ _ hlv

theorem raiseIf (b : Bool) (code cls inst : Nat) (data : List Nat) (hlv : levelOf code ≠ 2) : LaserKept l s (s.raiseIf b code cls inst data) :=
  when (raise hl s code cls inst data hlv)

theorem notePending : LaserKept l s s.notePending := wrDevice hl _ _ _ (by simp [deviceKeys])

theorem chooseTrigger (c : Nat) (b : Lt) : LaserKept l s (s.chooseTrigger c b) := by
  unfold State.chooseTrigger
  exact otherwise (when ((modCam c _).trans (notePending hl _)))

/-! ### Bursts of the memory (R383, R394) -/

theorem memBurstBad (cls burst kind : Nat) : LaserKept l s (s.memBurstBad cls burst kind) :=
  (((wrDevice hl _ _ _ (by simp [deviceKeys])).trans (wrDevice hl _ _ _ (by simp [deviceKeys]))).trans
    (wrDevice hl _ _ _ (by simp [deviceKeys]))).trans (raise hl _ _ _ _ _ (by decide))

theorem memSingle (cls burst : Nat) : LaserKept l s (s.memSingle cls burst) := by
  unfold State.memSingle
  refine trans ?_ (raiseIf hl _ _ _ _ _ _ (by decide))
  refine trans ?_ (modMem _)
  refine trans ?_ (bumpDevice hl _ _ _ (by split <;> simp [deviceKeys]))
  exact (wrDevice hl _ _ _ (by simp [deviceKeys])).trans (wrDevice hl _ _ _ (by simp [deviceKeys]))

theorem readBurst (cls k : Nat) (es : List MemErr) : LaserKept l s (s.readBurst cls k es).1 := by
  have hsingle := foldl (l := l) (s := s) (es.filter fun e => s.errKind e == 1) fun r _ _ => memSingle hl r cls k
  unfold State.readBurst
  dsimp only
  split
  · exact hsingle
  · exact (hsingle.trans (memBurstBad hl _ _ _ _)).trans (foldl _ fun r e _ => otherwise (modMem _))

theorem trajBurst (k : Nat) (es : List MemErr) : LaserKept l s (s.trajBurst k es).1 := by
  have hread := readBurst hl s clsTRAJ k es
  unfold State.trajBurst
  refine iteFst hread (iteFst ?_ (hread.trans (readBurst hl _ _ _ _)))
  exact (hread.trans (wrDevice hl _ _ _ (by simp [deviceKeys]))).trans (raise hl _ _ _ _ _ (by decide))

theorem trajErrors (es : List MemErr) : LaserKept l s (s.trajErrors es).1 := by
  have hpass (ks : List Nat) (x : State × List Nat) (hx : LaserKept l s x.1) :
      LaserKept l s (ks.foldl (init := x) fun (x : State × List Nat) k =>
        let r := x.1.trajBurst k (es.filter (·.burst == k))
        (r.1, if r.2 then k :: x.2 else x.2)).1 := by
    induction ks generalizing x with
    | nil => exact hx
    | cons k ks ih => exact ih _ (hx.trans (trajBurst hl _ _ _))
  exact hpass _ (s, []) (refl s)

theorem gridLatency (again : Bool) : LaserKept l s (s.gridLatency again) := (freeCount _).trans (wrDevice hl _ _ _ (by simp [deviceKeys]))

theorem gridErrors (j : Nat) (next : Lt) (errs : List (Nat × MemErr)) : LaserKept l s (s.gridErrors j next errs).1 := by
  unfold State.gridErrors
  exact iteFst ((trajErrors hl s _).trans (gridLatency hl _ _)) (refl s)

/-! ### The stream of another laser (R219, R226, R228) -/

section
variable {j : Nat} (hjl : j ≠ l)
include hjl

omit hl in
theorem modStream (f : Stream → Stream) : LaserKept l s (s.modStream j f) := modLaser _ hjl

omit hl in
theorem actLaser (x : Action) : LaserKept l s (s.actLaser j x) := by
  rw [State.actLaser_eq]
  exact modLaser _ hjl

theorem lateAction (x : Action) : LaserKept l s (s.lateAction j x) := by
  unfold State.lateAction
  refine ite ?_ ((wrDevice hl _ _ _ (by simp [deviceKeys])).trans (raise hl _ _ _ _ _ (by decide)))
  refine trans (trans ?_ (actLaser _ hjl _)) (when (modLaser _ hjl))
  exact ((wrDevice hl _ _ _ (by simp [deviceKeys])).trans (wrDevice hl _ _ _ (by simp [deviceKeys]))).trans (raise hl _ _ _ _ _ (by decide))

theorem enterActs (xs : List Action) : LaserKept l s (s.enterActs j xs) := by
  refine foldl _ fun r x _ => ite (lateAction hl r hjl x) (trans ?_ (notePending hl _))
  exact (modLaser _ hjl).trans (otherwise (wrDevice hl _ _ _ (by simp [deviceKeys])))

theorem addStop (seg reason : Nat) : LaserKept l s (s.addStop j seg reason) := by
  unfold State.addStop
  dsimp only
  split
  · exact modStream s hjl _
  · exact ((modStream s hjl _).trans (modLaser _ hjl)).trans (when (enterActs hl _ hjl _))

omit hl in
theorem refill : LaserKept l s (s.refill j) := by
  unfold State.refill
  exact otherwise (when (modStream s hjl _))

variable (hj : j < 16)
include hj

theorem laserWr (k v : Nat) (hk : k ∈ Reg.streamState j :: laserKeys j) : LaserKept l s (s.wr k v) := wr k v ((afOffset_apart hl).2 j hj hjl k hk)

theorem afStart (t : Lt) : LaserKept l s (s.afStart j t) := by
  unfold State.afStart
  dsimp only
  split
  · refine ite ?_ (raiseFull hl _ _ _ _ _ _ _ _ (by decide))
    exact ((modLaser _ hjl).trans (laserWr hl _ hjl hj _ _ (by simp [laserKeys]))).trans (raiseFull hl _ _ _ _ _ _ _ _ (by decide))
  · exact raiseFull hl _ _ _ _ _ _ _ _ (by decide)

theorem segBegins (x : Seg) : LaserKept l s (s.segBegins j x) := by
  have hexec : LaserKept l s (s.wr (Reg.segExec j) x.s) := laserWr hl s hjl hj _ _ (by simp [laserKeys])
  have hlate : LaserKept l s (match x.late with
      | some d => (s.wr (Reg.segExec j) x.s).raiseFull 1 0x3517 cLASER j (dU 4 x.s ++ dI 4 d) x.t0 []
      | none => s.wr (Reg.segExec j) x.s) := by
    split
    · exact hexec.trans (raiseFull hl _ _ _ _ _ _ _ _ (by decide))
    · exact hexec
  exact ite (hlate.trans (afStart hl _ hjl hj _)) hlate

theorem streamProgress (t : Lt) : LaserKept l s (s.streamProgress j t) := by
  have hbegin : LaserKept l s (s.segsBegin j t) := foldl _ fun r x _ => segBegins hl r hjl hj x
  have hend : LaserKept l s ((s.segsBegin j t).segsEnd j t) :=
    hbegin.trans ((laserWr hl _ hjl hj _ _ (by simp [laserKeys])).trans (modStream _ hjl _))
  rw [State.streamProgress_eq]
  dsimp only
  split
  · exact ((hend.trans (modLaser _ hjl)).trans (laserWr hl _ hjl hj _ _ (by simp))).trans (raiseFull hl _ _ _ _ _ _ _ _ (by decide))
  · exact hend

theorem corrZero : LaserKept l s (s.corrZero j) :=
  ((modLaser _ hjl).trans (laserWr hl _ hjl hj _ _ (by simp [laserKeys]))).trans (laserWr hl _ hjl hj _ _ (by simp [laserKeys]))

theorem afAbandon (cause : Nat) : LaserKept l s (s.afAbandon j cause) := by
  unfold State.afAbandon
  split
  · exact refl s
  · exact (((modLaser _ hjl).trans (laserWr hl _ hjl hj _ _ (by simp [laserKeys]))).trans (laserWr hl _ hjl hj _ _ (by simp [laserKeys]))).trans
      (raise hl _ _ _ _ _ (by decide))

theorem streamStopped (x : Stop) (t : Lt) (partly : Bool) : LaserKept l s (s.streamStopped j x t partly) := by
  unfold State.streamStopped
  refine trans ?_ (foldl _ fun r y _ => raiseFull hl r _ _ _ _ _ _ _ (by split <;> decide))
  refine trans (trans (trans ?_ (modStream _ hjl _)) (corrZero hl _ hjl hj)) (afAbandon hl _ hjl hj _)
  exact ((((laserWr hl _ hjl hj _ _ (by simp)).trans (laserWr hl _ hjl hj _ _ (by simp [laserKeys]))).trans
    (laserWr hl _ hjl hj _ _ (by simp [laserKeys]))).trans (laserWr hl _ hjl hj _ _ (by simp [laserKeys]))).trans
    (laserWr hl _ hjl hj _ _ (by simp [laserKeys]))

theorem stopWithin (reason : Nat) (t : Lt) : LaserKept l s (s.stopWithin j reason t) := by
  have hprogress := streamProgress hl s hjl hj t
  unfold State.stopWithin
  refine otherwise (otherwise (ite hprogress ?_))
  refine hprogress.trans (trans ?_ (streamStopped hl _ hjl hj _ _ _))
  exact (modLaser _ hjl).trans (ite (modLaser _ hjl) (ite (enterActs hl _ hjl _) (refl _)))

theorem laserSetpoint (b : Lt) (seg gridErr : Bool) : LaserKept l s (s.laserSetpoint j b seg gridErr) := by
  unfold State.laserSetpoint
  refine trans (trans (trans ?_ (when (stopWithin hl _ hjl hj _ _))) (ite (modStream _ hjl _) (modStream _ hjl _))) (refill _ hjl)
  refine when ?_
  split
  · exact (modStream _ hjl _).trans (addStop hl _ hjl _ _)
  · exact refl s

end

end

end LaserKept

end Sys2Proof.Machine
end

section
/-! PROOFS. The set-points that a boundary forms for the next one (R220, R221). -/

namespace Sys2Proof.Machine

/-! ### What they are formed from -/

/-- The objects of laser l that its set-points are formed from, the period of its engine, and MODE. -/
def pointKeys (l : Nat) : List Nat :=
  Reg.mode :: Reg.loopPeriod (l / 2) :: Reg.gridEnable l :: Reg.focusCurv l :: ((List.range 3).map (Reg.fieldOffset l) ++ (List.range 3).map (Reg.fieldScale l))

/-- These, the pounds, and what a boundary carries on. -/
def pointWatched (l : Nat) : Watched := { Watched.none with regs := fun k => k ∈ pointKeys l, pounds := fun _ => True, rest := True }

/-- With them the stream of the laser. -/
def formWatched (l : Nat) : Watched := { pointWatched l with streams := (· = l) }

section
variable {l : Nat} (hl : l < 16)
include hl

theorem pointKeys_below {k : Nat} (hk : k ∈ pointKeys l) : k < Reg.camCorrOutranked 0 := by
  have hall : ∀ l, l < 16 → ∀ k, k ∈ pointKeys l → k < Reg.camCorrOutranked 0 := by decide +kernel
  exact hall l hl k hk

theorem pointKeys_apart {k : Nat} (hk : k ∈ pointKeys l) : lockKey k = true ∧ k ≠ Reg.layerState ∧ (∀ j, j < 16 → k ≠ Reg.streamState j) ∧
    ∀ a, a < 48 → k ≠ Reg.swapCount a ∧ k ≠ Reg.swapLostCount a := by
  have hall : ∀ l, l < 16 → ∀ k, k ∈ pointKeys l → lockKey k = true ∧ k ≠ Reg.layerState ∧ (∀ j, j < 16 → k ≠ Reg.streamState j) ∧
      ∀ a, a < 48 → k ≠ Reg.swapCount a ∧ k ≠ Reg.swapLostCount a := by decide +kernel
  exact hall l hl k hk

theorem pointWatched_lawful : (pointWatched l).Lawful := fun _ hk => (pointKeys_apart hl hk).1
theorem formWatched_lawful : (formWatched l).Lawful := fun _ hk => (pointKeys_apart hl hk).1

theorem pointWatched_off {j : Nat} (hj : j < 16) : (pointWatched l).Off j := ⟨id, fun hk => (pointKeys_apart hl hk).2.2.1 j hj rfl⟩
theorem formWatched_off {j : Nat} (hj : j < 16) (hjl : j ≠ l) : (formWatched l).Off j := ⟨hjl, (pointWatched_off hl hj).state⟩

theorem pointWatched_layerFree : (pointWatched l).LayerFree := ⟨fun _ hj => pointWatched_off hl hj, fun hk => (pointKeys_apart hl hk).2.1 rfl⟩

/-- A correction counts for a camera above all these objects, whatever its number. -/
theorem pointKeys_cameras (c : Nat) : Reg.camCorrOutranked c ∉ pointKeys l := fun hk => by
  have hbelow := pointKeys_below hl hk
  unfold Reg.camCorrOutranked regKey at hbelow
  omega

end

theorem LoopFrame.stream_form {l : Nat} {s r : State} {P : Stream → Prop} (h : LoopFrame (formWatched l) s r) (hs : s.Streams l P) :
    r.Streams l P := by
  unfold State.Streams
  rw [h.streams l rfl]
  exact hs

theorem formWatched_within (l : Nat) : (pointWatched l).Within (formWatched l) :=
  ⟨fun _ => id, fun _ => id, fun _ => id, fun _ => id, fun _ => id, id, id, id, id, fun _ h => h.elim, id⟩

/-! ### The set-point of an axis (R221) -/

/-- The set-point of axis i of laser l for a field point, without a grid. -/
def State.axisPoint (s : State) (l : Nat) (p : Pt) (i : Nat) : Int :=
  let x := Num.satI 32 (p.x + (s.laser l).corr.1)
  let y := Num.satI 32 (p.y + (s.laser l).corr.2)
  let z := Num.satI 32 (p.z + Num.rshift (s.rdS 32 (Reg.focusCurv l) * (x * x + y * y)) 62 + s.rdS 32 (Reg.afOffset l))
  let v := if i = 0 then x else if i = 1 then y else z
  Num.satI 32 (s.rdS 32 (Reg.fieldOffset l i) + Num.rshift (s.rdS 32 (Reg.fieldScale l i) * v) 31)

theorem State.fieldToAxes_plain {s : State} {l : Nat} (hgrid : bitAt (s.rd (Reg.gridEnable l)) 0 = false) (p : Pt) {i : Nat} (hi : i < 3) :
    (s.fieldToAxes l p (s.laser l).corr).getD i 0 = s.axisPoint l p i := by
  unfold State.fieldToAxes State.axisPoint
  rw [hgrid]
  rcases (by omega : i = 0 ∨ i = 1 ∨ i = 2) with rfl | rfl | rfl <;> rfl

theorem getD_pairs (f g : Nat → Int) {i : Nat} (hi : i < 3) : ((List.range 3).flatMap fun i => [f i, g i]).getD (2 * i) 0 = f i ∧
    ((List.range 3).flatMap fun i => [f i, g i]).getD (2 * i + 1) 0 = g i := by
  rcases (by omega : i = 0 ∨ i = 1 ∨ i = 2) with rfl | rfl | rfl <;> exact ⟨rfl, rfl⟩

theorem State.setpointsAt_plain {s : State} {l : Nat} (hgrid : bitAt (s.rd (Reg.gridEnable l)) 0 = false) (t : Lt) {i : Nat} (hi : i < 3) :
    let m := (s.laser l).stream
    let next := t + ns (s.loopNs (l / 2))
    (s.setpointsAt l t).getD (2 * i) 0 = s.axisPoint l (m.pointAt t) i ∧
      (s.setpointsAt l t).getD (2 * i + 1) 0 = Num.satI 32 (Num.rdiv ((s.axisPoint l (m.pointAt next) i - s.axisPoint l (m.pointAt t) i) * 10 ^ 9)
        (2 ^ 20 * (s.loopNs (l / 2) : Int))) := by
  dsimp only
  rw [← State.fieldToAxes_plain hgrid _ hi, ← State.fieldToAxes_plain hgrid _ hi]
  exact getD_pairs _ _ hi

/-- Inside the segment `x` the boundary has put `cur` in use, and formed the point and the set-points of the boundary at `next`. -/
structure State.Formed (s : State) (l : Nat) (x : Seg) (next : Lt) (cur : List Int) : Prop where
  now : (s.laser l).stream.now = cur
  point : (s.laser l).stream.point = x.at next
  place : ∀ i, i < 3 → (s.laser l).stream.cur.getD (2 * i) 0 = s.axisPoint l (x.at next) i
  speed : ∀ i, i < 3 → next + ns (s.loopNs (l / 2)) < x.t2 → (s.laser l).stream.cur.getD (2 * i + 1) 0 =
    Num.satI 32 (Num.rdiv ((s.axisPoint l (x.at (next + ns (s.loopNs (l / 2)))) i - s.axisPoint l (x.at next) i) * 10 ^ 9)
      (2 ^ 20 * (s.loopNs (l / 2) : Int)))

section
variable {s r : State} {l : Nat} (h : LoopFrame (pointWatched l) s r)
include h

theorem LoopFrame.loopNs_point : r.loopNs (l / 2) = s.loopNs (l / 2) := by
  unfold State.loopNs
  rw [h.regs _ (by simp [pointWatched, pointKeys])]

theorem LoopFrame.grid_point : r.rd (Reg.gridEnable l) = s.rd (Reg.gridEnable l) := h.regs _ (by simp [pointWatched, pointKeys])

/-- The objects of a set-point, but the offsets in force. -/
theorem LoopFrame.axisPoint (p : Pt) {i : Nat} (hi : i < 3) : r.axisPoint l p i =
    let x := Num.satI 32 (p.x + (r.laser l).corr.1)
    let y := Num.satI 32 (p.y + (r.laser l).corr.2)
    let z := Num.satI 32 (p.z + Num.rshift (s.rdS 32 (Reg.focusCurv l) * (x * x + y * y)) 62 + r.rdS 32 (Reg.afOffset l))
    let v := if i = 0 then x else if i = 1 then y else z
    Num.satI 32 (s.rdS 32 (Reg.fieldOffset l i) + Num.rshift (s.rdS 32 (Reg.fieldScale l i) * v) 31) := by
  have hcurv : r.rd (Reg.focusCurv l) = s.rd (Reg.focusCurv l) := h.regs _ (by simp [pointWatched, pointKeys])
  have hoffset : r.rd (Reg.fieldOffset l i) = s.rd (Reg.fieldOffset l i) :=
    h.regs _ (by
      simp only [pointWatched, pointKeys, List.mem_cons, List.mem_append, List.mem_map, List.mem_range]
      exact Or.inr (Or.inr (Or.inr (Or.inr (Or.inl ⟨i, hi, rfl⟩)))))
  have hscale : r.rd (Reg.fieldScale l i) = s.rd (Reg.fieldScale l i) :=
    h.regs _ (by
      simp only [pointWatched, pointKeys, List.mem_cons, List.mem_append, List.mem_map, List.mem_range]
      exact Or.inr (Or.inr (Or.inr (Or.inr (Or.inr ⟨i, hi, rfl⟩)))))
  unfold State.axisPoint State.rdS
  rw [hcurv, hoffset, hscale]

theorem State.Formed.frame {x : Seg} {next : Lt} {cur : List Int} (hs : s.Formed l x next cur) (hk : LaserKept l s r) : r.Formed l x next cur := by
  have hpoint (p : Pt) (i : Nat) (hi : i < 3) : r.axisPoint l p i = s.axisPoint l p i := by
    have hoffset : r.rdS 32 (Reg.afOffset l) = s.rdS 32 (Reg.afOffset l) := congrArg (toSigned 32) hk.offset
    rw [h.axisPoint p hi, hk.laser, hoffset]
    rfl
  refine ⟨by rw [hk.laser]; exact hs.now, by rw [hk.laser]; exact hs.point, fun i hi => ?_, fun i hi => ?_⟩
  · rw [hk.laser, hpoint _ i hi]
    exact hs.place i hi
  · rw [hk.laser, hpoint _ i hi, hpoint _ i hi, h.loopNs_point]
    exact hs.speed i hi

end

end Sys2Proof.Machine
end

section
/-! PROOFS. A boundary of a running stream inside a segment (R220, R221). -/

namespace Sys2Proof.Machine

/-! ### The laser's own set-point -/

section
variable {l : Nat} (hl : l < 16) {s : State}

theorem State.laserBuilds_of (hmode : s.modeCode = BUILD) (htransition : s.mode.transition = none) : s.laserBuilds l = true := by
  unfold State.laserBuilds State.engineMode
  rw [htransition, hmode]
  rfl

theorem State.axisPoint_congr {s r : State} {l : Nat} (hregs : r.regs = s.regs) (hcorr : (r.laser l).corr = (s.laser l).corr) (p : Pt) (i : Nat) :
    r.axisPoint l p i = s.axisPoint l p i := by
  unfold State.axisPoint State.rdS State.rd
  rw [hregs, hcorr]

/-- What a stream keeps of the set-points formed for the boundary at `next` (R220). -/
def Stream.forming (m : Stream) (next : Lt) (sp : List Int) : Stream :=
  { m with cur := sp, point := m.pointAt next, segUsed := match m.segAt next with | some x => x.s | none => m.segUsed }

/-- A laser that neither stops nor holds forms its set-points. -/
theorem State.laserSetpoint_going {b : Lt} (hgoing : (s.laser l).stream.hostStop = false) (hlive : (s.laser l).stream.frozen = false)
    (hbuilds : s.laserBuilds l = true) (seg : Bool) :
    let next := b + ns (s.loopNs (l / 2))
    s.laserSetpoint l b seg false = (s.modStream l fun m => m.forming next (s.setpointsAt l next)).refill l := by
  unfold State.laserSetpoint
  simp only [hgoing, hlive, hbuilds, Bool.false_eq_true, false_and, if_false, Bool.not_false, and_self, if_true]
  rfl

include hl

/-- A request for records touches nothing of what a stream has formed. -/
theorem State.refill_shows (s : State) : (s.refill l).regs = s.regs ∧
    ∃ f, (s.refill l).laser l = { s.laser l with stream := { (s.laser l).stream with fetching := f } } := by
  unfold State.refill
  dsimp only
  split
  · exact ⟨rfl, _, rfl⟩
  · split
    · exact ⟨rfl, _, State.laser_modLaser_self s _ hl⟩
    · exact ⟨rfl, _, rfl⟩

theorem State.laserSetpoint_forms {x : Seg} {b : Lt} {cur c : List Int} (hcarries : s.Streams l (Stream.Carries x cur c))
    (hbuilds : s.laserBuilds l = true) (hgrid : bitAt (s.rd (Reg.gridEnable l)) 0 = false)
    (h0 : x.t0 ≤ b + ns (s.loopNs (l / 2))) (h2 : b + ns (s.loopNs (l / 2)) < x.t2) (seg : Bool) :
    (s.laserSetpoint l b seg false).Formed l x (b + ns (s.loopNs (l / 2))) cur := by
  have hset := State.laserSetpoint_going (b := b) hcarries.going hcarries.live hbuilds seg
  dsimp only at hset
  generalize b + ns (s.loopNs (l / 2)) = next at *
  have hplain (i : Nat) (hi : i < 3) := State.setpointsAt_plain hgrid next hi
  dsimp only at hplain
  rw [hcarries.pointAt h0 h2] at hplain
  generalize s.setpointsAt l next = sp at *
  obtain ⟨hregs, f, hlaser⟩ := State.refill_shows hl (s.modStream l fun m => m.forming next sp)
  rw [← hset] at hregs hlaser
  generalize s.laserSetpoint l b seg false = r at hregs hlaser
  rw [State.modStream, State.laser_modLaser_self s _ hl] at hlaser
  replace hregs : r.regs = s.regs := hregs
  have hpoint (p : Pt) (i : Nat) : r.axisPoint l p i = s.axisPoint l p i := State.axisPoint_congr hregs (by rw [hlaser]) p i
  have hperiod : r.loopNs (l / 2) = s.loopNs (l / 2) := by
    unfold State.loopNs State.rd
    rw [hregs]
  refine ⟨?_, ?_, fun i hi => ?_, fun i hi hlater => ?_⟩
  · rw [hlaser]
    exact hcarries.used
  · rw [hlaser]
    exact hcarries.pointAt h0 h2
  · rw [hlaser, hpoint]
    exact (hplain i hi).1
  · rw [hperiod] at hlater ⊢
    rw [hlaser, hpoint, hpoint]
    rw [hcarries.pointAt (h0.trans (Nat.le_add_right _ _)) hlater] at hplain
    exact (hplain i hi).2

end

end Sys2Proof.Machine
end

section
/-! PROOFS. The parts of a boundary around a stream inside a segment (R29, R41, R220). -/

namespace Sys2Proof.Machine

/-! ### The two lasers of an engine -/

/-- A pass over the lasers of an engine: each step for the other laser keeps `P` and `Q`, and the one for laser l leads from `P` to `Q`. -/
theorem pair_reach {P Q : State → Prop} {f : State → Nat → State} {s : State} {l : Nat} (hl : l < 16) (h : P s) (hown : ∀ r, P r → Q (f r l))
    (hP : ∀ r j, j < 16 → j ≠ l → P r → P (f r j)) (hQ : ∀ r j, j < 16 → j ≠ l → Q r → Q (f r j)) :
    Q (([2 * (l / 2), 2 * (l / 2) + 1] : List Nat).foldl f s) := by
  simp only [List.foldl_cons, List.foldl_nil]
  rcases (by omega : 2 * (l / 2) = l ∨ 2 * (l / 2) + 1 = l) with he | he
  · rw [he]
    exact hQ _ _ (by omega) (by omega) (hown s h)
  · rw [he]
    exact hown _ (hP _ _ (by omega) (by omega) h)

/-! ### Lockages of a boundary at which no pound is armed (R41) -/

theorem State.lockPound_unarmed {s : State} {p : Nat} (h : (s.pound p).armed = none) (k : Bool) : s.lockPound p k = s := by
  unfold State.lockPound
  rw [h]

section
variable {l : Nat} (hl : l < 16) {v : State} (hpounds : ∀ p, p < 105 → (v.pound p).armed = none) {t : Nat} (ht : t < 8) (b : Lt)
include hl

theorem LoopFrame.beginHelds (s : State) (ht : t < 8) : LoopFrame (formWatched l) s ((axesOf t).foldl (fun s a => s.beginHeld a) s) :=
  LoopFrame.foldl _ fun r a ha => LoopFrame.beginHeld (formWatched_lawful hl) r
    ⟨id, fun hk => ((pointKeys_apart hl hk).2.2.2 a (lt_of_mem_axesOf ht ha)).1 rfl, fun hk => ((pointKeys_apart hl hk).2.2.2 a (lt_of_mem_axesOf ht ha)).2 rfl⟩

include hpounds ht

/-- The held swaps are all that is left of the lockages but the end of the layer. -/
theorem State.lockages_unarmed : ∃ u, LoopFrame (formWatched l) v u ∧ v.lockages t b = if t = 0 then (u.layerEnds b).switchTaps else u := by
  have hlock {r : State} (hr : LoopFrame (pointWatched l) v r) {p : Nat} (hp : p < 105) (k : Bool) : r.lockPound p k = r :=
    State.lockPound_unarmed (by rw [hr.pounds p trivial]; exact hpounds p hp) k
  have hheld := LoopFrame.beginHelds hl v ht
  have hpoint := hheld.mono (formWatched_within l)
  refine ⟨_, hheld, ?_⟩
  have haxes (k : Bool) : v.lockAxes t k = (axesOf t).foldl (fun s a => s.beginHeld a) v := by
    have hnone : (axesOf t).foldl (fun s a => s.lockPound a k) v = v := foldl_of (P := fun r => r = v) _ rfl fun r a ha hr => by
      have := lt_of_mem_axesOf ht ha
      rw [hr, hlock (LoopFrame.refl v) (by omega)]
    unfold State.lockAxes
    dsimp only
    rw [hnone, hlock (LoopFrame.refl v) (by unfold pEngine; omega)]
  rw [State.lockages_eq]
  dsimp only
  rw [haxes]
  generalize (axesOf t).foldl (fun s a => s.beginHeld a) v = u at hpoint ⊢
  have hlasers (k : Bool) : u.lockLasers t b k = u := foldl_of (P := fun r => r = u) _ rfl fun r j hj hr => by
    simp only [List.mem_cons, List.not_mem_nil, or_false] at hj
    rw [hr, hlock hpoint (by unfold pLaser; omega), ite_self]
  have hcameras (k : Bool) : u.lockCameras t b k = u := each_id fun c hc => by
    rw [hlock hpoint (by unfold pCamera; omega), ite_self]
  rw [hlasers, hcameras]
  have hended := hpoint.trans (LoopFrame.layerEnds u (pointWatched_lawful hl) (pointWatched_layerFree hl) b)
  unfold State.lockDevice State.lockLayer
  rw [hlock hended (by decide), ite_self]

theorem LoopFrame.lockages_unarmed : LoopFrame (pointWatched l) v (v.lockages t b) := by
  obtain ⟨u, hu, hlock⟩ := State.lockages_unarmed hl hpounds ht b
  rw [hlock]
  refine (hu.mono (formWatched_within l)).trans (LoopFrame.when fun _ => ?_)
  exact (LoopFrame.layerEnds u (pointWatched_lawful hl) (pointWatched_layerFree hl) b).trans (LoopFrame.switchTaps _ (pointWatched_lawful hl))

omit hpounds ht in
/-- The stream goes on inside its segment as the layers end. -/
theorem State.layerEnds_carries {u : State} {b : Lt} {x : Seg} {now cur : List Int} (h2 : b < x.t2) (htold : x.Told b)
    (h : u.Streams l (Stream.Carries x now cur)) : (u.layerEnds b).Streams l (Stream.Carries x now cur) := by
  have hform := formWatched_lawful hl
  unfold State.layerEnds
  refine (LoopFrame.layerEnd hform _ fun hk => (pointKeys_apart hl hk).2.1 rfl).stream_form (each_of (P := fun r => r.Streams l (Stream.Carries x now cur)) h
    fun r j hj hr => ?_)
  split
  · by_cases hjl : j = l
    · rw [hjl]
      exact State.streamProgress_carries hl r h2 htold hr
    · exact (LoopFrame.streamProgress hform r hj (formWatched_off hl hj hjl) b).stream_form hr
  · exact hr

theorem State.lockages_carries {x : Seg} {now cur : List Int} (h2 : b < x.t2) (htold : x.Told b) (h : v.Streams l (Stream.Carries x now cur)) :
    (v.lockages t b).Streams l (Stream.Carries x now cur) := by
  obtain ⟨u, hu, hlock⟩ := State.lockages_unarmed hl hpounds ht b
  have hcarries := hu.stream_form h
  rw [hlock]
  split
  · exact (LoopFrame.switchTaps _ (formWatched_lawful hl)).stream_form (State.layerEnds_carries hl h2 htold hcarries)
  · exact hcarries

end

/-! ### What an engine latches, and the next set-points -/

section
variable {l : Nat} (hl : l < 16) {s : State} {b : Lt} {x : Seg} {now cur : List Int}
include hl

/-- Over the latches of the engine the set-point that was formed comes into use. -/
theorem State.boundaryLatches_carries (h2 : b < x.t2) (htold : x.Told b) (h : s.Streams l (Stream.Carries x now cur)) :
    (s.boundaryLatches (l / 2) b).Streams l (Stream.Carries x cur cur) := by
  have hform := formWatched_lawful hl
  have ht : l / 2 < 8 := by omega
  have hlatched : LoopFrame (formWatched l) s
      (if (s.tile (l / 2)).lastDemod = some b then (s.latchLate (l / 2)).boundaryLatch (l / 2) 1 else s.latchLate (l / 2)) :=
    LoopFrame.ite (fun _ => (LoopFrame.latchLate hform s ht).trans (LoopFrame.boundaryLatch hform _ ht 1)) fun _ => LoopFrame.latchLate hform s ht
  have hother (r : State) (j : Nat) (hj : j < 16) (hjl : j ≠ l) : LoopFrame (formWatched l) r (r.laserBoundary j b) :=
    LoopFrame.laserBoundary hform r hj b (formWatched_off hl hj hjl) fun hk => (pointKeys_apart hl hk).2.1 rfl
  unfold State.boundaryLatches
  exact pair_reach (P := fun r => r.Streams l (Stream.Carries x now cur)) (Q := fun r => r.Streams l (Stream.Carries x cur cur)) hl
    (hlatched.stream_form h) (fun r hr => State.laserBoundary_carries hl r h2 htold hr)
    (fun r j hj hjl hr => (hother r j hj hjl).stream_form hr) fun r j hj hjl hr => (hother r j hj hjl).stream_form hr

/-- The offsets and the laws of the engine leave the stream. -/
theorem State.boundaryLaws_carries (h : s.Streams l (Stream.Carries x now cur)) :
    ((s.boundaryOffsets (l / 2) b).boundaryLaws (l / 2) b).Streams l (Stream.Carries x now cur) := by
  have ht : l / 2 < 8 := by omega
  have hoffsets := LoopFrame.boundaryOffsets (formWatched_lawful hl) s ht b fun _ _ c _ => pointKeys_cameras hl c.camera
  exact (hoffsets.trans (LoopFrame.boundaryLaws (formWatched_lawful hl) _ ht b fun _ _ => id)).stream_form h

/-- The next set-points of an engine whose laser l is inside its segment. -/
theorem State.boundaryNext_forms (h : s.Streams l (Stream.Carries x now cur)) (hmode : s.modeCode = BUILD) (htransition : s.mode.transition = none)
    (hgrid : bitAt (s.rd (Reg.gridEnable l)) 0 = false) (h0 : x.t0 ≤ b + ns (s.loopNs (l / 2))) (h2 : b + ns (s.loopNs (l / 2)) < x.t2) :
    (s.boundaryNext (l / 2) b []).Formed l x (b + ns (s.loopNs (l / 2))) now := by
  have hform := formWatched_lawful hl
  have hpoint := pointWatched_lawful hl
  have hlaser (r : State) (j : Nat) (hj : j < 16) : LoopFrame (pointWatched l) r
      ((r.gridErrors j (b + ns (r.loopNs (l / 2))) []).1.laserSetpoint j b (r.segBoundary j b) (r.gridErrors j (b + ns (r.loopNs (l / 2))) []).2) :=
    (LoopFrame.gridErrors hpoint id r j _ _).trans (LoopFrame.laserSetpoint hpoint _ hj _ _ _ (pointWatched_off hl hj))
  have hstart : LoopFrame (formWatched l) s ((axesOf (l / 2)).foldl (fun s a => (s.sampleTarget a).feedAsked a) s) :=
    LoopFrame.foldl _ fun r a _ => (LoopFrame.sampleTarget r a).trans (LoopFrame.feedAsked _ a)
  have hformed := pair_reach (P := fun r => LoopFrame (pointWatched l) s r ∧ r.Streams l (Stream.Carries x now cur))
    (Q := fun r => LoopFrame (pointWatched l) s r ∧ r.Formed l x (b + ns (s.loopNs (l / 2))) now)
    (f := fun r j => (r.gridErrors j (b + ns (r.loopNs (l / 2))) []).1.laserSetpoint j b (r.segBoundary j b)
      (r.gridErrors j (b + ns (r.loopNs (l / 2))) []).2) hl ⟨hstart.mono (formWatched_within l), hstart.stream_form h⟩
    (fun r hr => ?_) (fun r j hj hjl hr => ?_) fun r j hj hjl hr => ?_
  · unfold State.boundaryNext
    refine (each_of (P := fun r => LoopFrame (pointWatched l) s r ∧ r.Formed l x (b + ns (s.loopNs (l / 2))) now) hformed fun r c _ hr => ?_).2
    split
    · have hchosen := LoopFrame.chooseTrigger hpoint r c b id
      exact ⟨hr.1.trans hchosen, hr.2.frame hchosen (LaserKept.chooseTrigger hl r c b)⟩
    · exact hr
  · refine ⟨hr.1.trans (hlaser r l hl), ?_⟩
    have hgrid' : bitAt (r.rd (Reg.gridEnable l)) 0 = false := by rw [hr.1.grid_point]; exact hgrid
    have hplain : r.gridErrors l (b + ns (r.loopNs (l / 2))) [] = (r, false) := by
      unfold State.gridErrors
      rw [hgrid', Bool.and_false]
      rfl
    have hmode' : r.modeCode = BUILD := (hr.1.regs Reg.mode (List.mem_cons_self ..)).trans hmode
    have hrest := congrArg Prod.fst (hr.1.rest trivial)
    simp only [State.carrying] at hrest
    have hperiod := hr.1.loopNs_point
    rw [hplain, ← hperiod]
    exact State.laserSetpoint_forms hl hr.2 (State.laserBuilds_of hmode' (by rw [hrest]; exact htransition)) hgrid' (hperiod.symm ▸ h0) (hperiod.symm ▸ h2) _
  · refine ⟨hr.1.trans (hlaser r j hj), ?_⟩
    exact (LoopFrame.trans (LoopFrame.gridErrors hform id r j _ _) (LoopFrame.laserSetpoint hform _ hj _ _ _ (formWatched_off hl hj hjl))).stream_form hr.2
  · refine ⟨hr.1.trans (hlaser r j hj), hr.2.frame (hlaser r j hj) ?_⟩
    exact (LaserKept.gridErrors hl r j _ _).trans (LaserKept.laserSetpoint hl _ hjl hj _ _ _)

end

end Sys2Proof.Machine
end

section
/-! PROOFS. RESUME, STOP and ABANDON, and a boundary inside a segment (R220, R221, R230, R231). Settles O56. -/

namespace Sys2Proof.Machine

/-- At the boundary at `b` the stream of laser l runs inside its segment `x`, without a grid, and nothing else falls due. -/
structure State.Inside (s : State) (l : Nat) (x : Seg) (b : Lt) : Prop where
  calm : s.calm = true
  mode : s.modeCode = BUILD
  laser : l < 16
  grid : b = nextGrid (ns (s.loopNs (l / 2))) s.lt (s.engine (l / 2)).lastLoop
  running : s.lock.running = none
  hold : s.lock.holdRun = none
  leftover : s.lock.leftover = []
  due : ∀ e, e ∈ (s.engine (l / 2)).due → b < e.1
  returns : (s.engine (l / 2)).returnCls = none
  held : l / 2 = 0 → s.net.held = []
  pounds : ∀ p, p < 105 → (s.pound p).armed = none
  rests : ∀ i, i < 16 → (s.goTo b).streamRests i = true
  carries : s.Streams l (Stream.Carries x (s.laser l).stream.now (s.laser l).stream.cur)
  told : x.Told b
  begun : x.t0 ≤ b + ns (s.loopNs (l / 2))
  goes : b + ns (s.loopNs (l / 2)) < x.t2
  plain : bitAt (s.rd (Reg.gridEnable l)) 0 = false

/-- The segments of a stream that rests have been told as begun. -/
theorem State.told_of_rests {s : State} {l : Nat} {x : Seg} {b : Lt} (hrests : (s.goTo b).streamRests l = true) (hrun : s.rd (Reg.streamState l) = 1)
    (hsegs : (s.laser l).stream.segs = [x]) : x.Told b := by
  have hle : b ≤ (s.goTo b).lt := le_max_right _ _
  have hlaser : ((s.goTo b).laser l).stream.segs = [x] := hsegs
  have hstate : (s.goTo b).rd (Reg.streamState l) = 1 := hrun
  unfold State.streamRests at hrests
  dsimp only at hrests
  rw [hlaser, hstate] at hrests
  simp only [bne_self_eq_false, Bool.false_or, List.all_cons, List.all_nil, Bool.and_true, Bool.and_eq_true, Bool.or_eq_true, decide_eq_true_eq] at hrests
  exact hrests.1.1.imp id hle.trans_lt

namespace State.Inside

variable {s : State} {l : Nat} {x : Seg} {b : Lt} (h : s.Inside l x b)
include h

theorem engine : l / 2 < 8 := by have := h.laser; omega

theorem before : b < x.t2 := (Nat.le_add_right _ _).trans_lt h.goes

theorem at_eq : s.boundaryAt (l / 2) b = (s.goTo b).modEngine (l / 2) fun x => { x with lastLoop := some b, before := x.lastLoop } :=
  State.boundaryAt_calm ((State.calm_iff s).1 h.calm) _ h.rests

theorem at_frame : (s.boundaryAt (l / 2) b).carrying = s.carrying ∧ (∀ k, (s.boundaryAt (l / 2) b).rd k = s.rd k) ∧
    (∀ p, (s.boundaryAt (l / 2) b).pound p = s.pound p) ∧ (s.boundaryAt (l / 2) b).laser l = s.laser l := by
  rw [h.at_eq]
  exact ⟨rfl, fun _ => rfl, fun _ => rfl, rfl⟩

theorem quiet : (s.boundaryAt (l / 2) b).Quiet (l / 2) b := by
  have hengine : ((s.boundaryAt (l / 2) b).engine (l / 2)).due = (s.engine (l / 2)).due ∧
      ((s.boundaryAt (l / 2) b).engine (l / 2)).returnCls = (s.engine (l / 2)).returnCls := by
    rw [h.at_eq, State.engine_modEngine_self _ _ h.engine]
    exact ⟨rfl, rfl⟩
  refine ⟨by rw [hengine.1]; exact h.due, hengine.2.trans h.returns, ?_, ?_, ?_, ?_⟩
  · rw [h.at_eq]; exact ((State.calm_iff s).1 h.calm).transition
  · rw [h.at_eq]; exact h.leftover
  · rw [h.at_eq]; exact h.hold
  · rw [h.at_eq]; exact h.running

theorem before_frame : LoopFrame (pointWatched l) (s.boundaryAt (l / 2) b) ((s.boundaryAt (l / 2) b).beforeLockages (l / 2) b) :=
  (LoopFrame.boundaryLatches (pointWatched_lawful h.laser) _ h.engine b (pointWatched_layerFree h.laser)).trans
    (State.beforeLockages_frame h.engine h.quiet (pointWatched_lawful h.laser) id fun _ _ _ => id)

theorem pounds_before (p : Nat) (hp : p < 105) : (((s.boundaryAt (l / 2) b).beforeLockages (l / 2) b).pound p).armed = none := by
  rw [h.before_frame.pounds p trivial, h.at_frame.2.2.1]
  exact h.pounds p hp

theorem locked_frame : LoopFrame (pointWatched l) (s.boundaryAt (l / 2) b)
    (((s.boundaryAt (l / 2) b).beforeLockages (l / 2) b).lockages (l / 2) b) :=
  h.before_frame.trans (LoopFrame.lockages_unarmed h.laser h.pounds_before h.engine b)

theorem end_frame : LoopFrame (pointWatched l) (s.boundaryAt (l / 2) b)
    ((((s.boundaryAt (l / 2) b).beforeLockages (l / 2) b).lockages (l / 2) b).afterLockages (l / 2) b) :=
  (h.locked_frame.trans (LoopFrame.boundaryEnds (pointWatched_lawful h.laser) _ h.engine b [] (fun _ _ c _ => pointKeys_cameras h.laser c.camera)
    (fun _ _ => id) id id fun _ => pointWatched_off h.laser)).trans (LoopFrame.modMem _ id)

/-- Up to its set-points the stream goes on inside its segment. -/
theorem carries_locked : (((s.boundaryAt (l / 2) b).beforeLockages (l / 2) b).lockages (l / 2) b).Streams l
    (Stream.Carries x (s.laser l).stream.cur (s.laser l).stream.cur) := by
  have hat : (s.boundaryAt (l / 2) b).Streams l (Stream.Carries x (s.laser l).stream.now (s.laser l).stream.cur) := by
    unfold State.Streams
    rw [h.at_frame.2.2.2]
    exact h.carries
  have hlatched := State.boundaryLatches_carries h.laser h.before h.told hat
  have hbefore := (State.beforeLockages_frame h.engine h.quiet (formWatched_lawful h.laser) id fun _ _ _ => id).stream_form hlatched
  exact State.lockages_carries h.laser h.pounds_before h.engine b h.before h.told hbefore

/-- Between the lockages and the next set-points nothing of what these are formed from changes. -/
theorem laws_frame : LoopFrame (pointWatched l) (s.boundaryAt (l / 2) b)
    (((((s.boundaryAt (l / 2) b).beforeLockages (l / 2) b).lockages (l / 2) b).boundaryOffsets (l / 2) b).boundaryLaws (l / 2) b) :=
  (h.locked_frame.trans (LoopFrame.boundaryOffsets (pointWatched_lawful h.laser) _ h.engine b fun _ _ c _ =>
    pointKeys_cameras h.laser c.camera)).trans (LoopFrame.boundaryLaws (pointWatched_lawful h.laser) _ h.engine b fun _ _ => id)

theorem formed : ((((s.boundaryAt (l / 2) b).beforeLockages (l / 2) b).lockages (l / 2) b).afterLockages (l / 2) b).Formed l x
    (b + ns (s.loopNs (l / 2))) (s.laser l).stream.cur := by
  obtain ⟨hcarrying, hrd, -, -⟩ := h.at_frame
  have hframe := h.laws_frame
  have hcarries := State.boundaryLaws_carries h.laser (b := b) h.carries_locked
  unfold State.afterLockages State.boundaryEnds
  generalize (((((s.boundaryAt (l / 2) b).beforeLockages (l / 2) b).lockages (l / 2) b).boundaryOffsets (l / 2) b).boundaryLaws (l / 2) b) = v
    at hframe hcarries ⊢
  have hrest := congrArg Prod.fst ((hframe.rest trivial).trans hcarrying)
  simp only [State.carrying] at hrest
  have hperiod : v.loopNs (l / 2) = s.loopNs (l / 2) := hframe.loopNs_point.trans (hrd _)
  have hmode : v.modeCode = BUILD := ((hframe.regs Reg.mode (List.mem_cons_self ..)).trans (hrd _)).trans h.mode
  have hforms := State.boundaryNext_forms h.laser hcarries hmode (by rw [hrest]; exact ((State.calm_iff s).1 h.calm).transition)
    (by rw [hframe.grid_point, hrd]; exact h.plain) (hperiod.symm ▸ h.begun) (hperiod.symm ▸ h.goes)
  rw [hperiod] at hforms
  exact hforms.frame (LoopFrame.modMem _ id) (LaserKept.modMem _)

theorem exec_eq : exec (.loopBoundary (l / 2) [] []) s =
    .next (s.keep ((((s.boundaryAt (l / 2) b).beforeLockages (l / 2) b).lockages (l / 2) b).afterLockages (l / 2) b).done) := by
  obtain ⟨hcarrying, hrd, -, -⟩ := h.at_frame
  have hcalm := (State.calm_iff s).1 h.calm
  have hend := (h.end_frame.rest trivial).trans hcarrying
  simp only [State.carrying, State.afterLockages, State.modMem_mode, State.modMem_net, Prod.mk.injEq] at hend
  obtain ⟨hmode, -, -, hnet⟩ := hend
  have hboundary : s.loopBoundary (l / 2) [] [] =
      (((s.boundaryAt (l / 2) b).beforeLockages (l / 2) b).lockages (l / 2) b).boundaryEnds (l / 2) b [] := by
    rw [State.loopBoundary_parts h.grid (by rw [State.modeCode, hrd]; exact hcalm.begun)]
    exact State.transitionEnd_none (by rw [hmode]; exact hcalm.transition)
  rw [exec_loopBoundary h.calm, State.loopStep_unheld h.engine fun h0 => ?_, hboundary]
  · rfl
  · rw [hboundary, hnet, h.held h0]

end State.Inside

/-- Settles O56: each command leaves a still state, so that its effect is all it has; at the boundary what comes before the set-points leaves
the stream inside its segment, and what comes after them leaves the laser. -/
theorem streamsCommanded : Obligations.StreamsCommanded := by
  unfold Obligations.StreamsCommanded
  refine ⟨fun s dt n l src hs hspeaks hl hrests => ⟨fun hmode hrun hqueue hstopped hstop hlatch => ?_, ?_, ?_⟩, ?_⟩
  · exact exec_resume hs hspeaks hl hrests hmode hrun hqueue hstopped hstop hlatch
  · exact exec_stop hs hspeaks hl hrests
  · exact exec_abandon hs hspeaks hl hrests
  intro s l x hcalm hmode hl
  dsimp only
  intro hrun hhold hleft hdue hreturns hheld hpounds hrests hstate hsegs h0 h2 hlast hdecoded hlen hlive hgoing hfinished hresume hstart hgrid
  have h : s.Inside l x (nextGrid (ns (s.loopNs (l / 2))) s.lt (s.engine (l / 2)).lastLoop) :=
    ⟨hcalm, hmode, hl, rfl, hrun, hhold, hleft, hdue, hreturns, hheld, hpounds, hrests,
      ⟨⟨[], hsegs, fun _ hy => absurd hy List.not_mem_nil⟩, hlast, hdecoded, hlen, hstart, hresume, hlive, hgoing, rfl, rfl⟩,
      State.told_of_rests (hrests l hl) hstate hsegs, h0, h2, hgrid⟩
  generalize nextGrid (ns (s.loopNs (l / 2))) s.lt (s.engine (l / 2)).lastLoop = b at h
  have hformed := h.formed
  have hend := h.end_frame
  have hexec := h.exec_eq
  have hrd := h.at_frame.2.1
  generalize (((s.boundaryAt (l / 2) b).beforeLockages (l / 2) b).lockages (l / 2) b).afterLockages (l / 2) b = r at hformed hend hexec
  have hperiod : r.loopNs (l / 2) = s.loopNs (l / 2) := hend.loopNs_point.trans (hrd _)
  have hset (p : Pt) (i : Nat) (hi : i < 3) : r.axisPoint l p i = _ := hend.axisPoint p hi
  simp only [State.rdS, hrd] at hset
  refine ⟨r, hexec, hformed.now, hformed.point, fun hle => if_pos (Or.inl hle), fun hlt hgt => ?_, fun i hi => ⟨?_, fun hlater => ?_⟩⟩
  · unfold Seg.at
    rw [if_neg (not_or.2 ⟨Nat.not_le.2 hgt, Nat.not_le.2 (hlt.trans hgt)⟩), if_neg (Nat.not_le.2 hlt)]
  · rw [hformed.place i hi, hset _ i hi]
    rfl
  · rw [hformed.speed i hi (by rw [hperiod]; exact hlater), hset _ i hi, hset _ i hi, hperiod]
    rfl

end Sys2Proof.Machine
end
